-- ==== Sys2Proof/Word.lean ====
section
/-! DEFINITION. The word types of the model: a byte, the 64-bit word of a Pod's g register, and the
numbers that name one of a fixed set of units (R14). -/

namespace Sys2Proof

/-- A byte. -/
abbrev Byte := BitVec 8

/-- The 64-bit word of a Pod's general registers (R32). -/
abbrev Word := BitVec 64

/-- Pod 0 to Pod 7 (R32). -/
abbrev PodId := Fin 8
/-- VC0 to VC7 (R61). -/
abbrev VcId := Fin 8
/-- TC0 to TC31 (R81). -/
abbrev ChanId := Fin 32
/-- The references by their numbers (R104). -/
abbrev RefId := Fin 18
/-- M0 to M7 (R128). -/
abbrev MemberId := Fin 8
/-- SYN0 to SYN3 (R14). -/
abbrev SynId := Fin 4
/-- P0 to P7, and MGMT as 8. -/
abbrev PortId := Fin 9
/-- PI0 to PI7 (R14). -/
abbrev InstId := Fin 8
/-- A general register g0 to g31 (R32). -/
abbrev GReg := Fin 32
/-- A time register t0 to t7 (R32). -/
abbrev TReg := Fin 8
/-- The emission points of R180. -/
abbrev PointId := Fin 19

end Sys2Proof
end

