-- ==== Sys2Proof/Syntax.lean ====
section
/-! DEFINITION. The commands that the engine takes from outside and the events it meets, with their
operands: Sys2Proof.Instr has one constructor for each row of spec/opcode_table.json. -/

namespace Sys2Proof

/-- The bus masters of R404, by number: 0 HOST, 1 SPIM, 2–9 POD0–POD7, 10 DMA0, 11 DMA1, 12 GNS, 13 PLC,
14 JRN, 15 NSE. -/
abbrev Master := Fin 16

/-- Where a POD_LOAD takes its image from (R47). -/
inductive LoadSource where
  /-- Boot ROM: the Pod's resident program. -/
  | rom
  /-- Host memory, with address and length. -/
  | host (addr len : Nat)
  /-- xSPI flash, from an offset. -/
  | flash (off : Nat)
deriving DecidableEq, Repr

/-- The skew calibration of one channel: its 256 measurements, each in 0.01 ps (R100). -/
structure SkewResult where
  chan : Nat
  meas : List Int
deriving DecidableEq, Repr

/-- The signature that a command of signed administration carries: the number of an IMAGE_VERIFY slot, the
command's arguments as sent, and the signature (R335). -/
structure KeyAuth where
  slot : Nat
  args : List Byte
  sig  : List Byte
deriving DecidableEq, Repr

/-- What a heartbeat of a twin says (R344, R345): SIDE, the authority state, the health report, ENS_TS, and whether the
VC0 bound is at or below BOUND_LIMIT. -/
structure PeerSays where
  side    : Nat
  auth    : Nat
  failing : Bool
  ts      : Nat
  bound   : Bool
deriving DecidableEq, Repr

/-- The content of a frame on the twin link (R344, R350, R354). -/
inductive TwinMsg where
  /-- HEARTBEAT, with SECOND and FIRST_DONE of the sender's VC0. -/
  | heartbeat (report : PeerSays) (second : Int) (firstDone : Bool)
  /-- BOUND: the Onion record of VC0 without L4. -/
  | bound (onion : List Byte)
  /-- CHECK: CLOCK_ID, the slot and KCV of each entry of NSE_CKEY, and the KCV of AUTH_SLOT of each running PTP instance. -/
  | check (clockId : Nat) (ckey : List (Option (Nat × Nat))) (auth : List (Option Nat))
  /-- HANDOVER. -/
  | handover
deriving DecidableEq, Repr

/-- A frame on the twin link: the parts of its nonce and its content (R344). -/
structure TwinFrame where
  side  : Nat
  start : Nat
  count : Nat
  msg   : TwinMsg
deriving DecidableEq, Repr

/-- A TLV of a PTP message (R277, R286, R288). -/
inductive PtpTlv where
  /-- REQUEST_UNICAST_TRANSMISSION: message type, logInterMessagePeriod, durationField. -/
  | request (type : Nat) (log : Int) (dur : Nat)
  /-- GRANT_UNICAST_TRANSMISSION. -/
  | grant (type : Nat) (log : Int) (dur : Nat)
  /-- CANCEL_UNICAST_TRANSMISSION. -/
  | cancel (type : Nat)
  /-- ACKNOWLEDGE_CANCEL_UNICAST_TRANSMISSION. -/
  | ack (type : Nat)
  /-- ORGANIZATION_EXTENSION: organizationId, organizationSubType, dataField. -/
  | org (oui sub : Nat) (data : List Byte)
  /-- L1_SYNC, basic format: the required flags and the reported flags. -/
  | l1Sync (required reported : Nat)
  /-- Any other: tlvType and valueField. -/
  | other (type : Nat) (data : List Byte)
deriving DecidableEq, Repr

/-- What an Announce carries beside the header (R286). -/
structure PtpAnnounce where
  utcOffset : Int
  priority1 : Nat
  priority2 : Nat
  cls       : Nat
  accuracy  : Nat
  variance  : Nat
  gm        : Nat
  steps     : Nat
  timeSource : Nat
deriving DecidableEq, Repr

/-- The AUTHENTICATION TLV of immediate security processing (R291). -/
structure PtpAuthTlv where
  spp   : Nat
  ind   : Nat
  keyId : Nat
  icv   : List Byte
deriving DecidableEq, Repr

/-- A PTP message. `flags` holds leap61 at bit 0, leap59 1, currentUtcOffsetValid 2, ptpTimescale 3, timeTraceable 4,
frequencyTraceable 5; `corr` is the correctionField in 2^-16 ns; `time` is the message's timestamp in 2^-32 ns. -/
structure PtpMsg where
  type    : Nat
  major   : Nat
  minor   : Nat
  domain  : Nat
  twoStep : Bool
  unicast : Bool
  flags   : Nat
  corr    : Int
  clock   : Nat
  port    : Nat
  seq     : Nat
  log     : Int
  time    : Int
  reqClock : Nat
  reqPort  : Nat
  ann     : Option PtpAnnounce
  tlvs    : List PtpTlv
  auth    : Option PtpAuthTlv
deriving DecidableEq, Repr

/-- The key of a unicast grant beside its instance: message type, the client's protocol address and its portIdentity (R288). -/
structure GrantKey where
  type  : Nat
  addr  : List Byte
  clock : Nat
  port  : Nat
deriving DecidableEq, Repr

/-- The fields of PTP_CONFIG as sent; none: the field is unset and takes its default (R275, R278). -/
structure PtpArgs where
  role : Option Nat := none
  profile : Option Nat := none
  version : Option Nat := none
  domain : Option Nat := none
  port : Option Nat := none
  transport : Option Nat := none
  ipaddr : Option (List Byte) := none
  vc : Option Nat := none
  ps : Option Nat := none
  mode : Option Nat := none
  twoStep : Option Nat := none
  logAnnounce : Option Int := none
  logSync : Option Int := none
  logDelay : Option Int := none
  annTimeout : Option Nat := none
  priority1 : Option Nat := none
  priority2 : Option Nat := none
  localPriority : Option Nat := none
  masterOnly : Option Nat := none
  macDest : Option Nat := none
  grantMaxDur : Option Nat := none
  grantReqDur : Option Nat := none
  auth : Option Nat := none
  authSlot : Option Nat := none
  spp : Option Nat := none
  boundTlv : Option Nat := none
  classOverride : Option Nat := none
deriving DecidableEq, Repr


/-- The observables of a tracking channel at a whole second (R230, R380): code phase in 2^-32 chip, carrier phase in 2^-32
cycle, Doppler in mHz, C/N0 in 0.01 dB-Hz. -/
structure GnObs where
  chan    : Nat
  code    : Int
  carrier : Int
  doppler : Int
  cn0     : Nat
deriving DecidableEq, Repr

/-- What a sample port has taken since the latch before, up to a latch (R222, R223): the rising edges of GNSS_CLK; the kept samples by their
code, I + 16 × Q as the balls show them, each with its count; and the two stamps about the latch, each with its capture tick and its
vernier count. -/
structure GnCapture where
  edges  : Nat
  raw    : List (Nat × Nat)
  tick   : Nat
  count  : Nat
  tick'  : Nat
  count' : Nat
deriving DecidableEq, Repr

/-- A satellite in view at a VC0 second (R230, R237): constellation as R226 groups the signals and number, elevation in 0.01°, whether a
check has excluded it, and for GLONASS its frequency channel. -/
structure GnSat where
  const : Nat
  sv    : Nat
  elev  : Int
  out   : Bool
  freq  : Int
deriving DecidableEq, Repr

/-- A new ephemeris that Pod 2 has decoded (R237): signal code, satellite, reference time as a TAI second, whether it replaces
one, and its difference from the one it replaces or from the almanac, in mm and in ps. -/
structure GnEph where
  sig  : Nat
  sv   : Nat
  toe  : Int
  prev : Bool
  pos  : Nat
  clk  : Nat
deriving DecidableEq, Repr

/-- What the signals yield at a VC0 second by the navigation equations (R230 to R238), before the checks: whether the equations have a
solution; the satellites in view; the solution's own standard deviation in ps; `x`, VC0 minus
the master's system time in ps, from ranges corrected by PORT_DELAY but not by ANT_DELAY; `utc`, the master's broadcast UTC
minus its system time in ps; `portShift`, the change of `x` by a change of PORT_DELAY in this second, in ps; the residual rms
in ps; the solutions of the constellations solved separately, in ps; for each satellite the second peak beyond 1 chip against prompt, in
1/65,536; the solved position in mm; new ephemerides, almanacs by constellation, ionosphere and UTC parameters; an announced leap, with
EFFECTIVE and the announced offset in s. -/
structure GnSol where
  solved : Bool
  sats   : List GnSat
  sd     : Nat
  x      : Int
  utc    : Int
  portShift : Int
  resid  : Nat
  cons   : List Int
  peaks  : List Nat
  pos    : Option (Int × Int × Int)
  ephs   : List GnEph
  alms   : List Nat
  iono   : Bool
  leap   : Option (Int × Int)
deriving DecidableEq, Repr

/-- A CGGTTS line that a track has yielded for a satellite (R244): its constellation, the seconds observed, and the line. -/
structure CggLine where
  const : Nat
  secs  : Nat
  line  : List Byte
deriving DecidableEq, Repr

/-- The end of a CGGTTS track: the VC0 second at which the track began, its lines, and the tick (R244). -/
structure CggTrack where
  start : Int
  lines : List CggLine
  t     : Nat
deriving DecidableEq, Repr

/-- What a calibration of a CAL_PERIODS channel counts: its tick, N1 over one tick and N2 over two (R84, R88). -/
structure PreArmCal where
  t  : Nat
  n1 : Nat
  n2 : Nat
deriving DecidableEq, Repr

/-- What a lock finds (R201): the band of the search, and the greatest phase error in ps over the last 5 µs. -/
structure LockFound where
  band : Byte
  err  : Nat
deriving DecidableEq, Repr

/-- The loss of a lock (R201, R202): the least size of the phase error in ps over the last µs, and the tick. -/
structure LockLoss where
  err : Nat
  t   : Nat
deriving DecidableEq, Repr

/-- A write of the CMD producer index, and how the host's memory stands: by HSEQ, the entries whose arguments and those whose
results meet no answer (R389, R394). -/
structure CmdPi where
  data   : Nat
  argErr : List Nat
  resErr : List Nat
deriving DecidableEq, Repr

/-- For how many ticks TWIN_LOCK has been high without a break, and the tick (R347). -/
structure LineHigh where
  high : Nat
  t    : Nat
deriving DecidableEq, Repr

/-- What a search finds (R227): its place in the queue, and the best cell, as Doppler in Hz, code phase in 1/64 chip and C/N0 in
0.01 dB-Hz. -/
structure AcqFound where
  place : Fin 8
  cell  : Option (Int × Nat × Nat)
deriving DecidableEq, Repr

/-- A tracking channel, and the tick of its change of state (R229). -/
structure GnChanAt where
  chan : Fin 256
  t    : Nat
deriving DecidableEq, Repr

/-- A failure of LO_IN (R439, R440): it shows no edge in one period of the slow oscillator, which is more than a failure of the
source; and the tick. -/
structure LoStop where
  stopped : Bool
  t       : Nat
deriving DecidableEq, Repr

/-- The load that the Placer's prediction meets (R315): the blocks of admitted requests not yet through the lanes, the lane block time
measured over the last 10 µs in fs, and the admitted requests not yet composed. -/
structure NseLoad where
  blocks  : Nat
  blockFs : Nat
  waiting : Nat
deriving DecidableEq, Repr

/-- What a start finds (R444, R474, R477): the ROM self-check, the LO start-up count, the TBP lock, the MRAM scan, the random
bit generator, the training of the DRAM, the GiB found on each channel, the GPIO levels and the level of TEST_MODE at reset release
(R478), the slots of MRAM, A or B of a record, whose CRC fails (R435), and the satellites above ELEV_MASK. -/
structure BootEnv where
  rom   : Bool
  lo    : Bool
  tbp   : Bool
  mram  : Bool
  rbg   : Bool
  train : Bool
  /-- The stored training passes its verification (R444). -/
  verified : Bool
  dram0 : Nat
  dram1 : Nat
  gpio  : Nat
  test  : Bool
  bad   : List (Nat × Bool)
  vis   : List Nat
deriving DecidableEq, Repr

/-- The commands and events of the engine, one constructor per row of spec/opcode_table.json. An operand `q` is
the HSEQ of the host command (R393), `m` the bus master of a register access, `t` the timebase tick at which an
event takes place. The FIN instructions, which Decode builds from words, stand first: the compiler of Lean cannot build a constructor
numbered above 243. -/
inductive Instr where
  /-- ADD (R363): Adds two g registers and sets ZNCV. -/
  | add (p : PodId) (rd ra rb : GReg)
  /-- SUB (R363): Subtracts two g registers and sets ZNCV. -/
  | sub (p : PodId) (rd ra rb : GReg)
  /-- ADC (R363): Adds with carry. -/
  | adc (p : PodId) (rd ra rb : GReg)
  /-- SBC (R363): Subtracts with borrow. -/
  | sbc (p : PodId) (rd ra rb : GReg)
  /-- ADDI (R363): Adds a signed 14-bit immediate. -/
  | addi (p : PodId) (rd ra : GReg) (imm : BitVec 14)
  /-- MUL (R363): Writes the low 64 bits of a product. -/
  | mul (p : PodId) (rd ra rb : GReg)
  /-- MULH (R363): Writes the high 64 bits of a signed product. -/
  | mulh (p : PodId) (rd ra rb : GReg)
  /-- MULHU (R363): Writes the high 64 bits of an unsigned product. -/
  | mulhu (p : PodId) (rd ra rb : GReg)
  /-- DIV (R363): Signed division truncated toward zero, with V set for division by zero or overflow. -/
  | div (p : PodId) (rd ra rb : GReg)
  /-- DIVU (R363): Unsigned division. -/
  | divu (p : PodId) (rd ra rb : GReg)
  /-- REM (R363): Signed remainder. -/
  | rem (p : PodId) (rd ra rb : GReg)
  /-- REMU (R363): Unsigned remainder. -/
  | remu (p : PodId) (rd ra rb : GReg)
  /-- MULQ (R363): Fixed-point multiply, scaled by 2^-FN, rounded and saturating. -/
  | mulq (p : PodId) (rd ra rb : GReg) (fn : Fin 64)
  /-- ADDS (R363): Saturating signed add. -/
  | adds (p : PodId) (rd ra rb : GReg)
  /-- SUBS (R363): Saturating signed subtract. -/
  | subs (p : PodId) (rd ra rb : GReg)
  /-- SHL (R363): Shifts left by a register amount. -/
  | shl (p : PodId) (rd ra rb : GReg)
  /-- SHR (R363): Shifts right logically by a register amount. -/
  | shr (p : PodId) (rd ra rb : GReg)
  /-- SAR (R363): Shifts right arithmetically by a register amount. -/
  | sar (p : PodId) (rd ra rb : GReg)
  /-- SHLI (R363): Shifts left by an immediate. -/
  | shli (p : PodId) (rd ra : GReg) (sh : Fin 64)
  /-- SHRI (R363): Shifts right logically by an immediate. -/
  | shri (p : PodId) (rd ra : GReg) (sh : Fin 64)
  /-- SARI (R363): Shifts right arithmetically by an immediate. -/
  | sari (p : PodId) (rd ra : GReg) (sh : Fin 64)
  /-- CLZ (R363): Counts leading zero bits. -/
  | clz (p : PodId) (rd ra : GReg)
  /-- AND (R363): Bitwise AND. -/
  | and (p : PodId) (rd ra rb : GReg)
  /-- OR (R363): Bitwise OR. -/
  | or (p : PodId) (rd ra rb : GReg)
  /-- XOR (R363): Bitwise XOR. -/
  | xor (p : PodId) (rd ra rb : GReg)
  /-- ANDI (R363): Bitwise AND with a zero-extended immediate. -/
  | andi (p : PodId) (rd ra : GReg) (imm : BitVec 14)
  /-- ORI (R363): Bitwise OR with a zero-extended immediate. -/
  | ori (p : PodId) (rd ra : GReg) (imm : BitVec 14)
  /-- XORI (R363): Bitwise XOR with a zero-extended immediate. -/
  | xori (p : PodId) (rd ra : GReg) (imm : BitVec 14)
  /-- MOVI (R363): Loads a sign-extended 19-bit immediate. -/
  | movi (p : PodId) (rd : GReg) (imm : BitVec 19)
  /-- CATI (R363): Shifts a register left 16 bits and ORs in an immediate. -/
  | cati (p : PodId) (rd : GReg) (imm : BitVec 16)
  /-- FADD (R364): Binary64 addition. -/
  | fadd (p : PodId) (rd ra rb : GReg)
  /-- FSUB (R364): Binary64 subtraction. -/
  | fsub (p : PodId) (rd ra rb : GReg)
  /-- FMUL (R364): Binary64 multiplication. -/
  | fmul (p : PodId) (rd ra rb : GReg)
  /-- FDIV (R364): Binary64 division. -/
  | fdiv (p : PodId) (rd ra rb : GReg)
  /-- FSQRT (R364): Binary64 square root. -/
  | fsqrt (p : PodId) (rd ra : GReg)
  /-- FMA (R364): Fused multiply-add with one rounding. -/
  | fma (p : PodId) (rd ra rb : GReg)
  /-- FCVTIF (R364): Converts a signed integer to binary64. -/
  | fcvtif (p : PodId) (rd ra : GReg)
  /-- FCVTFI (R364): Converts binary64 to a saturated signed integer. -/
  | fcvtfi (p : PodId) (rd ra : GReg)
  /-- FCMP (R364): Compares two binary64 values into the flags. -/
  | fcmp (p : PodId) (ra rb : GReg)
  /-- FABS (R364): Clears the sign bit. -/
  | fabs (p : PodId) (rd ra : GReg)
  /-- FNEG (R364): Inverts the sign bit. -/
  | fneg (p : PodId) (rd ra : GReg)
  /-- CMP (R365): Sets the flags from a register subtraction. -/
  | cmp (p : PodId) (ra rb : GReg)
  /-- CMPI (R365): Sets the flags from an immediate subtraction. -/
  | cmpi (p : PodId) (ra : GReg) (imm : BitVec 14)
  /-- TEST (R365): Sets the flags from a bitwise AND. -/
  | test (p : PodId) (ra rb : GReg)
  /-- B (R365): Branches relative when COND holds, faulting with BOUNDS on a target beyond the image. -/
  | b (p : PodId) (cond : Fin 15) (off : BitVec 20)
  /-- BL (R365): Branches relative with link when COND holds. -/
  | bl (p : PodId) (cond : Fin 15) (off : BitVec 20)
  /-- BR (R365): Branches to a register address, optionally with link. -/
  | br (p : PodId) (ra : GReg) (link : Bool)
  /-- LDB (R366): Loads a zero-extended DMEM byte. -/
  | ldb (p : PodId) (rd ra : GReg) (imm : BitVec 14)
  /-- LDBS (R366): Loads a sign-extended DMEM byte. -/
  | ldbs (p : PodId) (rd ra : GReg) (imm : BitVec 14)
  /-- LDH (R366): Loads a zero-extended DMEM halfword. -/
  | ldh (p : PodId) (rd ra : GReg) (imm : BitVec 14)
  /-- LDHS (R366): Loads a sign-extended DMEM halfword. -/
  | ldhs (p : PodId) (rd ra : GReg) (imm : BitVec 14)
  /-- LDW (R366): Loads a zero-extended DMEM word. -/
  | ldw (p : PodId) (rd ra : GReg) (imm : BitVec 14)
  /-- LDWS (R366): Loads a sign-extended DMEM word. -/
  | ldws (p : PodId) (rd ra : GReg) (imm : BitVec 14)
  /-- LDD (R366): Loads 64 bits from DMEM. -/
  | ldd (p : PodId) (rd ra : GReg) (imm : BitVec 14)
  /-- STB (R366): Stores a byte to DMEM. -/
  | stb (p : PodId) (rd ra : GReg) (imm : BitVec 14)
  /-- STH (R366): Stores a halfword to DMEM. -/
  | sth (p : PodId) (rd ra : GReg) (imm : BitVec 14)
  /-- STW (R366): Stores a word to DMEM. -/
  | stw (p : PodId) (rd ra : GReg) (imm : BitVec 14)
  /-- STD (R366): Stores 64 bits to DMEM. -/
  | std (p : PodId) (rd ra : GReg) (imm : BitVec 14)
  /-- LDC (R366): Loads a commons word. -/
  | ldc (p : PodId) (rd ra : GReg) (imm : BitVec 14)
  /-- STC (R366): Stores a commons word, faulting in protected regions. -/
  | stc (p : PodId) (rd ra : GReg) (imm : BitVec 14)
  /-- CAS (R366): Atomic compare-and-swap on a commons word. -/
  | cas (p : PodId) (rd ra rb : GReg)
  /-- FAA (R366): Atomic fetch-and-add on a commons word. -/
  | faa (p : PodId) (rd ra rb : GReg)
  /-- BUS_READ (R367): A BUS instruction with FN[0] = 0 reads 32 or 64 bits as a bus master, faulting with BUS on an error or timeout. -/
  | busRead (p : PodId) (rd ra : GReg) (wide : Bool)
  /-- BUS_WRITE (R367): A BUS instruction with FN[0] = 1 writes as a bus master, faulting with BUS in the register region or on an error. -/
  | busWrite (p : PodId) (ra rb : GReg) (wide : Bool)
  /-- TADD (R368): Adds two GTIME values. -/
  | tadd (p : PodId) (tD tA tB : TReg)
  /-- TSUB (R368): Subtracts two GTIME values. -/
  | tsub (p : PodId) (tD tA tB : TReg)
  /-- TADDQ (R368): Adds a Q32.32 ns offset to a GTIME. -/
  | taddq (p : PodId) (tD tA : TReg) (gX : GReg)
  /-- TDIFF (R368): Writes the difference of two GTIMEs as Q32.32 ns, saturating. -/
  | tdiff (p : PodId) (gX : GReg) (tA tB : TReg)
  /-- TCMP (R368): Compares two GTIMEs into the flags. -/
  | tcmp (p : PodId) (tA tB : TReg)
  /-- TSET (R368): Builds a GTIME from g registers, refusing NS above 999,999,999. -/
  | tset (p : PodId) (tD : TReg) (gX gY : GReg)
  /-- TSEC (R368): Extracts SECONDS of a GTIME. -/
  | tsec (p : PodId) (gX : GReg) (tA : TReg)
  /-- TFRC (R368): Extracts NS and FRAC of a GTIME. -/
  | tfrc (p : PodId) (gX : GReg) (tA : TReg)
  /-- TLD (R368): Loads a GTIME from DMEM or the commons. -/
  | tld (p : PodId) (tD : TReg) (gX : GReg) (commons : Bool)
  /-- TSTR (R368): Stores a GTIME to DMEM or the commons. -/
  | tstr (p : PodId) (tA : TReg) (gX : GReg) (commons : Bool)
  /-- RDVC (R368): Reads a VC at the tick at which the read reaches the TKP. -/
  | rdvc (p : PodId) (tD : TReg) (vc : VcId)
  /-- RDRAW (R368): Reads RAWCNT at one tick. -/
  | rdraw (p : PodId) (gX gY : GReg)
  /-- WAITT (R370): Waits until a VC reaches a target time, or completes at once with C set when the target has passed. -/
  | waitt (p : PodId) (tA : TReg) (gT : GReg) (vc : VcId)
  /-- WAITE (R371): Waits until any masked event is pending. -/
  | waite (p : PodId) (gD gM gT : GReg)
  /-- STEERAT (R374): Issues a timed rate or increment change on an owned VC. -/
  | steerat (p : PodId) (tA : TReg) (gD ga gb : GReg) (vc : VcId)
  /-- STEPAT_ABS (R374): Issues a timed absolute step of an owned VC, taking a free step or permit. -/
  | stepatAbs (p : PodId) (tA : TReg) (gD ga gb : GReg) (vc : VcId)
  /-- STEPAT_REL (R374): Issues a timed relative step of an owned VC. -/
  | stepatRel (p : PodId) (tA : TReg) (gD ga gb : GReg) (vc : VcId)
  /-- STEPAT_ABS_RATE (R374): Issues a timed absolute step with a new rate as one change. -/
  | stepatAbsRate (p : PodId) (tA : TReg) (gD ga gb : GReg) (vc : VcId)
  /-- PULSEAT (R374): Issues a timed pulse on a PPSOUT. -/
  | pulseat (p : PodId) (tA : TReg) (gD ga gb : GReg) (vc : VcId)
  /-- ARMAT (R374): Issues a timed arm of a claimed TDC channel. -/
  | armat (p : PodId) (tA : TReg) (gD ga : GReg) (vc : VcId)
  /-- SYNAT_SEARCH (R374): Issues a timed full band search toward a given ratio. -/
  | synatSearch (p : PodId) (tA : TReg) (gD ga gb : GReg) (vc : VcId)
  /-- SYNAT_HOP (R374): Issues a timed band-memory hop. -/
  | synatHop (p : PodId) (tA : TReg) (gD ga gb : GReg) (vc : VcId)
  /-- SYNAT_RELOCK (R374): Issues a timed relock. -/
  | synatRelock (p : PodId) (tA : TReg) (gD ga : GReg) (vc : VcId)
  /-- SYNAT_STORE (R374): Issues a timed store into band memory. -/
  | synatStore (p : PodId) (tA : TReg) (gD ga gb : GReg) (vc : VcId)
  /-- SYNAT_SAFE (R374): Issues a timed force of an output to its safe state. -/
  | synatSafe (p : PodId) (tA : TReg) (gD ga : GReg) (vc : VcId)
  /-- SYNAT_RELEASE (R374): Issues a timed release of a forced safe state. -/
  | synatRelease (p : PodId) (tA : TReg) (gD ga : GReg) (vc : VcId)
  /-- POPC (R373): Removes the oldest completion entry into a register. -/
  | popc (p : PodId) (rd : GReg)
  /-- VCRD (R374): Reads the in-force offset and rate or increment of a VC. -/
  | vcrd (p : PodId) (tD : TReg) (gX : GReg) (vc : VcId)
  /-- RATECV (R374): Converts a binary64 fractional frequency to units of 2^-64. -/
  | ratecv (p : PodId) (rd ra : GReg)
  /-- MCFG (R375): Claims a TDC channel and writes one of its registers. -/
  | mcfg (p : PodId) (ra rb : GReg) (fn : Fin 8)
  /-- MCFGT (R375): Claims a TDC channel and writes TDC_CH_WSTART. -/
  | mcfgt (p : PodId) (gX : GReg) (tA : TReg)
  /-- MREL (R375): Disables a claimed channel and releases the claim. -/
  | mrel (p : PodId) (ra : GReg)
  /-- MPOP (R375): Pops a measurement record from the own or qualification queue into DMEM. -/
  | mpop (p : PodId) (rd ra : GReg) (qual : Bool)
  /-- EAUW (R376): Writes one member configuration value of the EAU. -/
  | eauw (p : PodId) (ra rb : GReg) (fn : Fin 7)
  /-- EAUU0 (R376): Sets the known input u0 for the next EAU update. -/
  | eauu0 (p : PodId) (ra : GReg)
  /-- EAURST (R376): Requests re-initialization of a member's filter at the next update. -/
  | eaurst (p : PodId) (ra : GReg)
  /-- EAUSTAT (R376): Reads the EAU update count and consumes the EAU event. -/
  | eaustat (p : PodId) (rd : GReg)
  /-- XRD (R377): Reads a register through the Pod's block port. -/
  | xrd (p : PodId) (rd ra : GReg) (wide : Bool)
  /-- XWR (R377): Writes a Pod-writable register through the block port, checking capability. -/
  | xwr (p : PodId) (ra rb : GReg) (wide : Bool)
  /-- SEND (R378): Writes an entry to another Pod's mailbox, or sets C when it is full. -/
  | send (p : PodId) (ra rb : GReg) (type : Byte)
  /-- RECV (R378): Copies the oldest own mailbox entry into DMEM, checking its CRC. -/
  | recv (p : PodId) (ra : GReg)
  /-- PANS (R378): Answers a pending POD_PARAM. -/
  | pans (p : PodId) (ra rb : GReg)
  /-- EVPOST (R378): Posts an event record onto the event ring, or sets C when the ring is disabled or full. -/
  | evpost (p : PodId) (ra rb : GReg)
  /-- JAPP (R378): Appends a journal record into staging. -/
  | japp (p : PodId) (ra rb : GReg)
  /-- NETTX (R378): Sends a frame from the commons through the host path of a MAC. -/
  | nettx (p : PodId) (rd ra rb : GReg)
  /-- KCMAC (R379): Computes AES-CMAC over DMEM data under a JOURNAL_MAC or PTP_AUTH slot. -/
  | kcmac (p : PodId) (rd ra rb : GReg)
  /-- GCMD_ACQ (R380): Queues an FFT acquisition search. -/
  | gcmdAcq (p : PodId) (rd ra : GReg)
  /-- GCMD_CHAN (R380): Sets a tracking channel to IDLE or PULL_IN with its configuration. -/
  | gcmdChan (p : PodId) (rd ra : GReg)
  /-- GCMD_PPSF (R380): Writes F for the next GN_PPS. -/
  | gcmdPpsf (p : PodId) (rd ra : GReg)
  /-- GCMD_SLEEP (R380): Puts the GNS to sleep or wakes it. -/
  | gcmdSleep (p : PodId) (rd ra : GReg)
  /-- GCMD_OBS (R380): Reads a channel's latched observables and consumes GNSS_LATCH. -/
  | gcmdObs (p : PodId) (rd ra : GReg)
  /-- TWCLM (R380): Requests a claim on TWIN_LOCK. -/
  | twclm (p : PodId)
  /-- TWREL (R380): Releases TWIN_LOCK and withdraws the claim. -/
  | twrel (p : PodId)
  /-- FACK (R380): Acknowledges the latched fault record from a Pod. -/
  | fack (p : PodId)
  /-- FCLR (R380): Clears a pending fault source from a Pod when its cause is gone and its class is below C3. -/
  | fclr (p : PodId) (ra : GReg)
  /-- NOP (R358): Does nothing. -/
  | nop (p : PodId)
  /-- HALT (R46): Stops the Pod and posts a POD_STATE event with cause HALT. -/
  | halt (p : PodId)
  /-- KICK (R36): Restarts the Pod watchdog period with the current TIMEOUT. -/
  | kick (p : PodId)
  /-- FENCE (R381): Waits until earlier commons, messaging and block-port writes are visible to all observers. -/
  | fence (p : PodId)
  /-- PODID (R358): Reads the Pod number. -/
  | podid (p : PodId) (rd : GReg)
  /-- CAPRD (R358): Reads the Pod's capability and VC ownership masks. -/
  | caprd (p : PodId) (rd : GReg)
  /-- REGISTER_WRITE (R10): A write to a register field that has no row of its own is stored, acted on or ignored according to its access type, reserved encodings and enable rules. -/
  | registerWrite (m : Master) (addr size data : Nat)
  /-- HOLDING_COPY_READ (R79): A read of the lowest word of a multi-word register copies the whole register into its holding copy, from which reads of the upper words are served. -/
  | holdingCopyRead (m : Master) (addr : Nat)
  /-- POD_MEM_WRITE (R35): A host write to a Pod's IMEM or DMEM patches the memory while the Pod is STOPPED, and otherwise ends in a bus error with cause POD_RUN. -/
  | podMemWrite (m : Master) (p : PodId) (dmem : Bool) (off size data : Nat)
  /-- POD_WDOG_WRITE (R36): A write of POD_WDOG.TIMEOUT takes effect at the next KICK, and a write of 0 to a Pod running its resident program is ignored. -/
  | podWdogWrite (m : Master) (p : PodId) (data : Nat)
  /-- POD_LOAD (R49): The command accepts a load into a STOPPED Pod and enters LOADING, or refuses it at acceptance with NOT_RESIDENT or VC_OWNED. -/
  | podLoad (q : Nat) (p : PodId) (src : LoadSource) (cap vc slot : Nat)
  /-- POD_LOAD_COMPLETE (R49): The load checks end: on success the image and both masks are set and journaled and the response is OK; on a failed check the Pod's memories and masks are cleared. -/
  | podLoadComplete (p : PodId)
  /-- LOAD_TIMEOUT (R46): A load that has not completed 50 ms after acceptance clears the Pod and completes with LOAD_TIMEOUT. -/
  | loadTimeout (p : PodId)
  /-- POD_START (R46): The command starts a STOPPED Pod that holds an image at its ENTRY with cleared registers, or completes with NO_IMAGE, POD_BUSY or POD_FAULTED. -/
  | podStart (q : Nat) (p : PodId)
  /-- POD_STOP (R46): The command stops a RUNNING or FAULTED Pod at an instruction boundary, cancels its queued timed actions and releases its TDC claims. -/
  | podStop (q : Nat) (p : PodId)
  /-- POD_UNLOAD (R46): The command stops the Pod as POD_STOP does, then clears its IMEM, DMEM and masks and ends its VC ownership. -/
  | podUnload (q : Nat) (p : PodId)
  /-- POD_PARAM (R52): The command writes a parameter value into the Pod's table and posts a mailbox entry, or completes at once with MBOX_FULL. -/
  | podParam (q : Nat) (p : PodId) (id val : Nat)
  /-- POD_PARAM_TIMEOUT (R52): A POD_PARAM left unanswered for 100 ms completes with POD_NO_ANSWER, and its table entry is restored. -/
  | podParamTimeout (p : PodId)
  /-- POD_MSG (R39): The command places a host entry in the Pod's mailbox, or completes with MBOX_FULL when the mailbox is full. -/
  | podMsg (q : Nat) (p : PodId) (type : Byte) (payload : List Byte)
  /-- POD_STATUS (R47): The command returns POD_STATUS, POD_CAP, POD_VCOWN, IFACE_ID and IMAGE_VER of a Pod. -/
  | podStatus (q : Nat) (p : PodId)
  /-- POD_WATCHDOG_EXPIRE (R361): The Pod watchdog expires without a KICK, and the Pod faults with WDOG at the next instruction boundary. -/
  | podWatchdogExpire (p : PodId)
  /-- TIMED_ACTION_ARRIVE (R372): An issued timed action reaches the hardware at the end of its issue time and is queued by target tick, or completes LATE when its tick has passed. -/
  | timedActionArrive (p : PodId) (id t : Nat)
  /-- STEERAT_EXECUTE (R65): At its tick a queued STEERAT applies a new rate or increment to its VC with a re-base, passes a VC0 rate to the synthesizers, and completes DONE or TOO_SOON. -/
  | steeratExecute (p : PodId) (id : Nat)
  /-- STEPAT_EXECUTE (R65): At its tick a queued STEPAT steps its VC, with or without a new rate, journals the step and completes DONE or TOO_SOON. -/
  | stepatExecute (p : PodId) (id : Nat)
  /-- PULSEAT_EXECUTE (R213): At its tick a PULSEAT emits a pulse of the given width on a PPSOUT in ACTION mode, or completes TOO_SOON. -/
  | pulseatExecute (p : PodId) (id : Nat)
  /-- ARMAT_EXECUTE (R92): At its tick an ARMAT arms an enabled GATE-mode TDC channel, or completes TOO_SOON and counts ARMIGN. -/
  | armatExecute (p : PodId) (id : Nat)
  /-- SYNAT_EXECUTE (R374): At its tick a SYNAT performs its synthesizer or output operation, or completes TOO_SOON for a target that does not accept it. -/
  | synatExecute (p : PodId) (id : Nat) (temp : Int)
  /-- TKP_LATCH (R64): A write of TKP_LATCH_CTRL with GO = 1 latches RAWCNT and the selected VCs at one tick into the latch registers. -/
  | tkpLatch (m : Master) (data : Nat)
  /-- STEP_ABS (R65): The host operation requests an absolute step of an unowned VC to the GTIME in TKP_VC_SOFF, subject to permits, ownership and spacing. -/
  | stepAbs (m : Master) (vc : VcId)
  /-- STEP_REL (R65): The host operation requests a relative step of an unowned VC by the delta in TKP_VC_SOFF. -/
  | stepRel (m : Master) (vc : VcId)
  /-- RATE (R65): The host operation requests a new rate for an unowned VC in rate mode, applied with a re-base. -/
  | rate (m : Master) (vc : VcId)
  /-- STEP_RATE (R65): The host operation requests an absolute step and a new rate as one change. -/
  | stepRate (m : Master) (vc : VcId)
  /-- INC (R73): The host operation requests a new increment for a VC in increment mode. -/
  | inc (m : Master) (vc : VcId)
  /-- MODE_INC (R74): The host operation switches a VC among VC2 to VC7 from rate mode to increment mode, setting INC from RATE. -/
  | modeInc (m : Master) (vc : VcId)
  /-- MODE_RATE (R74): The host operation switches a VC from increment mode to rate mode, setting RATE from INC and FIRST_DONE to 1. -/
  | modeRate (m : Master) (vc : VcId)
  /-- TKP_INVALID_OP (R78): A reserved TKP_VC_CTRL.OP value completes with RESULT INVALID_OP and changes nothing. -/
  | tkpInvalidOp (m : Master) (vc : VcId) (op : Nat)
  /-- TKP_HOST_OP_APPLY (R67): At the first tick at least 1 µs after acceptance, the TKP applies an accepted host VC operation or refuses it with TOO_SOON or NO_TICK, and sets RESULT. -/
  | tkpHostOpApply
  /-- STEP_PERMIT_WRITE (R69): A write of TKP_STEP_PERMIT from HOST or SPIM latches new permits with a fresh TTL or withdraws them, and each is journaled. -/
  | stepPermitWrite (m : Master) (data : Nat)
  /-- PERMIT_EXPIRE (R69): A latched step permit reaches its TTL, is cleared and journaled as expired. -/
  | permitExpire (vc : VcId)
  /-- LEAP_ADD (R77): The command adds a leap-second entry after its checks, merging the oldest entry into the base when the table is full, and completes after the MRAM commit. -/
  | leapAdd (q : Nat) (eff tai : Int) (src : Nat)
  /-- LEAP_DELETE (R77): The command deletes a leap-second entry unless it is too near or unknown. -/
  | leapDelete (q : Nat) (eff : Int)
  /-- LEAP_BASE (R77): The command sets TAI_UTC of the base entry. -/
  | leapBase (q : Nat) (tai : Int)
  /-- LEAP_READ (R77): The command returns one entry of the leap-second table. -/
  | leapRead (q : Nat) (idx : Nat)
  /-- TDC_STOP_EDGE (R93): A stop edge reaches an armed channel, is accepted or ignored by the arm and window rules, and starts a conversion. -/
  | tdcStopEdge (src : Fin 48) (k : Nat) (falling : Bool)
  /-- TDC_CONVERSION_DONE (R84): A vernier conversion ends, and the channel forms the corrected record with its flags and sequence number and places it in its FIFO, or discards it when the FIFO is full. -/
  | tdcConversionDone (c : ChanId) (n n1 n2 : Nat)
  /-- TDC_RECORD_DISPATCH (R97): The arbiter moves a record from a channel FIFO to the Pod 1, EAU and telemetry queues and to an owning Pod's queue, dropping it for any full queue. -/
  | tdcRecordDispatch (c : ChanId)
  /-- TDC_GATE_EDGE (R92): An active edge of a TDC gate arms channels that select it, or counts toward a return from fall-back. -/
  | tdcGateEdge (g : Fin 4) (t : Nat)
  /-- PERIODIC_ARM (R92): At each VC time that is a multiple of APER.PERIOD, a channel with the PERIODIC arm source is armed. -/
  | periodicArm (c : ChanId) (t : Nat)
  /-- PRE_ARM_CALIBRATION (R88): 2 µs before an arm at a known tick, a CAL_PERIODS channel measures N1 and N2 so that the arm takes effect at its tick. -/
  | preArmCalibration (c : ChanId) (cal : PreArmCal)
  /-- STOP_TIMEOUT (R94): An arm with no stop for STO.TIMEOUT closes and emits a NO_STOP record. -/
  | stopTimeout (c : ChanId)
  /-- WINDOW_OPEN (R95): At W_k + C a WINDOW-mode channel starts watching for stops of window k. -/
  | windowOpen (c : ChanId)
  /-- WINDOW_CLOSE (R95): At W_k + WLEN + C the window closes and its record, with WINDOWED and possibly DOUBLE, or a NO_STOP record is issued. -/
  | windowClose (c : ChanId)
  /-- GATE_TIMEOUT (R96): No gate edge for GTO.TIMEOUT puts the channel into fall-back or emits a NO_STOP record, and raises TDC_GATE_LOST. -/
  | gateTimeout (c : ChanId)
  /-- BACKGROUND_CALIBRATION (R87): At each CALINT a CAL_LOCKED channel measures N1 over one tick and increments its calibration epoch, or flags CAL_FAULT on an invalid result. -/
  | backgroundCalibration (c : ChanId) (n1 : Nat)
  /-- CAL_AGED (R87): A channel that has no new N1 within 2 × CALINT starts flagging its records CAL_AGED. -/
  | calAged (c : ChanId)
  /-- DLL_UNLOCK (R90): The vernier DLL loses lock, DLL_LOCK falls, TDC_DLL_UNLOCK is raised and CAL_LOCKED channels convert as in CAL_PERIODS. -/
  | dllUnlock
  /-- DLL_LOCK (R90): The vernier DLL regains lock, and each channel returns to CAL_LOCKED at its next successful N1. -/
  | dllLock
  /-- SKEWGO (R100): A write of 1 to TDC_GCTRL.SKEWGO starts skew calibration on every channel whose EN is 0. -/
  | skewgo (m : Master) (data : Nat)
  /-- SKEW_CALIBRATION_DONE (R100): Skew calibration ends after 256 measurements, writing TDC_CH_SKEW or keeping the old value with CAL_FAULT when the scatter is too large. -/
  | skewCalibrationDone (res : List SkewResult)
  /-- TDC_CH_CTRL_WRITE (R102): A write of TDC_CH_CTRL enables or configures a channel, is discarded with CFG_REJ while EN is 1 unless it clears EN, and ends an open arm or window on disable. -/
  | tdcChCtrlWrite (m : Master) (c : ChanId) (data : Nat)
  /-- QUAL_RECORD (R106): Pod 1 takes a measurement record from its queue, accepts or rejects the pulse within the PPS window and updates the reference's phase values. -/
  | qualRecord
  /-- REF_EVALUATION (R112): At each VC0 second Pod 1 evaluates the tests of every enabled reference, changes states and selection, and publishes to REF_STATE, the commons and the journal. -/
  | refEvaluation (t : Nat)
  /-- REF_QUAL_STALL (R115): No REF_HB write for 3 s makes the REF hardware set every AVAILABLE and SELECTED reference SUSPECT with cause NO_QUAL, set STALL and raise REF_QUAL_STALL. -/
  | refQualStall (t : Nat)
  /-- TOD_MESSAGE_RX (R108): A complete ToD message arrives on a TODIN, is checked and either passed to Pod 1 as a label or discarded and counted. -/
  | todMessageRx (n : Fin 4) (msg : List Byte) (frameErr : Bool) (t : Nat)
  /-- EAU_UPDATE (R133): At boundary + 10 ms the EAU runs the three-state filter of every member and publishes states, covariances and innovations to the commons. -/
  | eauUpdate (t : Nat)
  /-- ENS_UPDATE (R144): Pod 0 takes the EAU results, applies status changes, weights, ET terms, the CTS loop and the timescale state rules, and issues the interval's STEERAT. -/
  | ensUpdate (t : Nat)
  /-- STEER_WATCHDOG_COUNT (R149): At boundary + 30 ms the ENS hardware increments COUNT when no STEERAT on VC0 completed DONE in the interval. -/
  | steerWatchdogCount (t : Nat)
  /-- STALL_BOUND_CHECK (R149): While STALL is 1 the hardware compares the bound with ENS_BLIMIT at each VC0 second and sets LOST with cause BOUND when it is above. -/
  | stallBoundCheck (t : Nat)
  /-- SET_TIME (R154): Pod 0 receives SET_TIME and steps VC0 to T at the instant A, free or with a permit, and answers with an event record. -/
  | setTime
  /-- MEMBER_RESET (R154): Pod 0 receives MEMBER_RESET and sends the member to LEARNING, or answers EMPTY. -/
  | memberReset
  /-- SPAN_EVALUATION (R174): At each 10 ms span of VC0 the bound engine evaluates the Onion from the layer inputs received and applies the saturation and UNSET rules. -/
  | spanEvaluation (t : Nat)
  /-- ONION_LATCH (R195): A write of ONION_LATCH.GO = 1 copies the Onion of the current span for POINT into ONION_REC. -/
  | onionLatch (m : Master) (data : Nat)
  /-- ONION_L4_WRITE (R181): An accepted write of ONION_L4 changes L4 of its emission point, increments CAL_EPOCH and journals CAL and L4_STATE. -/
  | onionL4Write (m : Master) (j : PointId) (data : Nat)
  /-- JOURNAL_RECORD_WRITE (R188): A record leaves staging, takes its DSEQ and is written to the DRAM ring, overwriting unarchived records when it must and adding CHAIN and LOSS records. -/
  | journalRecordWrite
  /-- JOURNAL_APPEND (R189): A block's journal record enters staging, or a Pod append finds staging full, or a non-Pod record displaces the oldest staged record. -/
  | journalAppend (src type : Nat) (payload : List Byte)
  /-- JRN_ENABLE (R196): A write that sets JRN_CFG.EN starts ring writing and sets JRN_ACK, or is discarded with CFG_REJ when the ring does not lie in installed DRAM. -/
  | jrnEnable (m : Master) (data : Nat)
  /-- ATTESTATION (R191): At each VC0 second that is a multiple of PERIOD the JRN closes a span, hashes it and writes ATT_0 to ATT_2, requesting a signature from SGN. -/
  | attestation (t : Nat)
  /-- ATT_SIG (R191): SGN completes the attestation signature and the JRN writes the ATT_SIG records, or the attestation is marked ABORTED or NO_KEY with ATT_FAIL. -/
  | attSig (t : Nat)
  /-- SYN_ENABLE (R201): A write of SYN_CTRL.EN sends a synthesizer from OFF to SEARCH, or to OFF with its outputs at their safe states. -/
  | synEnable (m : Master) (n : SynId) (data : Nat)
  /-- SEARCH (R203): The host operation requests a full band search toward SYN_FREQ. -/
  | search (m : Master) (n : SynId)
  /-- HOP (R204): The host operation requests an acquire from band-memory entry BMIDX. -/
  | hop (m : Master) (n : SynId) (idx : Fin 16)
  /-- STORE (R204): The host operation requests that the current lock be stored into entry BMIDX. -/
  | store (m : Master) (n : SynId) (idx : Fin 16)
  /-- CLEAR (R204): The host operation clears VALID of band-memory entry BMIDX. -/
  | clear (m : Master) (n : SynId) (idx : Fin 16)
  /-- RELOCK (R203): The host operation requests an acquire of the current target from the current band. -/
  | relock (m : Master) (n : SynId)
  /-- SYN_INVALID_OP (R221): A reserved SYN_CTRL.OP value completes with RESULT INVALID_OP. -/
  | synInvalidOp (m : Master) (n : SynId) (op : Nat)
  /-- SYN_HOST_OP_APPLY (R203): At the first tick at least 1 µs after acceptance the synthesizer applies the host operation or completes it with RANGE, EMPTY, NOT_LOCKED, OFF or TOO_SOON. -/
  | synHostOpApply (n : SynId) (temp : Int)
  /-- SYN_RATE_UPDATE (R22): At its next modulator update after a VC0 rate change, each synthesizer with FOLLOW = 0 applies the new rate. -/
  | synRateUpdate (n : SynId) (t : Nat)
  /-- SYN_LOCK (R201): The lock window is met and the synthesizer enters LOCKED, ending a mute and starting realignment and narrowing of the loop. -/
  | synLock (n : SynId) (found : LockFound) (t : Nat)
  /-- SYN_LOCK_LOST (R202): The phase error exceeds ±1 ns for 1 µs: the synthesizer enters UNLOCKED, sets LOL, raises SYNn_UNLOCK and engages the governor. -/
  | synLockLost (n : SynId) (loss : LockLoss)
  /-- SEARCH_TIMEOUT (R201): SEARCH without lock for 4 ms enters NOLOCK and raises SYNn_NOLOCK. -/
  | searchTimeout (n : SynId)
  /-- NOLOCK_RETRY (R201): After 100 ms in NOLOCK the synthesizer returns to SEARCH. -/
  | nolockRetry (n : SynId)
  /-- ACQUIRE_TIMEOUT (R201): ACQUIRE without lock for 25 µs falls back to SEARCH and sets HOPMISS. -/
  | acquireTimeout (n : SynId)
  /-- LOOP_NARROW (R200): Every 20 µs after LOCKED the loop narrows by one half-octave until it reaches CLEAN_BW and sets SETTLED. -/
  | loopNarrow (n : SynId)
  /-- CLKOUT_REALIGN (R207): At the first alignment instant at least 1 ms after a realign event, the output lengthens one cycle onto the grid and sets ALIGNED. -/
  | clkoutRealign (j : Fin 8) (sec : Int)
  /-- ALIGNGO (R207): A write of 1 to SYN_OUT_CTRL.ALIGNGO requests realignment of the output. -/
  | aligngo (m : Master) (j : Fin 8) (data : Nat)
  /-- OUTPUT_ENABLE (R209): A write of an output's EN starts the output at a cycle start, or completes the current cycle, pulse or character and applies the safe state. -/
  | outputEnable (m : Master) (o : Fin 22) (data : Nat)
  /-- PPS_PULSE (R211): At each whole VC0 second plus OFFSET and x_A, a PPSOUT in PPS mode emits a pulse, or skips it under the 100 ns rule. -/
  | ppsPulse (k : Fin 8) (sec : Int)
  /-- PATTERN_PULSE (R212): A PPSOUT in PATTERN mode emits pulse i at START + OFFSET + x_A + i × PER, as a frame mark when FRAMEN divides i. -/
  | patternPulse (k : Fin 8) (idx : Nat)
  /-- IRIG_FRAME (R216): At each whole VC0 second an enabled IRIGOUT starts a 100-bit IRIG-B frame with its time, control functions and quality. -/
  | irigFrame (n : Fin 2) (sec : Int)
  /-- TOD_MESSAGE_TX (R218): A TODOUT sends one Lethar, ZDA or RMC message that labels a PPSOUT pulse, or counts SKIP when that PPSOUT is not in PPS mode. -/
  | todMessageTx (n : Fin 4) (sec : Int)
  /-- GNSS_CLK_FAIL (R224): GNSS_CLK stops or leaves ±1,000 ppm: capture is quiesced, NOCLK and CLKFAIL are set, GNS_CLK_FAIL is raised and every channel goes LOST. -/
  | gnssClkFail
  /-- GNSS_CLK_RETURN (R224): GNSS_CLK passes its start-up count, capture resumes, NOCLK clears and Pod 2 restarts. -/
  | gnssClkReturn (vis : List Nat)
  /-- SAMPLE_OVERFLOW (R225): A sample FIFO overflows: whole stamp intervals are discarded, OVF is set, GNS_SAMPLE_GAP is raised and the port's channels re-enter PULL_IN. -/
  | sampleOverflow (p : Fin 4) (stamps : Nat)
  /-- ACQ_COMPLETE (R227): An FFT search ends and reports its best cell or NONE as an ACQ completion. -/
  | acqComplete (found : AcqFound)
  /-- CHANNEL_TRACK (R229): A channel whose lock indicator stays above 0.8 for 200 ms moves from PULL_IN to TRACK. -/
  | channelTrack (c : GnChanAt)
  /-- PULL_IN_TIMEOUT (R229): A PULL_IN that has not ended within 2 s goes to LOST. -/
  | pullInTimeout (c : Fin 256)
  /-- CHANNEL_LOSS (R229): A TRACK channel with low C/N0 or lock indicator for 1 s goes to LOST. -/
  | channelLoss (c : GnChanAt)
  /-- OBS_LATCH (R230): At each whole VC0 second the GNS latches the code phase, carrier phase and Doppler of every TRACK channel. -/
  | obsLatch (obs : List GnObs) (caps : List GnCapture) (t : Nat)
  /-- GN_TIMING_SOLUTION (R230): Pod 2 solves the timing solution for the second, evaluates the checks and verdict, publishes σ_T and writes F for the next GN_PPS. -/
  | gnTimingSolution (sol : GnSol) (t : Nat)
  /-- GN_VERDICT (R240): Pod 1 receives the per-second GN_VERDICT entry from Pod 2 and applies its verdict and label to GN. -/
  | gnVerdict
  /-- GN_PPS (R234): The GNS emits GN_PPS at VC0 time (S + 1) + F, or omits it and counts GNS_PPS_MISS. -/
  | gnPps (sec : Int)
  /-- GNSS_SLEEP (R243): At the end of SLEEP_ON in a period, Pod 2 puts the GNS to sleep unless the timescale is not learned. -/
  | gnssSleep (t : Nat)
  /-- GNSS_WAKE (R243): At a period boundary the GNS wakes and Pod 2 chooses a start kind. -/
  | gnssWake (vis : List Nat) (t : Nat)
  /-- KEPT_DATA_COMMIT (R241): Every 600 s Pod 2 commits the kept GNSS data to MRAM. -/
  | keptDataCommit (t : Nat)
  /-- CGGTTS_TRACK_END (R244): A CGGTTS track ends and Pod 2 posts a line for each satellite observed for 390 s or more. -/
  | cggttsTrackEnd (track : CggTrack)
  /-- RESURVEY (R247): Pod 2 receives RESURVEY and restarts the survey, or answers FIXED. -/
  | resurvey
  /-- KEPT_CLEAR (R247): Pod 2 receives KEPT_CLEAR and discards the kept data. -/
  | keptClear
  /-- FESPI_GO (R249): A write of GNS_FESPI_CTRL.GO sends one frame on GNSS_SPI and stores the frame received. -/
  | fespiGo (m : Master) (data : Nat) (rx : BitVec 32)
  /-- FRAME_RECEIVE (R257): A frame arrives on a port, is timestamped, filtered, length- and FCS-checked, classified and buffered or dropped. -/
  | frameReceive (p : PortId) (frame : List Byte) (fcsOk : Bool) (k fine : Nat)
  /-- FRAME_DEPART (R264): A queued frame departs at a PCS block boundary its gate allows, with any one-step time written, any stamp queued and its completion status reported. -/
  | frameDepart (p : PortId) (k fine : Nat)
  /-- PORT_CFG_WRITE (R251): A write of MAC_PORT_CFG sets speed, encoding and FEC, is discarded for unsupported or locked settings, and on disable ends queued frames with LINK_DOWN. -/
  | portCfgWrite (m : Master) (p : PortId) (data : Nat)
  /-- TSQ_POP (R272): A read of the lowest word of MAC_TSQ_ENTRY pops the head entry into the holding copy, or gives TYPE EMPTY. -/
  | tsqPop (m : Master) (p : PortId)
  /-- QBV_GO (R262): A write of MAC_QBV_CTRL.GO copies the admin list, base and cycle into a pending set and sets PENDING. -/
  | qbvGo (m : Master) (p : Fin 8) (data : Nat)
  /-- QBV_LIST_SWITCH (R262): At base + N × CYCLE at least 1 ms after GO, the pending set becomes the operating list. -/
  | qbvListSwitch (p : Fin 8) (t : Nat)
  /-- QBV_ENTRY_ADVANCE (R261): At the end of an entry's interval or cycle, the shaper moves to the next gate-control entry. -/
  | qbvEntryAdvance (p : Fin 8) (t : Nat)
  /-- PAUSE_HIGH (R265): Ingress occupancy rises above HIGH and the engine sends a pause or PFC frame. -/
  | pauseHigh (p : PortId) (prio : Fin 9) (t : Nat)
  /-- PAUSE_REPEAT (R265): Every QUANTA/2 quanta while occupancy stays above LOW the pause frame is repeated. -/
  | pauseRepeat (p : PortId) (prio : Fin 9) (t : Nat)
  /-- PAUSE_LOW (R265): Occupancy falls to LOW and the engine sends one frame with quanta 0. -/
  | pauseLow (p : PortId) (prio : Fin 9) (t : Nat)
  /-- PAUSE_EXPIRE (R266): The quanta of a received pause or PFC frame run out and the stopped classes resume. -/
  | pauseExpire (p : PortId) (t : Nat)
  /-- MDIO_FRAME (R415): A write of MAC_MDIO starts one clause 22 or clause 45 frame, holding BUSY until it ends and storing read data. -/
  | mdioFrame (m : Master) (data : Nat) (phy : BitVec 16)
  /-- PRP_SUPERVISION (R269): Every LIFE ms a PRP pair sends supervision frames. -/
  | prpSupervision (pair : Fin 4) (t : Nat)
  /-- PRP_TX_SKEW (R270): One copy cannot start within 20 µs of the other, so the other departs alone and the blocked copy is dropped and counted. -/
  | prpTxSkew (p : PortId) (k fine : Nat)
  /-- LINK_DOWN (R416): A port's link goes down while EN is 1, raising its fault and moving its PTP instances to FAULTY. -/
  | linkDown (p : PortId) (t : Nat)
  /-- LINK_UP (R279): A port's link comes up and FAULTY instances whose cause is gone resume. -/
  | linkUp (p : PortId) (t : Nat)
  /-- SERDES_LOS (R416): A SerDes lane or twin lane loses signal or lock while in use and raises its fault source. -/
  | serdesLos (lane : Fin 22)
  /-- PTP_CONFIG (R275): The command configures a DISABLED instance, or completes with CFG_RANGE or INST_RUNNING. -/
  | ptpConfig (q : Nat) (i : Nat) (args : PtpArgs)
  /-- PTP_START (R279): The command starts an instance into MASTER or LISTENING, or completes with INST_CONFLICT, BUDGET or NO_CONFIG. -/
  | ptpStart (q : Nat) (i : Nat)
  /-- PTP_STOP (R295): The command sends CANCEL to every grant holder and moves the instance to DISABLED. -/
  | ptpStop (q : Nat) (i : Nat)
  /-- PTP_MASTERS (R290): The command sets up to 8 master addresses of a SLAVE instance. -/
  | ptpMasters (q : Nat) (i : Nat) (addrs : List (List Byte))
  /-- PTP_GRANT_QUERY (R295): The command returns one grant's fields and residence, or NO_GRANT. -/
  | ptpGrantQuery (q : Nat) (i : Nat) (key : GrantKey)
  /-- PTP_IDENTITY (R296): The command sets CLOCK_ID in MRAM while all instances are DISABLED. -/
  | ptpIdentity (q : Nat) (id : Nat)
  /-- PTP_STATUS (R295): The command returns PTP_INST_STAT, PTP_INST_UP and PTP_BUDGET of an instance. -/
  | ptpStatus (q : Nat) (i : Nat)
  /-- SYNC_TX (R282): At k × 2^LOG_SYNC + i µs a multicast master composes a one-step Sync. -/
  | syncTx (i : InstId) (t : Nat)
  /-- ANNOUNCE_TX (R286): A master composes an Announce from ENS_TS and the Onion, with the bound TLV when configured. -/
  | announceTx (i : InstId) (t : Nat)
  /-- UNICAST_TX (R282): At k × interval + φ a granted unicast message is composed, waiting for its grant record when it is in DRAM. -/
  | unicastTx (i : InstId) (key : GrantKey) (t : Nat)
  /-- DELAY_REQ_TX (R284): A slave instance sends a Delay_Req or Pdelay_Req at its interval. -/
  | delayReqTx (i : InstId) (t : Nat)
  /-- FOLLOW_UP_TX (R281): With TWO_STEP 1, the engine sends the Follow_Up or Pdelay_Resp_Follow_Up within 50 µs of the event message's departure. -/
  | followUpTx (i : InstId) (t : Nat)
  /-- PTP_MESSAGE_RX (R279): An instance processes a received PTP message: authenticates it, qualifies foreign masters, answers Delay_Req and completes exchanges. -/
  | ptpMessageRx (i : InstId) (msg : PtpMsg) (addr : List Byte) (t : Nat)
  /-- REQUEST_UNICAST_TRANSMISSION (R288): A master answers a grant request by the grant decision rules with a GRANT_UNICAST_TRANSMISSION TLV. -/
  | requestUnicastTransmission (i : InstId) (msg : PtpMsg) (addr : List Byte) (t : Nat)
  /-- CANCEL_UNICAST_TRANSMISSION (R288): A CANCEL removes the grant at once and is acknowledged. -/
  | cancelUnicastTransmission (i : InstId) (msg : PtpMsg) (addr : List Byte) (t : Nat)
  /-- GRANT_EXPIRE (R288): A grant reaches its duration, is removed and releases its committed rate. -/
  | grantExpire (i : InstId) (key : GrantKey) (t : Nat)
  /-- GRANT_RENEW (R290): A slave renews a grant when half its duration has passed. -/
  | grantRenew (i : InstId) (addr : List Byte) (type t : Nat)
  /-- GRANT_REQUEST_TIMEOUT (R290): A grant request unanswered within 1 s, or denied, is counted and scheduled for retry after 10 s. -/
  | grantRequestTimeout (i : InstId) (addr : List Byte) (type t : Nat)
  /-- GRANT_RETRY (R290): 10 s after a failed request the slave requests the grant again. -/
  | grantRetry (i : InstId) (addr : List Byte) (type t : Nat)
  /-- ANNOUNCE_RECEIPT_TIMEOUT (R279): A foreign master sends no Announce for ANN_TIMEOUT intervals and is lost, moving the instance to another master, LISTENING or MASTER. -/
  | announceReceiptTimeout (i : InstId) (clock port t : Nat)
  /-- LISTENING_TIMEOUT (R279): A LISTENING master-role instance with no better foreign master for ANN_TIMEOUT × 2^LOG_ANNOUNCE s enters MASTER. -/
  | listeningTimeout (i : InstId) (t : Nat)
  /-- PS_PPS (R284): At each whole second a SLAVE instance forms ô and emits PSn_PPS at (S + 1) + F with its label, or counts PTP_PS_MISS. -/
  | psPps (i : InstId) (sec : Int)
  /-- NTP_REQUEST (R299): The NSE answers an admitted plain NTP request with a one-step response carrying the bound field, or passes it to the host. -/
  | ntpRequest (p : PortId) (load : NseLoad) (t : Nat)
  /-- NTS_REQUEST (R303): The NSE opens the cookie, verifies the authenticator, mints fresh cookies and seals the response, or sends a NAK or drops the request. -/
  | ntsRequest (p : PortId) (load : NseLoad) (t : Nat)
  /-- LEDGER_UPDATE_WRITE (R313): A queued ledger update is written to DRAM when its bandwidth class is served. -/
  | ledgerUpdateWrite
  /-- NTS_MINT (R309): The command seals 1 to 8 cookies under entry 0 and returns them with the identity. -/
  | ntsMint (q : Nat) (alg ident : Nat) (c2s s2c : List Byte) (count : Nat)
  /-- NTS_CKEY_SET (R307): The command puts a COOKIE_MASTER slot into NSE_CKEY entry 0 and shifts the others down. -/
  | ntsCkeySet (q : Nat) (slot : Nat)
  /-- NTS_CKEY_DROP (R307): The command removes a slot from entries 1 to 3, or completes with KEY_CURRENT or NOT_FOUND. -/
  | ntsCkeyDrop (q : Nat) (slot : Nat)
  /-- NSE_LEDGER_READ (R311): The command returns a ledger record with pending cached state merged. -/
  | nseLedgerRead (q : Nat) (ident : Nat)
  /-- NSE_LEDGER_FREE (R310): The command releases an identity. -/
  | nseLedgerFree (q : Nat) (ident : Nat)
  /-- CKEY_DUE (R320): When entry 0 has stood for CK_ROTATE, Pod 4 posts a CKEY_DUE event. -/
  | ckeyDue (t : Nat)
  /-- SHED_HIGH (R320): At each VC0 second Pod 4 posts SHED_HIGH when the shed fraction exceeds SHED_ALARM. -/
  | shedHigh (t : Nat)
  /-- KEY_WRITE (R327): The command places given key bytes into a slot, commits the Husk and journals the change. -/
  | keyWrite (q : Nat) (slot parent kind use type : Nat) (key : List Byte) (auth : Option KeyAuth)
  /-- KEY_GENERATE (R327): The command places a key or key pair from the random bit generator into a slot. -/
  | keyGenerate (q : Nat) (slot parent kind use type : Nat) (auth : Option KeyAuth)
  /-- KEY_DERIVE (R327): The command derives an AES key from a Sprout with HKDF-SHA-384 into a slot. -/
  | keyDerive (q : Nat) (slot parent use type : Nat) (label : List Byte) (auth : Option KeyAuth)
  /-- KEY_INVALIDATE (R333): The command bumps a slot's GEN, erases its key, orphans its descendants and commits its Husk INVALID. -/
  | keyInvalidate (q : Nat) (slot : Nat) (auth : Option KeyAuth)
  /-- KEY_FREE (R333): The command sets an INVALID or ORPHANED slot EMPTY, or completes with SLOT_VALID. -/
  | keyFree (q : Nat) (slot : Nat) (auth : Option KeyAuth)
  /-- KEY_READ (R326): The command returns a slot's metadata, PGEN and KCV. -/
  | keyRead (q : Nat) (slot : Fin 4096)
  /-- KEY_PUBKEY (R326): The command returns the public key of a slot, or completes with KEY_USE. -/
  | keyPubkey (q : Nat) (slot : Fin 4096)
  /-- KEY_SIGN (R332): The command queues a signature over the prefixed digest with an ATTEST_SIGN slot, or completes with SGN_BUSY. -/
  | keySign (q : Nat) (slot : Fin 4096) (digest : List Byte)
  /-- SGN_SIGN_COMPLETE (R332): SGN finishes a queued KEY_SIGN and returns the signature. -/
  | sgnSignComplete
  /-- KEY_UNLOCK (R334): The command clears the class B latch and unwraps every Husk to return a LOCKED vault to OPEN, or completes with TAMPER_ACTIVE. -/
  | keyUnlock (q : Nat) (pins : Fin 32) (auth : Option KeyAuth)
  /-- KEY_TAMPER_CFG (R337): The command sets class, level and filter of a tamper input in the island and the MRAM copy. -/
  | keyTamperCfg (q : Nat) (input cls level filt : Nat) (pins : Fin 32) (auth : Option KeyAuth)
  /-- KEY_POLICY (R336): The command sets SIGNED_ADMIN and KALOCK and commits them to MRAM. -/
  | keyPolicy (q : Nat) (signed kalock : Bool) (auth : Option KeyAuth)
  /-- KEY_ENROLLED (R326): The command clears ROOT_NEW and journals it, or completes with NOT_NEW. -/
  | keyEnrolled (q : Nat)
  /-- TAMPER_ALARM (R338): A tamper input or the mesh reaches its filter count and the keep-alive island latches a class A or class B alarm, logs it and reacts by the moment it comes. -/
  | tamperAlarm (ka : Nat) (samples : List (Fin 32))
  /-- RBG_HEALTH_FAIL (R331): A health test of the random bit generator fails: it stops output and raises KEY_RBG_FAIL. -/
  | rbgHealthFail
  /-- TWIN_HEARTBEAT_TX (R344): Every 1 ms the engine sends a sealed HEARTBEAT frame on both twin lanes. -/
  | twinHeartbeatTx (t : Nat)
  /-- TWIN_BOUND_TX (R344): At each 10 ms span the engine sends a BOUND frame with its VC0 Onion. -/
  | twinBoundTx (t : Nat)
  /-- TWIN_CHECK_TX (R344): Every 1 s the engine sends a CHECK frame with CLOCK_ID and key check values. -/
  | twinCheckTx (t : Nat)
  /-- TWIN_FRAME_RX (R344): A twin link frame arrives, is authenticated or discarded, and its heartbeat, bound, check or handover content is taken. -/
  | twinFrameRx (frame : TwinFrame) (authentic crcOk : Bool) (t : Nat)
  /-- HB_WORD_TX (R345): Every 1 ms the engine sends a Manchester heartbeat word on TWIN_HB_TX. -/
  | hbWordTx (t : Nat)
  /-- HB_WORD_RX (R345): A heartbeat word arrives on TWIN_HB_RX and is accepted or discarded for its CRC or alive counter. -/
  | hbWordRx (word t : Nat)
  /-- PATH_TIMEOUT (R346): A twin path delivers no valid heartbeat for HB_TIMEOUT and is lost, changing the twin state. -/
  | pathTimeout (t : Nat)
  /-- TWIN_REPAIR (R346): After both paths have been present for 1 s with no FAILING report, an ALONE engine returns to PAIRED. -/
  | twinRepair (t : Nat)
  /-- TWIN_LOCK_CLAIM (R347): With a claim requested and TWIN_LOCK high for the claim delay, the engine pulls the line low and reports CLAIMING. -/
  | twinLockClaim (line : LineHigh)
  /-- TWIN_LOCK_CHECK (R347): Once per VC0 millisecond a claiming or holding engine releases the line for 2 µs, samples it and becomes HOLDER or detects a conflict. -/
  | twinLockCheck (low : Bool) (t : Nat)
  /-- TWN_HANDOVER (R350): The command makes the holder send HANDOVER, release the line and set YIELD so that the peer can claim. -/
  | twnHandover (q : Nat)
  /-- HANDOVER_TIMEOUT (R350): When the peer does not report HOLDER within 1 s, the holder clears YIELD, claims again and completes with REFUSED_BACK. -/
  | handoverTimeout (t : Nat)
  /-- YIELD_HOLD_END (R349): YIELD_HOLD elapses after a handover or yield, and Pod 0 may request a claim again. -/
  | yieldHoldEnd (t : Nat)
  /-- WAIT_RELEASE (R369): The awaited VC time or event arrives and the wait completes with C and V clear. -/
  | waitRelease (p : PodId) (t : Nat)
  /-- WAIT_TIMEOUT (R369): A wait's timeout expires first and it completes with V set. -/
  | waitTimeout (p : PodId) (t : Nat)
  /-- HIF_NOP (R396): The NOP command echoes its arguments. -/
  | hifNop (q : Nat) (args : List Byte)
  /-- SNAPSHOT (R403): The command requests a snapshot and completes with its SEQ and instant. -/
  | snapshot (q : Nat)
  /-- SYS_SNAP_GO (R403): A write of 1 to SYS_SNAP.GO requests a snapshot, joining any snapshot in progress. -/
  | sysSnapGo (m : Master) (data : Nat)
  /-- SNAPSHOT_TAKE (R403): At the first VC0 tick at least 2 µs after the request, counters, TDC statistics and latches are copied into holding registers and SEQ increments. -/
  | snapshotTake
  /-- RXBUF_POST (R396): The command adds up to four receive buffers to the pool, or completes with POOL_FULL. -/
  | rxbufPost (q : Nat) (a0 a1 a2 a3 : Nat)
  /-- FRAME_TX (R396): The command queues a host frame for transmission with optional launch time and one-step or two-step stamping. -/
  | frameTx (q : Nat) (buf len port tc flags osOff launch : Nat)
  /-- HIF_RING_ENABLE (R389): A write of HIF_RING_CFG that sets EN resets PI and CI to 0, and changes of base or size while EN is 1 are discarded. -/
  | hifRingEnable (m : Master) (r : Fin 4) (data : Nat)
  /-- HIF_RING_PI_WRITE (R389): A host write of the CMD producer index makes new command entries available, or is discarded with CFG_REJ. -/
  | hifRingPiWrite (m : Master) (pi : CmdPi)
  /-- HIF_RING_CI_WRITE (R389): A host write of a consumer index frees room on RSP, EVT or TEL, or is discarded with CFG_REJ. -/
  | hifRingCiWrite (m : Master) (r : Fin 4) (data : Nat)
  /-- PERST (R386): PERST_N resets the PCIe controller and clears the EN of all rings. -/
  | perst (burst : Bool)
  /-- HWDOG_KICK (R413): A write of 1 to HIF_HWDOG.KICK restarts the host watchdog and clears HOSTLOST. -/
  | hwdogKick (m : Master) (data : Nat)
  /-- HOST_WATCHDOG_EXPIRE (R413): TIMEOUT ms pass without a KICK: HOSTLOST is set and HIF_HOST_LOST is raised. -/
  | hostWatchdogExpire
  /-- SPI_TRANSACTION (R388): An SPI slave transaction carries one CRC-checked 32-bit or 64-bit register access of the management view. -/
  | spiTransaction (bytes : List Byte) (late : Bool)
  /-- I2C_TRANSACTION (R388): An I²C slave transaction carries one CRC-checked register access of the management view, with clock stretching. -/
  | i2cTransaction (bytes : List Byte) (late : Bool)
  /-- GASKET_TIMEOUT (R409): A gasket with no response 8 µs after a request answers its master with a bus error of cause TIMEOUT. -/
  | gasketTimeout (m : Master) (addr : Nat) (wr : Bool)
  /-- SYS_REMAP_WRITE (R410): A DMA1 write of SYS_REMAP.SWAP before CP4 swaps the low windows, and any other write ends in a bus error. -/
  | sysRemapWrite (m : Master) (data : Nat)
  /-- PCIE_LINK_DOWN (R416): The PCIe link leaves L0 for more than 100 ms and HIF_LINK_DOWN is raised. -/
  | pcieLinkDown
  /-- FAULT_COLLECTION_TICK (R418): At each 10 ns collection tick the FLT island collects raises into FLT_PEND, opens or merges records, applies acknowledgements and clears, and updates ERR_N and FATAL_N. -/
  | faultCollectionTick
  /-- FLT_ACK (R419): A host write of FLT_ACK.ACK acknowledges the latched record at the end of its tick. -/
  | fltAck (m : Master) (data : Nat)
  /-- FLT_PEND_CLEAR (R424): A write of 1 to a FLT_PEND bit clears the source at the end of its tick when its cause is gone and its class is below C3. -/
  | fltPendClear (m : Master) (w : Fin 5) (data : Nat)
  /-- FLT_CLASS_WRITE (R417): A write of FLT_CLASS sets a source's class for later raises and for ERR_N at once. -/
  | fltClassWrite (m : Master) (src : Fin 160) (data : Nat)
  /-- FAULT_REACTION (R425): Pod 3 takes a FAULT event, reads FLT_REC and applies its reactions to each source in SRC. -/
  | faultReaction
  /-- ACK_HOLD_EXPIRE (R425): ACK_HOLD after a latch, Pod 3 acknowledges the record and clears sources at or below FLT_AUTO_CLASS whose cause is gone. -/
  | ackHoldExpire
  /-- AUTO_CLEAR (R425): Each second Pod 3 repeats clearing of pending sources at or below FLT_AUTO_CLASS whose cause is gone. -/
  | autoClear
  /-- RELOCK_WAIT_EXPIRE (R425): A synthesizer still not LOCKED RELOCK_WAIT after its unlock gets a SYNAT RELOCK from Pod 3. -/
  | relockWaitExpire (n : SynId)
  /-- TB_SAFE_EXPIRE (R425): The TBP stays unlocked for TB_SAFE and Pod 3 forces every enabled output to its safe state. -/
  | tbSafeExpire
  /-- CRYPTO_LANE_FAULT (R416): A crypto lane fails its self-check and the Placer stops issuing to it. -/
  | cryptoLaneFault (lane : Fin 8)
  /-- ECC_ERROR (R416): A DRAM, SRAM or MRAM ECC error is corrected, or an uncorrectable one ends its access in a bus error with cause ECC. -/
  | eccError (mem : Fin 4) (uncorr : Bool) (m : Master) (addr : Nat) (wr : Bool)
  /-- THERM_RANGE (R179): The junction temperature leaves −40 °C to 105 °C, adding 100 ps to L3 and raising THERM_RANGE. -/
  | thermRange (temp : Int) (t : Nat)
  /-- POWER_ON (R429): VDD rises from below its reset level, applying a POWER-class reset until the release conditions hold. -/
  | powerOn
  /-- RAIL_WARNING (R432): A monitored rail falls below its warning level: WARN is set, the dip is counted and PWR_WARN is raised. -/
  | railWarning (rail : Fin 3) (t : Nat)
  /-- RAIL_WARNING_END (R432): The rail stays 2 ms above the warning level plus 20 mV, the warning ends and deferred MRAM records start. -/
  | railWarningEnd (rail : Fin 3) (t : Nat)
  /-- VDD_RESET (R433): VDD falls below its reset level and a POWER-class reset follows. -/
  | vddReset
  /-- VDDA_RESET (R433): VDDA falls below its reset level, a SYS-class reset follows and the timebase stops. -/
  | vddaReset
  /-- KA_RESET (R431): VKA falls below its reset level, the keep-alive island resets and KA_LOST is set if the main rails are up. -/
  | kaReset
  /-- PWRGOOD_FALL (R430): PWRGOOD falls while the engine runs, and no further MRAM record is started. -/
  | pwrgoodFall
  /-- PWRGOOD_RESET (R430): 150 µs after PWRGOOD falls the engine applies a SYS-class reset. -/
  | pwrgoodReset
  /-- RESET_N (R446): RESET_N low for 1 µs applies a SYS-class reset. -/
  | resetN
  /-- PWR_RESET (R446): A write of PWR_RESET with KEY 0x5752 and GO from HOST or SPIM applies a WARM-class reset, or sets CFG_REJ. -/
  | pwrReset (m : Master) (data : Nat)
  /-- START_SEQUENCE (R444): At reset release the engine decides the start kind and runs the checkpoints CP0 to CP4, or halts with a boot status. -/
  | startSequence (env : BootEnv)
  /-- MRAM_COMMIT (R436): A requested MRAM record is written to the slot not in force with read-back and commit word, or fails and raises MRAM_COMMIT_FAIL. -/
  | mramCommit (good : Bool)
  /-- OSC_TRIM (R438): Once per second while the TBP is LOCKED each internal oscillator is measured and its trim code moved one step, raising CLK_TRIM_FAIL at a range end. -/
  | oscTrim (slow fast : Int)
  /-- LO_FAIL (R439): LO_IN stops or leaves ±1,000 ppm: CLK_LO_FAIL is raised, LO_STOPPED is set and the TBP enters HOLD. -/
  | loFail (stop : LoStop)
  /-- LO_RETURN (R439): LO_IN passes its start-up count and the TBP reacquires. -/
  | loReturn (t : Nat)
  /-- TBP_LOCK (R440): The TBP phase error stays within ±200 ps for 10 µs and the TBP enters LOCKED. -/
  | tbpLock (t : Nat)
  /-- TBP_UNLOCK (R440): The TBP phase error exceeds ±2 ns for 1 µs: UNLOCKED, TB_LOL set, TBP_UNLOCK raised and the governor engaged. -/
  | tbpUnlock (t : Nat)
  /-- TIMEBASE_FAIL (R210): The timebase shows no edges for 4 ticks: outputs go safe, synthesizers QUIESCE, TDC and DDR quiesce and the TBP is STOPPED. -/
  | timebaseFail (t : Nat)
  /-- TIMEBASE_RETURN (R440): The timebase returns from STOPPED, RAWCNT is advanced by the outage, a TB_UNLOCK widening is held and the synthesizers search. -/
  | timebaseReturn (outage : Nat)
  /-- SDREF_FAIL (R439): SDREF0 or SDREF1 stops: CLK_SDREF_FAIL is raised and the lane group quiesces. -/
  | sdrefFail (n : Fin 2)
  /-- SDREF_RETURN (R439): The SerDes reference passes its start-up count and the lanes relock. -/
  | sdrefReturn (n : Fin 2)
  /-- BOOTCLK_SWITCH (R441): BOOTCLK switches between the fast oscillator and the timebase at a falling edge of the old clock. -/
  | bootclkSwitch
  /-- SWITCH_FORCED (R441): No falling edge of the old clock within 1 µs forces the switch, sets SWITCH_FORCED and raises CLK_SWITCH_FORCED. -/
  | switchForced
  /-- CLK_GATE_REQUEST (R442): A write of CLK_GATE puts a domain in QUIESCE, or is discarded when its block is enabled, and clearing a bit restarts its clocks. -/
  | clkGateRequest (m : Master) (data : Nat)
  /-- GATE_IDLE (R442): A quiescing domain becomes idle within 2 µs and its clocks stop. -/
  | gateIdle (d : Fin 17)
  /-- QUIESCE_TIMEOUT (R442): A domain not idle 2 µs after QUIESCE keeps its gate open and raises CLK_QUIESCE_TIMEOUT. -/
  | quiesceTimeout (d : Fin 17)
  /-- GATE_OPEN (R442): An ungated domain's PLLs relock and the domain is OPEN to accesses again. -/
  | gateOpen (d : Fin 17)
  /-- PMC_CLEAR (R454): A write of PMC_CTRL with CLR = 1 schedules the clearing of the selected counter groups. -/
  | pmcClear (m : Master) (data : Nat)
  /-- PMC_CLEAR_APPLY (R454): At the first tick at least 1 µs after the write, the selected counters are cleared. -/
  | pmcClearApply
  /-- PMC_WINDOW_BOUNDARY (R456): At each multiple of LEN ms of VC0 the PMC latches every counter, publishes bandwidth figures and produces COUNTERS and BW records. -/
  | pmcWindowBoundary (t : Nat)
  /-- TEL_DRAIN (R460): The TEL moves a staged telemetry record to the TEL ring or a UDP datagram and copies it to the archive. -/
  | telDrain
  /-- TEL_DATAGRAM_CLOSE (R462): 100 µs after its first record, or when the next record would pass the MTU, a telemetry datagram closes and is sent. -/
  | telDatagramClose (t : Nat)
  /-- UNDEFINED_INSTRUCTION (R358): A Pod fetches an undefined word, or fetches at an index not below IMEM_WORDS, and faults with ILLEGAL or BOUNDS. -/
  | undefinedInstruction (p : PodId)
  /-- POSTED_WRITE_COMPLETE (R79): An island's posted write finishes its BUSY time, BUSY falls to 0 and the island accepts writes again. -/
  | postedWriteComplete (addr : Nat)
  /-- VOTE_SCRUB (R402): Once per millisecond the engine scrubs every triplicated copy, corrects any mismatch and raises the island's VOTE fault. -/
  | voteScrub (upsets : List (Nat × Nat × Nat))
  /-- THERM_RANGE_END (R179): The junction temperature returns within −40 °C to 105 °C, the 100 ps L3 term ends and its L3_EVT end record is journaled. -/
  | thermRangeEnd (temp : Int) (t : Nat)
  /-- PCIE_LINK_UP (R384): The PCIe link completes training and HIF_LINK reports the trained speed and width. -/
  | pcieLinkUp (speed width : Nat)
  /-- PCIE_AER_ERROR (R416): A PCIe error that AER classes correctable or uncorrectable occurs and raises HIF_AER_CORR or HIF_AER_UNCORR. -/
  | pcieAerError (uncorr : Bool)
  /-- COLLISION (R268): A collision is detected on MGMT in half duplex: the MAC jams, backs off and retries, or ends the frame with COLL_LATE or COLL_EXCESS. -/
  | collision (late : Bool) (t : Nat)
deriving DecidableEq, Repr

end Sys2Proof
end

