-- ==== Sys2Proof/Decode.lean ====
section
/-! DEFINITION. The 32-bit words of the FIN instructions (R358 to R360 and the tables of spec/16), and the words of
spec/opcode_table.json, whose rows give no bits. -/

namespace Sys2Proof

/-! ### The formats of R359 -/

/-- Format R. -/
def wordR (op rd ra rb fn : Nat) : Nat := op * 2 ^ 24 + rd * 2 ^ 19 + ra * 2 ^ 14 + rb * 2 ^ 9 + fn
/-- Format I. -/
def wordI (op rd ra imm : Nat) : Nat := op * 2 ^ 24 + rd * 2 ^ 19 + ra * 2 ^ 14 + imm
/-- Format U. -/
def wordU (op rd imm : Nat) : Nat := op * 2 ^ 24 + rd * 2 ^ 19 + imm
/-- Format J. -/
def wordJ (op cond off : Nat) : Nat := op * 2 ^ 24 + cond * 2 ^ 20 + off
/-- Format T. -/
def wordT (op tD tA tB gX gY fn : Nat) : Nat :=
  op * 2 ^ 24 + tD * 2 ^ 21 + tA * 2 ^ 18 + tB * 2 ^ 15 + gX * 2 ^ 10 + gY * 2 ^ 5 + fn
/-- Format A. -/
def wordA (op tA gD ga gb vc fn : Nat) : Nat :=
  op * 2 ^ 24 + tA * 2 ^ 21 + gD * 2 ^ 16 + ga * 2 ^ 11 + gb * 2 ^ 6 + vc * 2 ^ 3 + fn
/-- Format W. -/
def wordW (op tA gD gM gT vc : Nat) : Nat :=
  op * 2 ^ 24 + tA * 2 ^ 21 + gD * 2 ^ 16 + gM * 2 ^ 11 + gT * 2 ^ 6 + vc * 2 ^ 3

/-- The word of a FIN instruction; unused fields are 0 (R360). None for a command that is no FIN instruction. -/
def encodeFin : Instr → Option Nat
  | .add _ rd ra rb => some (wordR 0x01 rd ra rb 0)
  | .sub _ rd ra rb => some (wordR 0x02 rd ra rb 0)
  | .adc _ rd ra rb => some (wordR 0x03 rd ra rb 0)
  | .sbc _ rd ra rb => some (wordR 0x04 rd ra rb 0)
  | .addi _ rd ra imm => some (wordI 0x05 rd ra imm.toNat)
  | .mul _ rd ra rb => some (wordR 0x06 rd ra rb 0)
  | .mulh _ rd ra rb => some (wordR 0x07 rd ra rb 0)
  | .mulhu _ rd ra rb => some (wordR 0x08 rd ra rb 0)
  | .div _ rd ra rb => some (wordR 0x09 rd ra rb 0)
  | .divu _ rd ra rb => some (wordR 0x0a rd ra rb 0)
  | .rem _ rd ra rb => some (wordR 0x0b rd ra rb 0)
  | .remu _ rd ra rb => some (wordR 0x0c rd ra rb 0)
  | .mulq _ rd ra rb fn => some (wordR 0x0d rd ra rb fn)
  | .adds _ rd ra rb => some (wordR 0x0e rd ra rb 0)
  | .subs _ rd ra rb => some (wordR 0x0f rd ra rb 0)
  | .shl _ rd ra rb => some (wordR 0x10 rd ra rb 0)
  | .shr _ rd ra rb => some (wordR 0x11 rd ra rb 0)
  | .sar _ rd ra rb => some (wordR 0x12 rd ra rb 0)
  | .shli _ rd ra sh => some (wordI 0x13 rd ra sh)
  | .shri _ rd ra sh => some (wordI 0x14 rd ra sh)
  | .sari _ rd ra sh => some (wordI 0x15 rd ra sh)
  | .clz _ rd ra => some (wordR 0x16 rd ra 0 0)
  | .and _ rd ra rb => some (wordR 0x17 rd ra rb 0)
  | .or _ rd ra rb => some (wordR 0x18 rd ra rb 0)
  | .xor _ rd ra rb => some (wordR 0x19 rd ra rb 0)
  | .andi _ rd ra imm => some (wordI 0x1a rd ra imm.toNat)
  | .ori _ rd ra imm => some (wordI 0x1b rd ra imm.toNat)
  | .xori _ rd ra imm => some (wordI 0x1c rd ra imm.toNat)
  | .movi _ rd imm => some (wordU 0x1d rd imm.toNat)
  | .cati _ rd imm => some (wordU 0x1e rd imm.toNat)
  | .fadd _ rd ra rb => some (wordR 0x20 rd ra rb 0)
  | .fsub _ rd ra rb => some (wordR 0x21 rd ra rb 0)
  | .fmul _ rd ra rb => some (wordR 0x22 rd ra rb 0)
  | .fdiv _ rd ra rb => some (wordR 0x23 rd ra rb 0)
  | .fsqrt _ rd ra => some (wordR 0x24 rd ra 0 0)
  | .fma _ rd ra rb => some (wordR 0x25 rd ra rb 0)
  | .fcvtif _ rd ra => some (wordR 0x26 rd ra 0 0)
  | .fcvtfi _ rd ra => some (wordR 0x27 rd ra 0 0)
  | .fcmp _ ra rb => some (wordR 0x28 0 ra rb 0)
  | .fabs _ rd ra => some (wordR 0x29 rd ra 0 0)
  | .fneg _ rd ra => some (wordR 0x2a rd ra 0 0)
  | .cmp _ ra rb => some (wordR 0x30 0 ra rb 0)
  | .cmpi _ ra imm => some (wordI 0x31 0 ra imm.toNat)
  | .test _ ra rb => some (wordR 0x32 0 ra rb 0)
  | .b _ cond off => some (wordJ 0x33 cond off.toNat)
  | .bl _ cond off => some (wordJ 0x34 cond off.toNat)
  | .br _ ra x => some (wordR 0x35 0 ra 0 x.toNat)
  | .ldb _ rd ra imm => some (wordI 0x40 rd ra imm.toNat)
  | .ldbs _ rd ra imm => some (wordI 0x41 rd ra imm.toNat)
  | .ldh _ rd ra imm => some (wordI 0x42 rd ra imm.toNat)
  | .ldhs _ rd ra imm => some (wordI 0x43 rd ra imm.toNat)
  | .ldw _ rd ra imm => some (wordI 0x44 rd ra imm.toNat)
  | .ldws _ rd ra imm => some (wordI 0x45 rd ra imm.toNat)
  | .ldd _ rd ra imm => some (wordI 0x46 rd ra imm.toNat)
  | .stb _ rd ra imm => some (wordI 0x47 rd ra imm.toNat)
  | .sth _ rd ra imm => some (wordI 0x48 rd ra imm.toNat)
  | .stw _ rd ra imm => some (wordI 0x49 rd ra imm.toNat)
  | .std _ rd ra imm => some (wordI 0x4a rd ra imm.toNat)
  | .ldc _ rd ra imm => some (wordI 0x4b rd ra imm.toNat)
  | .stc _ rd ra imm => some (wordI 0x4c rd ra imm.toNat)
  | .cas _ rd ra rb => some (wordR 0x4d rd ra rb 0)
  | .faa _ rd ra rb => some (wordR 0x4e rd ra rb 0)
  | .busRead _ rd ra x => some (wordR 0x4f rd ra 0 (2 * x.toNat))
  | .busWrite _ ra rb x => some (wordR 0x4f 0 ra rb (1 + 2 * x.toNat))
  | .tadd _ tD tA tB => some (wordT 0x50 tD tA tB 0 0 0)
  | .tsub _ tD tA tB => some (wordT 0x51 tD tA tB 0 0 0)
  | .taddq _ tD tA gX => some (wordT 0x52 tD tA 0 gX 0 0)
  | .tdiff _ gX tA tB => some (wordT 0x53 0 tA tB gX 0 0)
  | .tcmp _ tA tB => some (wordT 0x54 0 tA tB 0 0 0)
  | .tset _ tD gX gY => some (wordT 0x55 tD 0 0 gX gY 0)
  | .tsec _ gX tA => some (wordT 0x56 0 tA 0 gX 0 0)
  | .tfrc _ gX tA => some (wordT 0x57 0 tA 0 gX 0 0)
  | .tld _ tD gX x => some (wordT 0x58 tD 0 0 gX 0 x.toNat)
  | .tstr _ tA gX x => some (wordT 0x59 0 tA 0 gX 0 x.toNat)
  | .rdvc _ tD vc => some (wordT 0x5a tD 0 0 0 0 vc)
  | .rdraw _ gX gY => some (wordT 0x5b 0 0 0 gX gY 0)
  | .waitt _ tA gT vc => some (wordW 0x68 tA 0 0 gT vc)
  | .waite _ gD gM gT => some (wordW 0x69 0 gD gM gT 0)
  | .steerat _ tA gD ga gb vc => some (wordA 0x70 tA gD ga gb vc 0)
  | .stepatAbs _ tA gD ga gb vc => some (wordA 0x71 tA gD ga gb vc 0)
  | .stepatRel _ tA gD ga gb vc => some (wordA 0x71 tA gD ga gb vc 1)
  | .stepatAbsRate _ tA gD ga gb vc => some (wordA 0x71 tA gD ga gb vc 2)
  | .pulseat _ tA gD ga gb vc => some (wordA 0x72 tA gD ga gb vc 0)
  | .armat _ tA gD ga vc => some (wordA 0x73 tA gD ga 0 vc 0)
  | .synatSearch _ tA gD ga gb vc => some (wordA 0x74 tA gD ga gb vc 0)
  | .synatHop _ tA gD ga gb vc => some (wordA 0x74 tA gD ga gb vc 1)
  | .synatRelock _ tA gD ga vc => some (wordA 0x74 tA gD ga 0 vc 2)
  | .synatStore _ tA gD ga gb vc => some (wordA 0x74 tA gD ga gb vc 3)
  | .synatSafe _ tA gD ga vc => some (wordA 0x74 tA gD ga 0 vc 4)
  | .synatRelease _ tA gD ga vc => some (wordA 0x74 tA gD ga 0 vc 5)
  | .popc _ rd => some (wordR 0x75 rd 0 0 0)
  | .vcrd _ tD gX vc => some (wordT 0x76 tD 0 0 gX 0 vc)
  | .ratecv _ rd ra => some (wordR 0x77 rd ra 0 0)
  | .mcfg _ ra rb fn => some (wordR 0x60 0 ra rb fn)
  | .mcfgt _ gX tA => some (wordT 0x61 0 tA 0 gX 0 0)
  | .mrel _ ra => some (wordR 0x62 0 ra 0 0)
  | .mpop _ rd ra x => some (wordR 0x63 rd ra 0 x.toNat)
  | .eauw _ ra rb fn => some (wordR 0x80 0 ra rb fn)
  | .eauu0 _ ra => some (wordR 0x81 0 ra 0 0)
  | .eaurst _ ra => some (wordR 0x82 0 ra 0 0)
  | .eaustat _ rd => some (wordR 0x83 rd 0 0 0)
  | .xrd _ rd ra x => some (wordR 0x98 rd ra 0 x.toNat)
  | .xwr _ ra rb x => some (wordR 0x99 0 ra rb x.toNat)
  | .send _ ra rb type => some (wordR 0x88 0 ra rb type.toNat)
  | .recv _ ra => some (wordR 0x89 0 ra 0 0)
  | .pans _ ra rb => some (wordR 0x8a 0 ra rb 0)
  | .evpost _ ra rb => some (wordR 0x8b 0 ra rb 0)
  | .japp _ ra rb => some (wordR 0x8c 0 ra rb 0)
  | .nettx _ rd ra rb => some (wordR 0x8d rd ra rb 0)
  | .kcmac _ rd ra rb => some (wordR 0x90 rd ra rb 0)
  | .gcmdAcq _ rd ra => some (wordR 0x9a rd ra 0 0)
  | .gcmdChan _ rd ra => some (wordR 0x9a rd ra 0 1)
  | .gcmdPpsf _ rd ra => some (wordR 0x9a rd ra 0 2)
  | .gcmdSleep _ rd ra => some (wordR 0x9a rd ra 0 3)
  | .gcmdObs _ rd ra => some (wordR 0x9a rd ra 0 4)
  | .twclm _ => some (wordR 0x9b 0 0 0 0)
  | .twrel _ => some (wordR 0x9c 0 0 0 0)
  | .fack _ => some (wordR 0x9d 0 0 0 0)
  | .fclr _ ra => some (wordR 0x9e 0 ra 0 0)
  | .nop _ => some (wordR 0xa0 0 0 0 0)
  | .halt _ => some (wordR 0xa1 0 0 0 0)
  | .kick _ => some (wordR 0xa2 0 0 0 0)
  | .fence _ => some (wordR 0xa3 0 0 0 0)
  | .podid _ rd => some (wordR 0xa4 rd 0 0 0)
  | .caprd _ rd => some (wordR 0xa5 rd 0 0 0)
  | _ => none

/-- The field of a word from bit `lo` on, as one of the `n` numbers it can name. -/
def fieldOf (w lo n : Nat) [NeZero n] : Fin n := Fin.ofNat n (w / 2 ^ lo)

/-- The instruction that the opcode and, where it tells instructions apart, FN of a word name, with the operands that its fields
hold. -/
def finOf (p : PodId) (w : Nat) : Option Instr :=
  match w / 2 ^ 24 with
  | 0x01 => some (.add p (fieldOf w 19 32) (fieldOf w 14 32) (fieldOf w 9 32))
  | 0x02 => some (.sub p (fieldOf w 19 32) (fieldOf w 14 32) (fieldOf w 9 32))
  | 0x03 => some (.adc p (fieldOf w 19 32) (fieldOf w 14 32) (fieldOf w 9 32))
  | 0x04 => some (.sbc p (fieldOf w 19 32) (fieldOf w 14 32) (fieldOf w 9 32))
  | 0x05 => some (.addi p (fieldOf w 19 32) (fieldOf w 14 32) (.ofNat 14 w))
  | 0x06 => some (.mul p (fieldOf w 19 32) (fieldOf w 14 32) (fieldOf w 9 32))
  | 0x07 => some (.mulh p (fieldOf w 19 32) (fieldOf w 14 32) (fieldOf w 9 32))
  | 0x08 => some (.mulhu p (fieldOf w 19 32) (fieldOf w 14 32) (fieldOf w 9 32))
  | 0x09 => some (.div p (fieldOf w 19 32) (fieldOf w 14 32) (fieldOf w 9 32))
  | 0x0a => some (.divu p (fieldOf w 19 32) (fieldOf w 14 32) (fieldOf w 9 32))
  | 0x0b => some (.rem p (fieldOf w 19 32) (fieldOf w 14 32) (fieldOf w 9 32))
  | 0x0c => some (.remu p (fieldOf w 19 32) (fieldOf w 14 32) (fieldOf w 9 32))
  | 0x0d => some (.mulq p (fieldOf w 19 32) (fieldOf w 14 32) (fieldOf w 9 32) (fieldOf w 0 64))
  | 0x0e => some (.adds p (fieldOf w 19 32) (fieldOf w 14 32) (fieldOf w 9 32))
  | 0x0f => some (.subs p (fieldOf w 19 32) (fieldOf w 14 32) (fieldOf w 9 32))
  | 0x10 => some (.shl p (fieldOf w 19 32) (fieldOf w 14 32) (fieldOf w 9 32))
  | 0x11 => some (.shr p (fieldOf w 19 32) (fieldOf w 14 32) (fieldOf w 9 32))
  | 0x12 => some (.sar p (fieldOf w 19 32) (fieldOf w 14 32) (fieldOf w 9 32))
  | 0x13 => some (.shli p (fieldOf w 19 32) (fieldOf w 14 32) (fieldOf w 0 64))
  | 0x14 => some (.shri p (fieldOf w 19 32) (fieldOf w 14 32) (fieldOf w 0 64))
  | 0x15 => some (.sari p (fieldOf w 19 32) (fieldOf w 14 32) (fieldOf w 0 64))
  | 0x16 => some (.clz p (fieldOf w 19 32) (fieldOf w 14 32))
  | 0x17 => some (.and p (fieldOf w 19 32) (fieldOf w 14 32) (fieldOf w 9 32))
  | 0x18 => some (.or p (fieldOf w 19 32) (fieldOf w 14 32) (fieldOf w 9 32))
  | 0x19 => some (.xor p (fieldOf w 19 32) (fieldOf w 14 32) (fieldOf w 9 32))
  | 0x1a => some (.andi p (fieldOf w 19 32) (fieldOf w 14 32) (.ofNat 14 w))
  | 0x1b => some (.ori p (fieldOf w 19 32) (fieldOf w 14 32) (.ofNat 14 w))
  | 0x1c => some (.xori p (fieldOf w 19 32) (fieldOf w 14 32) (.ofNat 14 w))
  | 0x1d => some (.movi p (fieldOf w 19 32) (.ofNat 19 w))
  | 0x1e => some (.cati p (fieldOf w 19 32) (.ofNat 16 w))
  | 0x20 => some (.fadd p (fieldOf w 19 32) (fieldOf w 14 32) (fieldOf w 9 32))
  | 0x21 => some (.fsub p (fieldOf w 19 32) (fieldOf w 14 32) (fieldOf w 9 32))
  | 0x22 => some (.fmul p (fieldOf w 19 32) (fieldOf w 14 32) (fieldOf w 9 32))
  | 0x23 => some (.fdiv p (fieldOf w 19 32) (fieldOf w 14 32) (fieldOf w 9 32))
  | 0x24 => some (.fsqrt p (fieldOf w 19 32) (fieldOf w 14 32))
  | 0x25 => some (.fma p (fieldOf w 19 32) (fieldOf w 14 32) (fieldOf w 9 32))
  | 0x26 => some (.fcvtif p (fieldOf w 19 32) (fieldOf w 14 32))
  | 0x27 => some (.fcvtfi p (fieldOf w 19 32) (fieldOf w 14 32))
  | 0x28 => some (.fcmp p (fieldOf w 14 32) (fieldOf w 9 32))
  | 0x29 => some (.fabs p (fieldOf w 19 32) (fieldOf w 14 32))
  | 0x2a => some (.fneg p (fieldOf w 19 32) (fieldOf w 14 32))
  | 0x30 => some (.cmp p (fieldOf w 14 32) (fieldOf w 9 32))
  | 0x31 => some (.cmpi p (fieldOf w 14 32) (.ofNat 14 w))
  | 0x32 => some (.test p (fieldOf w 14 32) (fieldOf w 9 32))
  | 0x33 => some (.b p (.ofNat 15 (w / 2 ^ 20 % 16)) (.ofNat 20 w))
  | 0x34 => some (.bl p (.ofNat 15 (w / 2 ^ 20 % 16)) (.ofNat 20 w))
  | 0x35 => some (.br p (fieldOf w 14 32) (w.testBit 0))
  | 0x40 => some (.ldb p (fieldOf w 19 32) (fieldOf w 14 32) (.ofNat 14 w))
  | 0x41 => some (.ldbs p (fieldOf w 19 32) (fieldOf w 14 32) (.ofNat 14 w))
  | 0x42 => some (.ldh p (fieldOf w 19 32) (fieldOf w 14 32) (.ofNat 14 w))
  | 0x43 => some (.ldhs p (fieldOf w 19 32) (fieldOf w 14 32) (.ofNat 14 w))
  | 0x44 => some (.ldw p (fieldOf w 19 32) (fieldOf w 14 32) (.ofNat 14 w))
  | 0x45 => some (.ldws p (fieldOf w 19 32) (fieldOf w 14 32) (.ofNat 14 w))
  | 0x46 => some (.ldd p (fieldOf w 19 32) (fieldOf w 14 32) (.ofNat 14 w))
  | 0x47 => some (.stb p (fieldOf w 19 32) (fieldOf w 14 32) (.ofNat 14 w))
  | 0x48 => some (.sth p (fieldOf w 19 32) (fieldOf w 14 32) (.ofNat 14 w))
  | 0x49 => some (.stw p (fieldOf w 19 32) (fieldOf w 14 32) (.ofNat 14 w))
  | 0x4a => some (.std p (fieldOf w 19 32) (fieldOf w 14 32) (.ofNat 14 w))
  | 0x4b => some (.ldc p (fieldOf w 19 32) (fieldOf w 14 32) (.ofNat 14 w))
  | 0x4c => some (.stc p (fieldOf w 19 32) (fieldOf w 14 32) (.ofNat 14 w))
  | 0x4d => some (.cas p (fieldOf w 19 32) (fieldOf w 14 32) (fieldOf w 9 32))
  | 0x4e => some (.faa p (fieldOf w 19 32) (fieldOf w 14 32) (fieldOf w 9 32))
  | 0x4f => some (if w.testBit 0 then .busWrite p (fieldOf w 14 32) (fieldOf w 9 32) (w.testBit 1) else .busRead p (fieldOf w 19 32) (fieldOf w 14 32) (w.testBit 1))
  | 0x50 => some (.tadd p (fieldOf w 21 8) (fieldOf w 18 8) (fieldOf w 15 8))
  | 0x51 => some (.tsub p (fieldOf w 21 8) (fieldOf w 18 8) (fieldOf w 15 8))
  | 0x52 => some (.taddq p (fieldOf w 21 8) (fieldOf w 18 8) (fieldOf w 10 32))
  | 0x53 => some (.tdiff p (fieldOf w 10 32) (fieldOf w 18 8) (fieldOf w 15 8))
  | 0x54 => some (.tcmp p (fieldOf w 18 8) (fieldOf w 15 8))
  | 0x55 => some (.tset p (fieldOf w 21 8) (fieldOf w 10 32) (fieldOf w 5 32))
  | 0x56 => some (.tsec p (fieldOf w 10 32) (fieldOf w 18 8))
  | 0x57 => some (.tfrc p (fieldOf w 10 32) (fieldOf w 18 8))
  | 0x58 => some (.tld p (fieldOf w 21 8) (fieldOf w 10 32) (w.testBit 0))
  | 0x59 => some (.tstr p (fieldOf w 18 8) (fieldOf w 10 32) (w.testBit 0))
  | 0x5a => some (.rdvc p (fieldOf w 21 8) (fieldOf w 0 8))
  | 0x5b => some (.rdraw p (fieldOf w 10 32) (fieldOf w 5 32))
  | 0x60 => some (.mcfg p (fieldOf w 14 32) (fieldOf w 9 32) (fieldOf w 0 8))
  | 0x61 => some (.mcfgt p (fieldOf w 10 32) (fieldOf w 18 8))
  | 0x62 => some (.mrel p (fieldOf w 14 32))
  | 0x63 => some (.mpop p (fieldOf w 19 32) (fieldOf w 14 32) (w.testBit 0))
  | 0x68 => some (.waitt p (fieldOf w 21 8) (fieldOf w 6 32) (fieldOf w 3 8))
  | 0x69 => some (.waite p (fieldOf w 16 32) (fieldOf w 11 32) (fieldOf w 6 32))
  | 0x70 => some (.steerat p (fieldOf w 21 8) (fieldOf w 16 32) (fieldOf w 11 32) (fieldOf w 6 32) (fieldOf w 3 8))
  | 0x71 =>
    match w % 8 with
    | 0 => some (.stepatAbs p (fieldOf w 21 8) (fieldOf w 16 32) (fieldOf w 11 32) (fieldOf w 6 32) (fieldOf w 3 8))
    | 1 => some (.stepatRel p (fieldOf w 21 8) (fieldOf w 16 32) (fieldOf w 11 32) (fieldOf w 6 32) (fieldOf w 3 8))
    | 2 => some (.stepatAbsRate p (fieldOf w 21 8) (fieldOf w 16 32) (fieldOf w 11 32) (fieldOf w 6 32) (fieldOf w 3 8))
    | _ => none
  | 0x72 => some (.pulseat p (fieldOf w 21 8) (fieldOf w 16 32) (fieldOf w 11 32) (fieldOf w 6 32) (fieldOf w 3 8))
  | 0x73 => some (.armat p (fieldOf w 21 8) (fieldOf w 16 32) (fieldOf w 11 32) (fieldOf w 3 8))
  | 0x74 =>
    match w % 8 with
    | 0 => some (.synatSearch p (fieldOf w 21 8) (fieldOf w 16 32) (fieldOf w 11 32) (fieldOf w 6 32) (fieldOf w 3 8))
    | 1 => some (.synatHop p (fieldOf w 21 8) (fieldOf w 16 32) (fieldOf w 11 32) (fieldOf w 6 32) (fieldOf w 3 8))
    | 2 => some (.synatRelock p (fieldOf w 21 8) (fieldOf w 16 32) (fieldOf w 11 32) (fieldOf w 3 8))
    | 3 => some (.synatStore p (fieldOf w 21 8) (fieldOf w 16 32) (fieldOf w 11 32) (fieldOf w 6 32) (fieldOf w 3 8))
    | 4 => some (.synatSafe p (fieldOf w 21 8) (fieldOf w 16 32) (fieldOf w 11 32) (fieldOf w 3 8))
    | 5 => some (.synatRelease p (fieldOf w 21 8) (fieldOf w 16 32) (fieldOf w 11 32) (fieldOf w 3 8))
    | _ => none
  | 0x75 => some (.popc p (fieldOf w 19 32))
  | 0x76 => some (.vcrd p (fieldOf w 21 8) (fieldOf w 10 32) (fieldOf w 0 8))
  | 0x77 => some (.ratecv p (fieldOf w 19 32) (fieldOf w 14 32))
  | 0x80 => some (.eauw p (fieldOf w 14 32) (fieldOf w 9 32) (.ofNat 7 (w % 512)))
  | 0x81 => some (.eauu0 p (fieldOf w 14 32))
  | 0x82 => some (.eaurst p (fieldOf w 14 32))
  | 0x83 => some (.eaustat p (fieldOf w 19 32))
  | 0x88 => some (.send p (fieldOf w 14 32) (fieldOf w 9 32) (.ofNat 8 w))
  | 0x89 => some (.recv p (fieldOf w 14 32))
  | 0x8a => some (.pans p (fieldOf w 14 32) (fieldOf w 9 32))
  | 0x8b => some (.evpost p (fieldOf w 14 32) (fieldOf w 9 32))
  | 0x8c => some (.japp p (fieldOf w 14 32) (fieldOf w 9 32))
  | 0x8d => some (.nettx p (fieldOf w 19 32) (fieldOf w 14 32) (fieldOf w 9 32))
  | 0x90 => some (.kcmac p (fieldOf w 19 32) (fieldOf w 14 32) (fieldOf w 9 32))
  | 0x98 => some (.xrd p (fieldOf w 19 32) (fieldOf w 14 32) (w.testBit 0))
  | 0x99 => some (.xwr p (fieldOf w 14 32) (fieldOf w 9 32) (w.testBit 0))
  | 0x9a =>
    match w % 512 with
    | 0 => some (.gcmdAcq p (fieldOf w 19 32) (fieldOf w 14 32))
    | 1 => some (.gcmdChan p (fieldOf w 19 32) (fieldOf w 14 32))
    | 2 => some (.gcmdPpsf p (fieldOf w 19 32) (fieldOf w 14 32))
    | 3 => some (.gcmdSleep p (fieldOf w 19 32) (fieldOf w 14 32))
    | 4 => some (.gcmdObs p (fieldOf w 19 32) (fieldOf w 14 32))
    | _ => none
  | 0x9b => some (.twclm p)
  | 0x9c => some (.twrel p)
  | 0x9d => some (.fack p)
  | 0x9e => some (.fclr p (fieldOf w 14 32))
  | 0xa0 => some (.nop p)
  | 0xa1 => some (.halt p)
  | 0xa2 => some (.kick p)
  | 0xa3 => some (.fence p)
  | 0xa4 => some (.podid p (fieldOf w 19 32))
  | 0xa5 => some (.caprd p (fieldOf w 19 32))
  | _ => none

/-- The FIN instruction that a word spells for a Pod, none where the word is undefined: an opcode that no table lists, a reserved
or unused field that is not 0, or an FN or COND that the instruction does not define (R358, R360). -/
def decodeFin (p : PodId) (w : Nat) : Option Instr :=
  match finOf p w with
  | some i => if encodeFin i = some w then some i else none
  | none => none

/-- The command that a word spells by the bits of spec/opcode_table.json: none, since no row of the table gives bits. -/
def decodeTableWord (_nbits _w : Nat) : Option Instr := none

end Sys2Proof
end

