-- ==== Sys2Proof/Config.lean ====
section
/-! DEFINITION. What one engine or one implementation fixes and the specification leaves open: free
values and functions without a body. Nothing in Lean can evaluate one, so no statement depends on a
value of one (notes/assumptions/1). -/

namespace Sys2Proof.Config

/-- A free value for each value of State.free: what an instruction leaves where the specification states no result. -/
opaque freeNat : Nat → Nat

/-- The bytes that the EAU publishes in the resident region of the commons, from the numbers z, P, nu and sn of every member: their
layout is not stated (R37, R133). -/
opaque eauPublish : List (List Word) → List Byte

/-- A byte of the boot ROM (R30). -/
opaque bootRom : Nat → Byte

/-- A byte of the IMEM of a Pod that holds its resident program, as loaded from ROM (R30, R51). -/
opaque residentImem : Nat → Nat → Byte

/-- A byte of the DMEM of a Pod that holds its resident program, as loaded from ROM (R30, R51). -/
opaque residentDmem : Nat → Nat → Byte

/-- ENTRY of the resident program of a Pod (R48, R51). -/
opaque residentEntry : Nat → Nat

/-- IMEM_WORDS of the resident program of a Pod (R48, R51). -/
opaque residentWords : Nat → Nat

/-- IFACE_ID of the resident program of a Pod (R48, R51). -/
opaque residentIface : Nat → Nat

/-- IMAGE_VER of the resident program of a Pod (R48, R51). -/
opaque residentVer : Nat → Nat

/-- The size in bytes of the board's xSPI flash (R30). -/
opaque flashSize : Nat

/-- The Vendor ID of Lethar Semiconductor (R384). -/
opaque pcieVendor : Nat

/-- The sign and the payload of a quiet NaN that an operation makes (R364). -/
opaque nanBits : Word → Word → Word → Word

/-- The fixed latency in ps of a port's own PCS, transmit and receive, for SPEED, ENC and FEC (R252). -/
opaque macLatency : Nat → Nat → Nat → Nat × Nat

/-- The hardware address at which a protocol address is reached: the engine sends no ARP or neighbour discovery frames (R298). -/
opaque peerMac : List Byte → List Byte

/-- TTL or hop limit and DSCP of a PTP message over UDP, which no rule states. -/
opaque ptpIp : Nat × Nat

/-- The flags octet of a GRANT_UNICAST_TRANSMISSION, renewalInvited in bit 0, which no rule states (R288). -/
opaque grantFlags : Nat

/-- The hash of a grant key from which φ is fixed: instance, message type, address, clock and port (R282). -/
opaque ptpPhi : Nat → Nat → List Byte → Nat → Nat → Nat

/-- RATE of a ledger record after a request: the rate before, and the seconds since the last request (R311). -/
opaque ledgerRate : Nat → Nat → Nat

/-- The hash of an identity for the KoD filter (R316). -/
opaque kodHash : Nat → Nat

/-! The functions of the standards that the specification names for keys, by name only: what they compute stands in
those standards and no statement rests on a value of one. -/

/-- AES-CMAC of a message under a key (R190, R327, R379). -/
opaque aesCmac : List Byte → List Byte → List Byte

/-- SHA-384 (R191, R327, R335). -/
opaque sha384 : List Byte → List Byte

/-- HKDF-SHA-384 with a zero salt: the secret, info and the length (R327, R328). -/
opaque hkdf : List Byte → List Byte → Nat → List Byte

/-- A signature by the key of a type of R323: type, private key, message (R332). -/
opaque signWith : Nat → List Byte → List Byte → List Byte

/-- The public key of a private key of a type (R330). -/
opaque pubKey : Nat → List Byte → List Byte

/-- A signature verifies: type, public key, message, signature (R50, R335). -/
opaque sigOk : Nat → List Byte → List Byte → List Byte → Bool

/-- A public key of a type is a valid point (R327). -/
opaque pointOk : Nat → List Byte → Bool

/-- AES key wrap with padding (R328): the wrap key and the key. -/
opaque wrapKey : List Byte → List Byte → List Byte

/-- The unwrapping of R328, none when its integrity check fails (R329). -/
opaque unwrapKey : List Byte → List Byte → Option (List Byte)

/-- AES-GCM: key, nonce, associated data, plaintext (R344). -/
opaque gcmSeal : List Byte → List Byte → List Byte → List Byte → List Byte

/-- AES-GCM: key, nonce, associated data, sealed bytes; none when the tag fails (R344). -/
opaque gcmOpen : List Byte → List Byte → List Byte → List Byte → Option (List Byte)

/-- AEAD_AES_SIV_CMAC: key, associated data, nonce, plaintext (R304, R309). -/
opaque sivSeal : List Byte → List Byte → List Byte → List Byte → List Byte

/-- AEAD_AES_SIV_CMAC: key, associated data, nonce, sealed bytes; none when the tag fails (R304, R309). -/
opaque sivOpen : List Byte → List Byte → List Byte → List Byte → Option (List Byte)

/-- The parity bit of an IRIG-B frame under the IEEE C37.118.1 extension, over the bits before it (R217). -/
opaque irigParity : List Byte → Bool

/-- The instruction that the TAP's instruction register spells, none for one that the TAP does not offer; the length of the instruction register;
and the boundary cells as the balls show them at a Capture-DR, by the count of captures (R478; notes/assumptions/175). -/
opaque tapOp : List Bool → Option Nat
opaque tapIrLen : Nat
opaque tapPins : Nat → List Bool

end Sys2Proof.Config
end

