-- ==== Sys2Proof/Machine/Tab.lean ====
section
/-! DEFINITION. Sparse tables in one canonical form: a list of (key, value) pairs with strictly rising
keys and no pair whose value is what an unlisted key reads as. The registers, the memories and every
numbered set of units of State are held so, and equal contents are equal lists. -/

namespace Sys2Proof.Machine

/-- A table from numbers to values, as plain data. -/
abbrev Tab (α : Type) := List (Nat × α)

/-- The value at a key, `d` where the key is not listed. -/
def tabGet {α : Type} (d : α) : Tab α → Nat → α
  | [], _ => d
  | (k, v) :: rest, key => if k = key then v else tabGet d rest key

/-- The table without a key. -/
def tabErase {α : Type} (t : Tab α) (key : Nat) : Tab α := t.filter (fun x => x.1 ≠ key)

/-- The table with a pair put at its place in the order. -/
def tabPut {α : Type} : Tab α → Nat → α → Tab α
  | [], key, v => [(key, v)]
  | (k, w) :: rest, key, v =>
    if key < k then (key, v) :: (k, w) :: rest
    else if k = key then (key, v) :: rest
    else (k, w) :: tabPut rest key v

/-- The table with `v` at `key`; writing what an unlisted key reads as removes the pair. -/
def tabSet {α : Type} [DecidableEq α] (d : α) (t : Tab α) (key : Nat) (v : α) : Tab α :=
  if v = d then tabErase t key else tabPut t key v

/-- The keys of a table rise strictly from `lo` on and none holds what an unlisted key reads as. -/
def tabWfFrom {α : Type} [DecidableEq α] (d : Nat → α) : Nat → Tab α → Bool
  | _, [] => true
  | lo, (k, v) :: rest => decide (lo ≤ k) && decide (v ≠ d k) && tabWfFrom d (k + 1) rest

/-- The canonical form of a table. -/
def tabWf {α : Type} [DecidableEq α] (d : Nat → α) (t : Tab α) : Bool := tabWfFrom d 0 t

/-- The canonical form of a memory that reads `d a` where it lists nothing. -/
abbrev Memory.wf (d : Nat → Byte) (m : Tab Byte) : Bool := tabWf d m

/-- Applies a function to the value at a key. -/
def tabMod {α : Type} [DecidableEq α] (d : α) (t : Tab α) (key : Nat) (f : α → α) : Tab α :=
  tabSet d t key (f (tabGet d t key))

/-- The byte at an address of a memory that reads `d a` where it lists nothing. -/
def byteAt (d : Nat → Byte) (m : Tab Byte) (a : Nat) : Byte := tabGet (d a) m a

/-- The `n` bytes from address `a` on. -/
def bytesAt (d : Nat → Byte) (m : Tab Byte) (a n : Nat) : List Byte :=
  (List.range n).map (fun i => byteAt d m (a + i))

/-- Writes a list of bytes from address `a` on. -/
def putBytes (d : Nat → Byte) (m : Tab Byte) (a : Nat) : List Byte → Tab Byte
  | [] => m
  | b :: bs => putBytes d (tabSet (d a) m a b) (a + 1) bs

/-- The contents of a memory that reads 0 where nothing is listed. -/
def zeros (_ : Nat) : Byte := 0

/-- The number that bytes spell, least significant byte first (R8). -/
def leNat : List Byte → Nat
  | [] => 0
  | b :: bs => b.toNat + 256 * leNat bs

/-- `n` bytes of a number, least significant byte first (R8). -/
def natLe : Nat → Nat → List Byte
  | 0, _ => []
  | n + 1, v => BitVec.ofNat 8 v :: natLe n (v / 256)

/-- The number that bytes spell, most significant byte first. -/
def beNat (bs : List Byte) : Nat := bs.foldl (fun acc b => acc * 256 + b.toNat) 0

/-- `n` bytes of a number, most significant byte first. -/
def natBe (n v : Nat) : List Byte := (natLe n v).reverse

/-- `n` bytes of an integer in two's complement, least significant byte first. -/
def intLe (n : Nat) (v : Int) : List Byte := natLe n (v % (256 ^ n : Nat)).toNat

/-- `n` bytes of an integer in two's complement, most significant byte first. -/
def intBe (n : Nat) (v : Int) : List Byte := (intLe n v).reverse

/-- The integer that an `n`-bit field holds in two's complement. -/
def toSigned (n v : Nat) : Int := if v % 2 ^ n < 2 ^ (n - 1) then (v % 2 ^ n : Nat) else ((v % 2 ^ n : Nat) : Int) - (2 ^ n : Nat)

/-- The `n`-bit two's complement field of an integer. -/
def ofSigned (n : Nat) (v : Int) : Nat := (v % (2 ^ n : Nat)).toNat

/-- A list of bytes padded with zeros, or cut, to `n` bytes. -/
def padTo (n : Nat) (bs : List Byte) : List Byte := (bs ++ List.replicate (n - bs.length) 0).take n

/-- A count that stops at the largest value of its `n` bits. -/
def satAdd (n v k : Nat) : Nat := min (2 ^ n - 1) (v + k)

end Sys2Proof.Machine
end

