-- ==== Sys2Proof/Machine/State.lean ====
section
/-! DEFINITION. The state of the engine as plain data, the reasons for which a step can stop, and the
state after reset. Registers stand in one table by the address of their lowest byte (Machine/RegMap.lean
names them); what is no register stands in one structure for each block. -/

namespace Sys2Proof.Machine

/-- A GTIME or a difference of two, as a whole number of FRAC units of 2^-32 ns (R57): SECONDS, NS and FRAC
of the 128-bit format are its digits. -/
abbrev Gt := Int

/-- The parameter set of a virtual clock (R19, R62, R73). -/
structure VcSet where
  /-- OFFSET in FRAC units. -/
  off    : Gt
  /-- RATE in units of 2^-64. -/
  rate   : Int
  /-- INC in units of 2^-32 ns per 8 ns. -/
  inc    : Nat
  /-- True in increment mode. -/
  legacy : Bool
deriving DecidableEq, Repr

/-- The set of a VC as reset leaves it: OFFSET 0, RATE 0, INC 8 ns, rate mode (R78). -/
def VcSet.reset : VcSet := ⟨0, 0, 0x0800000000, false⟩

/-- What a step took when it issued (R69). -/
inductive Took where
  /-- Nothing: no step, or a step in increment mode. -/
  | nothing
  /-- The free first step. -/
  | free
  /-- A permit, with the tick at which it would have expired. -/
  | permit (expiry : Nat)
deriving DecidableEq, Repr

/-- A host operation on a virtual clock that the TKP has accepted (R67). -/
structure HostOp where
  /-- The virtual clock. -/
  vc    : Nat
  /-- TKP_VC_CTRL.OP as accepted. -/
  op    : Nat
  /-- The tick at which the write was accepted. -/
  tick  : Nat
  /-- What the step took. -/
  took  : Took
  /-- True when the timebase was STOPPED at acceptance. -/
  stopped : Bool
deriving DecidableEq, Repr

/-- One entry of the leap-second table (R75). -/
structure LeapEntry where
  /-- TAI seconds from which the entry holds. -/
  eff  : Int
  /-- TAI minus UTC, in seconds. -/
  tai  : Int
  /-- 0 FACTORY, 1 HOST, 2 GNSS, 3 PTP. -/
  src  : Nat
  /-- True for the base entry. -/
  base : Bool
deriving DecidableEq, Repr

/-- The timekeeping block. -/
structure TkpState where
  /-- RAWCNT, the count of timebase ticks. [96 bits; R59 spec/03; reset 0] -/
  rawcnt  : Nat
  /-- The parameter set before the current one, per VC. [R19 spec/01; DESIGN CHOICE the reset set, log 2] -/
  prev    : Tab VcSet
  /-- The tick of the last change, per VC, plus 1; 0 when the VC has not changed since the timebase started. [R19 spec/01; reset 0] -/
  changed : Tab Nat
  /-- The host operation accepted and not yet applied. [R67 spec/03; reset none] -/
  hostOp  : Option HostOp
  /-- The expiry tick of each latched permit. [R69 spec/03; reset none latched] -/
  permitExp : Tab Nat
deriving DecidableEq, Repr

/-- A measurement record before it is laid out in 32 bytes (R99). -/
structure MeasRec where
  /-- GTIME of the edge, corrected. -/
  gt     : Gt
  /-- SEQ. -/
  seq    : Nat
  /-- The raw tick n. -/
  tick   : Nat
  /-- FINE. -/
  fine   : Nat
  /-- The channel. -/
  chan   : Nat
  /-- The virtual clock of the conversion. -/
  cvc    : Nat
  /-- CAL_TAG. -/
  calTag : Nat
  /-- FLAGS. -/
  flags  : Nat
deriving DecidableEq, Repr

/-- An open window of a channel in WINDOW mode (R95). -/
structure WinOpen where
  /-- The VC time W_k at which the window starts. -/
  start  : Gt
  /-- The length in ns in force for the window. -/
  len    : Nat
  /-- The first stop inside, once converted. -/
  first  : Option MeasRec
  /-- True once a further stop fell inside. -/
  double : Bool
  /-- The tick at which it closed and the flags of the channel then, while a stop was still in conversion (R94 to R96). -/
  closed : Option (Nat × Nat)
deriving DecidableEq, Repr

/-- A stop that a channel has accepted and is converting (R84). -/
structure StopCap where
  /-- The captured tick k. -/
  tick    : Nat
  /-- True when the edge fell. -/
  falling : Bool
  /-- True when the TBP was out of lock at the captured tick (R60). -/
  uncertain : Bool
  /-- True when the channel watched a window. -/
  win     : Bool
  /-- The arm that the stop closed: its tick A and the tick at which it would have closed (R93). -/
  arm     : Option (Nat × Nat)
deriving DecidableEq, Repr

/-- One channel of the TDC. -/
structure ChanState where
  /-- The Pod that claims the channel, plus 1; 0 for none. [R82 spec/04; reset 0] -/
  owner    : Nat
  /-- The open arm in GATE mode: the arm tick A and the tick at which it closes. [R92, R94 spec/04; reset none] -/
  arm      : Option (Nat × Nat)
  /-- The stops in conversion, oldest first. [R84, R95 spec/04; reset none] -/
  stops    : List StopCap
  /-- The tick of the arm before which N1 and N2 are measured; after a gate edge the last tick at which they end. [R88 spec/04; reset none] -/
  calib    : Option Nat
  /-- True while the calibrations that a gate edge started run. [R88 spec/04; reset false] -/
  calGate  : Bool
  /-- True when N1 and N2 have been measured for the arm or window that is next or open. [R88 spec/04; reset false] -/
  calMade  : Bool
  /-- The open window. [R95 spec/04; reset none] -/
  window   : Option WinOpen
  /-- The number k of the next window to open. [R95 spec/04; reset 0] -/
  winIdx   : Nat
  /-- The last valid N1 minus 1000. [R89 spec/04; reset 0, N1 = 1000] -/
  n1off    : Int
  /-- The last valid D minus 1000. [R89 spec/04; reset 0, D = 1000] -/
  doff     : Int
  /-- True once a valid calibration has succeeded since the timebase started. [R89 spec/04; reset false] -/
  calOk    : Bool
  /-- True while the records carry CAL_FAULT after an invalid calibration. [R89 spec/04; reset false] -/
  calBad   : Bool
  /-- True while the records carry CAL_AGED. [R87 spec/04; reset false] -/
  aged     : Bool
  /-- True from a DLL unlock until the next successful N1. [R90 spec/04; reset false] -/
  forced   : Bool
  /-- The calibration epoch. [R87 spec/04; DESIGN CHOICE 0, log 2] -/
  epoch    : Nat
  /-- The next SEQ. [32 bits; R98 spec/04; reset 0] -/
  seq      : Nat
  /-- True once a skew calibration has succeeded since the timebase started. [flag SKEW_UNCAL, R99 spec/04; reset false] -/
  skewOk   : Bool
  /-- True while the channel is in a gate loss. [R96 spec/04; reset false] -/
  gateLost : Bool
  /-- The gate edges counted toward a return from fall-back. [R96 spec/04; reset 0] -/
  gateRet  : Nat
  /-- The tick from which the gate timeout counts: of the last gate edge, of the enable, or of the last NO_STOP record of a gate loss. [R96 spec/04; DESIGN CHOICE 0, log 2] -/
  gateTick : Nat
  /-- The tick of the last gate edge. [R96 spec/04; DESIGN CHOICE 0, log 2] -/
  gateAt   : Nat
  /-- TDC_CH_GTO.TIMEOUT in force. [32 bits; R102 spec/04; reset 2,000] -/
  gto      : Nat
  /-- The tick of the last new N1. [R87 spec/04; reset 0] -/
  calTick  : Nat
  /-- The tick of the last background calibration, good or bad. [R87 spec/04; reset 0] -/
  calTry   : Nat
  /-- The output FIFO of 16 records, oldest first. [R97 spec/04; reset empty] -/
  fifo     : List MeasRec
deriving DecidableEq, Repr

/-- A channel as the timebase starts it. -/
def ChanState.reset : ChanState :=
  ⟨0, none, [], none, false, false, none, 0, 0, 0, false, false, false, false, 0, 0, false, false, 0, 0, 0, 2000, 0, 0, []⟩

/-- The interval measurement unit. -/
structure TdcState where
  /-- The channels TC0 to TC31. [R81 spec/04; reset per field] -/
  chan  : Tab ChanState
  /-- Pod 1's qualification queue of 4,096 records, oldest first. [R21 spec/01; reset empty] -/
  qPod1 : List MeasRec
  /-- The EAU's queue of 4,096 records. [R21 spec/01; reset empty] -/
  qEau  : List MeasRec
  /-- The telemetry queue of 4,096 records. [R21 spec/01; reset empty] -/
  qTel  : List MeasRec
  /-- The channel that the arbiter served last. [R97 spec/04; DESIGN CHOICE 31, so that TC0 is first, log 2] -/
  served : Nat
  /-- The own measurement queue of 64 records of each Pod. [R83 spec/04; reset empty] -/
  qOwn  : Tab (List MeasRec)
  /-- True while the skew calibration of a start runs. [R100 spec/04; reset false] -/
  skewRun : Bool
  /-- The channels on which a skew calibration runs, as a mask. [R100 spec/04; reset 0] -/
  skewChans : Nat
deriving DecidableEq, Repr

/-- A load that a Pod in LOADING has under way (R49). -/
structure LoadReq where
  /-- HSEQ of the command. -/
  hseq : Nat
  /-- The source. -/
  src  : LoadSource
  /-- The capability grant as the command carries it. -/
  cap  : Nat
  /-- The VC grant. -/
  vc   : Nat
  /-- The key slot. -/
  slot : Nat
  /-- The tick of acceptance. -/
  tick : Nat
deriving DecidableEq, Repr

/-- What a Pod's image header says while the Pod holds an image (R48). -/
structure ImageInfo where
  /-- ENTRY. -/
  entry : Nat
  /-- IMEM_WORDS. -/
  words : Nat
  /-- IFACE_ID. -/
  iface : Nat
  /-- IMAGE_VER. -/
  ver   : Nat
deriving DecidableEq, Repr

/-- What a wait instruction waits for (R370, R371). -/
inductive WaitOn where
  /-- WAITT: until the VC reaches the target. -/
  | time (vc : Nat) (target : Gt)
  /-- WAITE: until a masked event is pending; the register that takes the result. -/
  | event (mask rd : Nat)
deriving DecidableEq, Repr

/-- A wait instruction that a Pod has not completed, with the tick at which its timeout expires (R369). -/
structure Wait where
  on       : WaitOn
  deadline : Nat
  /-- The tick at which the wait started. -/
  since    : Nat
deriving DecidableEq, Repr

/-- A timed action in a Pod's queue (R43, R71, R374). -/
structure TimedAction where
  /-- Its number in the Pod's issue order. -/
  id     : Nat
  /-- True once it has reached the hardware (R372). -/
  arrived : Bool
  /-- The kind: 0 STEERAT, 1 STEPAT, 2 PULSEAT, 3 ARMAT, 4 SYNAT. -/
  kind   : Nat
  /-- The virtual clock whose time the target is. -/
  vc     : Nat
  /-- The virtual clock that a STEERAT or STEPAT changes. -/
  vcChg  : Nat
  /-- The target VC time. -/
  target : Gt
  /-- The operation within the kind: for STEPAT 0 absolute, 1 relative, 2 absolute with rate; for SYNAT the operation of R374. -/
  op     : Nat
  /-- The index of the target: PPSOUT, channel, synthesizer or output. -/
  index  : Nat
  /-- The first value: the rate or increment, the width, the ratio. -/
  val    : Nat
  /-- The GTIME or delta of a step. -/
  gt     : Gt
  /-- The rate of a step with a rate. -/
  rate   : Int
  /-- What a step took. -/
  took   : Took
  /-- The tag that the completion carries (R372). -/
  tag    : Nat
deriving DecidableEq, Repr

/-- An entry of a mailbox (R39). -/
structure MboxEntry where
  /-- SENDER. -/
  sender  : Nat
  /-- TYPE. -/
  type    : Nat
  /-- ALIVE. -/
  alive   : Nat
  /-- The 24 payload bytes. -/
  payload : List Byte
  /-- The CRC as stored. -/
  crc     : Nat
deriving DecidableEq, Repr

/-- A POD_PARAM that waits for its answer (R52). -/
structure ParamPend where
  /-- HSEQ of the command. -/
  hseq : Nat
  /-- The parameter ID. -/
  id   : Nat
  /-- The value of the table entry before the command. -/
  old  : Nat
deriving DecidableEq, Repr

/-- One Pod. Its status, masks, watchdog period and fault location stand in the registers. -/
structure PodState where
  /-- g1 to g31. [31 × 64 bits; R32 spec/02; R46: 0 at POD_START; DESIGN CHOICE 0 at reset, log 2] -/
  g      : Tab Word
  /-- t0 to t7, each the 128 bits of a GTIME. [8 × 128 bits; R32 spec/02; as g] -/
  t      : Tab Nat
  /-- Flag Z. [R32 spec/02; as g] -/
  z      : Bool
  /-- Flag N. [R32 spec/02; as g] -/
  n      : Bool
  /-- Flag C. [R32 spec/02; as g] -/
  c      : Bool
  /-- Flag V. [R32 spec/02; as g] -/
  v      : Bool
  /-- The program counter, an instruction index. [14 bits; R32 spec/02; DESIGN CHOICE 0, log 2] -/
  pc     : Nat
  /-- IMEM. [64 KiB; R30, R32 spec/01 02; DESIGN CHOICE 0 in every byte, log 3] -/
  imem   : Tab Byte
  /-- DMEM. [64 KiB; R30, R32 spec/01 02; DESIGN CHOICE 0 in every byte, log 3] -/
  dmem   : Tab Byte
  /-- The image that the Pod holds. [R35, R48 spec/02; reset none] -/
  image  : Option ImageInfo
  /-- The load under way. [R46, R49 spec/02; reset none] -/
  load   : Option LoadReq
  /-- The wait in progress. [R33, R369 spec/16; reset none] -/
  wait   : Option Wait
  /-- The events EAU, GNSS_LATCH and POWER pending, each at its bit of R371; the other events show in the queues. [R371 spec/16; reset 0] -/
  events : Nat
  /-- The watchdog period in force, in µs. [R36, R361 spec/02 16; DESIGN CHOICE 0 until a start, log 2] -/
  wdog   : Nat
  /-- The tick from which the watchdog's period counts, moved on by the waits since. [R36, R361 spec/02 16; DESIGN CHOICE 0, log 2] -/
  wdogAt : Nat
  /-- The timed-action queue of 64 entries, in issue order. [R43 spec/02; reset empty] -/
  acts   : List TimedAction
  /-- The number of the next timed action. [model's own count; DESIGN CHOICE 0] -/
  nextAct : Nat
  /-- The completion queue, oldest first. [R43, R373 spec/02 16; reset empty] -/
  compl  : List Word
  /-- The entries of the completion queue that actions, frames and searches under way have reserved. [R372, R378 spec/16; reset 0] -/
  reserved : Nat
  /-- The next completion tag. [16 bits; R372 spec/16; DESIGN CHOICE 0, log 2] -/
  tag    : Nat
  /-- The tags of the NETTX frames outstanding. [at most 16; R378 spec/16; reset none] -/
  netOut : List Nat
  /-- The inbound mailbox of 32 entries, oldest first. [R39 spec/02; reset empty] -/
  mbox   : List MboxEntry
  /-- The entries written to the mailbox since reset, for the slot of the next. [model's own count; DESIGN CHOICE 0, log 9] -/
  mboxWr : Nat
  /-- The alive counter of each sender toward this Pod: 0–7 Pods, 8 host. [8 bits; R39 spec/02; DESIGN CHOICE 0, log 2] -/
  alive  : Tab Nat
  /-- The POD_PARAM awaiting an answer. [R52 spec/02; reset none] -/
  param  : Option ParamPend
  /-- The tick of that POD_PARAM. [R52 spec/02; DESIGN CHOICE 0, log 2] -/
  paramTick : Nat
deriving DecidableEq, Repr

/-- A Pod as reset leaves it. -/
def PodState.reset : PodState :=
  ⟨[], [], false, false, false, false, 0, [], [], none, none, none, 0, 0, 0, [], 0, [], 0, 0, [], [], 0, [], none, 0⟩

/-- What Pod 1 keeps of one reference (R106 to R117). Its state, rank, channel and cause stand in REF_STATE. -/
structure RefTrack where
  /-- Phase values x_m in ps by VC0 second, newest first. [R106, R116 spec/05; reset empty] -/
  hist     : List (Int × Rat)
  /-- The last phase value of a clean second. [R122 spec/05; reset none] -/
  cleanX   : Option (Int × Rat)
  /-- The last accepted x_m of a pulse reference, in ps. [R107 spec/05; reset none] -/
  expect   : Option Rat
  /-- The GTIME of the last pulse seen before an expectation exists. [R107 spec/05; reset none] -/
  lastSeen : Option Gt
  /-- The GTIMEs of the pulses rejected in the last 10 s, newest first. [R107 spec/05; reset empty] -/
  rejAt    : List Gt
  /-- True once a rejection burst was found and not yet evaluated. [R107 spec/05; reset false] -/
  burst    : Bool
  /-- The VC0 second of the last accepted pulse. [R104 spec/05; reset none] -/
  lastPulse : Option Int
  /-- The consecutive NO_STOP records, and those of TC14 for TW. [R104 spec/05; reset 0] -/
  noStop   : Nat
  noStop2  : Nat
  /-- The sum in ps and the number of the measurements of the current second, and the number missing. [R106 spec/05; reset 0] -/
  accSum   : Rat
  accN     : Nat
  missed   : Nat
  /-- The flags of the last record. [R177 spec/08; reset 0] -/
  lastFlags : Nat
  /-- True when the short test must report absent for the newest phase value. [R106 spec/05; reset false] -/
  thin     : Bool
  /-- The VC0 second at which the qualification timer last started. [R112 spec/05; DESIGN CHOICE 0, log 2] -/
  qualFrom : Int
  /-- The VC0 second at which QUALIFYING was entered, for 10 × QUAL_MIN. [R112 spec/05; DESIGN CHOICE 0, log 2] -/
  qualSince : Int
  /-- True once a medium evaluation has passed since the timer started. [R112 spec/05; reset false] -/
  medOk    : Bool
  /-- True when a parameter change restarts the qualification at the next evaluation. [R125 spec/05; reset false] -/
  restart  : Bool
  /-- The VC0 second at which the present clean run started, none without one. [R113 spec/05; reset none] -/
  cleanFrom : Option Int
  /-- The VC0 second of entry into SUSPECT. [R112 spec/05; DESIGN CHOICE 0, log 2] -/
  suspectAt : Int
  /-- The VC0 second at which the signal returned. [R112 spec/05; reset none] -/
  presentFrom : Option Int
  /-- The VC0 second at which the reference became AVAILABLE. [R118 spec/05; DESIGN CHOICE 0, log 2] -/
  availAt  : Int
  /-- The VC0 seconds of the last passing evaluation of the short, medium, long and TDEV tests. [R117 spec/05; DESIGN CHOICE 0, log 2] -/
  okShort  : Int
  okMed    : Int
  okLong   : Int
  okTdev   : Int
  /-- The last medium-window frequency, none before a medium evaluation. [R117, R121 spec/05; reset none] -/
  yMed     : Option Rat
  /-- The VC0 second of that evaluation. [R116, R121 spec/05; reset none] -/
  medAt    : Option Int
  /-- The second of the newest phase value at the last evaluation. [R106 spec/05; reset none] -/
  testedAt : Option Int
  /-- The last valid labels received, each with the VC0 second of the pulse that it labels, newest first. [R108 to R110 spec/05; reset empty] -/
  labels   : List (Int × Int)
  /-- The VC0 second assigned to the last accepted pulse, and its label, a TAI second. [R109, R110 spec/05; reset none] -/
  label    : Option (Int × Int)
  /-- The consecutive pulses without a valid ToD label. [R109 spec/05; reset 0] -/
  noLabel  : Nat
  /-- The VC0 second since which a PS instance has been out of its slave state. [R104 spec/05; reset none] -/
  outFrom  : Option Int
  /-- Of a PS reference: the upstream clockClass, the bound in ps where the upstream gives one, and whether it came from the vendor bound TLV. [R111, R176 spec/05 08; reset none] -/
  up       : Option (Nat × Option Nat × Bool)
  /-- L0_m and L1_m as last reported, in ps, with the flags UPSTREAM and TDC_DEGRADED of R182. [R176, R177 spec/08; reset 0] -/
  l0       : Nat
  l1       : Nat
  lflags   : Nat
deriving DecidableEq, Repr

/-- A reference that nothing has been measured of. -/
def RefTrack.reset : RefTrack where
  hist := []
  cleanX := none
  expect := none
  lastSeen := none
  rejAt := []
  burst := false
  lastPulse := none
  noStop := 0
  noStop2 := 0
  accSum := 0
  accN := 0
  missed := 0
  lastFlags := 0
  thin := false
  qualFrom := 0
  qualSince := 0
  medOk := false
  restart := false
  cleanFrom := none
  suspectAt := 0
  presentFrom := none
  availAt := 0
  okShort := 0
  okMed := 0
  okLong := 0
  okTdev := 0
  yMed := none
  medAt := none
  testedAt := none
  labels := []
  label := none
  noLabel := 0
  outFrom := none
  up := none
  l0 := 0
  l1 := 0
  lflags := 0

/-- The reference manager and Pod 1's program. -/
structure RefState where
  /-- What Pod 1 keeps of each reference. [R104 spec/05; reset per field] -/
  track  : Tab RefTrack
  /-- The tick of the last REF_HB write. [R115 spec/05; DESIGN CHOICE 0, log 2] -/
  hbTick : Nat
  /-- The VC0 second last evaluated. [R112 spec/05; reset none] -/
  evalAt : Option Int
  /-- The SEQ of the last record of each channel, plus 1; 0 before the first. [R106 spec/05; reset 0] -/
  seqs   : Tab Nat
  /-- The last valid label of each TODIN, with the VC0 second it belongs to; none: the next is a first label. [R108 spec/05; reset none] -/
  todLast : Tab (Option Int)
  /-- REF_TOD_CFG in force at the message boundaries of each TODIN. [R127 spec/05; reset as REF_TOD_CFG] -/
  todCfg : Tab Nat
  /-- The verdict of Pod 2 for the second: 0 GOOD, 1 NO_FIX, 2 INCONSISTENT, 3 SPOOF_SUSPECT. [R111, R240 spec/05 10; reset 1, NO_FIX as GNS_SOL.VERDICT] -/
  gnVerdict : Nat
  /-- The label of the last GN_VERDICT entry. [R110 spec/05; reset none] -/
  gnLabel : Option Int
  /-- The members whose bias Pod 0 has reported and Pod 1 has not yet acted on, by reference. [R114 spec/05; reset empty] -/
  biased : List Nat
  /-- The build-out B_O in ps of each reference. [R122, R123, R143 spec/05 06; reset 0] -/
  buildOut : Tab Rat
  /-- True from a selection until the next update of Pod 0: the build-out is not reduced at that update. [R122, R123 spec/05; reset false] -/
  boFresh : Bool
  /-- The references of the traceability source at the last update, each with its v_m. [R143 spec/06; reset none] -/
  combo  : List (Nat × Rat)
  /-- The seconds in a row in which x_TW stood beyond TWIN_PHASE. [R353 spec/15; reset 0] -/
  twOver : Nat
  /-- True while a disagreement of the twin lasts. [R353 spec/15; reset false] -/
  twDis  : Bool
  /-- True once the last selectable reference left under a dispute. [R121, R144 spec/05 06; reset false] -/
  dispute : Bool
deriving DecidableEq, Repr

/-- The reference manager as reset leaves it. -/
def RefState.reset : RefState where
  track := []
  hbTick := 0
  evalAt := none
  seqs := []
  todLast := []
  todCfg := []
  gnVerdict := 1
  gnLabel := none
  biased := []
  buildOut := []
  boFresh := false
  combo := []
  twOver := 0
  twDis := false
  dispute := false

/-- The filter and the ensemble terms of one member (R133, R138). -/
structure Member where
  /-- z = (x, y, d): member minus M0. [R133 spec/06; reset 0] -/
  zx : Rat
  zy : Rat
  zd : Rat
  /-- The covariance, upper triangle. [R133 spec/06; DESIGN CHOICE 0 before LEARNING, log 2] -/
  pxx : Rat
  pxy : Rat
  pxd : Rat
  pyy : Rat
  pyd : Rat
  pdd : Rat
  /-- The terms against ET. [R138 spec/06; reset 0] -/
  xe : Rat
  ye : Rat
  de : Rat
  /-- The weight. [R135 spec/06; reset 0] -/
  w  : Rat
  /-- The ramp factor r_i. [R131 spec/06; reset 0] -/
  ramp : Rat
  /-- The time spent in LEARNING, in ms. [R131 spec/06; reset 0] -/
  learnMs : Nat
  /-- The last normalized innovations, newest first. [R134 spec/06; reset empty] -/
  sn : List Rat
  /-- The consecutive updates beyond OUTLIER_K. [R134 spec/06; reset 0] -/
  outRun : Nat
  /-- True when the filter is to be initialized at the next update. [R133, R376 spec/06 16; reset false] -/
  init : Bool
  /-- The values written with EAUW: q1, q2, q3, R, as rationals. [R376 spec/16; DESIGN CHOICE 0, log 2] -/
  q1 : Rat
  q2 : Rat
  q3 : Rat
  r  : Rat
  /-- The source reference number written with EAUW. [R376 spec/16; reset 0x1F none] -/
  src : Nat
  /-- Outliers since LEARNING was last entered. [R133 spec/06; reset 0] -/
  outl : Nat
  /-- nu of the last update. [R133 spec/06; reset 0] -/
  nu : Rat
  /-- True once MEMBER_RESET has been received and not yet applied. [R136, R154 spec/06; reset false] -/
  resetDue : Bool
  /-- True when the reference that feeds the member was not AVAILABLE or SELECTED after the member was attributed. [R131, R134; reset false] -/
  attributed : Bool
deriving DecidableEq, Repr

/-- A member as a start that clears the ensemble state leaves it. -/
def Member.reset : Member :=
  ⟨0, 0, 0, 0, 0, 0, 0, 0, 0, 0, 0, 0, 0, 0, 0, [], 0, false, 0, 0, 0, 0, 0x1F, 0, 0, false, false⟩

/-- A step of VC0 that Pod 0 has issued and whose completion it awaits: its tag, what it is for (0 the free first step,
1 a return step, 2 SET_TIME), the reference of a first step, the delta in s, the VC0 second that VC0 reads after it,
and whether it took the free first step. -/
structure Stepping where
  tag   : Nat
  kind  : Nat
  ref   : Nat
  delta : Rat
  sec   : Int
  free  : Bool
deriving DecidableEq, Repr

/-- What the EAU has of the records of one channel (R21, R132): the GTIME and the tick of the last ones, and for the last seconds
with records the first one's time within the second in ps, the sum of the differences to it, and their number; newest first. -/
structure EauChan where
  pulses : List (Gt × Nat)
  secs   : List (Int × Rat × Rat × Nat)
deriving DecidableEq, Repr

/-- The ensemble: EAU, members, CTS loop and holdover (R128 to R171). -/
structure EnsState where
  /-- The members M0 to M7. [R128 spec/06; reset per field] -/
  mem    : Tab Member
  /-- The records that the EAU has taken, by channel. [R21, R23, R132 spec/01 06; reset none] -/
  eau    : Tab EauChan
  /-- The EAU's τ in s, as written with EAUW. [R376 spec/16; reset 1, the default ENS_INTERVAL] -/
  tau    : Rat
  /-- The EAU's OUTLIER_K. [R376 spec/16; reset 6, the default] -/
  outlierK : Rat
  /-- u0 for the next update, and the u0 of the last one. [R376, R151 spec/16 06; reset 0] -/
  u0     : Rat
  u0Used : Rat
  /-- The completed EAU updates. [32 bits; R376 spec/16; reset 0] -/
  updates : Nat
  /-- The interval boundaries of the last EAU update, of the last update of Pod 0 and of the last count of the steer watchdog, in ms of VC0. [R23, R149 spec/01 06; reset none] -/
  eauAt  : Option Int
  updAt  : Option Int
  dogAt  : Option Int
  /-- The loop integrator I_k. [R141 spec/06; reset 0] -/
  integ  : Rat
  /-- The integrator of the second loop, for VC1. [R140 spec/06; reset 0] -/
  integ1 : Rat
  /-- The errors e_k in s that were present, newest first, at most 10, since ACQUIRING began. [R169 spec/07; reset empty] -/
  errs   : List Rat
  /-- The last e_k that was present, in s. [R120, R143 spec/05 06; reset none] -/
  lastE  : Option Rat
  /-- The boundary in ms of VC0 of the last e_k present on a time-carrying source. [R300 spec/13; reset none] -/
  refMs  : Option Int
  /-- The consecutive updates within LOCK_PHASE, and those beyond 4 × LOCK_PHASE. [R144 spec/06; reset 0] -/
  lockRun : Nat
  awayRun : Nat
  /-- The (VC0 time in s, I_k) pairs of the LOCKED updates of the last HOLDOVER_LEARN, newest first. [R158 spec/07; reset empty] -/
  fit    : List (Rat × Rat)
  /-- I_H and d_H, and t_H in VC0 s. [R156 to R158 spec/07; reset 0] -/
  iH     : Rat
  dH     : Rat
  tH     : Int
  /-- The VC0 second that I_H belongs to: of the last present e_k of any source. [R156, R157 spec/07; reset 0] -/
  tI     : Int
  /-- C2 and C4 of the model at t_H, and L2_E in ps. [R159, R160 spec/07; reset 0] -/
  hmC2   : Rat
  hmC4   : Rat
  l2e    : Nat
  /-- t_H of the FREE model: the effective second of the free first step. [R159 spec/07; reset 0] -/
  tFree  : Int
  /-- The LOCKED time in ms that ENS_LEARN does not show yet. [R145 spec/06; reset 0] -/
  learnMs : Nat
  /-- True once LOCKED since the free first step. [R159 spec/07; reset false] -/
  everLocked : Bool
  /-- Set when the step of R168 has been tried since ACQUIRING and LOCKED were last entered. [R168 spec/07; reset false] -/
  stepTried : Bool
  /-- y_s as last applied. [R139, R141 spec/06; reset 0] -/
  ys     : Rat
  /-- The tag of the STEERAT on VC0 whose completion Pod 0 awaits. [R23 spec/01; reset none] -/
  steer  : Option Nat
  /-- The steps of VC0 whose completions Pod 0 awaits, oldest first. [R146, R154, R168 spec/06 07; reset none] -/
  steps  : List Stepping
  /-- True while the steering of R157 is applied, whose drift R167 folds into I_k. [R148, R167 spec/06 07; reset false] -/
  held   : Bool
  /-- True once HOLDOVER was entered by the steer watchdog and no commit has followed. [R145 spec/06; reset false] -/
  commitDue : Bool
  /-- L2 in ps as the rule of R169 last left it. [R169 spec/07; reset 0] -/
  l2     : Nat
  /-- True while Pod 0 reports that L2 grows. [R159 spec/07; reset false] -/
  grow   : Bool
  /-- A STEERAT on VC0 has completed DONE in the interval. [R149 spec/06; reset false] -/
  doneInInterval : Bool
  /-- VC0 time in s of the last commit of the ensemble state. [R145 spec/06; DESIGN CHOICE 0, log 2] -/
  commitAt : Int
  /-- True once the frame with DAC_MID has been sent since STEER_TARGET became DAC. [R151 spec/06; reset false] -/
  dacSent : Bool
  /-- The last 24-bit frame on LO_SPI. [R151 spec/06; reset none] -/
  loFrame : Option Nat
  /-- u0 of the frame that the awaited STEERAT carries. [R151 spec/06; reset 0] -/
  dacU0  : Rat
  /-- The u0 of a frame that was missed. [R151 spec/06; reset 0] -/
  dacMissed : Rat
  /-- The updates at which the DAC code was clamped. [DAC_PINNED, R151 spec/06; reset 0] -/
  dacPinned : Nat
  /-- STEERATs that completed LATE. [STEER_LATE, R23 spec/01; reset 0] -/
  steerLate : Nat
  /-- The tick until which Pod 0 keeps no claim on TWIN_LOCK. [YIELD_HOLD, R349 spec/15; reset none] -/
  yieldTo : Option Nat
deriving DecidableEq, Repr

/-- The ensemble as a start that clears the ensemble state leaves it. -/
def EnsState.reset : EnsState where
  mem := []
  eau := []
  tau := 1
  outlierK := 6
  u0 := 0
  u0Used := 0
  updates := 0
  eauAt := none
  updAt := none
  dogAt := none
  integ := 0
  integ1 := 0
  errs := []
  lastE := none
  refMs := none
  lockRun := 0
  awayRun := 0
  fit := []
  iH := 0
  dH := 0
  tH := 0
  tI := 0
  hmC2 := 0
  hmC4 := 0
  l2e := 0
  tFree := 0
  learnMs := 0
  everLocked := false
  stepTried := false
  ys := 0
  steer := none
  steps := []
  held := false
  commitDue := false
  l2 := 0
  grow := false
  doneInInterval := false
  commitAt := 0
  dacSent := false
  loFrame := none
  dacU0 := 0
  dacMissed := 0
  dacPinned := 0
  steerLate := 0
  yieldTo := none

/-- A widening that the bound engine holds (R178). -/
structure Widen where
  /-- The slot number that WIDEN_ADD and WIDEN_REL name. -/
  slot  : Nat
  /-- The cause: 0x20 timebase unlock, else a REF_STATE.CAUSE. -/
  cause : Nat
  /-- The reference, 0x1F none. -/
  ref   : Nat
  /-- The value in ps. -/
  value : Nat
  /-- The layer: 1 or 3. -/
  layer : Nat
  /-- The span that it entered, in units of 10 ms of VC0. -/
  entered : Int
  /-- The present e_k counted toward the release since the widening entered, and the source since which they count. -/
  count : Nat
  onSrc : Nat
  /-- True once the widening's own reference has returned to AVAILABLE. -/
  returned : Bool
deriving DecidableEq, Repr

/-- An input of a layer that the bound engine has received and not yet taken (R175). -/
inductive BoundInput where
  /-- L0, the base of L1, the flags UPSTREAM and TDC_DEGRADED, and the source: a reference, 0x1E the combination, 0x20
  SET_TIME, 0x3E a combination of REFINs alone, 0x40 + m a first step from reference m. -/
  | src (l0 l1 flags source : Nat)
  /-- B_O in ps and its reference. -/
  | buildOut (v : Int) (ref : Nat)
  /-- A widening enters, with the interval covered in s. -/
  | widenAdd (cause ref value layer : Nat) (span : Rat)
  /-- A widening is released, by a reference. -/
  | widenRel (slot by' : Nat)
  /-- L2 grows by the model of the ENS_HM registers (true), or stands at the given value in ps. -/
  | model (grow : Bool) (l2 : Nat)
  /-- A term of L3 begins or ends: 0 timebase unlock, 1 VDDA dip, 2 temperature. -/
  | l3 (term : Nat) (on : Bool)
  /-- CAL_EPOCH goes up: kind, index, old value and new value. -/
  | cal (kind index old new : Nat)
deriving DecidableEq, Repr

/-- The bound engine (R174 to R195). -/
structure BoundState where
  /-- The start of the span last evaluated, in units of 10 ms of VC0. [R174 spec/08; reset none] -/
  span : Option Int
  /-- The end of that span, in FRAC units. [R174 spec/08; reset 0] -/
  spanEnd : Gt
  /-- The layers L0, L1 base, build-out and L2, L3 of the span, in ps. [R174 spec/08; reset 0] -/
  l0 : Nat
  l1 : Nat
  bo : Nat
  l2 : Nat
  l3 : Nat
  /-- The total of VC0. [48 bits; R174 spec/08; reset 2^48 − 1, as UNSET gives it] -/
  total : Nat
  /-- The cause flags of the span. [R182 spec/08; reset UNSET] -/
  flags : Nat
  /-- STATE, TRACE and MODEL of the span as the Onion record holds them. [R183 spec/08; reset as ENS_TS and ENS_HOLD] -/
  stateByte : Nat
  trace : Nat
  model : Nat
  /-- The source whose terms are in force, as BoundInput.src names it. [R176, R184 spec/08; reset 0x1F none] -/
  source : Nat
  /-- UPSTREAM and TDC_DEGRADED of the source in force. [R176, R177 spec/08; reset 0] -/
  srcFlags : Nat
  /-- The widenings held, oldest first, at most 32. [R178 spec/08; reset none] -/
  widen : List Widen
  /-- True while L2 grows by R159. [R175 spec/08; reset false] -/
  grow : Bool
  /-- L2 in force while it does not grow. [R169 spec/07; reset 0] -/
  l2held : Nat
  /-- The model registers as HM_A and HM_B last journaled them. [R192 spec/08; reset empty] -/
  hm : List Nat
  /-- The inputs received in the current span, oldest first. [R175 spec/08; reset empty] -/
  inputs : List BoundInput
  /-- The VC0 time at which the timebase widening began to grow. [R179 spec/08; reset none] -/
  tbFrom : Option Gt
  /-- VDDA dip: in force, and the VC0 time 10 s after the warning cleared. [R179 spec/08; reset none] -/
  vdip : Bool
  vdipEnd : Option Gt
  /-- The junction temperature is out of range. [R179 spec/08; reset false] -/
  therm : Bool
  /-- True when the bound stood above BOUND_LIMIT in the last span judged. [R166, R174 spec/07 08; reset false] -/
  above : Bool
  /-- L4 in force of each emission point, with ONION_L4, the floor and the speed, as L4_STATE last journaled them. [R180 spec/08; reset empty, before the first span] -/
  l4 : Tab (Nat × Nat × Nat × Nat)
  /-- The boundary in ms of VC0 whose CKPT is due. [R192 spec/08; reset none] -/
  ckpt : Option Int
  /-- The Onion record that an accepted ONION_LATCH has copied, until GO reads 0. [R195 spec/08; reset none] -/
  latch : Option Nat
  /-- TIME and DSEQ of the records that the bound engine has journaled, oldest first, less those that a later record with no later
  TIME supersedes. [R183, R192 spec/08; reset empty] -/
  dseqs : List (Gt × Nat)
  /-- The second last compared with ENS_BLIMIT under STALL. [R149 spec/06; reset none] -/
  stallAt : Option Int
deriving DecidableEq, Repr

/-- The bound engine as reset leaves it. -/
def BoundState.reset : BoundState where
  span := none
  spanEnd := 0
  l0 := 0
  l1 := 0
  bo := 0
  l2 := 0
  l3 := 0
  total := 2 ^ 48 - 1
  flags := 0x1000
  stateByte := 0x10
  trace := 0x1F
  model := 0
  source := 0x1F
  srcFlags := 0
  widen := []
  grow := false
  l2held := 0
  hm := []
  inputs := []
  tbFrom := none
  vdip := false
  vdipEnd := none
  therm := false
  above := false
  l4 := []
  ckpt := none
  latch := none
  dseqs := []
  stallAt := none

/-- A journal record in staging, before it takes its DSEQ (R185, R189). -/
structure JRec where
  /-- VC0 time of the event in FRAC units. -/
  time : Gt
  /-- TYPE. -/
  type : Nat
  /-- SOURCE. -/
  src  : Nat
  /-- ALIVE. -/
  alive : Nat
  /-- PAYLOAD, up to 40 bytes. -/
  payload : List Byte
deriving DecidableEq, Repr

/-- An attestation whose signature SGN has not returned (R191). -/
structure AttPend where
  /-- The slot and the algorithm. -/
  slot : Nat
  alg  : Nat
  /-- The payloads of ATT_0, ATT_1 and ATT_2 with status SIGNED, and the time of the close. -/
  att0 : List Byte
  att1 : List Byte
  att2 : List Byte
  time : Gt
  /-- The type and the key once SGN has loaded it (R333), and true once a tamper alarm has aborted it (R339). -/
  key  : Option (Nat × List Byte)
  aborted : Bool
deriving DecidableEq, Repr

/-- The evidence journal (R185 to R196). -/
structure JrnState where
  /-- The staging store of 32,768 records, oldest first. [R189 spec/08; reset empty] -/
  staging : List JRec
  /-- The records lost from staging since the last LOSS record with cause 0. [R189 spec/08; reset 0] -/
  stageLost : Nat
  /-- The alive counter of each SOURCE. [8 bits; R185 spec/08; reset 0] -/
  alive : Tab Nat
  /-- The next DSEQ, less the era. [32 bits; R187 spec/08; reset 0] -/
  next : Nat
  /-- The records written since EN was set. [R188 spec/08; reset 0] -/
  sinceEn : Nat
  /-- The overwrite run that is open: the first DSEQ overwritten and the count. [R188 spec/08; reset none] -/
  run : Option (Nat × Nat)
  /-- The CMAC of the previous CHAIN record. [16 bytes; R190 spec/08; reset zero] -/
  prevMac : List Byte
  /-- Bytes 0 to 63 of the records since the last CHAIN record. [R190 spec/08; reset empty] -/
  chain : List Byte
  /-- Bytes 0 to 63 of the records since the last attestation. [R191 spec/08; reset empty] -/
  span : List Byte
  /-- The first DSEQ, its era, and the time of the first record of the span. [R191 spec/08; reset none] -/
  spanFirst : Option (Nat × Nat × Gt)
  /-- The record START of the present start, until it is written. [R187 spec/08; reset none] -/
  start : Option JRec
  /-- The VC0 second of the last attestation. [R191 spec/08; reset none] -/
  attAt : Option Int
  /-- The attestation waiting for its signature. [R191 spec/08; reset none] -/
  att : Option AttPend
deriving DecidableEq, Repr

/-- A host operation on a synthesizer that has been accepted (R203). -/
structure SynOp where
  /-- SYN_CTRL.OP. -/
  op   : Nat
  /-- BMIDX. -/
  idx  : Nat
  /-- The tick of acceptance. -/
  tick : Nat
deriving DecidableEq, Repr

/-- The third-order MASH modulator: the accumulators of its three stages, in units of 2^-64, and the carries of the cycles before that its
output still needs (R197). -/
structure Mash where
  a1 : Nat
  a2 : Nat
  a3 : Nat
  /-- The carry of the second stage one cycle ago, and those of the third one and two cycles ago. -/
  c2  : Nat
  c3  : Nat
  c3' : Nat
deriving DecidableEq, Repr

/-- One synthesizer. Its state, band and status bits stand in SYN_STATUS. -/
structure Synth where
  /-- NINT and FRAC in force, NINT at bit 48. [52 bits; R198 spec/09; DESIGN CHOICE 0 before a first SEARCH, log 2] -/
  ratio    : Nat
  /-- The VC0 rate that the modulator carries, in units of 2^-64. [R22, R198 spec/01 09; reset 0] -/
  rate     : Int
  /-- A VC0 rate passed by the TKP and not yet applied. [R22 spec/01; reset none] -/
  ratePend : Option Int
  /-- The loop bandwidth, 2^(code / 2) Hz. [R200 spec/09; DESIGN CHOICE 40, the acquisition bandwidth, log 2] -/
  code     : Nat
  /-- True when dither is in force, and the dither LFSR, loaded at the last SEARCH or ACQUIRE. [31 bits; R199 spec/09; reset false, 0] -/
  dither   : Bool
  lfsr     : Nat
  /-- The modulator, and the tick up to which it and the LFSR have advanced. [R197, R199 spec/09; reset 0: no relock yet] -/
  mash     : Mash
  modTick  : Nat
  /-- The VCO frequency in Hz when lock was lost, around which the governor clamps the VCO control. [R202 spec/09; reset none] -/
  gov      : Option Rat
  /-- The host operation accepted and not yet applied. [R203 spec/09; reset none] -/
  op       : Option SynOp
  /-- The tick at which the present state was entered, or the loop last narrowed. [R200, R201 spec/09; reset 0] -/
  since    : Nat
deriving DecidableEq, Repr

/-- A synthesizer as reset leaves it. -/
def Synth.reset : Synth := ⟨0, 0, none, 40, false, 0, ⟨0, 0, 0, 0, 0, 0⟩, 0, none, none, 0⟩

/-- The settings of a pulse output that a write may change while EN is 1 (R215). -/
structure PpsCfg where
  width  : Nat
  offset : Int
  align  : Nat
  pol    : Nat
deriving DecidableEq, Repr

/-- One physical output: CLKOUT0–7 at 0 to 7, PPSOUT0–7 at 8 to 15, IRIGOUT0–1 at 16 and 17, TODOUT0–3 at 18 to 21. -/
structure OutPin where
  /-- Forced to its safe state by SYNAT SAFE. [R209, R374 spec/09 16; reset false] -/
  forced  : Bool
  /-- A RELEASE that takes effect at the next cycle, pulse or frame start. [R374 spec/16; reset false] -/
  release : Bool
  /-- At its safe state since a timebase failure. [R210 spec/09; reset false] -/
  tbHold  : Bool
  /-- The whole VC0 second at which the output resumes after a timebase failure. [R210 spec/09; reset none] -/
  from'   : Option Gt
  /-- Held low by RELOCK_MUTE. [R206 spec/09; reset false] -/
  muted   : Bool
  /-- The VC0 time of a realign event not yet served. [R207 spec/09; reset none] -/
  realign : Option Gt
  /-- A VC0 time at which a clock output has a rising edge, since its last realignment. [R207 spec/09; reset none: not known] -/
  edge    : Option Gt
  /-- The last pulse: its active edge in ps of raw timebase time, and its width in ps. [R213, R214 spec/09; reset none] -/
  last    : Option (Int × Nat)
  /-- x_A as last used. [R211 spec/09; reset none] -/
  xA      : Option Gt
  /-- The settings in force, newest first, each with the tick from which it holds. [R215 spec/09; reset empty] -/
  cfgs    : List (Nat × PpsCfg)
  /-- The VC0 time at which EN went to 1. [R212 spec/09; reset none] -/
  enAt    : Option Gt
  /-- The control word in force. [SYN_TOD_CTRL at message boundaries, R221 spec/09; reset 0] -/
  ctl     : Nat
  /-- MSGSEQ of the next message. [32 bits; R219 spec/09; DESIGN CHOICE 0, log 2] -/
  msgSeq  : Nat
  /-- The last frame or message sent: the bytes of a ToD message, or one byte per IRIG-B bit (0, 1, or 2 for a position marker). [R216, R218 spec/09; reset empty] -/
  sent    : List Byte
  /-- The VC0 time and the tick at which it started. [R216, R218 spec/09; reset none] -/
  sentAt  : Option (Gt × Nat)
  /-- The end of the pulse, symbol or character that was under way when EN was cleared, in ps of raw timebase time. [R209 spec/09; reset none] -/
  endAt   : Option Int
deriving DecidableEq, Repr

/-- An output as reset leaves it. -/
def OutPin.reset : OutPin := ⟨false, false, false, none, false, none, none, none, none, [], none, 0, 0, [], none, none⟩

/-- The synthesis island. -/
structure SynState where
  /-- SYN0 to SYN3. [R197 spec/09; reset per field] -/
  syn : Tab Synth
  /-- The physical outputs. [R14 spec/01; reset per field] -/
  out : Tab OutPin
deriving DecidableEq, Repr

/-- The keep-alive island, the clock control and the start sequence. -/
structure ClkState where
  /-- The keep-alive state valid flag. [R431 spec/19; reset 0] -/
  kaValid : Bool
  /-- The main rails are up and reset is released. [R429 spec/19; reset false] -/
  up : Bool
  /-- The junction temperature in °C. [an input, R179, R204 spec/08 09; DESIGN CHOICE 25, log 2] -/
  temp : Int
  /-- The domains of CLK_GATE in QUIESCE. [R442 spec/19; reset 0] -/
  quiesce : Nat
  /-- The domains of CLK_GATE that are restarting. [R442 spec/19; reset 0] -/
  reopen : Nat
  /-- The tick at which a domain has entered QUIESCE, by domain. [R442 spec/19; reset 0] -/
  quiesceAt : Tab Nat
  /-- PWRGOOD has fallen and no MRAM record starts any more. [R430 spec/19; reset false] -/
  pgFell : Bool
  /-- The kind of the present start: 0 cold, 1 warm start, 2 warm reset. [R443 spec/19; reset 0] -/
  kind : Nat
  /-- A tamper alarm has come during a start: boot halts at the next checkpoint. [R338 spec/14; reset false] -/
  tamper : Bool
  /-- TEST_MODE was high at the last reset release: the main-rail islands are held in reset. [R478 spec/21; reset false] -/
  test : Bool
  /-- A start sequence waits to run. [R443 spec/19; reset true: the engine is held in reset] -/
  starting : Bool
  /-- The timebase has locked since it last started, and RAWCNT counts. [R59 spec/03; reset false] -/
  counts : Bool
deriving DecidableEq, Repr


/-- A command that the engine has accepted from the CMD ring and not answered (R394). -/
structure Accepted where
  /-- HSEQ. -/
  hseq  : Nat
  /-- OPCODE. -/
  op    : Nat
  /-- ORDER. -/
  order : Bool
  /-- RES_ADDR and RES_LEN. -/
  resAddr : Nat
  resLen  : Nat
  /-- The host memory at RES_ADDR will not take the result (R394). -/
  resErr  : Bool
deriving DecidableEq, Repr

/-- A 64-byte ring entry before DSEQ, PHASE and its place are fixed (R390). -/
structure RingEntry where
  /-- HSEQ field. -/
  hseq : Nat
  /-- TYPE. -/
  type : Nat
  /-- STATUS, or SOURCE. -/
  status : Nat
  /-- The payload bytes used. -/
  payload : List Byte
  /-- FRAG. -/
  frag : Nat
  /-- CTRL without PHASE: bit 1 INDIRECT, bit 0 UNSOL. -/
  ctrl : Nat
deriving DecidableEq, Repr

/-- The host interface (R384 to R413). -/
structure HifState where
  /-- Host memory as the engine's DMA sees it. [R389 spec/17; DESIGN CHOICE 0 in every byte, log 3] -/
  mem : Tab Byte
  /-- The commands accepted and incomplete, in HSEQ order. [at most 64; R394 spec/17; reset empty] -/
  accepted : List Accepted
  /-- The responses held while RSP is disabled, oldest first. [R412 spec/17; reset empty] -/
  held : List RingEntry
  /-- The first DSEQ lost and the count lost on each ring, for its LOSS record. [R391 spec/17; reset none] -/
  loss : Tab (Option (Nat × Nat))
  /-- The posted receive buffers, oldest first. [at most 4,096; R396 spec/17; reset empty] -/
  bufs : List Nat
  /-- The MSI-X vectors raised, oldest first. [R385 spec/17; reset empty] -/
  msix : List Nat
  /-- The tick, plus 1, at which each ring's vector was last raised, and the ring vectors that HOLDOFF holds back. [R385 spec/17; reset none] -/
  msixAt : Tab Nat
  msixDue : List Nat
  /-- The HSEQs of the entries whose arguments, and of those whose results, the host memory answers with an error. [R394 spec/17; reset none] -/
  argErr : List Nat
  resErr : List Nat
  /-- The snapshot in progress: the instant's tick, and the HSEQ of each SNAPSHOT command that joined. [R403 spec/17; reset none] -/
  snap : Option (Nat × List Nat)
  /-- The statistics of the TDC as the last snapshot copied them, by register address. [R403 spec/17; DESIGN CHOICE 0, log 2] -/
  snapTdc : Tab Nat
  /-- PLC_CACHE and PLC_LEDGER as the last snapshot copied them. [R403 spec/17; DESIGN CHOICE 0, log 2] -/
  snapLedger : Nat × Nat
  /-- The tick of the last KICK of the host watchdog, or of its start. [R413 spec/17; DESIGN CHOICE 0, log 2] -/
  kickTick : Nat
  /-- The levels of GPIO0 to GPIO15 as the board drives them. [inputs; R477, R480 spec/21; DESIGN CHOICE 0 before a start, log 2] -/
  gpio : Nat
  /-- The reply of the last SPI or I²C transaction. [R388 spec/17; reset empty] -/
  mgmtReply : List Byte
  /-- The outcome of the last read on the bus: the master, and the value or the error cause. [R408 spec/17; reset none] -/
  lastRead : Option (Nat × Nat × Nat)
  /-- The holding copies, by the address of the register's lowest word. [R79 spec/03; reset 0] -/
  hold : Tab Nat
  /-- The words of multi-word registers written so far, by address. [staging words, R79 spec/03; reset as the register] -/
  staged : Tab Nat
  /-- The next DSEQ of each ring. [32 bits; R391 spec/17; reset 0] -/
  dseq : Tab Nat
  /-- The last result longer than 48 bytes. [R394 spec/17; reset empty] -/
  result : List Byte
  /-- The TLP errors reported by AER as Completer Abort. [R385 spec/17; reset 0] -/
  aborts : Nat
deriving DecidableEq, Repr

/-- The host interface as reset leaves it. -/
def HifState.reset : HifState where
  mem := []
  accepted := []
  held := []
  loss := []
  bufs := []
  msix := []
  msixAt := []
  msixDue := []
  argErr := []
  resErr := []
  snap := none
  snapTdc := []
  snapLedger := (0, 0)
  kickTick := 0
  gpio := 0
  mgmtReply := []
  lastRead := none
  hold := []
  staged := []
  dseq := []
  result := []
  aborts := 0

/-- The FLT island besides its registers (R418 to R424). -/
structure FltState where
  /-- The sources raised since the last collection tick. [R418 spec/18; reset empty] -/
  raised : List Nat
  /-- The clears that arrived in the current tick, each with who asked: 0 host, 1–8 Pod 0–7. [R424 spec/18; reset empty] -/
  clears : List (Nat × Nat)
  /-- The acknowledgement that arrived in the current tick, and whether a record was latched when the tick began. [R419 spec/18; reset none] -/
  ack : Option Nat
  /-- The conditions that are present now, by source. [FLT_CAUSE of the condition sources, R505 spec/18; reset none present] -/
  cond : List Nat
  /-- FSEQ of the next record. [32 bits; R420 spec/18; reset 0] -/
  fseq : Nat
  /-- FATAL_N and ERR_N driven low. [pins; R422 spec/18; reset both high impedance] -/
  errLow : Bool
  fatalLow : Bool
  /-- The record to whose sources Pod 3 has reacted, by FSEQ, and those sources as a mask. [R425 spec/18; reset none] -/
  noted : Option (Nat × Nat)
  /-- The tick at which the latched record opened. [R425 spec/18; DESIGN CHOICE 0, log 2] -/
  latchTick : Nat
  /-- The tick from which RELOCK_WAIT counts for a synthesizer, plus 1. [R425 spec/18; reset none] -/
  relock : Tab Nat
  /-- The tick from which TB_SAFE counts. [R425 spec/18; reset none] -/
  tbWatch : Option Nat
  /-- The outputs that Pod 3 has forced for TB_SAFE, as a mask. [R425 spec/18; reset 0] -/
  tbForced : Nat
  /-- The tick at which Pod 3 next clears by FLT_AUTO_CLASS, plus 1; 0 before its first acknowledgement. [R425 spec/18; reset 0] -/
  clearAt : Nat
deriving DecidableEq, Repr

/-- The data that Pod 2 keeps (R241): the ephemerides by satellite with their reference times, the almanac by constellation and
the ionosphere and UTC parameters with the TAI second of their reception, the held position, and the clock frequency. -/
structure GnKept where
  eph  : List (Nat × Nat × Int)
  alm  : Tab (Option Int)
  iono : Option Int
  pos  : Option (Int × Int × Int)
  freq : Rat
deriving DecidableEq, Repr

/-- No kept data. -/
def GnKept.reset : GnKept := ⟨[], [], none, none, 0⟩


/-- One slot of the vault besides its metadata word, which stands in KEY_SLOT_META (R323, R341). -/
structure KeySlot where
  /-- The key material in the key store, empty where the store holds none. [R326 spec/14; reset empty] -/
  key  : List Byte
  /-- The public key, empty for a secret. [R323, R330 spec/14; reset empty] -/
  pub  : List Byte
  /-- PGEN. [32 bits; R323 spec/14; reset 0] -/
  pgen : Nat
  /-- KCV. [32 bits; R327 spec/14; DESIGN CHOICE 0 before a key, log 2] -/
  kcv  : Nat
deriving DecidableEq, Repr

/-- The record of a slot in MRAM (R328). CRC and the commit word follow from the other fields. -/
structure Husk where
  slot   : Nat
  parent : Nat
  gen    : Nat
  pgen   : Nat
  kind   : Nat
  use    : Nat
  type   : Nat
  state  : Nat
  rcount : Nat
  kcv    : Nat
  wrapped : List Byte
  /-- The record's CRC matches. -/
  good   : Bool
deriving DecidableEq, Repr

/-- An entry of the tamper log (R338). -/
structure TamperEntry where
  input  : Nat
  cls    : Nat
  ka     : Nat
  railsUp : Bool
deriving DecidableEq, Repr

/-- A KEY_SIGN that SGN has not answered (R332), with the type and the key once SGN has loaded it (R333). -/
structure SignReq where
  hseq   : Nat
  slot   : Nat
  digest : List Byte
  key    : Option (Nat × List Byte)
deriving DecidableEq, Repr

/-- The vault and the tamper logic of the keep-alive island. -/
structure KeyState where
  /-- The slots. [R323 spec/14; reset per field] -/
  slots : Tab KeySlot
  /-- The root region: the root secret, none while it is blank. [256 bits; R330 spec/14; reset none, a new device] -/
  root  : Option (List Byte)
  /-- RCOUNT. [32 bits; R330 spec/14; DESIGN CHOICE 0 in a new device, log 2] -/
  rcount : Nat
  /-- The tamper log, oldest first. [16 entries; R338 spec/14; reset empty] -/
  log   : List TamperEntry
  /-- The levels of TAMPER0 to TAMPER3 and, at bit 4, of MESH_IN. [inputs; R337 spec/14; DESIGN CHOICE 0, log 2] -/
  pins  : Nat
  /-- True once a health test of the random bit generator has failed. [R331 spec/14; reset false] -/
  rbgFail : Bool
  /-- ROOT_NEW, kept with the root. [R330 spec/14; DESIGN CHOICE kept through resets, log 11; reset false] -/
  rootNew : Bool
  /-- The KEY_SIGN requests that wait, oldest first. [at most 16; R332 spec/14; reset empty] -/
  sgn   : List SignReq
  /-- The consecutive samples that have found each tamper input active or the mesh mismatching. [R337 spec/14; reset 0 each] -/
  runs  : List Nat
  /-- The LFSR of MESH_OUT. [31 bits; R337 spec/14; DESIGN CHOICE 1, log 2] -/
  mesh  : Nat
  /-- MESH_OUT one period ago. [R337 spec/14; DESIGN CHOICE false, log 2] -/
  meshOut : Bool
deriving DecidableEq, Repr


/-- The ensemble state that Pod 0 commits (R145). -/
structure EnsSave where
  mem     : Tab Member
  integ   : Rat
  integ1  : Rat
  learn   : Nat
  learned : Bool
  everLocked : Bool
  /-- ENS_MEM_STAT.STATUS of each member. -/
  stat    : List Nat
deriving DecidableEq, Repr

/-- What a record in MRAM holds (R434). -/
inductive MramVal where
  /-- The leap-second table, base entry first (R75). -/
  | leap (t : List LeapEntry)
  /-- A Husk (R328). -/
  | husk (h : Husk)
  /-- The ensemble state (R145). -/
  | ens (e : EnsSave)
  /-- The kept GNSS data (R241). -/
  | kept (k : GnKept)
  /-- A record of bytes: entries of the fault log (R420). -/
  | recs (l : List (List Byte))
  /-- A record of numbers: the key policy, the tamper configuration, DSEQ and ERA, CAL_EPOCH, CLOCK_ID, the twin's
  start count, sealing counts. -/
  | nums (l : List Nat)
deriving DecidableEq, Repr

/-- A pair of slots, each with SEQ and the record when it is committed (R434, R435). -/
structure MramPair where
  a : Option (Nat × MramVal)
  b : Option (Nat × MramVal)
deriving DecidableEq, Repr

/-- A record that waits to be written, and the commands that complete after its commit: HSEQ, opcode and result
(R436, R437). -/
structure MramReq where
  rid  : Nat
  val  : MramVal
  resp : List (Nat × Nat × List Byte)
deriving DecidableEq, Repr

/-- The MRAM. -/
structure MramState where
  /-- The slot pairs by record. [R434 spec/19; reset none committed, a new device] -/
  pairs : Tab MramPair
  /-- The records that wait, in request order. [R437 spec/19; reset empty] -/
  queue : List MramReq
  /-- The record in front had been started when the deferral in force began: it completes. [R430, R437 spec/19; reset false] -/
  begun : Bool
deriving DecidableEq, Repr


/-- A telemetry record (R459). -/
structure TelRec where
  /-- TYPE. -/
  type : Nat
  /-- SOURCE. -/
  src  : Nat
  /-- The payload. -/
  payload : List Byte
  /-- The records lost at the staging queue since the one before it. -/
  gap  : Nat
deriving DecidableEq, Repr

/-- The telemetry stream (R459 to R463). -/
structure TelState where
  /-- The staging queue of 32,768 records, oldest first. [R460 spec/20; reset empty] -/
  staging : List TelRec
  /-- The records lost since the last one staged. [R460 spec/20; reset 0] -/
  gap : Nat
  /-- The stream DSEQ of the UDP destination. [32 bits; R462 spec/20; reset 0] -/
  dseq : Nat
  /-- The tick at which an archive write found no DRAM bandwidth: a ledger update, which comes after it, finds none then
  either. [R29 spec/01; reset none] -/
  shortAt : Option Nat
  /-- The open datagram: its records as laid out, the count, the first DSEQ, and the tick of its first record. [R462 spec/20; reset none] -/
  dgram : Option (List Byte × Nat × Nat × Nat)
  /-- DGSEQ of the next datagram. [32 bits; R462 spec/20; reset 0] -/
  dgseq : Nat
  /-- The archive's entry index. [R463 spec/20; DESIGN CHOICE 0, log 2] -/
  archIdx : Nat
  /-- The 10 ms spans counted toward the next ONION record. [R459 spec/20; DESIGN CHOICE 0, log 2] -/
  spans : Nat
  /-- The tick from which the next staged record may leave: 4,000,000 records a second at most. [R460 spec/20; DESIGN CHOICE 0, log 2] -/
  next : Nat
deriving DecidableEq, Repr

/-- The performance counters besides their registers (R454 to R457). -/
structure PmcState where
  /-- The VC0 time of the last boundary taken. [R456 spec/20; reset none] -/
  last : Option Gt
  /-- The tick of the last latch. [R456 spec/20; DESIGN CHOICE 0, log 2] -/
  tick : Nat
  /-- The window's own tally of RX_BYTES, TX_BYTES, RX_FRAMES, TX_FRAMES of each port, at 4p + k. [R457 spec/20; reset 0] -/
  tally : Tab Nat
  /-- The clears that have been written and not applied, oldest first: groups and the tick of acceptance. [R454 spec/20; reset none] -/
  clear : List (Nat × Nat)
  /-- The tick at which LEN last changed: boundaries of the new LEN come after it. [R456 spec/20; DESIGN CHOICE 0, log 2] -/
  lenAt : Nat
deriving DecidableEq, Repr

/-- The check units besides their registers. -/
structure ChkState where
  /-- Per unit, the last alive value kept for each key, plus 1. [R465 spec/20; reset none] -/
  base : Tab (Tab Nat)
deriving DecidableEq, Repr


/-- The twin island besides its registers (R342 to R357). -/
structure TwnState where
  /-- The start count of the nonce: 0 until the first link frame of a start has been prepared, else the count plus 1. [32 bits; R344 spec/15; reset 0] -/
  starts  : Nat
  /-- The next frame count. [63 bits; R344 spec/15; DESIGN CHOICE 0, log 2] -/
  frames  : Nat
  /-- The start count and the frame count of the last frame taken from the peer. [R344 spec/15; reset none] -/
  rxLast  : Option (Nat × Nat)
  /-- The last frame sent on the twin lanes, before sealing, and the last word on TWIN_HB_TX. [R344, R345 spec/15; reset none, 0] -/
  txFrame : Option TwinFrame
  txWord  : Nat
  /-- The alive counter of the next heartbeat word. [8 bits; R345 spec/15; DESIGN CHOICE 0, log 2] -/
  txAlive : Nat
  /-- The tick of the last valid heartbeat of the link and of the pins. [R346 spec/15; reset none] -/
  linkAt  : Option Nat
  hbAt    : Option Nat
  /-- What the peer last reported over the link and over the pins. [R346 spec/15; reset none] -/
  link    : Option PeerSays
  hb      : Option PeerSays
  /-- The peer's VC0 bound without L4, in ps. [R176, R344 spec/08 15; reset none] -/
  peerBound : Option Nat
  /-- The alive counter of the last heartbeat word taken. [R345 spec/15; reset none] -/
  hbAlive : Option Nat
  /-- The tick since which both paths have been present with no FAILING report. [R346 spec/15; reset none] -/
  bothFrom : Option Nat
  /-- A claim is requested. [R347, R349 spec/15; reset false] -/
  claim   : Bool
  /-- This engine pulls TWIN_LOCK low. [pin; R347 spec/15; reset high impedance] -/
  pull    : Bool
  /-- The handover under way: HSEQ, and the tick of the HANDOVER frame. [R350 spec/15; reset none] -/
  handover : Option (Nat × Nat)
  /-- The items of the CHECK frame that differ now, each with the own and the peer's check value. [R354 spec/15; reset none] -/
  differ  : List (Nat × Nat × Nat)
  /-- The VC0 second of the peer's last pulse for which a HEARTBEAT has been taken. [R110 spec/05; reset none] -/
  labelled : Option Int
  /-- The tick, plus 1, of the last HEARTBEAT (0), CHECK (2) and heartbeat word (3); 0: none. [R344, R345 spec/15; reset 0] -/
  sent    : Tab Nat
  /-- The span of the last BOUND frame, and the VC0 millisecond of the last sample of TWIN_LOCK. [R344, R347 spec/15; reset none] -/
  boundSpan : Option Int
  lockMs  : Option Int
deriving DecidableEq, Repr

/-- The twin island as reset leaves it. -/
def TwnState.reset : TwnState :=
  ⟨0, 0, none, none, 0, 0, none, none, none, none, none, none, none, false, false, none, [], none, [], none, none⟩


/-- A timestamp of a frame at the MDI (R252): the captured tick, FINE in units of 800 ps / 65,536, the corrected time on
each virtual clock, and the flags TB_UNCERTAIN and VC_UNSET, the latter one bit per clock. -/
structure Stamp where
  tick  : Nat
  fine  : Nat
  times : List Gt
  unset : Nat
  uncertain : Bool
deriving DecidableEq, Repr

/-- A received service frame that waits in an ingress buffer (R257, R259). -/
structure RxItem where
  /-- 0 PTP_EVENT, 1 PTP_GENERAL, 2 NTS, 3 NTP. -/
  cls   : Nat
  /-- The VLAN priority of the frame. -/
  prio  : Nat
  /-- The frame from the destination address to the byte before the FCS. -/
  bytes : List Byte
  stamp : Stamp
  /-- It lies in the part of the buffer kept for PTP_EVENT. -/
  kept  : Bool
deriving DecidableEq, Repr

/-- Who waits for the completion of a frame. -/
inductive TxOwner where
  /-- A FRAME_TX, by HSEQ. -/
  | host (q : Nat)
  /-- A NETTX of a Pod, by tag. -/
  | pod (p tag : Nat)
  /-- Nobody: the engine composed it. -/
  | engine
deriving DecidableEq, Repr

/-- What an NTP or NTS response answers with (R299, R303, R316). -/
inductive NseKind where
  /-- The answer to a plain NTP request. -/
  | ntp
  /-- KoD RATE. -/
  | kod
  /-- A NAK, with the UID field of the request. -/
  | nak (uid : List Byte)
  /-- The answer to an NTS request: the UID field, the slot that opened the cookie, ALG, IDENT, IDGEN, C2S, S2C, the number of
  fresh cookies, and the slot, its generation and the first sealing count that they take. -/
  | nts (uid : List Byte) (opened alg ident idgen : Nat) (c2s s2c : List Byte) (cookies slot gen first : Nat)
deriving DecidableEq, Repr

/-- A response of the NSE before its departure tick is fixed (R298, R300). -/
structure NseReply where
  /-- The request's frame. -/
  req   : List Byte
  /-- The receive t_MDI of the request. -/
  rx    : Stamp
  kind  : NseKind
deriving DecidableEq, Repr

/-- What a frame in a transmit queue holds. -/
inductive TxBody where
  /-- Bytes from the destination address to the byte before the FCS. -/
  | raw (bytes : List Byte)
  /-- A message of a PTP instance, to an address (empty: multicast). -/
  | ptp (i : Nat) (msg : PtpMsg) (addr : List Byte)
  /-- A response of the NSE. -/
  | nse (r : NseReply)
deriving DecidableEq, Repr

/-- A frame in a transmit queue (R260, R264, R272). -/
structure TxItem where
  /-- The number of the frame, equal for both copies of a PRP pair. -/
  id     : Nat
  owner  : TxOwner
  body   : TxBody
  /-- The length of R258, padded. -/
  len    : Nat
  tc     : Nat
  launch : Option Gt
  /-- QSEQ of a two-step stamp. -/
  twoStep : Option Nat
  /-- OS_OFF of a one-step time. -/
  oneStep : Option Nat
  /-- The sequence number of the PRP trailer: the frame has a copy on the other port of the pair. -/
  prp    : Option Nat
  /-- The status with which it ends when it departs: 0 SENT, 3 SENT_LATE once its launch time had passed at the head. -/
  late   : Option Nat
  /-- The VC time at which a PTP message is due and its interval, for PTP_TX_LATE (R282). -/
  due    : Option (Gt × Gt)
  /-- The port for which the frame was queued. -/
  home   : Nat
  /-- The first tick at which it may depart: 2 µs after its composition for a message with an ICV (R292). -/
  ready  : Nat
deriving DecidableEq, Repr

/-- A set of the time-aware shaper: gates and intervals, base time and cycle (R261, R262). -/
structure QbvSet where
  gcl   : List (Nat × Nat)
  base  : Gt
  cycle : Nat
deriving DecidableEq, Repr

/-- A source in the PRP node table: its address and the frames received from it, each with sequence number, LSDU size, LAN
and tick (R271). -/
structure PrpNode where
  addr : List Byte
  seen : List (Nat × Nat × Nat × Nat)
deriving DecidableEq, Repr

/-- One Ethernet port besides its registers (R250 to R274). -/
structure PortState where
  /-- The received service frames that wait, oldest first. [R259 spec/11; reset empty] -/
  rx     : List RxItem
  /-- The transmit queues, in the order of queueing. [R260 spec/11; reset empty] -/
  tx     : List TxItem
  /-- The instant at which the last frame and its gap end, in units of 800 ps / 65,536. [R264 spec/11; reset 0] -/
  busy   : Nat
  /-- The last frame sent, without FCS, and its stamp. [R264 spec/11; reset none] -/
  sent   : Option (List Byte × Stamp)
  /-- The operating and the pending set of the shaper, the tick of GO, and the entry that the shaper stands at. [R262 spec/11; reset none] -/
  oper   : Option QbvSet
  pend   : Option QbvSet
  goTick : Nat
  entry  : Nat
  /-- The tick until which a received pause stops each class. [R266 spec/11; reset 0] -/
  paused : Tab Nat
  /-- The tick of the last pause frame sent while occupancy is high, plus 1, per priority and 8 for the port; 0: none. [R265 spec/11; reset 0] -/
  pausing : Tab Nat
  /-- The timestamp queue of 1,024 entries of 32 bytes, oldest first. [R272 spec/11; reset empty] -/
  tsq    : List (List Byte)
  /-- The stamps lost since the last OVERFLOW entry, and the first QSEQ lost. [R272 spec/11; reset none] -/
  tsqLost : Option (Nat × Nat)
  /-- The next QSEQ. [32 bits; R272 spec/11; DESIGN CHOICE 0, log 2] -/
  qseq   : Nat
  /-- The attempts of the head frame in half duplex. [R268 spec/11; reset 0] -/
  tries  : Nat
  /-- Kept on the even port of a pair: the next PRP sequence number, the node table, most recently seen first, and the tick of the last supervision frames, plus 1. [R269, R271 spec/11; DESIGN CHOICE 0, log 2; reset empty] -/
  prpSeq : Nat
  nodes  : List PrpNode
  supAt  : Nat
deriving DecidableEq, Repr

/-- A port as reset leaves it. -/
def PortState.reset : PortState :=
  ⟨[], [], 0, none, none, none, 0, 0, [], [], [], none, 0, 0, 0, [], 0⟩

/-- The ports. -/
structure MacState where
  /-- P0 to P7 and MGMT at 8. [R250, R267 spec/11; reset per field] -/
  port   : Tab PortState
  /-- The number of the next frame. [model's own count; DESIGN CHOICE 0] -/
  next   : Nat
  /-- The data that the MDIO frame under way has read. [R415 spec/17; reset none] -/
  mdio   : Option Nat
deriving DecidableEq, Repr

/-- The configuration of a PTP instance, every field resolved (R275, R278). -/
structure PtpCfg where
  role : Nat
  profile : Nat
  version : Nat
  domain : Nat
  port : Nat
  transport : Nat
  ipaddr : List Byte
  vc : Nat
  ps : Nat
  mode : Nat
  twoStep : Bool
  logAnnounce : Int
  logSync : Int
  logDelay : Int
  annTimeout : Nat
  priority1 : Nat
  priority2 : Nat
  localPriority : Nat
  masterOnly : Bool
  macDest : Nat
  grantMaxDur : Nat
  grantReqDur : Nat
  auth : Nat
  authSlot : Option Nat
  spp : Nat
  boundTlv : Nat
  classOverride : Nat
deriving DecidableEq, Repr

/-- A foreign master of an instance (R279). -/
structure Foreign where
  clock : Nat
  port  : Nat
  addr  : List Byte
  ann   : PtpAnnounce
  flags : Nat
  log   : Int
  /-- The bound of its bound TLV in ns, none without one. -/
  bound : Option Nat
  /-- The VC times of its Announces within 4 intervals, newest first. -/
  times : List Gt
deriving DecidableEq, Repr

/-- A message that a slave instance uses for its exchanges (R279, R284): sequence number, the times in FRAC units that are
known, and the correction in 2^-16 ns. -/
structure PtpTimed where
  seq   : Nat
  tx    : Option Gt
  rx    : Option Gt
  corr  : Int
deriving DecidableEq, Repr

/-- A unicast request or grant that a slave instance keeps toward one master (R290). -/
structure SlaveGrant where
  addr  : List Byte
  type  : Nat
  /-- 0 asked, 1 held, 2 failed. -/
  st    : Nat
  /-- The VC time of the request, of the grant or of the failure. -/
  at'   : Gt
  /-- The granted duration in s. -/
  dur   : Nat
deriving DecidableEq, Repr

/-- One PTP instance besides its registers (R275 to R295). -/
structure PtpInst where
  /-- The configuration; none: PTP_CONFIG has not been accepted. [R275 spec/12; reset none] -/
  cfg     : Option PtpCfg
  /-- The PTP_MASTERS list. [R290 spec/12; reset empty] -/
  masters : List (List Byte)
  /-- The foreign masters. [R279 spec/12; reset empty] -/
  foreign : List Foreign
  /-- The selected master, or the better one of a PASSIVE instance. [R279 spec/12; reset none] -/
  sel     : Option (Nat × Nat)
  /-- The VC time from which LISTENING counts. [R279 spec/12; DESIGN CHOICE 0, log 2] -/
  listen  : Gt
  /-- The complete exchanges with the selected master since UNCALIBRATED. [R279 spec/12; reset 0] -/
  exchanges : Nat
  /-- The last Sync, Delay_Req or Pdelay_Req of the exchange under way. [R279, R284 spec/12; reset none] -/
  sync    : Option PtpTimed
  dreq    : Option PtpTimed
  /-- t2, t3 of the Pdelay_Resp under way and its corrections, none before it. [R284 spec/12; reset none] -/
  presp   : Option PtpTimed
  /-- d_link in ps of the last complete peer-delay measurement. [R284 spec/12; reset none] -/
  link    : Option Rat
  /-- The complete exchanges not yet used: the second of the instance's VC, d and o in ps. [R284 spec/12; reset empty] -/
  offs    : List (Int × Rat × Rat)
  /-- PSn_PPS as emitted last and before: the VC time, the second of the recovered time and whether the master's label is valid, newest first. [R110, R284 spec/05 12; reset none] -/
  pulses  : List (Gt × Int × Bool)
  /-- The last sequence numbers sent, by message type. [R281 spec/12; DESIGN CHOICE 0, log 2] -/
  seqs    : Tab Nat
  /-- The intervals of Sync, Announce and Delay_Req last served, by message type. [R282 spec/12; reset none] -/
  served  : Tab (Option Int)
  /-- The Follow_Ups to be sent: the message as composed and the tick of the departure. [R281 spec/12; reset empty] -/
  follow  : List (PtpMsg × List Byte × Nat)
  /-- The last message that departed. [R281 spec/12; reset none] -/
  sent    : Option PtpMsg
  /-- The unicast requests of a SLAVE instance. [R290 spec/12; reset empty] -/
  asks    : List SlaveGrant
  /-- The VC times of the last FOREIGN_BETTER event of each foreign master. [R280 spec/12; reset empty] -/
  better  : List (Nat × Nat × Gt)
deriving DecidableEq, Repr

/-- An instance as reset leaves it. -/
def PtpInst.reset : PtpInst :=
  ⟨none, [], [], none, 0, 0, none, none, none, none, [], [], [], [], [], none, [], []⟩

/-- A unicast grant (R288). -/
structure PtpGrant where
  inst  : Nat
  key   : GrantKey
  /-- logInterMessagePeriod and the granted duration in s. -/
  log   : Int
  dur   : Nat
  /-- The VC time of the grant. -/
  time  : Gt
  /-- φ in µs. -/
  phi   : Nat
  /-- The residence: 0 cache, 1 DRAM. -/
  dram  : Bool
  /-- The interval last served. -/
  served : Option Int
deriving DecidableEq, Repr

/-- The PTP engine. -/
structure PtpState where
  /-- PI0 to PI7. [R275 spec/12; reset per field] -/
  inst   : Tab PtpInst
  /-- The unicast grants, in order of granting. [at most 1,048,576; R288 spec/12; reset empty] -/
  grants : List PtpGrant
deriving DecidableEq, Repr

/-- The ledger record of an identity (R311). -/
structure LedgerRec where
  idgen : Nat
  kind  : Nat
  alg   : Nat
  first : Nat
  last  : Nat
  reqs  : Nat
  naks  : Nat
  shed  : Nat
  kod   : Nat
  mints : Nat
  addr  : List Byte
  uport : Nat
  ingress : Nat
  poll  : Nat
  rate  : Nat
deriving DecidableEq, Repr

/-- A record of an identity that was never allocated. -/
def LedgerRec.reset : LedgerRec := ⟨0, 0, 0, 0, 0, 0, 0, 0, 0, 0, [], 0, 0, 0, 0⟩

/-- The NSE and the Placer besides their registers (R298 to R322). -/
structure NseState where
  /-- Per master slot: the generation that the count belongs to and the next sealing count. The end of the committed run stands in MRAM. [R305 spec/13; reset none] -/
  seals  : Tab (Option (Nat × Nat))
  /-- The ledger in DRAM, by identity. [R310, R311 spec/13; reset free] -/
  ledger : Tab LedgerRec
  /-- The session cache: the working state of the identities that are cached. [at most 131,072; R312 spec/13; reset empty] -/
  cache  : Tab (Option LedgerRec)
  /-- The update queue: the identities with their records as updated, oldest first. [65,536 entries; R313 spec/13; reset empty] -/
  updq   : List (Nat × LedgerRec)
  /-- The times of the last KoD RATE of identities that are not cached, by hash. [65,536 entries; R316 spec/13; reset 0] -/
  kods   : Tab Nat
  /-- The placement events since the last record of the trace. [R318 spec/13; DESIGN CHOICE 0, log 2] -/
  trace  : Nat
  /-- The tick at which entry 0 of NSE_CKEY was set, and whether CKEY_DUE has been posted for it. [R320 spec/13; reset none] -/
  ckeyAt : Option Nat
  ckeyDue : Bool
  /-- The requests received and shed since the last VC0 second that the supervisor has judged, and that second. [R320 spec/13; reset 0, none] -/
  received : Nat
  shed   : Nat
  secAt  : Option Int
  /-- The VC0 second of the last ledger update lost and of the last DEADLINE_MISS. [R416 spec/18; reset none] -/
  lossAt : Option Int
  missAt : Option Int
deriving DecidableEq, Repr

/-- The NSE and the Placer as reset leaves them. -/
def NseState.reset : NseState := ⟨[], [], [], [], [], 0, none, false, 0, 0, none, none, none⟩


/-- A search that the acquisition engine has queued: the Pod, the tag and the DMEM address of the descriptor, and the
descriptor (R227, R380). -/
structure AcqReq where
  pod  : Nat
  tag  : Nat
  addr : Nat
  desc : List Byte
deriving DecidableEq, Repr

/-- A tracking channel besides its registers (R228, R229, R380). -/
structure GnChan where
  /-- The descriptor of the last CHAN command: Doppler in Hz and code phase in 1/64 chip. [R380 spec/16; DESIGN CHOICE 0, log 2] -/
  doppler : Int
  code    : Int
  /-- The observables of the last latch, none where they are absent; and the VC0 time of the sample they belong to.
  [R223, R225, R230, R380 spec/10 16; reset absent] -/
  obs     : Option GnObs
  time    : Option Gt
  /-- GNS_CH_STAT.STATE at that latch. [R380 spec/16; DESIGN CHOICE 0, log 2] -/
  st      : Nat
  /-- The tick at which the channel entered its state. [R229 spec/10; DESIGN CHOICE 0, log 2] -/
  since   : Nat
deriving DecidableEq, Repr

/-- A channel as reset leaves it. -/
def GnChan.reset : GnChan := ⟨0, 0, none, none, 0, 0⟩

/-- The capture logic of a sample port: the GNSS_CLK edges taken since EN rose, and the two stamps about the last latch, each the number of
its kept sample divided by 65,536, its capture tick and its vernier count (R222, R223). -/
structure GnPort where
  edges  : Nat
  stamp  : Option (Nat × Nat × Nat)
  stamp' : Option (Nat × Nat × Nat)
deriving DecidableEq, Repr

/-- A sample port that has taken nothing. -/
def GnPort.reset : GnPort := ⟨0, none, none⟩

/-- The GNSS baseband and Pod 2's program besides their registers. -/
structure GnsState where
  /-- GC0 to GC255. [R228 spec/10; reset per field] -/
  chan   : Tab GnChan
  /-- The capture logic of the sample ports. [R222, R223 spec/10; reset nothing taken] -/
  port   : Tab GnPort
  /-- SIG_EN in force: taken at a solution. [R226, R246 spec/10; reset 0xF_FFFF] -/
  sigEn  : Nat
  /-- The queued searches, oldest first. [at most 8; R227 spec/10; reset empty] -/
  acq    : List AcqReq
  /-- GNSS_CLK is failed. [R224 spec/10; reset false] -/
  noClk  : Bool
  /-- Asleep. [R243 spec/10; reset false] -/
  asleep : Bool
  /-- The ports whose samples have a gap in the current VC0 second, as a mask. [R225 spec/10; reset 0] -/
  gap    : Nat
  /-- The VC0 second last latched. [R230 spec/10; reset none] -/
  latchAt : Option Int
  /-- F in ps, the VC0 second S + 1 and the tick at which F was written. [R234 spec/10; reset none] -/
  ppsf   : Option (Int × Int × Nat)
  /-- GN_PPS as emitted last and before: the VC0 times, newest first. [R234 spec/10; reset none] -/
  pulses : List Gt
  /-- The VC0 second last served by GN_PPS. [R234 spec/10; reset none] -/
  ppsAt  : Option Int
  /-- The frame sent on GNSS_SPI: chip select, length in bits and data; and the frame received while it runs. [R249 spec/10; reset none] -/
  spi    : Option (Nat × Nat × Nat)
  spiRx  : Option Nat
  /-- Pod 2: the kept data. [R241 spec/10; reset none kept] -/
  kept   : GnKept
  /-- The VC0 second last solved, and the second of the last solution. [R230, R237 spec/10; reset none] -/
  solAt  : Option Int
  fixAt  : Option Int
  /-- (VC0 second, x in ps) of the solutions of the last 10 s, newest first. [R234 spec/10; reset empty] -/
  xs     : List (Int × Rat)
  /-- (VC0 second, g in ps, verdict GOOD) of the last 3,700 s, newest first. [R238 spec/10; reset empty] -/
  gs     : List (Int × Rat × Bool)
  /-- ANT_DELAY as last applied, in ps. [R232 spec/10; reset 0] -/
  ant    : Int
  /-- PORT_DELAY as last journaled, in ps. [R232 spec/10; reset 0] -/
  portD  : Tab Int
  /-- The VC0 second at which each cause last held, plus 1, by bit of R237; 0: never. [R239 spec/10; reset 0] -/
  held   : Tab Int
  /-- The VC0 second since which CN0_FLAT holds. [R237 spec/10; reset none] -/
  flat   : Option Int
  /-- The survey: the number of positions, their sums and the sum of their squares, in mm. [R236 spec/10; reset 0] -/
  surN   : Nat
  surX   : Int
  surY   : Int
  surZ   : Int
  surQ   : Int
  /-- The held position in mm. [R236 spec/10; reset none] -/
  hold   : Option (Int × Int × Int)
  /-- The positions solved in a HOLD state in the last 60 s with their seconds, newest first. [R236 spec/10; reset empty] -/
  posn   : List (Int × Int × Int × Int)
  /-- The position solved last. [R242 spec/10; reset none] -/
  last   : Option (Int × Int × Int)
  /-- POS_MODE as last seen, plus 1. [R236 spec/10; reset 0] -/
  mode   : Nat
  /-- The leap announcements submitted. [R235 spec/10; reset empty] -/
  leaps  : List (Int × Int)
  /-- Pod 2 has started and not yet chosen a start kind; and KEPT_CLEAR has made the next start COLD. [R242, R247 spec/10; reset false] -/
  starting : Bool
  cold   : Bool
  /-- The start of the last CGGTTS track that has ended, and the last step of VC0 or entry into sleep: the VC0 second before it and its
  tick. [R244, R245 spec/10; reset none] -/
  track  : Option Int
  cut    : Option (Int × Nat)
  /-- VERDICT_LOST and CGG_SKIP. [R240, R245 spec/10; reset 0] -/
  vLost  : Nat
  cggSkip : Nat
  /-- The VC0 second of the last commit of the kept data. [R241 spec/10; DESIGN CHOICE 0, log 2] -/
  keptAt : Int
  /-- A RESURVEY received during sleep. [R243 spec/10; reset false] -/
  resurvey : Bool
  /-- SLEEP_MODE, SLEEP_PERIOD and SLEEP_ON in force, and the period boundary at which they were taken, in ms of VC0. [R243 spec/10; reset 0, 3,600,000, 300,000] -/
  slMode : Nat
  slPeriod : Nat
  slOn   : Nat
  slAt   : Option Int
deriving DecidableEq, Repr

/-- The GNSS baseband as reset leaves it. -/
def GnsState.reset : GnsState where
  chan := []
  port := []
  sigEn := 0xFFFFF
  acq := []
  noClk := false
  asleep := false
  gap := 0
  latchAt := none
  ppsf := none
  pulses := []
  ppsAt := none
  spi := none
  spiRx := none
  kept := GnKept.reset
  solAt := none
  fixAt := none
  xs := []
  gs := []
  ant := 0
  portD := []
  held := []
  flat := none
  surN := 0
  surX := 0
  surY := 0
  surZ := 0
  surQ := 0
  hold := none
  posn := []
  last := none
  mode := 0
  leaps := []
  starting := false
  cold := false
  track := none
  cut := none
  vLost := 0
  cggSkip := 0
  keptAt := 0
  resurvey := false
  slMode := 0
  slPeriod := 3600000
  slOn := 300000
  slAt := none


/-- The states of the TAP controller of IEEE 1149.1 (R478). -/
inductive TapPhase where
  | reset | idle
  | selectDr | captureDr | shiftDr | exit1Dr | pauseDr | exit2Dr | updateDr
  | selectIr | captureIr | shiftIr | exit1Ir | pauseIr | exit2Ir | updateIr
deriving DecidableEq, Repr

/-- The instructions that the TAP offers (R478). -/
inductive TapOp where
  | bypass | idcode | boundary
deriving DecidableEq, Repr

/-- The JTAG TAP: the state of its controller, the instruction in force, the instruction register and the data register as they shift, and
the boundary cells as last updated (R478). -/
structure TapState where
  /-- The controller. [R478 spec/21; reset Test-Logic-Reset, PRESUMED log 175] -/
  phase : TapPhase
  /-- The instruction in force. [R478 spec/21; reset IDCODE, PRESUMED log 175] -/
  op    : TapOp
  /-- The shifting bits, the one nearest TDO first. [R478 spec/21; DESIGN CHOICE empty, log 175] -/
  ir    : List Bool
  dr    : List Bool
  /-- The boundary cells that the last Update-DR has set. [R478 spec/21; DESIGN CHOICE empty, log 175] -/
  cells : List Bool
deriving DecidableEq, Repr

/-- The TAP in Test-Logic-Reset. -/
def TapState.reset : TapState := ⟨.reset, .idcode, [], [], []⟩


/-- The state of the engine. -/
structure State where
  /-- Every register of the register map that does not hold its reset value, by address. [spec/02 to 21; reset per register below] -/
  regs   : Tab Nat
  /-- Bits in which the second and the third copy of a triplicated register differ from the first. [R402 spec/17; reset no difference] -/
  upset1 : Tab Nat
  upset2 : Tab Nat
  tkp    : TkpState
  tdc    : TdcState
  /-- Pod 0 to Pod 7. [R32 spec/02; reset per field] -/
  pods   : Tab PodState
  /-- The values of the resident programs' parameters that differ from their defaults, by identifier, each as its 64 bits. [R52, R53 spec/02; reset the defaults of the parameter tables] -/
  params : Tab Nat
  /-- The commons. [1 MiB; R37 spec/02; DESIGN CHOICE 0 in every byte, log 3] -/
  commons : Tab Byte
  ref    : RefState
  ens    : EnsState
  bound  : BoundState
  jrn    : JrnState
  hif    : HifState
  flt    : FltState
  syn    : SynState
  clk    : ClkState
  /-- The JTAG TAP. [R478 spec/21; reset per field] -/
  tap    : TapState
  mram   : MramState
  key    : KeyState
  twn    : TwnState
  mac    : MacState
  ptp    : PtpState
  nse    : NseState
  gns    : GnsState
  tel    : TelState
  pmc    : PmcState
  chk    : ChkState
  /-- The installed DRAM. [R30, R31 spec/01; DESIGN CHOICE 0 in every byte, log 3] -/
  dram   : Tab Byte
  /-- The on-chip SRAM of the address map at 0 to 0x2FF_FFFF, and the working SRAM from 0x300_0000 on. [48 MiB, 256 KiB; R30, R399 spec/01 17; DESIGN CHOICE 0 in every byte, log 3] -/
  sram   : Tab Byte
  /-- The xSPI flash. [R30 spec/01; DESIGN CHOICE 0 in every byte, log 3] -/
  flash  : Tab Byte
  /-- The number of free values taken. [the model's own; DESIGN CHOICE 0, log 1] -/
  free   : Nat
  /-- The commands that wait, first in, first out. [the model's own; reset empty] -/
  pending : List Instr
deriving DecidableEq, Repr

/-- Why a step stops with a fault. -/
inductive Fault where
  /-- Nothing in this model raises it: the engine answers every command of the table. Safe. -/
  | none
deriving DecidableEq, Repr

/-- Why a command is refused. -/
inductive Refusal where
  /-- Raised by an arm of Machine/Dispatch.lean whose command has no meaning yet. Safe. -/
  | notModelled (mnemonic : String)
deriving DecidableEq, Repr

/-- The engine right after a POWER-class reset, before START_SEQUENCE runs. -/
def State.reset : State where
  regs := []
  upset1 := []
  upset2 := []
  tkp := ⟨0, [], [], none, []⟩
  tdc := ⟨[], [], [], [], 31, [], false, 0⟩
  pods := []
  params := []
  commons := []
  ref := RefState.reset
  ens := EnsState.reset
  bound := BoundState.reset
  jrn := ⟨[], 0, [], 0, 0, none, List.replicate 16 0, [], [], none, none, none, none⟩
  hif := HifState.reset
  flt := ⟨[], [], none, [], 0, false, false, none, 0, [], none, 0, 0⟩
  syn := ⟨[], []⟩
  clk := ⟨false, false, 25, 0, 0, [], false, 0, false, false, true, false⟩
  tap := TapState.reset
  mram := ⟨[], [], false⟩
  key := ⟨[], none, 0, [], 0, false, false, [], [0, 0, 0, 0, 0], 1, false⟩
  twn := TwnState.reset
  mac := ⟨[], 0, none⟩
  ptp := ⟨[], []⟩
  nse := NseState.reset
  gns := GnsState.reset
  tel := ⟨[], 0, 0, none, none, 0, 0, 0, 0⟩
  pmc := ⟨none, 0, [], [], 0⟩
  chk := ⟨[]⟩
  dram := []
  sram := []
  flash := []
  free := 0
  pending := []


end Sys2Proof.Machine
end

