-- ==== Sys2Proof/Machine/Flags.lean ====
section
/-! DEFINITION. The flag computations of the FIN instructions (R362) as operations on one Pod, and the
conditions of its branches (R365). -/

namespace Sys2Proof.Machine

/-- All four flags. -/
def PodState.setFlags (q : PodState) (z n c v : Bool) : PodState := { q with z := z, n := n, c := c, v := v }

/-- Z and N from a result, C and V as given. -/
def PodState.resFlags (q : PodState) (r : Word) (c v : Bool) : PodState := q.setFlags (r = 0) r.msb c v

/-- C and V as given, Z and N unchanged. -/
def PodState.setCV (q : PodState) (c v : Bool) : PodState := { q with c := c, v := v }

/-- The value of a truth value as a carry. -/
def carryIn (b : Bool) : Nat := if b then 1 else 0

/-- The sum of two words and a carry, with the carry out of bit 63 and the signed overflow (R362). -/
def addFlags (a b : Word) (ci : Bool) : Word × Bool × Bool :=
  let r := BitVec.ofNat 64 (a.toNat + b.toNat + carryIn ci)
  (r, decide (2 ^ 64 ≤ a.toNat + b.toNat + carryIn ci), decide (r.toInt ≠ a.toInt + b.toInt + carryIn ci))

/-- The difference of two words and a borrow, with the unsigned borrow and the signed overflow (R362). -/
def subFlags (a b : Word) (bi : Bool) : Word × Bool × Bool :=
  let r := BitVec.ofInt 64 ((a.toNat : Int) - b.toNat - carryIn bi)
  (r, decide (a.toNat < b.toNat + carryIn bi), decide (r.toInt ≠ a.toInt - b.toInt - carryIn bi))

/-- An integer held to the range of a signed word; true when it was outside. -/
def saturate (x : Int) : Word × Bool :=
  if 2 ^ 63 ≤ x then (BitVec.ofInt 64 (2 ^ 63 - 1), true)
  else if x < -(2 ^ 63) then (BitVec.ofInt 64 (-(2 ^ 63)), true)
  else (BitVec.ofInt 64 x, false)

/-- A condition of B and BL (R365). -/
def PodState.cond (q : PodState) (c : Nat) : Bool :=
  match c with
  | 0x0 => true
  | 0x1 => q.z
  | 0x2 => !q.z
  | 0x3 => q.n != q.v
  | 0x4 => q.n == q.v
  | 0x5 => !q.z && (q.n == q.v)
  | 0x6 => q.z || (q.n != q.v)
  | 0x7 => q.c
  | 0x8 => !q.c
  | 0x9 => q.n
  | 0xA => !q.n
  | 0xB => q.v
  | 0xC => !q.v
  | 0xD => !q.c && !q.z
  | _ => q.c || q.z

end Sys2Proof.Machine
end

