-- ==== Sys2Proof/Machine/Fp.lean ====
section
/-! DEFINITION. IEEE 754 binary64 as the FIN instructions compute it (R364): round to nearest with ties to
even, subnormal values in full, and with each result the value of V. -/

namespace Sys2Proof.Machine

/-- A binary64 value taken apart: a finite value is ±m × 2^e. -/
inductive Fp where
  | nan
  | inf (neg : Bool)
  | fin (neg : Bool) (m : Nat) (e : Int)
deriving DecidableEq, Repr

/-- The value that 64 bits spell. -/
def fpOf (w : Word) : Fp :=
  let m : Nat := w.toNat % 2 ^ 52
  let x : Nat := w.toNat / 2 ^ 52 % 2 ^ 11
  if x = 2047 then (if m = 0 then .inf w.msb else .nan)
  else if x = 0 then .fin w.msb m (-1074)
  else .fin w.msb (2 ^ 52 + m) ((x : Int) - 1075)

/-- The bits of ±infinity. -/
def fpInf (neg : Bool) : Word := if neg then 0xFFF0000000000000 else 0x7FF0000000000000

/-- A quiet NaN; its sign and its payload are open (notes/assumptions/1). -/
def fpNan (a b c : Word) : Word := 0x7FF8000000000000 ||| (Config.nanBits a b c &&& 0x8007FFFFFFFFFFFF)

/-- True for a signalling NaN: an operand that makes an operation invalid. -/
def fpSignalling (w : Word) : Bool := fpOf w == .nan && !w.getLsbD 51

/-- `m × 2^e` with `m` divided by `2^k`, rounded to nearest, ties to even. -/
def rneShift (m k : Nat) : Nat :=
  let q := m / 2 ^ k
  let r := m % 2 ^ k * 2
  if r < 2 ^ k then q else if 2 ^ k < r then q + 1 else q + q % 2

/-- The binary64 nearest to ±m × 2^e, ties to even, and true when it overflows to ±infinity. `m` may carry a
sticky bit at its lowest place. -/
def fpRound (neg : Bool) (m : Nat) (e : Int) : Word × Bool :=
  let sgn : Nat := if neg then 2 ^ 63 else 0
  if m = 0 then (BitVec.ofNat 64 sgn, false)
  else
    let top : Int := (Nat.log2 m : Int) + e
    let ulp : Int := max (top - 52) (-1074)
    let n : Nat := if e ≤ ulp then rneShift m (ulp - e).toNat else m * 2 ^ (e - ulp).toNat
    let (n, ulp) := if n = 2 ^ 53 then (2 ^ 52, ulp + 1) else (n, ulp)
    if n < 2 ^ 52 then (BitVec.ofNat 64 (sgn + n), false)
    else if 971 < ulp then (fpInf neg, true)
    else (BitVec.ofNat 64 (sgn + (ulp + 1075).toNat * 2 ^ 52 + (n - 2 ^ 52)), false)

/-- The signed integer ±m × 2^(e - lo), where `lo ≤ e`. -/
def fpScaled (neg : Bool) (m : Nat) (e lo : Int) : Int :=
  let v : Int := (m * 2 ^ (e - lo).toNat : Nat)
  if neg then -v else v

/-- A NaN result, with V set when the operation is invalid: an operand is signalling, or no operand is a NaN. -/
def fpNanOf (a b c : Word) (quiet : Bool) : Word × Bool :=
  (fpNan a b c, !quiet || fpSignalling a || fpSignalling b || fpSignalling c)

/-- The sum of an exact product ±m × 2^e, or of a value, and a finite value, rounded once. -/
def fpSum (n1 : Bool) (m1 : Nat) (e1 : Int) (n2 : Bool) (m2 : Nat) (e2 : Int) : Word × Bool :=
  let lo := min e1 e2
  let v := fpScaled n1 m1 e1 lo + fpScaled n2 m2 e2 lo
  if v = 0 then fpRound (n1 && n2) 0 0 else fpRound (decide (v < 0)) v.natAbs lo

/-- The bits with the sign bit inverted. -/
def fpNegBits (w : Word) : Word := w ^^^ 0x8000000000000000

/-- FADD. -/
def fpAdd (a b : Word) : Word × Bool :=
  match fpOf a, fpOf b with
  | .nan, _ => fpNanOf a b 0 true
  | _, .nan => fpNanOf a b 0 true
  | .inf x, .inf y => if x = y then (fpInf x, false) else fpNanOf a b 0 false
  | .inf x, _ => (fpInf x, false)
  | _, .inf y => (fpInf y, false)
  | .fin n1 m1 e1, .fin n2 m2 e2 => fpSum n1 m1 e1 n2 m2 e2

/-- FSUB. -/
def fpSub (a b : Word) : Word × Bool :=
  match fpOf b with
  | .nan => fpNanOf a b 0 true
  | _ => fpAdd a (fpNegBits b)

/-- FMUL. -/
def fpMul (a b : Word) : Word × Bool :=
  match fpOf a, fpOf b with
  | .nan, _ => fpNanOf a b 0 true
  | _, .nan => fpNanOf a b 0 true
  | .inf x, .inf y => (fpInf (x != y), false)
  | .inf x, .fin y m _ => if m = 0 then fpNanOf a b 0 false else (fpInf (x != y), false)
  | .fin x m _, .inf y => if m = 0 then fpNanOf a b 0 false else (fpInf (x != y), false)
  | .fin n1 m1 e1, .fin n2 m2 e2 => fpRound (n1 != n2) (m1 * m2) (e1 + e2)

/-- FDIV. -/
def fpDiv (a b : Word) : Word × Bool :=
  match fpOf a, fpOf b with
  | .nan, _ => fpNanOf a b 0 true
  | _, .nan => fpNanOf a b 0 true
  | .inf _, .inf _ => fpNanOf a b 0 false
  | .inf x, .fin y _ _ => (fpInf (x != y), false)
  | .fin x _ _, .inf y => fpRound (x != y) 0 0
  | .fin n1 m1 e1, .fin n2 m2 e2 =>
    if m2 = 0 then (if m1 = 0 then fpNanOf a b 0 false else (fpInf (n1 != n2), true))
    else
      let num := m1 * 2 ^ 120
      fpRound (n1 != n2) (num / m2 * 2 + (if num % m2 = 0 then 0 else 1)) (e1 - e2 - 121)

/-- FSQRT. -/
def fpSqrt (a : Word) : Word × Bool :=
  match fpOf a with
  | .nan => fpNanOf a 0 0 true
  | .inf x => if x then fpNanOf a 0 0 false else (fpInf false, false)
  | .fin neg m e =>
    if m = 0 then (a, false)
    else if neg then fpNanOf a 0 0 false
    else
      let m' := if e % 2 = 0 then m * 2 ^ 120 else m * 2 ^ 121
      let e' := if e % 2 = 0 then e - 120 else e - 121
      let q := Nat.sqrt m'
      fpRound false (q * 2 + (if q * q = m' then 0 else 1)) (e' / 2 - 1)

/-- FMA: `c + a × b` with one rounding. -/
def fpFma (a b c : Word) : Word × Bool :=
  match fpOf a, fpOf b with
  | .inf _, .fin _ 0 _ => fpNanOf a b c false
  | .fin _ 0 _, .inf _ => fpNanOf a b c false
  | .nan, _ => fpNanOf a b c true
  | _, .nan => fpNanOf a b c true
  | .fin n1 m1 e1, .fin n2 m2 e2 =>
    match fpOf c with
    | .nan => fpNanOf a b c true
    | .inf z => (fpInf z, false)
    | .fin n3 m3 e3 => fpSum (n1 != n2) (m1 * m2) (e1 + e2) n3 m3 e3
  | x, y =>
    let neg := (match x with | .inf n => n | .fin n _ _ => n | .nan => false)
      != (match y with | .inf n => n | .fin n _ _ => n | .nan => false)
    match fpOf c with
    | .nan => fpNanOf a b c true
    | .inf z => if z = neg then (fpInf neg, false) else fpNanOf a b c false
    | .fin _ _ _ => (fpInf neg, false)

/-- ±m × 2^e rounded to an integer, ties to even. -/
def fpRoundInt (neg : Bool) (m : Nat) (e : Int) : Int :=
  let n : Int := if 0 ≤ e then (m * 2 ^ e.toNat : Nat) else (rneShift m (-e).toNat : Nat)
  if neg then -n else n

/-- A binary64 times 2^k as a signed word, ties to even; saturates, and NaN gives 0, both with V (R364, R374). -/
def fpToInt (w : Word) (k : Int) : Word × Bool :=
  match fpOf w with
  | .nan => (0, true)
  | .inf neg => ((saturate (if neg then -(2 ^ 64) else 2 ^ 64)).1, true)
  | .fin neg m e => saturate (fpRoundInt neg m (e + k))

/-- FCVTIF. -/
def fpOfInt (x : Int) : Word := (fpRound (decide (x < 0)) x.natAbs 0).1

/-- The order of two finite or infinite values as integers over one scale; infinities lie beyond every finite
value. Answers (equal, less). -/
def fpCompare (a b : Word) : Option (Bool × Bool) :=
  match fpOf a, fpOf b with
  | .nan, _ => none
  | _, .nan => none
  | .inf x, .inf y => some (x == y, x && !y)
  | .inf x, _ => some (false, x)
  | _, .inf y => some (false, !y)
  | .fin n1 m1 e1, .fin n2 m2 e2 =>
    let lo := min e1 e2
    let u := fpScaled n1 m1 e1 lo
    let v := fpScaled n2 m2 e2 lo
    some (decide (u = v), decide (u < v))

/-- The value of a finite binary64 as a rational; 0 for the others. -/
def fpToRat (w : Word) : Rat :=
  match fpOf w with
  | .fin neg m e =>
    let v : Rat := if 0 ≤ e then ((m * 2 ^ e.toNat : Nat) : Rat) else ((m : Nat) : Rat) / ((2 ^ (-e).toNat : Nat) : Rat)
    if neg then -v else v
  | _ => 0

/-- The binary64 nearest to a rational, ties to even. -/
def fpOfRat (x : Rat) : Word :=
  let num := x.num.natAbs * 2 ^ (Nat.log2 x.den + 1200)
  let q := num / x.den
  (fpRound (decide (x < 0)) (q * 2 + (if num % x.den = 0 then 0 else 1)) (-(Nat.log2 x.den + 1201 : Nat))).1

/-- A finite binary64. -/
def fpFinite (w : Word) : Bool := match fpOf w with | .fin _ _ _ => true | _ => false

end Sys2Proof.Machine
end

