-- ==== Sys2Proof/Machine/Crc.lean ====
section
/-! DEFINITION. The check codes of the engine's records and transactions, bit by bit: CRC-32C (R48, R183),
CRC-16/CCITT-FALSE (R39) and the CRC-8 of the management slaves (R388); and the LFSR of 31 bits
(R199, R337). -/

namespace Sys2Proof.Machine

/-- The next value of an LFSR of 31 bits, of polynomial x^31 + x^28 + 1; it puts out its bit 30 (R199, R337). -/
def lfsrNext (l : Nat) : Nat := l % 2 ^ 30 * 2 + (l / 2 ^ 30 + l / 2 ^ 27) % 2

/-- One bit step of a reflected CRC. -/
def crcStepR (poly c : Nat) : Nat := if c % 2 = 1 then (c / 2) ^^^ poly else c / 2

/-- One bit step of a CRC of `w` bits that shifts left. -/
def crcStepL (w poly c : Nat) : Nat :=
  if c / 2 ^ (w - 1) % 2 = 1 then (c * 2 % 2 ^ w) ^^^ poly else c * 2 % 2 ^ w

/-- CRC-32C: reflected polynomial 0x82F63B78, all ones before and after. -/
def crc32c (bs : List Byte) : Nat :=
  bs.foldl (fun c b => Nat.repeat (crcStepR 0x82F63B78) 8 (c ^^^ b.toNat)) 0xFFFFFFFF ^^^ 0xFFFFFFFF

/-- CRC-16/CCITT-FALSE: polynomial 0x1021, initial value 0xFFFF. -/
def crc16 (bs : List Byte) : Nat :=
  bs.foldl (fun c b => Nat.repeat (crcStepL 16 0x1021) 8 (c ^^^ (b.toNat * 256))) 0xFFFF

/-- CRC-8: polynomial 0x07, initial value 0 (R388). -/
def crc8 (bs : List Byte) : Nat :=
  bs.foldl (fun c b => Nat.repeat (crcStepL 8 0x07) 8 (c ^^^ b.toNat)) 0

end Sys2Proof.Machine
end

