-- ==== Sys2Proof/Machine/Operands.lean ====
section
/-! DEFINITION. The operand forms of the FIN instructions: general and time registers, immediates, and the
fields that an instruction takes from a register (R32, R359). -/

namespace Sys2Proof.Machine

/-- The value of g register `r`; g0 reads zero (R32). -/
def PodState.rg (q : PodState) (r : Nat) : Word := if r = 0 then 0 else tabGet 0 q.g r

/-- Writes a g register; a write to g0 is discarded (R32). -/
def PodState.wg (q : PodState) (r : Nat) (v : Word) : PodState :=
  if r = 0 then q else { q with g := tabSet 0 q.g r v }

/-- The 128 bits of a t register. -/
def PodState.rt (q : PodState) (r : Nat) : Nat := tabGet 0 q.t r

/-- Writes the 128 bits of a t register. -/
def PodState.wt (q : PodState) (r : Nat) (v : Nat) : PodState := { q with t := tabSet 0 q.t r v }

/-- The program counter after an instruction that does not branch (R358). -/
def PodState.advance (q : PodState) : PodState := { q with pc := q.pc + 1 }

/-- IMM14, sign-extended (R359). -/
def immS (imm : BitVec 14) : Word := imm.signExtend 64

/-- IMM14, zero-extended (R363). -/
def immZ (imm : BitVec 14) : Word := imm.setWidth 64

/-- Bits [lo + len - 1 : lo] of a register operand. -/
def bitsOf (w : Word) (lo len : Nat) : Nat := w.toNat / 2 ^ lo % 2 ^ len

end Sys2Proof.Machine
end

