-- ==== Sys2Proof/Machine/RegMap.lean ====
section
/-! DEFINITION. The register map: the address of every register of the islands and of the Pod windows,
the place of every field with its access type, the encodings a field's table reserves, and every
register's value at reset. The numbers are those of the register tables of spec/02, 03 to 15 and 17 to 21
(R35, R78, R103, R126, R155, R173, R195, R196, R221, R249, R274, R297, R322, R341, R357, R361, R414, R427,
R448, R449, R467, R468, R469, R480). -/

namespace Sys2Proof.Machine

/-- A bit field: its lowest bit and its length (R3). -/
structure Fld where
  lo  : Nat
  len : Nat
deriving DecidableEq, Repr

/-- The access types of R10. -/
inductive Acc where
  | ro | rw | w1c | wo | rws | rwt | rwp
deriving DecidableEq, Repr

/-- One field of a register: where it lies, its access type and the range of encodings that its table
lists as reserved (R12), empty when the first exceeds the second. -/
structure FieldRow where
  lo    : Nat
  len   : Nat
  acc   : Acc
  rsvLo : Nat
  rsvHi : Nat
deriving DecidableEq, Repr

/-- One register of the map: `n1 * n2` copies at `base + i1 * s1 + i2 * s2`, each of `bytes` bytes. -/
structure RegRow where
  base   : Nat
  s1     : Nat
  n1     : Nat
  s2     : Nat
  n2     : Nat
  bytes  : Nat
  fields : List FieldRow
deriving DecidableEq, Repr

/-- The default class of each fault source (R416). Spare sources read class 0. -/
def fltDefaultClass (s : Nat) : Nat :=
  if s ≤ 3 then 2 else if s ≤ 52 then 1 else if s ≤ 56 then 2 else if s ≤ 68 then 1
  else if s = 69 ∨ s = 77 ∨ s = 87 ∨ s = 93 ∨ s = 112 ∨ s = 113 ∨ s = 116 ∨ s = 118 ∨ s = 120
    ∨ s = 122 ∨ s = 124 ∨ s = 125 then 0
  else if s = 84 ∨ s = 85 ∨ s = 92 ∨ s = 94 ∨ s = 101 ∨ s = 103 ∨ s = 104 ∨ s = 106 ∨ s = 107
    ∨ s = 114 ∨ s = 115 ∨ s = 117 then 2
  else if s = 105 ∨ s = 121 then 3 else if s ≤ 127 then 1 else 0

namespace Reg

/-- SYS_ISL_STATUS (R414, spec/17_host_bus_and_registers.md). -/
abbrev SYS_ISL_STATUS : Nat := 0x40000004
abbrev SYS_ISL_STATUS_WDROP : Fld := ⟨1, 1⟩
abbrev SYS_ISL_STATUS_BUSY : Fld := ⟨0, 1⟩
/-- SYS_SNAP (R414, spec/17_host_bus_and_registers.md). -/
abbrev SYS_SNAP : Nat := 0x40000010
abbrev SYS_SNAP_SEQ : Fld := ⟨16, 16⟩
abbrev SYS_SNAP_GO : Fld := ⟨8, 1⟩
/-- SYS_SNAP_TIME (R414, spec/17_host_bus_and_registers.md). -/
abbrev SYS_SNAP_TIME : Nat := 0x40000020
abbrev SYS_SNAP_TIME_SECONDS : Fld := ⟨64, 64⟩
abbrev SYS_SNAP_TIME_NS : Fld := ⟨32, 32⟩
abbrev SYS_SNAP_TIME_FRAC : Fld := ⟨0, 32⟩
/-- SYS_REMAP (R414, spec/17_host_bus_and_registers.md). -/
abbrev SYS_REMAP : Nat := 0x40000030
abbrev SYS_REMAP_SWAP : Fld := ⟨0, 1⟩
/-- SYS_MGMT_CNT (R414, spec/17_host_bus_and_registers.md). -/
abbrev SYS_MGMT_CNT : Nat := 0x40000040
abbrev SYS_MGMT_CNT_CRCERR : Fld := ⟨16, 16⟩
abbrev SYS_MGMT_CNT_NOTREADY : Fld := ⟨0, 16⟩
/-- SYS_IO_CFG (R480, spec/21_pins_and_electrical.md). -/
abbrev SYS_IO_CFG : Nat := 0x40000050
abbrev SYS_IO_CFG_PPSIN_DIFF : Fld := ⟨8, 4⟩
abbrev SYS_IO_CFG_RXID : Fld := ⟨1, 1⟩
abbrev SYS_IO_CFG_TXID : Fld := ⟨0, 1⟩
/-- SYS_GPIO_CTRL (R480, spec/21_pins_and_electrical.md). -/
abbrev SYS_GPIO_CTRL : Nat := 0x40000058
abbrev SYS_GPIO_CTRL_OE : Fld := ⟨16, 16⟩
abbrev SYS_GPIO_CTRL_OUT : Fld := ⟨0, 16⟩
/-- SYS_GPIO_IN (R480, spec/21_pins_and_electrical.md). -/
abbrev SYS_GPIO_IN : Nat := 0x4000005C
abbrev SYS_GPIO_IN_LEVEL : Fld := ⟨0, 16⟩
/-- TKP_ISL_STATUS (R78, spec/03_time_representation.md). -/
abbrev TKP_ISL_STATUS : Nat := 0x40010004
abbrev TKP_ISL_STATUS_WDROP : Fld := ⟨1, 1⟩
abbrev TKP_ISL_STATUS_BUSY : Fld := ⟨0, 1⟩
/-- TKP_STEP_PERMIT (R78, spec/03_time_representation.md). -/
abbrev TKP_STEP_PERMIT : Nat := 0x40010010
abbrev TKP_STEP_PERMIT_TTL : Fld := ⟨16, 16⟩
abbrev TKP_STEP_PERMIT_PERMIT : Fld := ⟨0, 8⟩
/-- TKP_LATCH_CTRL (R78, spec/03_time_representation.md). -/
abbrev TKP_LATCH_CTRL : Nat := 0x40010020
abbrev TKP_LATCH_CTRL_GO : Fld := ⟨8, 1⟩
abbrev TKP_LATCH_CTRL_VCMASK : Fld := ⟨0, 8⟩
/-- TKP_LATCH_RAW (R78, spec/03_time_representation.md). -/
abbrev TKP_LATCH_RAW : Nat := 0x40010030
abbrev TKP_LATCH_RAW_VALUE : Fld := ⟨0, 96⟩
/-- TKP_VC_CTRL (R78, spec/03_time_representation.md). -/
abbrev TKP_VC_CTRL (i : Nat) : Nat := 0x40010100 + i * 0x80
abbrev TKP_VC_CTRL_OP : Fld := ⟨0, 4⟩
/-- TKP_VC_STATUS (R78, spec/03_time_representation.md). -/
abbrev TKP_VC_STATUS (i : Nat) : Nat := 0x40010104 + i * 0x80
abbrev TKP_VC_STATUS_RESULT : Fld := ⟨28, 4⟩
abbrev TKP_VC_STATUS_STEPS : Fld := ⟨8, 8⟩
abbrev TKP_VC_STATUS_CLAMP : Fld := ⟨2, 1⟩
abbrev TKP_VC_STATUS_MODE : Fld := ⟨1, 1⟩
abbrev TKP_VC_STATUS_FIRST_DONE : Fld := ⟨0, 1⟩
/-- TKP_VC_SOFF (R78, spec/03_time_representation.md). -/
abbrev TKP_VC_SOFF (i : Nat) : Nat := 0x40010110 + i * 0x80
abbrev TKP_VC_SOFF_SECONDS : Fld := ⟨64, 64⟩
abbrev TKP_VC_SOFF_NS : Fld := ⟨32, 32⟩
abbrev TKP_VC_SOFF_FRAC : Fld := ⟨0, 32⟩
/-- TKP_VC_SRATE (R78, spec/03_time_representation.md). -/
abbrev TKP_VC_SRATE (i : Nat) : Nat := 0x40010120 + i * 0x80
abbrev TKP_VC_SRATE_VALUE : Fld := ⟨0, 64⟩
/-- TKP_VC_SINC (R78, spec/03_time_representation.md). -/
abbrev TKP_VC_SINC (i : Nat) : Nat := 0x40010128 + i * 0x80
abbrev TKP_VC_SINC_NS : Fld := ⟨32, 8⟩
abbrev TKP_VC_SINC_FRAC : Fld := ⟨0, 32⟩
/-- TKP_VC_OFFSET (R78, spec/03_time_representation.md). -/
abbrev TKP_VC_OFFSET (i : Nat) : Nat := 0x40010130 + i * 0x80
abbrev TKP_VC_OFFSET_SECONDS : Fld := ⟨64, 64⟩
abbrev TKP_VC_OFFSET_NS : Fld := ⟨32, 32⟩
abbrev TKP_VC_OFFSET_FRAC : Fld := ⟨0, 32⟩
/-- TKP_VC_RATE (R78, spec/03_time_representation.md). -/
abbrev TKP_VC_RATE (i : Nat) : Nat := 0x40010140 + i * 0x80
abbrev TKP_VC_RATE_VALUE : Fld := ⟨0, 64⟩
/-- TKP_VC_INC (R78, spec/03_time_representation.md). -/
abbrev TKP_VC_INC (i : Nat) : Nat := 0x40010148 + i * 0x80
abbrev TKP_VC_INC_NS : Fld := ⟨32, 8⟩
abbrev TKP_VC_INC_FRAC : Fld := ⟨0, 32⟩
/-- TKP_VC_EFF (R78, spec/03_time_representation.md). -/
abbrev TKP_VC_EFF (i : Nat) : Nat := 0x40010150 + i * 0x80
abbrev TKP_VC_EFF_TICK : Fld := ⟨0, 96⟩
/-- TKP_VC_LATCH (R78, spec/03_time_representation.md). -/
abbrev TKP_VC_LATCH (i : Nat) : Nat := 0x40010160 + i * 0x80
abbrev TKP_VC_LATCH_SECONDS : Fld := ⟨64, 64⟩
abbrev TKP_VC_LATCH_NS : Fld := ⟨32, 32⟩
abbrev TKP_VC_LATCH_FRAC : Fld := ⟨0, 32⟩
/-- TDC_ISL_STATUS (R103, spec/04_interval_measurement.md). -/
abbrev TDC_ISL_STATUS : Nat := 0x40020004
abbrev TDC_ISL_STATUS_CLAIMREJ : Fld := ⟨3, 1⟩
abbrev TDC_ISL_STATUS_DLL_LOCK : Fld := ⟨2, 1⟩
abbrev TDC_ISL_STATUS_WDROP : Fld := ⟨1, 1⟩
abbrev TDC_ISL_STATUS_BUSY : Fld := ⟨0, 1⟩
/-- TDC_GCTRL (R103, spec/04_interval_measurement.md). -/
abbrev TDC_GCTRL : Nat := 0x40020010
abbrev TDC_GCTRL_CALINT : Fld := ⟨16, 8⟩
abbrev TDC_GCTRL_SKEWGO : Fld := ⟨0, 1⟩
/-- TDC_CLAIM (R103, spec/04_interval_measurement.md). -/
abbrev TDC_CLAIM : Nat := 0x40020014
abbrev TDC_CLAIM_MASK : Fld := ⟨0, 32⟩
/-- TDC_CH_CTRL (R103, spec/04_interval_measurement.md). -/
abbrev TDC_CH_CTRL (i : Nat) : Nat := 0x40020100 + i * 0x40
abbrev TDC_CH_CTRL_CVC : Fld := ⟨17, 3⟩
abbrev TDC_CH_CTRL_FALLBACK : Fld := ⟨16, 1⟩
abbrev TDC_CH_CTRL_ARMSRC : Fld := ⟨8, 4⟩
abbrev TDC_CH_CTRL_EDGE : Fld := ⟨6, 2⟩
abbrev TDC_CH_CTRL_CALMODE : Fld := ⟨5, 1⟩
abbrev TDC_CH_CTRL_MODE : Fld := ⟨4, 1⟩
abbrev TDC_CH_CTRL_EN : Fld := ⟨0, 1⟩
/-- TDC_CH_SRC (R103, spec/04_interval_measurement.md). -/
abbrev TDC_CH_SRC (i : Nat) : Nat := 0x40020104 + i * 0x40
abbrev TDC_CH_SRC_SRC : Fld := ⟨0, 6⟩
/-- TDC_CH_STATUS (R103, spec/04_interval_measurement.md). -/
abbrev TDC_CH_STATUS (i : Nat) : Nat := 0x40020108 + i * 0x40
abbrev TDC_CH_STATUS_EXTRA : Fld := ⟨16, 16⟩
abbrev TDC_CH_STATUS_CFG_REJ : Fld := ⟨8, 1⟩
abbrev TDC_CH_STATUS_CAL_FAULT : Fld := ⟨7, 1⟩
abbrev TDC_CH_STATUS_FB_NOWIN : Fld := ⟨6, 1⟩
abbrev TDC_CH_STATUS_FELL_BACK : Fld := ⟨5, 1⟩
abbrev TDC_CH_STATUS_CAL_ACT : Fld := ⟨4, 1⟩
abbrev TDC_CH_STATUS_CLAIMED : Fld := ⟨3, 1⟩
abbrev TDC_CH_STATUS_ARMED : Fld := ⟨2, 1⟩
abbrev TDC_CH_STATUS_CONV : Fld := ⟨1, 1⟩
/-- TDC_CH_SKEW (R103, spec/04_interval_measurement.md). -/
abbrev TDC_CH_SKEW (i : Nat) : Nat := 0x4002010C + i * 0x40
abbrev TDC_CH_SKEW_VALUE : Fld := ⟨0, 16⟩
/-- TDC_CH_WSTART (R103, spec/04_interval_measurement.md). -/
abbrev TDC_CH_WSTART (i : Nat) : Nat := 0x40020110 + i * 0x40
abbrev TDC_CH_WSTART_SECONDS : Fld := ⟨64, 64⟩
abbrev TDC_CH_WSTART_NS : Fld := ⟨32, 32⟩
abbrev TDC_CH_WSTART_FRAC : Fld := ⟨0, 32⟩
/-- TDC_CH_WLEN (R103, spec/04_interval_measurement.md). -/
abbrev TDC_CH_WLEN (i : Nat) : Nat := 0x40020120 + i * 0x40
abbrev TDC_CH_WLEN_LEN : Fld := ⟨0, 32⟩
/-- TDC_CH_WPER (R103, spec/04_interval_measurement.md). -/
abbrev TDC_CH_WPER (i : Nat) : Nat := 0x40020124 + i * 0x40
abbrev TDC_CH_WPER_PERIOD : Fld := ⟨0, 32⟩
/-- TDC_CH_APER (R103, spec/04_interval_measurement.md). -/
abbrev TDC_CH_APER (i : Nat) : Nat := 0x40020128 + i * 0x40
abbrev TDC_CH_APER_PERIOD : Fld := ⟨0, 32⟩
/-- TDC_CH_GTO (R103, spec/04_interval_measurement.md). -/
abbrev TDC_CH_GTO (i : Nat) : Nat := 0x4002012C + i * 0x40
abbrev TDC_CH_GTO_TIMEOUT : Fld := ⟨0, 32⟩
/-- TDC_CH_STO (R103, spec/04_interval_measurement.md). -/
abbrev TDC_CH_STO (i : Nat) : Nat := 0x40020130 + i * 0x40
abbrev TDC_CH_STO_TIMEOUT : Fld := ⟨0, 32⟩
/-- TDC_CH_LOST (R103, spec/04_interval_measurement.md). -/
abbrev TDC_CH_LOST (i : Nat) : Nat := 0x40020134 + i * 0x40
abbrev TDC_CH_LOST_ARMIGN : Fld := ⟨16, 16⟩
abbrev TDC_CH_LOST_FIFODROP : Fld := ⟨0, 16⟩
/-- TDC_CH_DELAY (R103, spec/04_interval_measurement.md). -/
abbrev TDC_CH_DELAY (i : Nat) : Nat := 0x40020138 + i * 0x40
abbrev TDC_CH_DELAY_VALUE : Fld := ⟨0, 32⟩
/-- REF_ISL_STATUS (R126, spec/05_references.md). -/
abbrev REF_ISL_STATUS : Nat := 0x40030004
abbrev REF_ISL_STATUS_STALL : Fld := ⟨2, 1⟩
abbrev REF_ISL_STATUS_WDROP : Fld := ⟨1, 1⟩
abbrev REF_ISL_STATUS_BUSY : Fld := ⟨0, 1⟩
/-- REF_HB (R126, spec/05_references.md). -/
abbrev REF_HB : Nat := 0x40030010
abbrev REF_HB_BEAT : Fld := ⟨0, 32⟩
/-- REF_SEL (R126, spec/05_references.md). -/
abbrev REF_SEL : Nat := 0x40030020
abbrev REF_SEL_MODE : Fld := ⟨8, 1⟩
abbrev REF_SEL_TRACE : Fld := ⟨0, 5⟩
/-- REF_STATE (R126, spec/05_references.md). -/
abbrev REF_STATE (i : Nat) : Nat := 0x40030100 + i * 0x10
abbrev REF_STATE_CAUSE : Fld := ⟨24, 5⟩
abbrev REF_STATE_RANK : Fld := ⟨20, 4⟩
abbrev REF_STATE_CHAN : Fld := ⟨8, 6⟩
abbrev REF_STATE_STATE : Fld := ⟨0, 3⟩
/-- REF_CNT (R126, spec/05_references.md). -/
abbrev REF_CNT (i : Nat) : Nat := 0x40030104 + i * 0x10
abbrev REF_CNT_REJECT : Fld := ⟨16, 16⟩
abbrev REF_CNT_SUSPECTS : Fld := ⟨0, 16⟩
/-- REF_TOD_CFG (R126, spec/05_references.md). -/
abbrev REF_TOD_CFG (i : Nat) : Nat := 0x40030400 + i * 0x10
abbrev REF_TOD_CFG_BAUD : Fld := ⟨9, 3⟩
abbrev REF_TOD_CFG_LABEL : Fld := ⟨8, 1⟩
abbrev REF_TOD_CFG_FMT : Fld := ⟨4, 2⟩
abbrev REF_TOD_CFG_EN : Fld := ⟨0, 1⟩
/-- REF_TOD_CNT (R126, spec/05_references.md). -/
abbrev REF_TOD_CNT (i : Nat) : Nat := 0x40030404 + i * 0x10
abbrev REF_TOD_CNT_REJ : Fld := ⟨16, 16⟩
abbrev REF_TOD_CNT_ACC : Fld := ⟨0, 16⟩
/-- ENS_ISL_STATUS (R155, spec/06_ensemble_and_steering.md). -/
abbrev ENS_ISL_STATUS : Nat := 0x40040004
abbrev ENS_ISL_STATUS_STALL : Fld := ⟨2, 1⟩
abbrev ENS_ISL_STATUS_WDROP : Fld := ⟨1, 1⟩
abbrev ENS_ISL_STATUS_BUSY : Fld := ⟨0, 1⟩
/-- ENS_TS (R155, spec/06_ensemble_and_steering.md). -/
abbrev ENS_TS : Nat := 0x40040010
abbrev ENS_TS_TRACE : Fld := ⟨24, 5⟩
abbrev ENS_TS_CAUSE : Fld := ⟨20, 4⟩
abbrev ENS_TS_BWCODE : Fld := ⟨8, 5⟩
abbrev ENS_TS_BWCLAMP : Fld := ⟨7, 1⟩
abbrev ENS_TS_LOOP : Fld := ⟨6, 1⟩
abbrev ENS_TS_DAC : Fld := ⟨5, 1⟩
abbrev ENS_TS_LEARNED : Fld := ⟨4, 1⟩
abbrev ENS_TS_STATE : Fld := ⟨0, 3⟩
/-- ENS_SWDOG (R155, spec/06_ensemble_and_steering.md). -/
abbrev ENS_SWDOG : Nat := 0x40040014
abbrev ENS_SWDOG_IVAL : Fld := ⟨20, 4⟩
abbrev ENS_SWDOG_COUNT : Fld := ⟨8, 8⟩
abbrev ENS_SWDOG_LIMIT : Fld := ⟨0, 8⟩
/-- ENS_LEARN (R155, spec/06_ensemble_and_steering.md). -/
abbrev ENS_LEARN : Nat := 0x40040018
abbrev ENS_LEARN_SECONDS : Fld := ⟨0, 32⟩
/-- ENS_BLIMIT (R155, spec/06_ensemble_and_steering.md). -/
abbrev ENS_BLIMIT : Nat := 0x40040020
abbrev ENS_BLIMIT_VALUE : Fld := ⟨0, 48⟩
/-- ENS_DAC (R155, spec/06_ensemble_and_steering.md). -/
abbrev ENS_DAC : Nat := 0x40040030
abbrev ENS_DAC_CMD : Fld := ⟨28, 4⟩
abbrev ENS_DAC_BITS : Fld := ⟨8, 5⟩
/-- ENS_DAC_CODE (R155, spec/06_ensemble_and_steering.md). -/
abbrev ENS_DAC_CODE : Nat := 0x40040034
abbrev ENS_DAC_CODE_PEND : Fld := ⟨31, 1⟩
abbrev ENS_DAC_CODE_CODE : Fld := ⟨0, 20⟩
/-- ENS_HM_C1 (R173, spec/07_holdover_and_return.md). -/
abbrev ENS_HM_C1 : Nat := 0x40040040
abbrev ENS_HM_C1_VALUE : Fld := ⟨0, 64⟩
/-- ENS_HM_C2 (R173, spec/07_holdover_and_return.md). -/
abbrev ENS_HM_C2 : Nat := 0x40040048
abbrev ENS_HM_C2_VALUE : Fld := ⟨0, 64⟩
/-- ENS_HM_C3 (R173, spec/07_holdover_and_return.md). -/
abbrev ENS_HM_C3 : Nat := 0x40040050
abbrev ENS_HM_C3_VALUE : Fld := ⟨0, 64⟩
/-- ENS_HM_C4 (R173, spec/07_holdover_and_return.md). -/
abbrev ENS_HM_C4 : Nat := 0x40040058
abbrev ENS_HM_C4_VALUE : Fld := ⟨0, 64⟩
/-- ENS_HM_C5 (R173, spec/07_holdover_and_return.md). -/
abbrev ENS_HM_C5 : Nat := 0x40040060
abbrev ENS_HM_C5_VALUE : Fld := ⟨0, 64⟩
/-- ENS_HM_LIN (R173, spec/07_holdover_and_return.md). -/
abbrev ENS_HM_LIN : Nat := 0x40040068
abbrev ENS_HM_LIN_VALUE : Fld := ⟨0, 64⟩
/-- ENS_HM_QUAD (R173, spec/07_holdover_and_return.md). -/
abbrev ENS_HM_QUAD : Nat := 0x40040070
abbrev ENS_HM_QUAD_VALUE : Fld := ⟨0, 64⟩
/-- ENS_HM_L2E (R173, spec/07_holdover_and_return.md). -/
abbrev ENS_HM_L2E : Nat := 0x40040078
abbrev ENS_HM_L2E_VALUE : Fld := ⟨0, 48⟩
/-- ENS_HM_T0 (R173, spec/07_holdover_and_return.md). -/
abbrev ENS_HM_T0 : Nat := 0x40040080
abbrev ENS_HM_T0_SECONDS : Fld := ⟨64, 64⟩
abbrev ENS_HM_T0_NS : Fld := ⟨32, 32⟩
abbrev ENS_HM_T0_FRAC : Fld := ⟨0, 32⟩
/-- ENS_HOLD (R173, spec/07_holdover_and_return.md). -/
abbrev ENS_HOLD : Nat := 0x40040090
abbrev ENS_HOLD_SREFUSED : Fld := ⟨16, 8⟩
abbrev ENS_HOLD_MODEL : Fld := ⟨8, 3⟩
abbrev ENS_HOLD_SLEWING : Fld := ⟨1, 1⟩
abbrev ENS_HOLD_FREEZE : Fld := ⟨0, 1⟩
/-- ENS_HM_DH (R173, spec/07_holdover_and_return.md). -/
abbrev ENS_HM_DH : Nat := 0x40040098
abbrev ENS_HM_DH_VALUE : Fld := ⟨0, 64⟩
/-- ENS_MEM_STAT (R155, spec/06_ensemble_and_steering.md). -/
abbrev ENS_MEM_STAT (i : Nat) : Nat := 0x40040100 + i * 0x20
abbrev ENS_MEM_STAT_OUTL : Fld := ⟨24, 8⟩
abbrev ENS_MEM_STAT_CLASS : Fld := ⟨16, 4⟩
abbrev ENS_MEM_STAT_SRC : Fld := ⟨8, 5⟩
abbrev ENS_MEM_STAT_STATUS : Fld := ⟨0, 3⟩
/-- ENS_MEM_W (R155, spec/06_ensemble_and_steering.md). -/
abbrev ENS_MEM_W (i : Nat) : Nat := 0x40040104 + i * 0x20
abbrev ENS_MEM_W_WEIGHT : Fld := ⟨0, 17⟩
/-- ENS_MEM_Y (R155, spec/06_ensemble_and_steering.md). -/
abbrev ENS_MEM_Y (i : Nat) : Nat := 0x40040108 + i * 0x20
abbrev ENS_MEM_Y_VALUE : Fld := ⟨0, 64⟩
/-- ONION_LATCH (R195, spec/08_error_bounds_and_evidence.md). -/
abbrev ONION_LATCH : Nat := 0x40040200
abbrev ONION_LATCH_GO : Fld := ⟨8, 1⟩
abbrev ONION_LATCH_POINT : Fld := ⟨0, 5⟩
/-- ONION_STAT (R195, spec/08_error_bounds_and_evidence.md). -/
abbrev ONION_STAT : Nat := 0x40040204
abbrev ONION_STAT_WIDEN : Fld := ⟨16, 8⟩
abbrev ONION_STAT_CAL_EPOCH : Fld := ⟨0, 16⟩
/-- ONION_TBU (R195, spec/08_error_bounds_and_evidence.md). -/
abbrev ONION_TBU : Nat := 0x40040208
abbrev ONION_TBU_VALUE : Fld := ⟨0, 32⟩
/-- ONION_VDIP (R195, spec/08_error_bounds_and_evidence.md). -/
abbrev ONION_VDIP : Nat := 0x4004020C
abbrev ONION_VDIP_VALUE : Fld := ⟨0, 32⟩
/-- ONION_REC (R195, spec/08_error_bounds_and_evidence.md). -/
abbrev ONION_REC : Nat := 0x40040240
abbrev ONION_REC_VALUE : Fld := ⟨0, 512⟩
/-- ONION_L4 (R195, spec/08_error_bounds_and_evidence.md). -/
abbrev ONION_L4 (i : Nat) : Nat := 0x40040280 + i * 0x4
abbrev ONION_L4_VALUE : Fld := ⟨0, 32⟩
/-- SYN_ISL_STATUS (R221, spec/09_synthesis_and_outputs.md). -/
abbrev SYN_ISL_STATUS : Nat := 0x40050004
abbrev SYN_ISL_STATUS_CFG_REJ : Fld := ⟨2, 1⟩
abbrev SYN_ISL_STATUS_WDROP : Fld := ⟨1, 1⟩
abbrev SYN_ISL_STATUS_BUSY : Fld := ⟨0, 1⟩
/-- SYN_CTRL (R221, spec/09_synthesis_and_outputs.md). -/
abbrev SYN_CTRL (i : Nat) : Nat := 0x40050200 + i * 0x200
abbrev SYN_CTRL_BMIDX : Fld := ⟨20, 4⟩
abbrev SYN_CTRL_FOLLOW : Fld := ⟨16, 1⟩
abbrev SYN_CTRL_EN : Fld := ⟨8, 1⟩
abbrev SYN_CTRL_OP : Fld := ⟨0, 4⟩
/-- SYN_STATUS (R221, spec/09_synthesis_and_outputs.md). -/
abbrev SYN_STATUS (i : Nat) : Nat := 0x40050204 + i * 0x200
abbrev SYN_STATUS_RESULT : Fld := ⟨28, 4⟩
abbrev SYN_STATUS_BAND : Fld := ⟨16, 8⟩
abbrev SYN_STATUS_SRCFAIL : Fld := ⟨11, 1⟩
abbrev SYN_STATUS_LOL : Fld := ⟨10, 1⟩
abbrev SYN_STATUS_SETTLED : Fld := ⟨9, 1⟩
abbrev SYN_STATUS_HOPMISS : Fld := ⟨8, 1⟩
abbrev SYN_STATUS_STATE : Fld := ⟨0, 3⟩
/-- SYN_FREQ (R221, spec/09_synthesis_and_outputs.md). -/
abbrev SYN_FREQ (i : Nat) : Nat := 0x40050208 + i * 0x200
abbrev SYN_FREQ_NINT : Fld := ⟨48, 4⟩
abbrev SYN_FREQ_FRAC : Fld := ⟨0, 48⟩
/-- SYN_DITHER (R221, spec/09_synthesis_and_outputs.md). -/
abbrev SYN_DITHER (i : Nat) : Nat := 0x40050210 + i * 0x200
abbrev SYN_DITHER_EN : Fld := ⟨31, 1⟩
abbrev SYN_DITHER_SEED : Fld := ⟨0, 31⟩
/-- SYN_LOOP (R221, spec/09_synthesis_and_outputs.md). -/
abbrev SYN_LOOP (i : Nat) : Nat := 0x40050214 + i * 0x200
abbrev SYN_LOOP_CLEAN_BW : Fld := ⟨0, 5⟩
/-- SYN_BM (R221, spec/09_synthesis_and_outputs.md). -/
abbrev SYN_BM (i : Nat) (k : Nat) : Nat := 0x40050300 + i * 0x200 + k * 0x10
abbrev SYN_BM_VALID : Fld := ⟨81, 1⟩
abbrev SYN_BM_TDRIFT : Fld := ⟨80, 1⟩
abbrev SYN_BM_TEMP : Fld := ⟨72, 8⟩
abbrev SYN_BM_BAND : Fld := ⟨64, 8⟩
abbrev SYN_BM_NINT : Fld := ⟨48, 4⟩
abbrev SYN_BM_FRAC : Fld := ⟨0, 48⟩
/-- SYN_OUT_CTRL (R221, spec/09_synthesis_and_outputs.md). -/
abbrev SYN_OUT_CTRL (i : Nat) : Nat := 0x40051000 + i * 0x40
abbrev SYN_OUT_CTRL_ALIGNGO : Fld := ⟨14, 1⟩
abbrev SYN_OUT_CTRL_REALIGN : Fld := ⟨13, 1⟩
abbrev SYN_OUT_CTRL_RELOCK_MUTE : Fld := ⟨12, 1⟩
abbrev SYN_OUT_CTRL_ALIGN : Fld := ⟨8, 4⟩
abbrev SYN_OUT_CTRL_SAFE : Fld := ⟨4, 2⟩
abbrev SYN_OUT_CTRL_FMT : Fld := ⟨2, 2⟩
abbrev SYN_OUT_CTRL_EN : Fld := ⟨0, 1⟩
/-- SYN_OUT_STATUS (R221, spec/09_synthesis_and_outputs.md). -/
abbrev SYN_OUT_STATUS (i : Nat) : Nat := 0x40051004 + i * 0x40
abbrev SYN_OUT_STATUS_NOSRC : Fld := ⟨4, 1⟩
abbrev SYN_OUT_STATUS_CLAMPED : Fld := ⟨3, 1⟩
abbrev SYN_OUT_STATUS_FMTERR : Fld := ⟨2, 1⟩
abbrev SYN_OUT_STATUS_ALIGN_NA : Fld := ⟨1, 1⟩
abbrev SYN_OUT_STATUS_ALIGNED : Fld := ⟨0, 1⟩
/-- SYN_OUT_DIV (R221, spec/09_synthesis_and_outputs.md). -/
abbrev SYN_OUT_DIV (i : Nat) : Nat := 0x40051008 + i * 0x40
abbrev SYN_OUT_DIV_DIV : Fld := ⟨0, 34⟩
/-- SYN_OUT_MINPER (R221, spec/09_synthesis_and_outputs.md). -/
abbrev SYN_OUT_MINPER (i : Nat) : Nat := 0x40051010 + i * 0x40
abbrev SYN_OUT_MINPER_MIN_PERIOD : Fld := ⟨0, 40⟩
/-- SYN_PPS_CTRL (R221, spec/09_synthesis_and_outputs.md). -/
abbrev SYN_PPS_CTRL (i : Nat) : Nat := 0x40052000 + i * 0x40
abbrev SYN_PPS_CTRL_ALIGN : Fld := ⟨8, 4⟩
abbrev SYN_PPS_CTRL_POL : Fld := ⟨6, 1⟩
abbrev SYN_PPS_CTRL_SAFE : Fld := ⟨4, 2⟩
abbrev SYN_PPS_CTRL_MODE : Fld := ⟨1, 2⟩
abbrev SYN_PPS_CTRL_EN : Fld := ⟨0, 1⟩
/-- SYN_PPS_STATUS (R221, spec/09_synthesis_and_outputs.md). -/
abbrev SYN_PPS_STATUS (i : Nat) : Nat := 0x40052004 + i * 0x40
abbrev SYN_PPS_STATUS_SKIP : Fld := ⟨16, 16⟩
abbrev SYN_PPS_STATUS_NOSRC : Fld := ⟨1, 1⟩
abbrev SYN_PPS_STATUS_HOLD : Fld := ⟨0, 1⟩
/-- SYN_PPS_WIDTH (R221, spec/09_synthesis_and_outputs.md). -/
abbrev SYN_PPS_WIDTH (i : Nat) : Nat := 0x40052008 + i * 0x40
abbrev SYN_PPS_WIDTH_VALUE : Fld := ⟨0, 32⟩
/-- SYN_PPS_OFFSET (R221, spec/09_synthesis_and_outputs.md). -/
abbrev SYN_PPS_OFFSET (i : Nat) : Nat := 0x40052010 + i * 0x40
abbrev SYN_PPS_OFFSET_OFFSET : Fld := ⟨0, 40⟩
/-- SYN_PPS_PER (R221, spec/09_synthesis_and_outputs.md). -/
abbrev SYN_PPS_PER (i : Nat) : Nat := 0x40052018 + i * 0x40
abbrev SYN_PPS_PER_PER : Fld := ⟨0, 50⟩
/-- SYN_PPS_START (R221, spec/09_synthesis_and_outputs.md). -/
abbrev SYN_PPS_START (i : Nat) : Nat := 0x40052020 + i * 0x40
abbrev SYN_PPS_START_SECONDS : Fld := ⟨64, 64⟩
abbrev SYN_PPS_START_NS : Fld := ⟨32, 32⟩
abbrev SYN_PPS_START_FRAC : Fld := ⟨0, 32⟩
/-- SYN_PPS_FRAME (R221, spec/09_synthesis_and_outputs.md). -/
abbrev SYN_PPS_FRAME (i : Nat) : Nat := 0x40052030 + i * 0x40
abbrev SYN_PPS_FRAME_FRAMEN : Fld := ⟨48, 16⟩
abbrev SYN_PPS_FRAME_FRAMEW : Fld := ⟨0, 32⟩
/-- SYN_IRIG_CTRL (R221, spec/09_synthesis_and_outputs.md). -/
abbrev SYN_IRIG_CTRL (i : Nat) : Nat := 0x40053000 + i * 0x40
abbrev SYN_IRIG_CTRL_SAFE : Fld := ⟨6, 2⟩
abbrev SYN_IRIG_CTRL_CFMODE : Fld := ⟨5, 1⟩
abbrev SYN_IRIG_CTRL_TSCALE : Fld := ⟨4, 1⟩
abbrev SYN_IRIG_CTRL_CODE : Fld := ⟨1, 3⟩
abbrev SYN_IRIG_CTRL_EN : Fld := ⟨0, 1⟩
/-- SYN_TOD_CTRL (R221, spec/09_synthesis_and_outputs.md). -/
abbrev SYN_TOD_CTRL (i : Nat) : Nat := 0x40053100 + i * 0x40
abbrev SYN_TOD_CTRL_START : Fld := ⟨16, 16⟩
abbrev SYN_TOD_CTRL_PPS : Fld := ⟨12, 3⟩
abbrev SYN_TOD_CTRL_BAUD : Fld := ⟨9, 3⟩
abbrev SYN_TOD_CTRL_LABEL : Fld := ⟨8, 1⟩
abbrev SYN_TOD_CTRL_FMT : Fld := ⟨4, 2⟩
abbrev SYN_TOD_CTRL_SAFE : Fld := ⟨1, 2⟩
abbrev SYN_TOD_CTRL_EN : Fld := ⟨0, 1⟩
/-- SYN_TOD_CNT (R221, spec/09_synthesis_and_outputs.md). -/
abbrev SYN_TOD_CNT (i : Nat) : Nat := 0x40053104 + i * 0x40
abbrev SYN_TOD_CNT_SKIP : Fld := ⟨16, 16⟩
abbrev SYN_TOD_CNT_SENT : Fld := ⟨0, 16⟩
/-- SYN_TOD_TALKER (R221, spec/09_synthesis_and_outputs.md). -/
abbrev SYN_TOD_TALKER (i : Nat) : Nat := 0x40053108 + i * 0x40
abbrev SYN_TOD_TALKER_TALKER : Fld := ⟨0, 16⟩
/-- GNS_ISL_STATUS (R249, spec/10_gnss_baseband.md). -/
abbrev GNS_ISL_STATUS : Nat := 0x40060004
abbrev GNS_ISL_STATUS_CLKFAIL : Fld := ⟨3, 1⟩
abbrev GNS_ISL_STATUS_CFG_REJ : Fld := ⟨2, 1⟩
abbrev GNS_ISL_STATUS_WDROP : Fld := ⟨1, 1⟩
abbrev GNS_ISL_STATUS_BUSY : Fld := ⟨0, 1⟩
/-- GNS_CLK_CFG (R249, spec/10_gnss_baseband.md). -/
abbrev GNS_CLK_CFG : Nat := 0x40060010
abbrev GNS_CLK_CFG_FREQ : Fld := ⟨0, 18⟩
/-- GNS_SOL (R249, spec/10_gnss_baseband.md). -/
abbrev GNS_SOL : Nat := 0x40060014
abbrev GNS_SOL_NSAT : Fld := ⟨24, 8⟩
abbrev GNS_SOL_START : Fld := ⟨20, 2⟩
abbrev GNS_SOL_POS : Fld := ⟨12, 2⟩
abbrev GNS_SOL_VERDICT : Fld := ⟨8, 2⟩
abbrev GNS_SOL_SLEEP : Fld := ⟨1, 1⟩
abbrev GNS_SOL_FIX : Fld := ⟨0, 1⟩
/-- GNS_SIGMA (R249, spec/10_gnss_baseband.md). -/
abbrev GNS_SIGMA : Nat := 0x40060018
abbrev GNS_SIGMA_VALUE : Fld := ⟨0, 32⟩
/-- GNS_PPS_MISS (R249, spec/10_gnss_baseband.md). -/
abbrev GNS_PPS_MISS : Nat := 0x4006001C
abbrev GNS_PPS_MISS_COUNT : Fld := ⟨0, 32⟩
/-- GNS_CAUSE (R249, spec/10_gnss_baseband.md). -/
abbrev GNS_CAUSE : Nat := 0x40060020
abbrev GNS_CAUSE_CAUSE : Fld := ⟨0, 16⟩
/-- GNS_FESPI_CTRL (R249, spec/10_gnss_baseband.md). -/
abbrev GNS_FESPI_CTRL : Nat := 0x40060024
abbrev GNS_FESPI_CTRL_GO : Fld := ⟨8, 1⟩
abbrev GNS_FESPI_CTRL_CS : Fld := ⟨6, 2⟩
abbrev GNS_FESPI_CTRL_LEN : Fld := ⟨0, 5⟩
/-- GNS_FESPI_DATA (R249, spec/10_gnss_baseband.md). -/
abbrev GNS_FESPI_DATA : Nat := 0x40060028
abbrev GNS_FESPI_DATA_VALUE : Fld := ⟨0, 32⟩
/-- GNS_PORT_CTRL (R249, spec/10_gnss_baseband.md). -/
abbrev GNS_PORT_CTRL (i : Nat) : Nat := 0x40060100 + i * 0x40
abbrev GNS_PORT_CTRL_IQSWAP : Fld := ⟨6, 1⟩
abbrev GNS_PORT_CTRL_INV : Fld := ⟨5, 1⟩
abbrev GNS_PORT_CTRL_FMT : Fld := ⟨4, 1⟩
abbrev GNS_PORT_CTRL_DECIM : Fld := ⟨1, 2⟩
abbrev GNS_PORT_CTRL_EN : Fld := ⟨0, 1⟩
/-- GNS_PORT_CENTER (R249, spec/10_gnss_baseband.md). -/
abbrev GNS_PORT_CENTER (i : Nat) : Nat := 0x40060108 + i * 0x40
abbrev GNS_PORT_CENTER_CENTER : Fld := ⟨0, 48⟩
/-- GNS_PORT_STATUS (R249, spec/10_gnss_baseband.md). -/
abbrev GNS_PORT_STATUS (i : Nat) : Nat := 0x40060110 + i * 0x40
abbrev GNS_PORT_STATUS_SAT : Fld := ⟨8, 8⟩
abbrev GNS_PORT_STATUS_OVF : Fld := ⟨2, 1⟩
abbrev GNS_PORT_STATUS_NOCLK : Fld := ⟨1, 1⟩
abbrev GNS_PORT_STATUS_ACTIVE : Fld := ⟨0, 1⟩
/-- GNS_PORT_DROP (R249, spec/10_gnss_baseband.md). -/
abbrev GNS_PORT_DROP (i : Nat) : Nat := 0x40060114 + i * 0x40
abbrev GNS_PORT_DROP_COUNT : Fld := ⟨0, 32⟩
/-- GNS_CH_STAT (R249, spec/10_gnss_baseband.md). -/
abbrev GNS_CH_STAT (i : Nat) : Nat := 0x40061000 + i * 0x10
abbrev GNS_CH_STAT_CN0 : Fld := ⟨24, 8⟩
abbrev GNS_CH_STAT_SV : Fld := ⟨16, 8⟩
abbrev GNS_CH_STAT_SIG : Fld := ⟨10, 6⟩
abbrev GNS_CH_STAT_PORT : Fld := ⟨8, 2⟩
abbrev GNS_CH_STAT_STATE : Fld := ⟨0, 3⟩
/-- GNS_CH_CFG (R249, spec/10_gnss_baseband.md). -/
abbrev GNS_CH_CFG (i : Nat) : Nat := 0x40061004 + i * 0x10
abbrev GNS_CH_CFG_SPACING : Fld := ⟨16, 7⟩
abbrev GNS_CH_CFG_PROBE : Fld := ⟨0, 9⟩
/-- MAC_ISL_STATUS (R274, spec/11_ports_and_mac.md). -/
abbrev MAC_ISL_STATUS (i : Nat) : Nat := 0x40100004 + i * 0x10000
abbrev MAC_ISL_STATUS_CFG_REJ : Fld := ⟨2, 1⟩
abbrev MAC_ISL_STATUS_WDROP : Fld := ⟨1, 1⟩
abbrev MAC_ISL_STATUS_BUSY : Fld := ⟨0, 1⟩
/-- MAC_PORT_CFG (R274, spec/11_ports_and_mac.md). -/
abbrev MAC_PORT_CFG (i : Nat) : Nat := 0x40100010 + i * 0x10000
abbrev MAC_PORT_CFG_SPEED : Fld := ⟨24, 4⟩
abbrev MAC_PORT_CFG_ENC : Fld := ⟨20, 2⟩
abbrev MAC_PORT_CFG_FEC : Fld := ⟨18, 2⟩
abbrev MAC_PORT_CFG_HVC : Fld := ⟨13, 3⟩
abbrev MAC_PORT_CFG_DUPLEX : Fld := ⟨12, 1⟩
abbrev MAC_PORT_CFG_EN : Fld := ⟨0, 1⟩
/-- MAC_PORT_STATUS (R274, spec/11_ports_and_mac.md). -/
abbrev MAC_PORT_STATUS (i : Nat) : Nat := 0x40100014 + i * 0x10000
abbrev MAC_PORT_STATUS_SERVICE : Fld := ⟨8, 1⟩
abbrev MAC_PORT_STATUS_ALIGNED : Fld := ⟨1, 1⟩
abbrev MAC_PORT_STATUS_LINK : Fld := ⟨0, 1⟩
/-- MAC_MAXFRAME (R274, spec/11_ports_and_mac.md). -/
abbrev MAC_MAXFRAME (i : Nat) : Nat := 0x40100018 + i * 0x10000
abbrev MAC_MAXFRAME_LEN : Fld := ⟨0, 14⟩
/-- MAC_TS_EXT (R274, spec/11_ports_and_mac.md). -/
abbrev MAC_TS_EXT (i : Nat) : Nat := 0x40100020 + i * 0x10000
abbrev MAC_TS_EXT_TX : Fld := ⟨32, 32⟩
abbrev MAC_TS_EXT_RX : Fld := ⟨0, 32⟩
/-- MAC_TS_INT (R274, spec/11_ports_and_mac.md). -/
abbrev MAC_TS_INT (i : Nat) : Nat := 0x40100028 + i * 0x10000
abbrev MAC_TS_INT_TX : Fld := ⟨32, 32⟩
abbrev MAC_TS_INT_RX : Fld := ⟨0, 32⟩
/-- MAC_TS_ASYM (R274, spec/11_ports_and_mac.md). -/
abbrev MAC_TS_ASYM (i : Nat) : Nat := 0x40100030 + i * 0x10000
abbrev MAC_TS_ASYM_VALUE : Fld := ⟨0, 32⟩
/-- MAC_FC (R274, spec/11_ports_and_mac.md). -/
abbrev MAC_FC (i : Nat) : Nat := 0x40100040 + i * 0x10000
abbrev MAC_FC_QUANTA : Fld := ⟨16, 16⟩
abbrev MAC_FC_PFC_EN : Fld := ⟨8, 8⟩
abbrev MAC_FC_RXHONOR : Fld := ⟨4, 1⟩
abbrev MAC_FC_PAUSE_ON_SERVICE : Fld := ⟨3, 1⟩
abbrev MAC_FC_MODE : Fld := ⟨0, 2⟩
/-- MAC_FC_WM (R274, spec/11_ports_and_mac.md). -/
abbrev MAC_FC_WM (i : Nat) : Nat := 0x40100044 + i * 0x10000
abbrev MAC_FC_WM_HIGH : Fld := ⟨16, 16⟩
abbrev MAC_FC_WM_LOW : Fld := ⟨0, 16⟩
/-- MAC_FILT (R274, spec/11_ports_and_mac.md). -/
abbrev MAC_FILT (i : Nat) (k : Nat) : Nat := 0x40100100 + i * 0x10000 + k * 0x8
abbrev MAC_FILT_VALID : Fld := ⟨63, 1⟩
abbrev MAC_FILT_ADDR : Fld := ⟨0, 48⟩
/-- MAC_FILT_FIX (R274, spec/11_ports_and_mac.md). -/
abbrev MAC_FILT_FIX (i : Nat) : Nat := 0x40100180 + i * 0x10000
abbrev MAC_FILT_FIX_PROMISC : Fld := ⟨10, 1⟩
abbrev MAC_FILT_FIX_BCAST : Fld := ⟨9, 1⟩
abbrev MAC_FILT_FIX_FIXED : Fld := ⟨0, 9⟩
/-- MAC_TC_MAP (R274, spec/11_ports_and_mac.md). -/
abbrev MAC_TC_MAP (i : Nat) : Nat := 0x40100200 + i * 0x10000
abbrev MAC_TC_MAP_NTP : Fld := ⟨8, 3⟩
abbrev MAC_TC_MAP_GENERAL : Fld := ⟨4, 3⟩
abbrev MAC_TC_MAP_EVENT : Fld := ⟨0, 3⟩
/-- MAC_QBV_CTRL (R274, spec/11_ports_and_mac.md). -/
abbrev MAC_QBV_CTRL (i : Nat) : Nat := 0x40100300 + i * 0x10000
abbrev MAC_QBV_CTRL_LEN : Fld := ⟨16, 11⟩
abbrev MAC_QBV_CTRL_VC : Fld := ⟨8, 3⟩
abbrev MAC_QBV_CTRL_DROP_LATE : Fld := ⟨2, 1⟩
abbrev MAC_QBV_CTRL_GO : Fld := ⟨1, 1⟩
abbrev MAC_QBV_CTRL_EN : Fld := ⟨0, 1⟩
/-- MAC_QBV_STATUS (R274, spec/11_ports_and_mac.md). -/
abbrev MAC_QBV_STATUS (i : Nat) : Nat := 0x40100304 + i * 0x10000
abbrev MAC_QBV_STATUS_PENDING : Fld := ⟨1, 1⟩
abbrev MAC_QBV_STATUS_OPER : Fld := ⟨0, 1⟩
/-- MAC_QBV_BASE (R274, spec/11_ports_and_mac.md). -/
abbrev MAC_QBV_BASE (i : Nat) : Nat := 0x40100310 + i * 0x10000
abbrev MAC_QBV_BASE_SECONDS : Fld := ⟨64, 64⟩
abbrev MAC_QBV_BASE_NS : Fld := ⟨32, 32⟩
abbrev MAC_QBV_BASE_FRAC : Fld := ⟨0, 32⟩
/-- MAC_QBV_CYCLE (R274, spec/11_ports_and_mac.md). -/
abbrev MAC_QBV_CYCLE (i : Nat) : Nat := 0x40100320 + i * 0x10000
abbrev MAC_QBV_CYCLE_CYCLE : Fld := ⟨0, 32⟩
/-- MAC_TSQ_STATUS (R274, spec/11_ports_and_mac.md). -/
abbrev MAC_TSQ_STATUS (i : Nat) : Nat := 0x40100400 + i * 0x10000
abbrev MAC_TSQ_STATUS_COUNT : Fld := ⟨16, 11⟩
abbrev MAC_TSQ_STATUS_LOST : Fld := ⟨0, 16⟩
/-- MAC_TSQ_ENTRY (R274, spec/11_ports_and_mac.md). -/
abbrev MAC_TSQ_ENTRY (i : Nat) : Nat := 0x40100410 + i * 0x10000
abbrev MAC_TSQ_ENTRY_VALUE : Fld := ⟨0, 256⟩
/-- MAC_PRP_CFG (R274, spec/11_ports_and_mac.md). -/
abbrev MAC_PRP_CFG (i : Nat) : Nat := 0x40100500 + i * 0x20000
abbrev MAC_PRP_CFG_FORGET : Fld := ⟨16, 16⟩
abbrev MAC_PRP_CFG_LIFE : Fld := ⟨4, 12⟩
abbrev MAC_PRP_CFG_EN : Fld := ⟨0, 1⟩
/-- MAC_GCL (R274, spec/11_ports_and_mac.md). -/
abbrev MAC_GCL (i : Nat) (k : Nat) : Nat := 0x40104000 + i * 0x10000 + k * 0x8
abbrev MAC_GCL_GATES : Fld := ⟨32, 8⟩
abbrev MAC_GCL_INTERVAL : Fld := ⟨0, 32⟩
/-- MAC_MDIO (R274, spec/11_ports_and_mac.md). -/
abbrev MAC_MDIO : Nat := 0x40180600
abbrev MAC_MDIO_OP : Fld := ⟨30, 2⟩
abbrev MAC_MDIO_CL45 : Fld := ⟨29, 1⟩
abbrev MAC_MDIO_PHYAD : Fld := ⟨24, 5⟩
abbrev MAC_MDIO_REGAD : Fld := ⟨16, 5⟩
abbrev MAC_MDIO_DATA : Fld := ⟨0, 16⟩
/-- PTP_ISL_STATUS (R297, spec/12_ptp_engine.md). -/
abbrev PTP_ISL_STATUS : Nat := 0x40200004
abbrev PTP_ISL_STATUS_WDROP : Fld := ⟨1, 1⟩
abbrev PTP_ISL_STATUS_BUSY : Fld := ⟨0, 1⟩
/-- PTP_ORG (R297, spec/12_ptp_engine.md). -/
abbrev PTP_ORG : Nat := 0x40200010
abbrev PTP_ORG_OUI : Fld := ⟨0, 24⟩
/-- PTP_BUDGET (R297, spec/12_ptp_engine.md). -/
abbrev PTP_BUDGET : Nat := 0x40200018
abbrev PTP_BUDGET_RATE : Fld := ⟨32, 32⟩
/-- PTP_INST_STAT (R297, spec/12_ptp_engine.md). -/
abbrev PTP_INST_STAT (i : Nat) : Nat := 0x40200100 + i * 0x40
abbrev PTP_INST_STAT_DOMAIN : Fld := ⟨24, 8⟩
abbrev PTP_INST_STAT_CAUSE : Fld := ⟨20, 4⟩
abbrev PTP_INST_STAT_PROFILE : Fld := ⟨16, 4⟩
abbrev PTP_INST_STAT_VC : Fld := ⟨13, 3⟩
abbrev PTP_INST_STAT_ROLE : Fld := ⟨12, 1⟩
abbrev PTP_INST_STAT_AUTHBARE : Fld := ⟨11, 1⟩
abbrev PTP_INST_STAT_STATE : Fld := ⟨0, 3⟩
/-- PTP_INST_UP (R297, spec/12_ptp_engine.md). -/
abbrev PTP_INST_UP (i : Nat) : Nat := 0x40200108 + i * 0x40
abbrev PTP_INST_UP_BOUND_NS : Fld := ⟨32, 32⟩
abbrev PTP_INST_UP_CLASS : Fld := ⟨24, 8⟩
abbrev PTP_INST_UP_ACCURACY : Fld := ⟨16, 8⟩
abbrev PTP_INST_UP_TSOURCE : Fld := ⟨8, 8⟩
abbrev PTP_INST_UP_STEPS : Fld := ⟨0, 8⟩
/-- PTP_INST_GRANTS (R297, spec/12_ptp_engine.md). -/
abbrev PTP_INST_GRANTS (i : Nat) : Nat := 0x40200110 + i * 0x40
abbrev PTP_INST_GRANTS_COUNT : Fld := ⟨0, 32⟩
/-- PTP_INST_BUDGET (R297, spec/12_ptp_engine.md). -/
abbrev PTP_INST_BUDGET (i : Nat) : Nat := 0x40200114 + i * 0x40
abbrev PTP_INST_BUDGET_RATE : Fld := ⟨0, 32⟩
/-- NSE_ISL_STATUS (R322, spec/13_ntp_nts_service.md). -/
abbrev NSE_ISL_STATUS : Nat := 0x40210004
abbrev NSE_ISL_STATUS_CKEY_FAIL : Fld := ⟨3, 1⟩
abbrev NSE_ISL_STATUS_CFG_REJ : Fld := ⟨2, 1⟩
abbrev NSE_ISL_STATUS_WDROP : Fld := ⟨1, 1⟩
abbrev NSE_ISL_STATUS_BUSY : Fld := ⟨0, 1⟩
/-- NSE_CFG (R322, spec/13_ntp_nts_service.md). -/
abbrev NSE_CFG : Nat := 0x40210010
abbrev NSE_CFG_BFTYPE : Fld := ⟨16, 16⟩
abbrev NSE_CFG_TTL : Fld := ⟨8, 8⟩
abbrev NSE_CFG_DSCP : Fld := ⟨2, 6⟩
abbrev NSE_CFG_EN : Fld := ⟨0, 1⟩
/-- NSE_ADMIT (R322, spec/13_ntp_nts_service.md). -/
abbrev NSE_ADMIT : Nat := 0x40210014
abbrev NSE_ADMIT_LIMIT : Fld := ⟨16, 16⟩
abbrev NSE_ADMIT_KOD_EN : Fld := ⟨0, 1⟩
/-- NSE_CKEY (R322, spec/13_ntp_nts_service.md). -/
abbrev NSE_CKEY (i : Nat) : Nat := 0x40210020 + i * 0x4
abbrev NSE_CKEY_VALID : Fld := ⟨31, 1⟩
abbrev NSE_CKEY_SLOT : Fld := ⟨0, 12⟩
/-- NSE_ADDR (R322, spec/13_ntp_nts_service.md). -/
abbrev NSE_ADDR (i : Nat) : Nat := 0x40210100 + i * 0x20
abbrev NSE_ADDR_VALUE : Fld := ⟨0, 128⟩
/-- NSE_ADDR_CTRL (R322, spec/13_ntp_nts_service.md). -/
abbrev NSE_ADDR_CTRL (i : Nat) : Nat := 0x40210110 + i * 0x20
abbrev NSE_ADDR_CTRL_EN : Fld := ⟨31, 1⟩
abbrev NSE_ADDR_CTRL_PORTS : Fld := ⟨0, 9⟩
/-- PLC_ISL_STATUS (R322, spec/13_ntp_nts_service.md). -/
abbrev PLC_ISL_STATUS : Nat := 0x40220004
abbrev PLC_ISL_STATUS_WDROP : Fld := ⟨1, 1⟩
abbrev PLC_ISL_STATUS_BUSY : Fld := ⟨0, 1⟩
/-- PLC_TRACE (R322, spec/13_ntp_nts_service.md). -/
abbrev PLC_TRACE : Nat := 0x40220010
abbrev PLC_TRACE_SAMPLE : Fld := ⟨8, 4⟩
abbrev PLC_TRACE_EN : Fld := ⟨0, 1⟩
/-- PLC_CACHE (R322, spec/13_ntp_nts_service.md). -/
abbrev PLC_CACHE : Nat := 0x40220020
abbrev PLC_CACHE_OCC : Fld := ⟨0, 18⟩
/-- PLC_LEDGER (R322, spec/13_ntp_nts_service.md). -/
abbrev PLC_LEDGER : Nat := 0x40220024
abbrev PLC_LEDGER_ALLOC : Fld := ⟨0, 25⟩
/-- PLC_LEDGER_CAP (R322, spec/13_ntp_nts_service.md). -/
abbrev PLC_LEDGER_CAP : Nat := 0x40220028
abbrev PLC_LEDGER_CAP_CAP : Fld := ⟨0, 25⟩
/-- KEY_ISL_STATUS (R341, spec/14_keys_and_tamper.md). -/
abbrev KEY_ISL_STATUS : Nat := 0x40300004
abbrev KEY_ISL_STATUS_WDROP : Fld := ⟨1, 1⟩
abbrev KEY_ISL_STATUS_BUSY : Fld := ⟨0, 1⟩
/-- KEY_STATUS (R341, spec/14_keys_and_tamper.md). -/
abbrev KEY_STATUS : Nat := 0x40300010
abbrev KEY_STATUS_RCOUNT : Fld := ⟨24, 8⟩
abbrev KEY_STATUS_CAUSE : Fld := ⟨16, 4⟩
abbrev KEY_STATUS_KALOCK : Fld := ⟨10, 1⟩
abbrev KEY_STATUS_SIGNED_ADMIN : Fld := ⟨9, 1⟩
abbrev KEY_STATUS_ROOT_NEW : Fld := ⟨8, 1⟩
abbrev KEY_STATUS_VAULT : Fld := ⟨0, 3⟩
/-- KEY_CHAL (R341, spec/14_keys_and_tamper.md). -/
abbrev KEY_CHAL : Nat := 0x40300020
abbrev KEY_CHAL_NONCE : Fld := ⟨32, 96⟩
abbrev KEY_CHAL_COUNT : Fld := ⟨0, 32⟩
/-- KEY_TAMP_CFG (R341, spec/14_keys_and_tamper.md). -/
abbrev KEY_TAMP_CFG (i : Nat) : Nat := 0x40300040 + i * 0x4
abbrev KEY_TAMP_CFG_FILT : Fld := ⟨8, 8⟩
abbrev KEY_TAMP_CFG_CLASS : Fld := ⟨4, 2⟩
abbrev KEY_TAMP_CFG_LEVEL : Fld := ⟨0, 1⟩
/-- KEY_TAMP_STAT (R341, spec/14_keys_and_tamper.md). -/
abbrev KEY_TAMP_STAT : Nat := 0x40300060
abbrev KEY_TAMP_STAT_LOGCNT : Fld := ⟨24, 4⟩
abbrev KEY_TAMP_STAT_LATCH_B : Fld := ⟨17, 1⟩
abbrev KEY_TAMP_STAT_LOG_OVF : Fld := ⟨16, 1⟩
abbrev KEY_TAMP_STAT_ACTIVE : Fld := ⟨8, 5⟩
abbrev KEY_TAMP_STAT_ALARMED : Fld := ⟨0, 5⟩
/-- KEY_KA_TIME (R341, spec/14_keys_and_tamper.md). -/
abbrev KEY_KA_TIME : Nat := 0x40300068
abbrev KEY_KA_TIME_COUNT : Fld := ⟨0, 48⟩
/-- KEY_SLOT_META (R341, spec/14_keys_and_tamper.md). -/
abbrev KEY_SLOT_META (i : Nat) : Nat := 0x40308000 + i * 0x8
abbrev KEY_SLOT_META_GEN : Fld := ⟨32, 32⟩
abbrev KEY_SLOT_META_PARENT : Fld := ⟨20, 12⟩
abbrev KEY_SLOT_META_STATE : Fld := ⟨16, 2⟩
abbrev KEY_SLOT_META_KIND : Fld := ⟨12, 2⟩
abbrev KEY_SLOT_META_USE : Fld := ⟨8, 3⟩
abbrev KEY_SLOT_META_TYPE : Fld := ⟨4, 3⟩
/-- TWN_ISL_STATUS (R357, spec/15_twin_pairs.md). -/
abbrev TWN_ISL_STATUS : Nat := 0x40310004
abbrev TWN_ISL_STATUS_CFG_REJ : Fld := ⟨2, 1⟩
abbrev TWN_ISL_STATUS_WDROP : Fld := ⟨1, 1⟩
abbrev TWN_ISL_STATUS_BUSY : Fld := ⟨0, 1⟩
/-- TWN_CFG (R357, spec/15_twin_pairs.md). -/
abbrev TWN_CFG : Nat := 0x40310010
abbrev TWN_CFG_HB_TIMEOUT : Fld := ⟨16, 16⟩
abbrev TWN_CFG_SVC_PORTS : Fld := ⟨8, 8⟩
abbrev TWN_CFG_SIDE : Fld := ⟨1, 1⟩
abbrev TWN_CFG_EN : Fld := ⟨0, 1⟩
/-- TWN_STATUS (R357, spec/15_twin_pairs.md). -/
abbrev TWN_STATUS : Nat := 0x40310014
abbrev TWN_STATUS_CAUSE : Fld := ⟨24, 4⟩
abbrev TWN_STATUS_LOCK_IN : Fld := ⟨12, 1⟩
abbrev TWN_STATUS_YIELD : Fld := ⟨11, 1⟩
abbrev TWN_STATUS_CONFLICT : Fld := ⟨10, 1⟩
abbrev TWN_STATUS_HBPATH : Fld := ⟨9, 1⟩
abbrev TWN_STATUS_LINKPATH : Fld := ⟨8, 1⟩
abbrev TWN_STATUS_AUTH : Fld := ⟨4, 2⟩
abbrev TWN_STATUS_STATE : Fld := ⟨0, 3⟩
/-- TWN_PEER (R357, spec/15_twin_pairs.md). -/
abbrev TWN_PEER : Nat := 0x40310018
abbrev TWN_PEER_ALIVE : Fld := ⟨8, 8⟩
abbrev TWN_PEER_STATE : Fld := ⟨4, 3⟩
abbrev TWN_PEER_BOUND : Fld := ⟨3, 1⟩
abbrev TWN_PEER_AUTH : Fld := ⟨1, 2⟩
abbrev TWN_PEER_FAILING : Fld := ⟨0, 1⟩
/-- TWN_SVC_MAC (R357, spec/15_twin_pairs.md). -/
abbrev TWN_SVC_MAC : Nat := 0x40310020
abbrev TWN_SVC_MAC_ADDR : Fld := ⟨0, 48⟩
/-- TWN_LINK_SLOT (R357, spec/15_twin_pairs.md). -/
abbrev TWN_LINK_SLOT : Nat := 0x40310028
abbrev TWN_LINK_SLOT_SLOT : Fld := ⟨0, 12⟩
/-- TWN_CNT (R357, spec/15_twin_pairs.md). -/
abbrev TWN_CNT : Nat := 0x40310030
abbrev TWN_CNT_AUTH_FAIL : Fld := ⟨16, 16⟩
abbrev TWN_CNT_LOCK_CONFLICT : Fld := ⟨0, 16⟩
/-- FLT_ISL_STATUS (R427, spec/18_faults.md). -/
abbrev FLT_ISL_STATUS : Nat := 0x40320004
abbrev FLT_ISL_STATUS_WDROP : Fld := ⟨1, 1⟩
abbrev FLT_ISL_STATUS_BUSY : Fld := ⟨0, 1⟩
/-- FLT_CFG (R427, spec/18_faults.md). -/
abbrev FLT_CFG : Nat := 0x40320010
abbrev FLT_CFG_ERR_CLASS : Fld := ⟨0, 2⟩
/-- FLT_STATUS (R427, spec/18_faults.md). -/
abbrev FLT_STATUS : Nat := 0x40320014
abbrev FLT_STATUS_FATAL : Fld := ⟨9, 1⟩
abbrev FLT_STATUS_ERR : Fld := ⟨8, 1⟩
abbrev FLT_STATUS_MAXCLASS : Fld := ⟨4, 2⟩
abbrev FLT_STATUS_LATCHED : Fld := ⟨0, 1⟩
/-- FLT_ACK (R427, spec/18_faults.md). -/
abbrev FLT_ACK : Nat := 0x40320018
abbrev FLT_ACK_ACK : Fld := ⟨0, 1⟩
/-- FLT_PEND (R427, spec/18_faults.md). -/
abbrev FLT_PEND (i : Nat) : Nat := 0x40320020 + i * 0x4
abbrev FLT_PEND_VALUE : Fld := ⟨0, 32⟩
/-- FLT_CAUSE (R427, spec/18_faults.md). -/
abbrev FLT_CAUSE (i : Nat) : Nat := 0x40320040 + i * 0x4
abbrev FLT_CAUSE_VALUE : Fld := ⟨0, 32⟩
/-- FLT_REC (R427, spec/18_faults.md). -/
abbrev FLT_REC : Nat := 0x40320080
abbrev FLT_REC_RECORD : Fld := ⟨0, 512⟩
/-- FLT_CLASS (R427, spec/18_faults.md). -/
abbrev FLT_CLASS (i : Nat) : Nat := 0x40320400 + i * 0x4
abbrev FLT_CLASS_CLASS : Fld := ⟨0, 2⟩
/-- FLT_HIST (R427, spec/18_faults.md). -/
abbrev FLT_HIST (i : Nat) : Nat := 0x40320800 + i * 0x40
abbrev FLT_HIST_RECORD : Fld := ⟨0, 512⟩
/-- FLT_MLOG (R427, spec/18_faults.md). -/
abbrev FLT_MLOG (i : Nat) : Nat := 0x40320C00 + i * 0x40
abbrev FLT_MLOG_RECORD : Fld := ⟨0, 512⟩
/-- PWR_ISL_STATUS (R448, spec/19_power_clocks_startup.md). -/
abbrev PWR_ISL_STATUS : Nat := 0x40330004
abbrev PWR_ISL_STATUS_CFG_REJ : Fld := ⟨2, 1⟩
abbrev PWR_ISL_STATUS_WDROP : Fld := ⟨1, 1⟩
abbrev PWR_ISL_STATUS_BUSY : Fld := ⟨0, 1⟩
/-- PWR_STATUS (R448, spec/19_power_clocks_startup.md). -/
abbrev PWR_STATUS : Nat := 0x40330010
abbrev PWR_STATUS_KA_LOST : Fld := ⟨8, 1⟩
abbrev PWR_STATUS_PWRGOOD : Fld := ⟨3, 1⟩
abbrev PWR_STATUS_WARN : Fld := ⟨0, 3⟩
/-- PWR_BOOT (R448, spec/19_power_clocks_startup.md). -/
abbrev PWR_BOOT : Nat := 0x40330014
abbrev PWR_BOOT_STAGE : Fld := ⟨8, 3⟩
abbrev PWR_BOOT_STATUS : Fld := ⟨0, 4⟩
/-- PWR_RSTCAUSE (R448, spec/19_power_clocks_startup.md). -/
abbrev PWR_RSTCAUSE : Nat := 0x40330018
abbrev PWR_RSTCAUSE_TRIGGER : Fld := ⟨4, 3⟩
abbrev PWR_RSTCAUSE_CLASS : Fld := ⟨0, 3⟩
/-- PWR_DIPCNT (R448, spec/19_power_clocks_startup.md). -/
abbrev PWR_DIPCNT : Nat := 0x4033001C
abbrev PWR_DIPCNT_VKA : Fld := ⟨16, 8⟩
abbrev PWR_DIPCNT_VDDA : Fld := ⟨8, 8⟩
abbrev PWR_DIPCNT_VDD : Fld := ⟨0, 8⟩
/-- PWR_RESET (R448, spec/19_power_clocks_startup.md). -/
abbrev PWR_RESET : Nat := 0x40330020
abbrev PWR_RESET_KEY : Fld := ⟨16, 16⟩
abbrev PWR_RESET_GO : Fld := ⟨0, 1⟩
/-- CLK_ISL_STATUS (R449, spec/19_power_clocks_startup.md). -/
abbrev CLK_ISL_STATUS : Nat := 0x40340004
abbrev CLK_ISL_STATUS_CFG_REJ : Fld := ⟨2, 1⟩
abbrev CLK_ISL_STATUS_WDROP : Fld := ⟨1, 1⟩
abbrev CLK_ISL_STATUS_BUSY : Fld := ⟨0, 1⟩
/-- CLK_CFG (R449, spec/19_power_clocks_startup.md). -/
abbrev CLK_CFG : Nat := 0x40340010
abbrev CLK_CFG_LOFREQ : Fld := ⟨0, 2⟩
/-- CLK_STATUS (R449, spec/19_power_clocks_startup.md). -/
abbrev CLK_STATUS : Nat := 0x40340014
abbrev CLK_STATUS_SWITCH_FORCED : Fld := ⟨11, 1⟩
abbrev CLK_STATUS_TB_LOL : Fld := ⟨10, 1⟩
abbrev CLK_STATUS_BOOTCLK_TB : Fld := ⟨9, 1⟩
abbrev CLK_STATUS_LO_STOPPED : Fld := ⟨8, 1⟩
abbrev CLK_STATUS_SDREF_OK : Fld := ⟨3, 2⟩
abbrev CLK_STATUS_TBP : Fld := ⟨0, 3⟩
/-- CLK_GATE (R449, spec/19_power_clocks_startup.md). -/
abbrev CLK_GATE : Nat := 0x40340020
abbrev CLK_GATE_LANES : Fld := ⟨0, 8⟩
abbrev CLK_GATE_TW : Fld := ⟨8, 1⟩
abbrev CLK_GATE_DDR1 : Fld := ⟨9, 1⟩
abbrev CLK_GATE_SYN : Fld := ⟨12, 4⟩
abbrev CLK_GATE_GNS : Fld := ⟨16, 1⟩
/-- CLK_GATE_STATUS (R449, spec/19_power_clocks_startup.md). -/
abbrev CLK_GATE_STATUS : Nat := 0x40340024
abbrev CLK_GATE_STATUS_BITS : Fld := ⟨0, 17⟩
/-- CLK_TRIM (R449, spec/19_power_clocks_startup.md). -/
abbrev CLK_TRIM : Nat := 0x40340030
abbrev CLK_TRIM_SLOW : Fld := ⟨48, 12⟩
abbrev CLK_TRIM_FAST : Fld := ⟨32, 10⟩
abbrev CLK_TRIM_SLOW_ERR : Fld := ⟨16, 16⟩
abbrev CLK_TRIM_FAST_ERR : Fld := ⟨0, 16⟩
/-- PMC_ISL_STATUS (R467, spec/20_counters_telemetry_checks.md). -/
abbrev PMC_ISL_STATUS : Nat := 0x40350004
abbrev PMC_ISL_STATUS_CFG_REJ : Fld := ⟨2, 1⟩
abbrev PMC_ISL_STATUS_WDROP : Fld := ⟨1, 1⟩
abbrev PMC_ISL_STATUS_BUSY : Fld := ⟨0, 1⟩
/-- PMC_WIN (R467, spec/20_counters_telemetry_checks.md). -/
abbrev PMC_WIN : Nat := 0x40350010
abbrev PMC_WIN_LEN : Fld := ⟨0, 16⟩
/-- PMC_CTRL (R467, spec/20_counters_telemetry_checks.md). -/
abbrev PMC_CTRL : Nat := 0x40350014
abbrev PMC_CTRL_GROUPS : Fld := ⟨8, 6⟩
abbrev PMC_CTRL_CLR : Fld := ⟨0, 1⟩
/-- PMC_WSEQ (R467, spec/20_counters_telemetry_checks.md). -/
abbrev PMC_WSEQ : Nat := 0x40350018
abbrev PMC_WSEQ_VALUE : Fld := ⟨0, 32⟩
/-- PMC_WTIME (R467, spec/20_counters_telemetry_checks.md). -/
abbrev PMC_WTIME : Nat := 0x40350020
abbrev PMC_WTIME_SECONDS : Fld := ⟨64, 64⟩
abbrev PMC_WTIME_NS : Fld := ⟨32, 32⟩
abbrev PMC_WTIME_FRAC : Fld := ⟨0, 32⟩
/-- PMC_WDUR (R467, spec/20_counters_telemetry_checks.md). -/
abbrev PMC_WDUR : Nat := 0x40350030
abbrev PMC_WDUR_VALUE : Fld := ⟨0, 64⟩
/-- PMC_BW (R467, spec/20_counters_telemetry_checks.md). -/
abbrev PMC_BW (i : Nat) : Nat := 0x40350100 + i * 0x10
abbrev PMC_BW_TX : Fld := ⟨32, 32⟩
abbrev PMC_BW_RX : Fld := ⟨0, 32⟩
/-- PMC_BWF (R467, spec/20_counters_telemetry_checks.md). -/
abbrev PMC_BWF (i : Nat) : Nat := 0x40350108 + i * 0x10
abbrev PMC_BWF_TX : Fld := ⟨32, 32⟩
abbrev PMC_BWF_RX : Fld := ⟨0, 32⟩
/-- PMC_WCNT (R467, spec/20_counters_telemetry_checks.md). -/
abbrev PMC_WCNT (i : Nat) : Nat := 0x40354000 + i * 0x8
abbrev PMC_WCNT_COUNT : Fld := ⟨0, 48⟩
/-- PMC_CNT (R467, spec/20_counters_telemetry_checks.md). -/
abbrev PMC_CNT (i : Nat) : Nat := 0x40358000 + i * 0x8
abbrev PMC_CNT_COUNT : Fld := ⟨0, 48⟩
/-- PMC_SNAP (R467, spec/20_counters_telemetry_checks.md). -/
abbrev PMC_SNAP (i : Nat) : Nat := 0x4035C000 + i * 0x8
abbrev PMC_SNAP_COUNT : Fld := ⟨0, 48⟩
/-- CHK_ISL_STATUS (R469, spec/20_counters_telemetry_checks.md). -/
abbrev CHK_ISL_STATUS : Nat := 0x40360004
abbrev CHK_ISL_STATUS_WDROP : Fld := ⟨1, 1⟩
abbrev CHK_ISL_STATUS_BUSY : Fld := ⟨0, 1⟩
/-- CHK_CFG (R469, spec/20_counters_telemetry_checks.md). -/
abbrev CHK_CFG (i : Nat) : Nat := 0x40360100 + i * 0x20
abbrev CHK_CFG_INDEX : Fld := ⟨8, 3⟩
abbrev CHK_CFG_ALG : Fld := ⟨4, 1⟩
abbrev CHK_CFG_STREAM : Fld := ⟨1, 3⟩
abbrev CHK_CFG_EN : Fld := ⟨0, 1⟩
/-- CHK_STATUS (R469, spec/20_counters_telemetry_checks.md). -/
abbrev CHK_STATUS (i : Nat) : Nat := 0x40360104 + i * 0x20
abbrev CHK_STATUS_SKIP : Fld := ⟨2, 1⟩
abbrev CHK_STATUS_REPEAT : Fld := ⟨1, 1⟩
abbrev CHK_STATUS_CRC : Fld := ⟨0, 1⟩
/-- CHK_ITEMS (R469, spec/20_counters_telemetry_checks.md). -/
abbrev CHK_ITEMS (i : Nat) : Nat := 0x40360108 + i * 0x20
abbrev CHK_ITEMS_COUNT : Fld := ⟨0, 32⟩
/-- CHK_ERR (R469, spec/20_counters_telemetry_checks.md). -/
abbrev CHK_ERR (i : Nat) : Nat := 0x4036010C + i * 0x20
abbrev CHK_ERR_CRC_ERR : Fld := ⟨16, 16⟩
abbrev CHK_ERR_REPEAT_ERR : Fld := ⟨8, 8⟩
abbrev CHK_ERR_SKIP_ERR : Fld := ⟨0, 8⟩
/-- BUS_ISL_STATUS (R414, spec/17_host_bus_and_registers.md). -/
abbrev BUS_ISL_STATUS : Nat := 0x40370004
abbrev BUS_ISL_STATUS_MABORT : Fld := ⟨2, 1⟩
abbrev BUS_ISL_STATUS_WDROP : Fld := ⟨1, 1⟩
abbrev BUS_ISL_STATUS_BUSY : Fld := ⟨0, 1⟩
/-- BUS_ELOG (R414, spec/17_host_bus_and_registers.md). -/
abbrev BUS_ELOG : Nat := 0x40370010
abbrev BUS_ELOG_VALID : Fld := ⟨63, 1⟩
abbrev BUS_ELOG_WR : Fld := ⟨62, 1⟩
abbrev BUS_ELOG_CAUSE : Fld := ⟨58, 4⟩
abbrev BUS_ELOG_MASTER : Fld := ⟨54, 4⟩
abbrev BUS_ELOG_ADDR : Fld := ⟨0, 40⟩
/-- BUS_ELOG_CNT (R414, spec/17_host_bus_and_registers.md). -/
abbrev BUS_ELOG_CNT : Nat := 0x40370018
abbrev BUS_ELOG_CNT_COUNT : Fld := ⟨0, 32⟩
/-- BUS_DRAM (R414, spec/17_host_bus_and_registers.md). -/
abbrev BUS_DRAM : Nat := 0x40370020
abbrev BUS_DRAM_GEN : Fld := ⟨63, 1⟩
abbrev BUS_DRAM_SPEED : Fld := ⟨60, 3⟩
abbrev BUS_DRAM_CH0_GIB : Fld := ⟨54, 6⟩
abbrev BUS_DRAM_CH1_GIB : Fld := ⟨48, 6⟩
abbrev BUS_DRAM_PLACER_BASE : Fld := ⟨20, 20⟩
/-- HIF_ISL_STATUS (R414, spec/17_host_bus_and_registers.md). -/
abbrev HIF_ISL_STATUS : Nat := 0x40380004
abbrev HIF_ISL_STATUS_HOSTLOST : Fld := ⟨3, 1⟩
abbrev HIF_ISL_STATUS_CFG_REJ : Fld := ⟨2, 1⟩
abbrev HIF_ISL_STATUS_WDROP : Fld := ⟨1, 1⟩
abbrev HIF_ISL_STATUS_BUSY : Fld := ⟨0, 1⟩
/-- HIF_SEQ_STATUS (R414, spec/17_host_bus_and_registers.md). -/
abbrev HIF_SEQ_STATUS : Nat := 0x40380010
abbrev HIF_SEQ_STATUS_TEL : Fld := ⟨96, 32⟩
abbrev HIF_SEQ_STATUS_EVT : Fld := ⟨64, 32⟩
abbrev HIF_SEQ_STATUS_RSP : Fld := ⟨32, 32⟩
abbrev HIF_SEQ_STATUS_HSEQ : Fld := ⟨0, 32⟩
/-- HIF_LINK (R414, spec/17_host_bus_and_registers.md). -/
abbrev HIF_LINK : Nat := 0x40380020
abbrev HIF_LINK_SPEED : Fld := ⟨16, 4⟩
abbrev HIF_LINK_WIDTH : Fld := ⟨0, 6⟩
/-- HIF_IRQ (R414, spec/17_host_bus_and_registers.md). -/
abbrev HIF_IRQ : Nat := 0x40380024
abbrev HIF_IRQ_HOLDOFF : Fld := ⟨0, 10⟩
/-- HIF_HWDOG (R414, spec/17_host_bus_and_registers.md). -/
abbrev HIF_HWDOG : Nat := 0x40380028
abbrev HIF_HWDOG_TIMEOUT : Fld := ⟨16, 16⟩
abbrev HIF_HWDOG_KICK : Fld := ⟨0, 1⟩
/-- HIF_RING_BASE (R414, spec/17_host_bus_and_registers.md). -/
abbrev HIF_RING_BASE (i : Nat) : Nat := 0x40380100 + i * 0x20
abbrev HIF_RING_BASE_ADDR : Fld := ⟨12, 28⟩
/-- HIF_RING_CFG (R414, spec/17_host_bus_and_registers.md). -/
abbrev HIF_RING_CFG (i : Nat) : Nat := 0x40380108 + i * 0x20
abbrev HIF_RING_CFG_SIZE : Fld := ⟨8, 5⟩
abbrev HIF_RING_CFG_EN : Fld := ⟨0, 1⟩
/-- HIF_RING_PI (R414, spec/17_host_bus_and_registers.md). -/
abbrev HIF_RING_PI (i : Nat) : Nat := 0x4038010C + i * 0x20
abbrev HIF_RING_PI_IDX : Fld := ⟨0, 32⟩
/-- HIF_RING_CI (R414, spec/17_host_bus_and_registers.md). -/
abbrev HIF_RING_CI (i : Nat) : Nat := 0x40380110 + i * 0x20
abbrev HIF_RING_CI_IDX : Fld := ⟨0, 32⟩
/-- HIF_RING_LOST (R414, spec/17_host_bus_and_registers.md). -/
abbrev HIF_RING_LOST (i : Nat) : Nat := 0x40380114 + i * 0x20
abbrev HIF_RING_LOST_COUNT : Fld := ⟨0, 32⟩
/-- JRN_ISL_STATUS (R196, spec/08_error_bounds_and_evidence.md). -/
abbrev JRN_ISL_STATUS : Nat := 0x40390004
abbrev JRN_ISL_STATUS_CFG_REJ : Fld := ⟨4, 1⟩
abbrev JRN_ISL_STATUS_ATT_FAIL : Fld := ⟨3, 1⟩
abbrev JRN_ISL_STATUS_OVERRUN : Fld := ⟨2, 1⟩
abbrev JRN_ISL_STATUS_WDROP : Fld := ⟨1, 1⟩
abbrev JRN_ISL_STATUS_BUSY : Fld := ⟨0, 1⟩
/-- JRN_CFG (R196, spec/08_error_bounds_and_evidence.md). -/
abbrev JRN_CFG : Nat := 0x40390010
abbrev JRN_CFG_SIZE : Fld := ⟨8, 5⟩
abbrev JRN_CFG_EN : Fld := ⟨0, 1⟩
/-- JRN_BASE (R196, spec/08_error_bounds_and_evidence.md). -/
abbrev JRN_BASE : Nat := 0x40390018
abbrev JRN_BASE_ADDR : Fld := ⟨20, 20⟩
/-- JRN_ATT (R196, spec/08_error_bounds_and_evidence.md). -/
abbrev JRN_ATT : Nat := 0x40390020
abbrev JRN_ATT_PERIOD : Fld := ⟨16, 16⟩
abbrev JRN_ATT_SLOT : Fld := ⟨0, 12⟩
/-- JRN_MAC (R196, spec/08_error_bounds_and_evidence.md). -/
abbrev JRN_MAC : Nat := 0x40390024
abbrev JRN_MAC_SLOT : Fld := ⟨0, 12⟩
/-- JRN_WSEQ (R196, spec/08_error_bounds_and_evidence.md). -/
abbrev JRN_WSEQ : Nat := 0x40390030
abbrev JRN_WSEQ_DSEQ : Fld := ⟨0, 32⟩
/-- JRN_ERA (R196, spec/08_error_bounds_and_evidence.md). -/
abbrev JRN_ERA : Nat := 0x40390034
abbrev JRN_ERA_ERA : Fld := ⟨0, 16⟩
/-- JRN_ACK (R196, spec/08_error_bounds_and_evidence.md). -/
abbrev JRN_ACK : Nat := 0x40390038
abbrev JRN_ACK_DSEQ : Fld := ⟨0, 32⟩
/-- JRN_LOST (R196, spec/08_error_bounds_and_evidence.md). -/
abbrev JRN_LOST : Nat := 0x4039003C
abbrev JRN_LOST_COUNT : Fld := ⟨0, 32⟩
/-- TEL_ISL_STATUS (R468, spec/20_counters_telemetry_checks.md). -/
abbrev TEL_ISL_STATUS : Nat := 0x403A0004
abbrev TEL_ISL_STATUS_OVERRUN : Fld := ⟨3, 1⟩
abbrev TEL_ISL_STATUS_CFG_REJ : Fld := ⟨2, 1⟩
abbrev TEL_ISL_STATUS_WDROP : Fld := ⟨1, 1⟩
abbrev TEL_ISL_STATUS_BUSY : Fld := ⟨0, 1⟩
/-- TEL_CFG (R468, spec/20_counters_telemetry_checks.md). -/
abbrev TEL_CFG : Nat := 0x403A0010
abbrev TEL_CFG_ODIV : Fld := ⟨24, 8⟩
abbrev TEL_CFG_BW : Fld := ⟨4, 1⟩
abbrev TEL_CFG_CNT : Fld := ⟨3, 1⟩
abbrev TEL_CFG_MEAS : Fld := ⟨2, 1⟩
abbrev TEL_CFG_DEST : Fld := ⟨1, 1⟩
abbrev TEL_CFG_EN : Fld := ⟨0, 1⟩
/-- TEL_MEAS (R468, spec/20_counters_telemetry_checks.md). -/
abbrev TEL_MEAS : Nat := 0x403A0014
abbrev TEL_MEAS_VALUE : Fld := ⟨0, 32⟩
/-- TEL_EXPORT (R468, spec/20_counters_telemetry_checks.md). -/
abbrev TEL_EXPORT : Nat := 0x403A0018
abbrev TEL_EXPORT_GROUPS : Fld := ⟨0, 6⟩
/-- TEL_UDP_CTRL (R468, spec/20_counters_telemetry_checks.md). -/
abbrev TEL_UDP_CTRL : Nat := 0x403A0020
abbrev TEL_UDP_CTRL_MTU : Fld := ⟨16, 16⟩
abbrev TEL_UDP_CTRL_PORT : Fld := ⟨8, 4⟩
abbrev TEL_UDP_CTRL_TC : Fld := ⟨4, 3⟩
/-- TEL_UDP_DMAC (R468, spec/20_counters_telemetry_checks.md). -/
abbrev TEL_UDP_DMAC : Nat := 0x403A0028
abbrev TEL_UDP_DMAC_ADDR : Fld := ⟨0, 48⟩
/-- TEL_UDP_PORTS (R468, spec/20_counters_telemetry_checks.md). -/
abbrev TEL_UDP_PORTS : Nat := 0x403A0030
abbrev TEL_UDP_PORTS_SRC : Fld := ⟨16, 16⟩
abbrev TEL_UDP_PORTS_DST : Fld := ⟨0, 16⟩
/-- TEL_UDP_SIP (R468, spec/20_counters_telemetry_checks.md). -/
abbrev TEL_UDP_SIP : Nat := 0x403A0040
abbrev TEL_UDP_SIP_VALUE : Fld := ⟨0, 128⟩
/-- TEL_UDP_DIP (R468, spec/20_counters_telemetry_checks.md). -/
abbrev TEL_UDP_DIP : Nat := 0x403A0050
abbrev TEL_UDP_DIP_VALUE : Fld := ⟨0, 128⟩
/-- TEL_ARCH_BASE (R468, spec/20_counters_telemetry_checks.md). -/
abbrev TEL_ARCH_BASE : Nat := 0x403A0060
abbrev TEL_ARCH_BASE_ADDR : Fld := ⟨20, 20⟩
/-- TEL_ARCH_CFG (R468, spec/20_counters_telemetry_checks.md). -/
abbrev TEL_ARCH_CFG : Nat := 0x403A0068
abbrev TEL_ARCH_CFG_SIZE : Fld := ⟨8, 6⟩
abbrev TEL_ARCH_CFG_EN : Fld := ⟨0, 1⟩
/-- POD_STATUS (R35, spec/02_programming_model.md). -/
abbrev POD_STATUS (i : Nat) : Nat := 0x40420000 + i * 0x40000
abbrev POD_STATUS_FCAUSE : Fld := ⟨16, 4⟩
abbrev POD_STATUS_SOURCE : Fld := ⟨8, 4⟩
abbrev POD_STATUS_VERIFIED : Fld := ⟨7, 1⟩
abbrev POD_STATUS_RESIDENT : Fld := ⟨6, 1⟩
abbrev POD_STATUS_STATE : Fld := ⟨0, 4⟩
/-- POD_CAP (R35, spec/02_programming_model.md). -/
abbrev POD_CAP (i : Nat) : Nat := 0x40420004 + i * 0x40000
abbrev POD_CAP_MASK : Fld := ⟨0, 16⟩
/-- POD_VCOWN (R35, spec/02_programming_model.md). -/
abbrev POD_VCOWN (i : Nat) : Nat := 0x40420008 + i * 0x40000
abbrev POD_VCOWN_VC : Fld := ⟨0, 8⟩
/-- POD_WDOG (R35, spec/02_programming_model.md). -/
abbrev POD_WDOG (i : Nat) : Nat := 0x4042000C + i * 0x40000
abbrev POD_WDOG_TIMEOUT : Fld := ⟨0, 24⟩
/-- POD_FPC (R361, spec/16_fin_instruction_set.md). -/
abbrev POD_FPC (i : Nat) : Nat := 0x40420010 + i * 0x40000
abbrev POD_FPC_PC : Fld := ⟨0, 14⟩

end Reg

/-- The registers of the SYS island. -/
def regRowsSYS : List RegRow := [
  ⟨0x40000004, 0x0, 1, 0x0, 1, 4, [⟨1, 1, .w1c, 1, 0⟩, ⟨0, 1, .ro, 1, 0⟩]⟩,
  ⟨0x40000010, 0x0, 1, 0x0, 1, 4, [⟨16, 16, .ro, 1, 0⟩, ⟨8, 1, .rwp, 1, 0⟩]⟩,
  ⟨0x40000020, 0x0, 1, 0x0, 1, 16, [⟨64, 64, .ro, 1, 0⟩, ⟨32, 32, .ro, 1, 0⟩, ⟨0, 32, .ro, 1, 0⟩]⟩,
  ⟨0x40000030, 0x0, 1, 0x0, 1, 4, [⟨0, 1, .rwt, 1, 0⟩]⟩,
  ⟨0x40000040, 0x0, 1, 0x0, 1, 4, [⟨16, 16, .ro, 1, 0⟩, ⟨0, 16, .ro, 1, 0⟩]⟩,
  ⟨0x40000050, 0x0, 1, 0x0, 1, 4, [⟨8, 4, .rwp, 1, 0⟩, ⟨1, 1, .rwp, 1, 0⟩, ⟨0, 1, .rwp, 1, 0⟩]⟩,
  ⟨0x40000058, 0x0, 1, 0x0, 1, 4, [⟨16, 16, .rwp, 1, 0⟩, ⟨0, 16, .rwp, 1, 0⟩]⟩,
  ⟨0x4000005C, 0x0, 1, 0x0, 1, 4, [⟨0, 16, .ro, 1, 0⟩]⟩]

/-- The registers of the TKP island. -/
def regRowsTKP : List RegRow := [
  ⟨0x40010004, 0x0, 1, 0x0, 1, 4, [⟨1, 1, .w1c, 1, 0⟩, ⟨0, 1, .ro, 1, 0⟩]⟩,
  ⟨0x40010010, 0x0, 1, 0x0, 1, 4, [⟨16, 16, .rw, 1, 0⟩, ⟨0, 8, .rwt, 1, 0⟩]⟩,
  ⟨0x40010020, 0x0, 1, 0x0, 1, 4, [⟨8, 1, .rwp, 1, 0⟩, ⟨0, 8, .rwp, 1, 0⟩]⟩,
  ⟨0x40010030, 0x0, 1, 0x0, 1, 12, [⟨0, 96, .ro, 1, 0⟩]⟩,
  ⟨0x40010100, 0x80, 8, 0x0, 1, 4, [⟨0, 4, .rwp, 1, 0⟩]⟩,
  ⟨0x40010104, 0x80, 8, 0x0, 1, 4, [⟨28, 4, .ro, 1, 0⟩, ⟨8, 8, .ro, 1, 0⟩, ⟨2, 1, .w1c, 1, 0⟩, ⟨1, 1, .ro, 1, 0⟩, ⟨0, 1, .ro, 1, 0⟩]⟩,
  ⟨0x40010110, 0x80, 8, 0x0, 1, 16, [⟨64, 64, .rwp, 1, 0⟩, ⟨32, 32, .rwp, 1, 0⟩, ⟨0, 32, .rwp, 1, 0⟩]⟩,
  ⟨0x40010120, 0x80, 8, 0x0, 1, 8, [⟨0, 64, .rwp, 1, 0⟩]⟩,
  ⟨0x40010128, 0x80, 8, 0x0, 1, 8, [⟨32, 8, .rwp, 1, 0⟩, ⟨0, 32, .rwp, 1, 0⟩]⟩,
  ⟨0x40010130, 0x80, 8, 0x0, 1, 16, [⟨64, 64, .ro, 1, 0⟩, ⟨32, 32, .ro, 1, 0⟩, ⟨0, 32, .ro, 1, 0⟩]⟩,
  ⟨0x40010140, 0x80, 8, 0x0, 1, 8, [⟨0, 64, .ro, 1, 0⟩]⟩,
  ⟨0x40010148, 0x80, 8, 0x0, 1, 8, [⟨32, 8, .ro, 1, 0⟩, ⟨0, 32, .ro, 1, 0⟩]⟩,
  ⟨0x40010150, 0x80, 8, 0x0, 1, 12, [⟨0, 96, .ro, 1, 0⟩]⟩,
  ⟨0x40010160, 0x80, 8, 0x0, 1, 16, [⟨64, 64, .ro, 1, 0⟩, ⟨32, 32, .ro, 1, 0⟩, ⟨0, 32, .ro, 1, 0⟩]⟩]

/-- The registers of the TDC island. -/
def regRowsTDC : List RegRow := [
  ⟨0x40020004, 0x0, 1, 0x0, 1, 4, [⟨3, 1, .w1c, 1, 0⟩, ⟨2, 1, .ro, 1, 0⟩, ⟨1, 1, .w1c, 1, 0⟩, ⟨0, 1, .ro, 1, 0⟩]⟩,
  ⟨0x40020010, 0x0, 1, 0x0, 1, 4, [⟨16, 8, .rwp, 1, 0⟩, ⟨0, 1, .wo, 1, 0⟩]⟩,
  ⟨0x40020014, 0x0, 1, 0x0, 1, 4, [⟨0, 32, .ro, 1, 0⟩]⟩,
  ⟨0x40020100, 0x40, 32, 0x0, 1, 4, [⟨17, 3, .rwp, 1, 0⟩, ⟨16, 1, .rwp, 1, 0⟩, ⟨8, 4, .rwp, 6, 15⟩, ⟨6, 2, .rwp, 2, 3⟩, ⟨5, 1, .rwp, 1, 0⟩, ⟨4, 1, .rwp, 1, 0⟩, ⟨0, 1, .rwp, 1, 0⟩]⟩,
  ⟨0x40020104, 0x40, 32, 0x0, 1, 4, [⟨0, 6, .rwp, 48, 63⟩]⟩,
  ⟨0x40020108, 0x40, 32, 0x0, 1, 4, [⟨16, 16, .ro, 1, 0⟩, ⟨8, 1, .w1c, 1, 0⟩, ⟨7, 1, .w1c, 1, 0⟩, ⟨6, 1, .w1c, 1, 0⟩, ⟨5, 1, .ro, 1, 0⟩, ⟨4, 1, .ro, 1, 0⟩, ⟨3, 1, .ro, 1, 0⟩, ⟨2, 1, .ro, 1, 0⟩, ⟨1, 1, .ro, 1, 0⟩]⟩,
  ⟨0x4002010C, 0x40, 32, 0x0, 1, 4, [⟨0, 16, .ro, 1, 0⟩]⟩,
  ⟨0x40020110, 0x40, 32, 0x0, 1, 16, [⟨64, 64, .rwp, 1, 0⟩, ⟨32, 32, .rwp, 1, 0⟩, ⟨0, 32, .rwp, 1, 0⟩]⟩,
  ⟨0x40020120, 0x40, 32, 0x0, 1, 4, [⟨0, 32, .rwp, 1, 0⟩]⟩,
  ⟨0x40020124, 0x40, 32, 0x0, 1, 4, [⟨0, 32, .rwp, 1, 0⟩]⟩,
  ⟨0x40020128, 0x40, 32, 0x0, 1, 4, [⟨0, 32, .rwp, 1, 0⟩]⟩,
  ⟨0x4002012C, 0x40, 32, 0x0, 1, 4, [⟨0, 32, .rwp, 1, 0⟩]⟩,
  ⟨0x40020130, 0x40, 32, 0x0, 1, 4, [⟨0, 32, .rwp, 1, 0⟩]⟩,
  ⟨0x40020134, 0x40, 32, 0x0, 1, 4, [⟨16, 16, .ro, 1, 0⟩, ⟨0, 16, .ro, 1, 0⟩]⟩,
  ⟨0x40020138, 0x40, 32, 0x0, 1, 4, [⟨0, 32, .rwp, 1, 0⟩]⟩]

/-- The registers of the REF island. -/
def regRowsREF : List RegRow := [
  ⟨0x40030004, 0x0, 1, 0x0, 1, 4, [⟨2, 1, .ro, 1, 0⟩, ⟨1, 1, .w1c, 1, 0⟩, ⟨0, 1, .ro, 1, 0⟩]⟩,
  ⟨0x40030010, 0x0, 1, 0x0, 1, 4, [⟨0, 32, .wo, 1, 0⟩]⟩,
  ⟨0x40030020, 0x0, 1, 0x0, 1, 4, [⟨8, 1, .ro, 1, 0⟩, ⟨0, 5, .ro, 1, 0⟩]⟩,
  ⟨0x40030100, 0x10, 18, 0x0, 1, 4, [⟨24, 5, .rwt, 1, 0⟩, ⟨20, 4, .rwt, 1, 0⟩, ⟨8, 6, .rwt, 1, 0⟩, ⟨0, 3, .rwt, 6, 7⟩]⟩,
  ⟨0x40030104, 0x10, 18, 0x0, 1, 4, [⟨16, 16, .ro, 1, 0⟩, ⟨0, 16, .ro, 1, 0⟩]⟩,
  ⟨0x40030400, 0x10, 4, 0x0, 1, 4, [⟨9, 3, .rwp, 1, 0⟩, ⟨8, 1, .rwp, 1, 0⟩, ⟨4, 2, .rwp, 3, 3⟩, ⟨0, 1, .rwp, 1, 0⟩]⟩,
  ⟨0x40030404, 0x10, 4, 0x0, 1, 4, [⟨16, 16, .ro, 1, 0⟩, ⟨0, 16, .ro, 1, 0⟩]⟩]

/-- The registers of the ENS island. -/
def regRowsENS : List RegRow := [
  ⟨0x40040004, 0x0, 1, 0x0, 1, 4, [⟨2, 1, .ro, 1, 0⟩, ⟨1, 1, .w1c, 1, 0⟩, ⟨0, 1, .ro, 1, 0⟩]⟩,
  ⟨0x40040010, 0x0, 1, 0x0, 1, 4, [⟨24, 5, .ro, 1, 0⟩, ⟨20, 4, .ro, 1, 0⟩, ⟨8, 5, .ro, 1, 0⟩, ⟨7, 1, .ro, 1, 0⟩, ⟨6, 1, .ro, 1, 0⟩, ⟨5, 1, .ro, 1, 0⟩, ⟨4, 1, .ro, 1, 0⟩, ⟨0, 3, .ro, 1, 0⟩]⟩,
  ⟨0x40040014, 0x0, 1, 0x0, 1, 4, [⟨20, 4, .ro, 1, 0⟩, ⟨8, 8, .ro, 1, 0⟩, ⟨0, 8, .rwp, 1, 0⟩]⟩,
  ⟨0x40040018, 0x0, 1, 0x0, 1, 4, [⟨0, 32, .ro, 1, 0⟩]⟩,
  ⟨0x40040020, 0x0, 1, 0x0, 1, 8, [⟨0, 48, .ro, 1, 0⟩]⟩,
  ⟨0x40040030, 0x0, 1, 0x0, 1, 4, [⟨28, 4, .rwp, 1, 0⟩, ⟨8, 5, .rwp, 1, 0⟩]⟩,
  ⟨0x40040034, 0x0, 1, 0x0, 1, 4, [⟨31, 1, .ro, 1, 0⟩, ⟨0, 20, .ro, 1, 0⟩]⟩,
  ⟨0x40040040, 0x0, 1, 0x0, 1, 8, [⟨0, 64, .ro, 1, 0⟩]⟩,
  ⟨0x40040048, 0x0, 1, 0x0, 1, 8, [⟨0, 64, .ro, 1, 0⟩]⟩,
  ⟨0x40040050, 0x0, 1, 0x0, 1, 8, [⟨0, 64, .ro, 1, 0⟩]⟩,
  ⟨0x40040058, 0x0, 1, 0x0, 1, 8, [⟨0, 64, .ro, 1, 0⟩]⟩,
  ⟨0x40040060, 0x0, 1, 0x0, 1, 8, [⟨0, 64, .ro, 1, 0⟩]⟩,
  ⟨0x40040068, 0x0, 1, 0x0, 1, 8, [⟨0, 64, .ro, 1, 0⟩]⟩,
  ⟨0x40040070, 0x0, 1, 0x0, 1, 8, [⟨0, 64, .ro, 1, 0⟩]⟩,
  ⟨0x40040078, 0x0, 1, 0x0, 1, 8, [⟨0, 48, .ro, 1, 0⟩]⟩,
  ⟨0x40040080, 0x0, 1, 0x0, 1, 16, [⟨64, 64, .ro, 1, 0⟩, ⟨32, 32, .ro, 1, 0⟩, ⟨0, 32, .ro, 1, 0⟩]⟩,
  ⟨0x40040090, 0x0, 1, 0x0, 1, 4, [⟨16, 8, .ro, 1, 0⟩, ⟨8, 3, .ro, 1, 0⟩, ⟨1, 1, .ro, 1, 0⟩, ⟨0, 1, .ro, 1, 0⟩]⟩,
  ⟨0x40040098, 0x0, 1, 0x0, 1, 8, [⟨0, 64, .ro, 1, 0⟩]⟩,
  ⟨0x40040100, 0x20, 8, 0x0, 1, 4, [⟨24, 8, .ro, 1, 0⟩, ⟨16, 4, .ro, 1, 0⟩, ⟨8, 5, .ro, 1, 0⟩, ⟨0, 3, .ro, 1, 0⟩]⟩,
  ⟨0x40040104, 0x20, 8, 0x0, 1, 4, [⟨0, 17, .ro, 1, 0⟩]⟩,
  ⟨0x40040108, 0x20, 8, 0x0, 1, 8, [⟨0, 64, .ro, 1, 0⟩]⟩,
  ⟨0x40040200, 0x0, 1, 0x0, 1, 4, [⟨8, 1, .rwp, 1, 0⟩, ⟨0, 5, .rwp, 19, 30⟩]⟩,
  ⟨0x40040204, 0x0, 1, 0x0, 1, 4, [⟨16, 8, .ro, 1, 0⟩, ⟨0, 16, .ro, 1, 0⟩]⟩,
  ⟨0x40040208, 0x0, 1, 0x0, 1, 4, [⟨0, 32, .rwp, 1, 0⟩]⟩,
  ⟨0x4004020C, 0x0, 1, 0x0, 1, 4, [⟨0, 32, .rwp, 1, 0⟩]⟩,
  ⟨0x40040240, 0x0, 1, 0x0, 1, 64, [⟨0, 512, .ro, 1, 0⟩]⟩,
  ⟨0x40040280, 0x4, 19, 0x0, 1, 4, [⟨0, 32, .rwp, 1, 0⟩]⟩]

/-- The registers of the SYN island. -/
def regRowsSYN : List RegRow := [
  ⟨0x40050004, 0x0, 1, 0x0, 1, 4, [⟨2, 1, .w1c, 1, 0⟩, ⟨1, 1, .w1c, 1, 0⟩, ⟨0, 1, .ro, 1, 0⟩]⟩,
  ⟨0x40050200, 0x200, 4, 0x0, 1, 4, [⟨20, 4, .rwp, 1, 0⟩, ⟨16, 1, .rwp, 1, 0⟩, ⟨8, 1, .rwp, 1, 0⟩, ⟨0, 4, .rwp, 1, 0⟩]⟩,
  ⟨0x40050204, 0x200, 4, 0x0, 1, 4, [⟨28, 4, .ro, 1, 0⟩, ⟨16, 8, .ro, 1, 0⟩, ⟨11, 1, .w1c, 1, 0⟩, ⟨10, 1, .w1c, 1, 0⟩, ⟨9, 1, .ro, 1, 0⟩, ⟨8, 1, .w1c, 1, 0⟩, ⟨0, 3, .ro, 1, 0⟩]⟩,
  ⟨0x40050208, 0x200, 4, 0x0, 1, 8, [⟨48, 4, .rwp, 1, 0⟩, ⟨0, 48, .rwp, 1, 0⟩]⟩,
  ⟨0x40050210, 0x200, 4, 0x0, 1, 4, [⟨31, 1, .rwp, 1, 0⟩, ⟨0, 31, .rwp, 1, 0⟩]⟩,
  ⟨0x40050214, 0x200, 4, 0x0, 1, 4, [⟨0, 5, .rwp, 1, 0⟩]⟩,
  ⟨0x40050300, 0x200, 4, 0x10, 16, 16, [⟨81, 1, .ro, 1, 0⟩, ⟨80, 1, .ro, 1, 0⟩, ⟨72, 8, .ro, 1, 0⟩, ⟨64, 8, .ro, 1, 0⟩, ⟨48, 4, .ro, 1, 0⟩, ⟨0, 48, .ro, 1, 0⟩]⟩,
  ⟨0x40051000, 0x40, 8, 0x0, 1, 4, [⟨14, 1, .wo, 1, 0⟩, ⟨13, 1, .rwp, 1, 0⟩, ⟨12, 1, .rwp, 1, 0⟩, ⟨8, 4, .rwp, 5, 15⟩, ⟨4, 2, .rwp, 1, 0⟩, ⟨2, 2, .rwp, 1, 0⟩, ⟨0, 1, .rwp, 1, 0⟩]⟩,
  ⟨0x40051004, 0x40, 8, 0x0, 1, 4, [⟨4, 1, .ro, 1, 0⟩, ⟨3, 1, .w1c, 1, 0⟩, ⟨2, 1, .ro, 1, 0⟩, ⟨1, 1, .ro, 1, 0⟩, ⟨0, 1, .ro, 1, 0⟩]⟩,
  ⟨0x40051008, 0x40, 8, 0x0, 1, 8, [⟨0, 34, .rwp, 1, 0⟩]⟩,
  ⟨0x40051010, 0x40, 8, 0x0, 1, 8, [⟨0, 40, .rwp, 1, 0⟩]⟩,
  ⟨0x40052000, 0x40, 8, 0x0, 1, 4, [⟨8, 4, .rwp, 5, 15⟩, ⟨6, 1, .rwp, 1, 0⟩, ⟨4, 2, .rwp, 1, 0⟩, ⟨1, 2, .rwp, 3, 3⟩, ⟨0, 1, .rwp, 1, 0⟩]⟩,
  ⟨0x40052004, 0x40, 8, 0x0, 1, 4, [⟨16, 16, .ro, 1, 0⟩, ⟨1, 1, .ro, 1, 0⟩, ⟨0, 1, .ro, 1, 0⟩]⟩,
  ⟨0x40052008, 0x40, 8, 0x0, 1, 4, [⟨0, 32, .rwp, 1, 0⟩]⟩,
  ⟨0x40052010, 0x40, 8, 0x0, 1, 8, [⟨0, 40, .rwp, 1, 0⟩]⟩,
  ⟨0x40052018, 0x40, 8, 0x0, 1, 8, [⟨0, 50, .rwp, 1, 0⟩]⟩,
  ⟨0x40052020, 0x40, 8, 0x0, 1, 16, [⟨64, 64, .rwp, 1, 0⟩, ⟨32, 32, .rwp, 1, 0⟩, ⟨0, 32, .rwp, 1, 0⟩]⟩,
  ⟨0x40052030, 0x40, 8, 0x0, 1, 8, [⟨48, 16, .rwp, 1, 0⟩, ⟨0, 32, .rwp, 1, 0⟩]⟩,
  ⟨0x40053000, 0x40, 2, 0x0, 1, 4, [⟨6, 2, .rwp, 1, 0⟩, ⟨5, 1, .rwp, 1, 0⟩, ⟨4, 1, .rwp, 1, 0⟩, ⟨1, 3, .rwp, 1, 0⟩, ⟨0, 1, .rwp, 1, 0⟩]⟩,
  ⟨0x40053100, 0x40, 4, 0x0, 1, 4, [⟨16, 16, .rwp, 1, 0⟩, ⟨12, 3, .rwp, 1, 0⟩, ⟨9, 3, .rwp, 1, 0⟩, ⟨8, 1, .rwp, 1, 0⟩, ⟨4, 2, .rwp, 3, 3⟩, ⟨1, 2, .rwp, 1, 0⟩, ⟨0, 1, .rwp, 1, 0⟩]⟩,
  ⟨0x40053104, 0x40, 4, 0x0, 1, 4, [⟨16, 16, .ro, 1, 0⟩, ⟨0, 16, .ro, 1, 0⟩]⟩,
  ⟨0x40053108, 0x40, 4, 0x0, 1, 4, [⟨0, 16, .rwp, 1, 0⟩]⟩]

/-- The registers of the GNS island. -/
def regRowsGNS : List RegRow := [
  ⟨0x40060004, 0x0, 1, 0x0, 1, 4, [⟨3, 1, .w1c, 1, 0⟩, ⟨2, 1, .w1c, 1, 0⟩, ⟨1, 1, .w1c, 1, 0⟩, ⟨0, 1, .ro, 1, 0⟩]⟩,
  ⟨0x40060010, 0x0, 1, 0x0, 1, 4, [⟨0, 18, .rwp, 1, 0⟩]⟩,
  ⟨0x40060014, 0x0, 1, 0x0, 1, 4, [⟨24, 8, .ro, 1, 0⟩, ⟨20, 2, .ro, 1, 0⟩, ⟨12, 2, .ro, 1, 0⟩, ⟨8, 2, .ro, 1, 0⟩, ⟨1, 1, .ro, 1, 0⟩, ⟨0, 1, .ro, 1, 0⟩]⟩,
  ⟨0x40060018, 0x0, 1, 0x0, 1, 4, [⟨0, 32, .ro, 1, 0⟩]⟩,
  ⟨0x4006001C, 0x0, 1, 0x0, 1, 4, [⟨0, 32, .ro, 1, 0⟩]⟩,
  ⟨0x40060020, 0x0, 1, 0x0, 1, 4, [⟨0, 16, .ro, 1, 0⟩]⟩,
  ⟨0x40060024, 0x0, 1, 0x0, 1, 4, [⟨8, 1, .rwp, 1, 0⟩, ⟨6, 2, .rwp, 1, 0⟩, ⟨0, 5, .rwp, 1, 0⟩]⟩,
  ⟨0x40060028, 0x0, 1, 0x0, 1, 4, [⟨0, 32, .rwp, 1, 0⟩]⟩,
  ⟨0x40060100, 0x40, 4, 0x0, 1, 4, [⟨6, 1, .rwp, 1, 0⟩, ⟨5, 1, .rwp, 1, 0⟩, ⟨4, 1, .rwp, 1, 0⟩, ⟨1, 2, .rwp, 1, 0⟩, ⟨0, 1, .rwp, 1, 0⟩]⟩,
  ⟨0x40060108, 0x40, 4, 0x0, 1, 8, [⟨0, 48, .rwp, 1, 0⟩]⟩,
  ⟨0x40060110, 0x40, 4, 0x0, 1, 4, [⟨8, 8, .ro, 1, 0⟩, ⟨2, 1, .w1c, 1, 0⟩, ⟨1, 1, .ro, 1, 0⟩, ⟨0, 1, .ro, 1, 0⟩]⟩,
  ⟨0x40060114, 0x40, 4, 0x0, 1, 4, [⟨0, 32, .ro, 1, 0⟩]⟩,
  ⟨0x40061000, 0x10, 256, 0x0, 1, 4, [⟨24, 8, .ro, 1, 0⟩, ⟨16, 8, .ro, 1, 0⟩, ⟨10, 6, .ro, 1, 0⟩, ⟨8, 2, .ro, 1, 0⟩, ⟨0, 3, .ro, 1, 0⟩]⟩,
  ⟨0x40061004, 0x10, 256, 0x0, 1, 4, [⟨16, 7, .ro, 1, 0⟩, ⟨0, 9, .ro, 1, 0⟩]⟩]

/-- The registers of the MAC island. -/
def regRowsMAC : List RegRow := [
  ⟨0x40100004, 0x10000, 9, 0x0, 1, 4, [⟨2, 1, .w1c, 1, 0⟩, ⟨1, 1, .w1c, 1, 0⟩, ⟨0, 1, .ro, 1, 0⟩]⟩,
  ⟨0x40100010, 0x10000, 9, 0x0, 1, 4, [⟨24, 4, .rwp, 1, 0⟩, ⟨20, 2, .rwp, 1, 0⟩, ⟨18, 2, .rwp, 1, 0⟩, ⟨13, 3, .rwp, 1, 0⟩, ⟨12, 1, .rwp, 1, 0⟩, ⟨0, 1, .rwp, 1, 0⟩]⟩,
  ⟨0x40100014, 0x10000, 9, 0x0, 1, 4, [⟨8, 1, .ro, 1, 0⟩, ⟨1, 1, .ro, 1, 0⟩, ⟨0, 1, .ro, 1, 0⟩]⟩,
  ⟨0x40100018, 0x10000, 9, 0x0, 1, 4, [⟨0, 14, .rwp, 1, 0⟩]⟩,
  ⟨0x40100020, 0x10000, 9, 0x0, 1, 8, [⟨32, 32, .rwp, 1, 0⟩, ⟨0, 32, .rwp, 1, 0⟩]⟩,
  ⟨0x40100028, 0x10000, 8, 0x0, 1, 8, [⟨32, 32, .ro, 1, 0⟩, ⟨0, 32, .ro, 1, 0⟩]⟩,
  ⟨0x40100030, 0x10000, 9, 0x0, 1, 4, [⟨0, 32, .rwp, 1, 0⟩]⟩,
  ⟨0x40100040, 0x10000, 9, 0x0, 1, 4, [⟨16, 16, .rwp, 1, 0⟩, ⟨8, 8, .rwp, 1, 0⟩, ⟨4, 1, .rwp, 1, 0⟩, ⟨3, 1, .rwp, 1, 0⟩, ⟨0, 2, .rwp, 3, 3⟩]⟩,
  ⟨0x40100044, 0x10000, 9, 0x0, 1, 4, [⟨16, 16, .rwp, 1, 0⟩, ⟨0, 16, .rwp, 1, 0⟩]⟩,
  ⟨0x40100100, 0x10000, 9, 0x8, 16, 8, [⟨63, 1, .rwp, 1, 0⟩, ⟨0, 48, .rwp, 1, 0⟩]⟩,
  ⟨0x40100180, 0x10000, 9, 0x0, 1, 4, [⟨10, 1, .rwp, 1, 0⟩, ⟨9, 1, .rwp, 1, 0⟩, ⟨0, 9, .rwp, 1, 0⟩]⟩,
  ⟨0x40100200, 0x10000, 9, 0x0, 1, 4, [⟨8, 3, .rwp, 1, 0⟩, ⟨4, 3, .rwp, 1, 0⟩, ⟨0, 3, .rwp, 1, 0⟩]⟩,
  ⟨0x40100300, 0x10000, 8, 0x0, 1, 4, [⟨16, 11, .rwp, 1, 0⟩, ⟨8, 3, .rwp, 1, 0⟩, ⟨2, 1, .rwp, 1, 0⟩, ⟨1, 1, .wo, 1, 0⟩, ⟨0, 1, .rwp, 1, 0⟩]⟩,
  ⟨0x40100304, 0x10000, 8, 0x0, 1, 4, [⟨1, 1, .ro, 1, 0⟩, ⟨0, 1, .ro, 1, 0⟩]⟩,
  ⟨0x40100310, 0x10000, 8, 0x0, 1, 16, [⟨64, 64, .rwp, 1, 0⟩, ⟨32, 32, .rwp, 1, 0⟩, ⟨0, 32, .rwp, 1, 0⟩]⟩,
  ⟨0x40100320, 0x10000, 8, 0x0, 1, 4, [⟨0, 32, .rwp, 1, 0⟩]⟩,
  ⟨0x40100400, 0x10000, 9, 0x0, 1, 4, [⟨16, 11, .ro, 1, 0⟩, ⟨0, 16, .ro, 1, 0⟩]⟩,
  ⟨0x40100410, 0x10000, 9, 0x0, 1, 32, [⟨0, 256, .ro, 1, 0⟩]⟩,
  ⟨0x40100500, 0x20000, 4, 0x0, 1, 4, [⟨16, 16, .rwp, 1, 0⟩, ⟨4, 12, .rwp, 1, 0⟩, ⟨0, 1, .rwp, 1, 0⟩]⟩,
  ⟨0x40104000, 0x10000, 8, 0x8, 1024, 8, [⟨32, 8, .rwp, 1, 0⟩, ⟨0, 32, .rwp, 1, 0⟩]⟩,
  ⟨0x40180600, 0x0, 1, 0x0, 1, 4, [⟨30, 2, .rwp, 1, 0⟩, ⟨29, 1, .rwp, 1, 0⟩, ⟨24, 5, .rwp, 1, 0⟩, ⟨16, 5, .rwp, 1, 0⟩, ⟨0, 16, .rwp, 1, 0⟩]⟩]

/-- The registers of the PTP island. -/
def regRowsPTP : List RegRow := [
  ⟨0x40200004, 0x0, 1, 0x0, 1, 4, [⟨1, 1, .w1c, 1, 0⟩, ⟨0, 1, .ro, 1, 0⟩]⟩,
  ⟨0x40200010, 0x0, 1, 0x0, 1, 4, [⟨0, 24, .rwp, 1, 0⟩]⟩,
  ⟨0x40200018, 0x0, 1, 0x0, 1, 8, [⟨32, 32, .ro, 1, 0⟩]⟩,
  ⟨0x40200100, 0x40, 8, 0x0, 1, 4, [⟨24, 8, .ro, 1, 0⟩, ⟨20, 4, .ro, 1, 0⟩, ⟨16, 4, .ro, 1, 0⟩, ⟨13, 3, .ro, 1, 0⟩, ⟨12, 1, .ro, 1, 0⟩, ⟨11, 1, .ro, 1, 0⟩, ⟨0, 3, .ro, 1, 0⟩]⟩,
  ⟨0x40200108, 0x40, 8, 0x0, 1, 8, [⟨32, 32, .ro, 1, 0⟩, ⟨24, 8, .ro, 1, 0⟩, ⟨16, 8, .ro, 1, 0⟩, ⟨8, 8, .ro, 1, 0⟩, ⟨0, 8, .ro, 1, 0⟩]⟩,
  ⟨0x40200110, 0x40, 8, 0x0, 1, 4, [⟨0, 32, .ro, 1, 0⟩]⟩,
  ⟨0x40200114, 0x40, 8, 0x0, 1, 4, [⟨0, 32, .ro, 1, 0⟩]⟩]

/-- The registers of the NSE island. -/
def regRowsNSE : List RegRow := [
  ⟨0x40210004, 0x0, 1, 0x0, 1, 4, [⟨3, 1, .w1c, 1, 0⟩, ⟨2, 1, .w1c, 1, 0⟩, ⟨1, 1, .w1c, 1, 0⟩, ⟨0, 1, .ro, 1, 0⟩]⟩,
  ⟨0x40210010, 0x0, 1, 0x0, 1, 4, [⟨16, 16, .rwp, 1, 0⟩, ⟨8, 8, .rwp, 1, 0⟩, ⟨2, 6, .rwp, 1, 0⟩, ⟨0, 1, .rwp, 1, 0⟩]⟩,
  ⟨0x40210014, 0x0, 1, 0x0, 1, 4, [⟨16, 16, .rwp, 1, 0⟩, ⟨0, 1, .rwp, 1, 0⟩]⟩,
  ⟨0x40210020, 0x4, 4, 0x0, 1, 4, [⟨31, 1, .ro, 1, 0⟩, ⟨0, 12, .ro, 1, 0⟩]⟩,
  ⟨0x40210100, 0x20, 16, 0x0, 1, 16, [⟨0, 128, .rwp, 1, 0⟩]⟩,
  ⟨0x40210110, 0x20, 16, 0x0, 1, 4, [⟨31, 1, .rwp, 1, 0⟩, ⟨0, 9, .rwp, 1, 0⟩]⟩]

/-- The registers of the PLC island. -/
def regRowsPLC : List RegRow := [
  ⟨0x40220004, 0x0, 1, 0x0, 1, 4, [⟨1, 1, .w1c, 1, 0⟩, ⟨0, 1, .ro, 1, 0⟩]⟩,
  ⟨0x40220010, 0x0, 1, 0x0, 1, 4, [⟨8, 4, .rwp, 1, 0⟩, ⟨0, 1, .rwp, 1, 0⟩]⟩,
  ⟨0x40220020, 0x0, 1, 0x0, 1, 4, [⟨0, 18, .ro, 1, 0⟩]⟩,
  ⟨0x40220024, 0x0, 1, 0x0, 1, 4, [⟨0, 25, .ro, 1, 0⟩]⟩,
  ⟨0x40220028, 0x0, 1, 0x0, 1, 4, [⟨0, 25, .ro, 1, 0⟩]⟩]

/-- The registers of the KEY island. -/
def regRowsKEY : List RegRow := [
  ⟨0x40300004, 0x0, 1, 0x0, 1, 4, [⟨1, 1, .w1c, 1, 0⟩, ⟨0, 1, .ro, 1, 0⟩]⟩,
  ⟨0x40300010, 0x0, 1, 0x0, 1, 4, [⟨24, 8, .ro, 1, 0⟩, ⟨16, 4, .ro, 1, 0⟩, ⟨10, 1, .ro, 1, 0⟩, ⟨9, 1, .ro, 1, 0⟩, ⟨8, 1, .ro, 1, 0⟩, ⟨0, 3, .ro, 1, 0⟩]⟩,
  ⟨0x40300020, 0x0, 1, 0x0, 1, 16, [⟨32, 96, .ro, 1, 0⟩, ⟨0, 32, .ro, 1, 0⟩]⟩,
  ⟨0x40300040, 0x4, 5, 0x0, 1, 4, [⟨8, 8, .ro, 1, 0⟩, ⟨4, 2, .ro, 1, 0⟩, ⟨0, 1, .ro, 1, 0⟩]⟩,
  ⟨0x40300060, 0x0, 1, 0x0, 1, 4, [⟨24, 4, .ro, 1, 0⟩, ⟨17, 1, .ro, 1, 0⟩, ⟨16, 1, .ro, 1, 0⟩, ⟨8, 5, .ro, 1, 0⟩, ⟨0, 5, .ro, 1, 0⟩]⟩,
  ⟨0x40300068, 0x0, 1, 0x0, 1, 8, [⟨0, 48, .ro, 1, 0⟩]⟩,
  ⟨0x40308000, 0x8, 4096, 0x0, 1, 8, [⟨32, 32, .rwt, 1, 0⟩, ⟨20, 12, .rwt, 1, 0⟩, ⟨16, 2, .rwt, 1, 0⟩, ⟨12, 2, .rwt, 1, 0⟩, ⟨8, 3, .rwt, 1, 0⟩, ⟨4, 3, .rwt, 1, 0⟩]⟩]

/-- The registers of the TWN island. -/
def regRowsTWN : List RegRow := [
  ⟨0x40310004, 0x0, 1, 0x0, 1, 4, [⟨2, 1, .w1c, 1, 0⟩, ⟨1, 1, .w1c, 1, 0⟩, ⟨0, 1, .ro, 1, 0⟩]⟩,
  ⟨0x40310010, 0x0, 1, 0x0, 1, 4, [⟨16, 16, .rwp, 1, 0⟩, ⟨8, 8, .rwp, 1, 0⟩, ⟨1, 1, .rwp, 1, 0⟩, ⟨0, 1, .rwp, 1, 0⟩]⟩,
  ⟨0x40310014, 0x0, 1, 0x0, 1, 4, [⟨24, 4, .ro, 1, 0⟩, ⟨12, 1, .ro, 1, 0⟩, ⟨11, 1, .ro, 1, 0⟩, ⟨10, 1, .w1c, 1, 0⟩, ⟨9, 1, .ro, 1, 0⟩, ⟨8, 1, .ro, 1, 0⟩, ⟨4, 2, .ro, 1, 0⟩, ⟨0, 3, .ro, 1, 0⟩]⟩,
  ⟨0x40310018, 0x0, 1, 0x0, 1, 4, [⟨8, 8, .ro, 1, 0⟩, ⟨4, 3, .ro, 1, 0⟩, ⟨3, 1, .ro, 1, 0⟩, ⟨1, 2, .ro, 1, 0⟩, ⟨0, 1, .ro, 1, 0⟩]⟩,
  ⟨0x40310020, 0x0, 1, 0x0, 1, 8, [⟨0, 48, .rwp, 1, 0⟩]⟩,
  ⟨0x40310028, 0x0, 1, 0x0, 1, 4, [⟨0, 12, .rwp, 1, 0⟩]⟩,
  ⟨0x40310030, 0x0, 1, 0x0, 1, 4, [⟨16, 16, .ro, 1, 0⟩, ⟨0, 16, .ro, 1, 0⟩]⟩]

/-- The registers of the FLT island. -/
def regRowsFLT : List RegRow := [
  ⟨0x40320004, 0x0, 1, 0x0, 1, 4, [⟨1, 1, .w1c, 1, 0⟩, ⟨0, 1, .ro, 1, 0⟩]⟩,
  ⟨0x40320010, 0x0, 1, 0x0, 1, 4, [⟨0, 2, .rwp, 1, 0⟩]⟩,
  ⟨0x40320014, 0x0, 1, 0x0, 1, 4, [⟨9, 1, .ro, 1, 0⟩, ⟨8, 1, .ro, 1, 0⟩, ⟨4, 2, .ro, 1, 0⟩, ⟨0, 1, .ro, 1, 0⟩]⟩,
  ⟨0x40320018, 0x0, 1, 0x0, 1, 4, [⟨0, 1, .wo, 1, 0⟩]⟩,
  ⟨0x40320020, 0x4, 5, 0x0, 1, 4, [⟨0, 32, .w1c, 1, 0⟩]⟩,
  ⟨0x40320040, 0x4, 5, 0x0, 1, 4, [⟨0, 32, .ro, 1, 0⟩]⟩,
  ⟨0x40320080, 0x0, 1, 0x0, 1, 64, [⟨0, 512, .ro, 1, 0⟩]⟩,
  ⟨0x40320400, 0x4, 160, 0x0, 1, 4, [⟨0, 2, .rwt, 3, 3⟩]⟩,
  ⟨0x40320800, 0x40, 16, 0x0, 1, 64, [⟨0, 512, .ro, 1, 0⟩]⟩,
  ⟨0x40320C00, 0x40, 8, 0x0, 1, 64, [⟨0, 512, .ro, 1, 0⟩]⟩]

/-- The registers of the PWR island. -/
def regRowsPWR : List RegRow := [
  ⟨0x40330004, 0x0, 1, 0x0, 1, 4, [⟨2, 1, .w1c, 1, 0⟩, ⟨1, 1, .w1c, 1, 0⟩, ⟨0, 1, .ro, 1, 0⟩]⟩,
  ⟨0x40330010, 0x0, 1, 0x0, 1, 4, [⟨8, 1, .w1c, 1, 0⟩, ⟨3, 1, .ro, 1, 0⟩, ⟨0, 3, .ro, 1, 0⟩]⟩,
  ⟨0x40330014, 0x0, 1, 0x0, 1, 4, [⟨8, 3, .ro, 1, 0⟩, ⟨0, 4, .ro, 1, 0⟩]⟩,
  ⟨0x40330018, 0x0, 1, 0x0, 1, 4, [⟨4, 3, .ro, 1, 0⟩, ⟨0, 3, .ro, 1, 0⟩]⟩,
  ⟨0x4033001C, 0x0, 1, 0x0, 1, 4, [⟨16, 8, .ro, 1, 0⟩, ⟨8, 8, .ro, 1, 0⟩, ⟨0, 8, .ro, 1, 0⟩]⟩,
  ⟨0x40330020, 0x0, 1, 0x0, 1, 4, [⟨16, 16, .wo, 1, 0⟩, ⟨0, 1, .wo, 1, 0⟩]⟩]

/-- The registers of the CLK island. -/
def regRowsCLK : List RegRow := [
  ⟨0x40340004, 0x0, 1, 0x0, 1, 4, [⟨2, 1, .w1c, 1, 0⟩, ⟨1, 1, .w1c, 1, 0⟩, ⟨0, 1, .ro, 1, 0⟩]⟩,
  ⟨0x40340010, 0x0, 1, 0x0, 1, 4, [⟨0, 2, .ro, 1, 0⟩]⟩,
  ⟨0x40340014, 0x0, 1, 0x0, 1, 4, [⟨11, 1, .w1c, 1, 0⟩, ⟨10, 1, .w1c, 1, 0⟩, ⟨9, 1, .ro, 1, 0⟩, ⟨8, 1, .ro, 1, 0⟩, ⟨3, 2, .ro, 1, 0⟩, ⟨0, 3, .ro, 1, 0⟩]⟩,
  ⟨0x40340020, 0x0, 1, 0x0, 1, 4, [⟨0, 8, .rwp, 1, 0⟩, ⟨8, 1, .rwp, 1, 0⟩, ⟨9, 1, .rwp, 1, 0⟩, ⟨12, 4, .rwp, 1, 0⟩, ⟨16, 1, .rwp, 1, 0⟩]⟩,
  ⟨0x40340024, 0x0, 1, 0x0, 1, 4, [⟨0, 17, .ro, 1, 0⟩]⟩,
  ⟨0x40340030, 0x0, 1, 0x0, 1, 8, [⟨48, 12, .ro, 1, 0⟩, ⟨32, 10, .ro, 1, 0⟩, ⟨16, 16, .ro, 1, 0⟩, ⟨0, 16, .ro, 1, 0⟩]⟩]

/-- The registers of the PMC island. -/
def regRowsPMC : List RegRow := [
  ⟨0x40350004, 0x0, 1, 0x0, 1, 4, [⟨2, 1, .w1c, 1, 0⟩, ⟨1, 1, .w1c, 1, 0⟩, ⟨0, 1, .ro, 1, 0⟩]⟩,
  ⟨0x40350010, 0x0, 1, 0x0, 1, 4, [⟨0, 16, .rwp, 1, 0⟩]⟩,
  ⟨0x40350014, 0x0, 1, 0x0, 1, 4, [⟨8, 6, .wo, 1, 0⟩, ⟨0, 1, .wo, 1, 0⟩]⟩,
  ⟨0x40350018, 0x0, 1, 0x0, 1, 4, [⟨0, 32, .ro, 1, 0⟩]⟩,
  ⟨0x40350020, 0x0, 1, 0x0, 1, 16, [⟨64, 64, .ro, 1, 0⟩, ⟨32, 32, .ro, 1, 0⟩, ⟨0, 32, .ro, 1, 0⟩]⟩,
  ⟨0x40350030, 0x0, 1, 0x0, 1, 8, [⟨0, 64, .ro, 1, 0⟩]⟩,
  ⟨0x40350100, 0x10, 9, 0x0, 1, 8, [⟨32, 32, .ro, 1, 0⟩, ⟨0, 32, .ro, 1, 0⟩]⟩,
  ⟨0x40350108, 0x10, 9, 0x0, 1, 8, [⟨32, 32, .ro, 1, 0⟩, ⟨0, 32, .ro, 1, 0⟩]⟩,
  ⟨0x40354000, 0x8, 2048, 0x0, 1, 8, [⟨0, 48, .ro, 1, 0⟩]⟩,
  ⟨0x40358000, 0x8, 2048, 0x0, 1, 8, [⟨0, 48, .ro, 1, 0⟩]⟩,
  ⟨0x4035C000, 0x8, 2048, 0x0, 1, 8, [⟨0, 48, .ro, 1, 0⟩]⟩]

/-- The registers of the CHK island. -/
def regRowsCHK : List RegRow := [
  ⟨0x40360004, 0x0, 1, 0x0, 1, 4, [⟨1, 1, .w1c, 1, 0⟩, ⟨0, 1, .ro, 1, 0⟩]⟩,
  ⟨0x40360100, 0x20, 8, 0x0, 1, 4, [⟨8, 3, .rwp, 1, 0⟩, ⟨4, 1, .ro, 1, 0⟩, ⟨1, 3, .rwp, 1, 0⟩, ⟨0, 1, .rwp, 1, 0⟩]⟩,
  ⟨0x40360104, 0x20, 8, 0x0, 1, 4, [⟨2, 1, .w1c, 1, 0⟩, ⟨1, 1, .w1c, 1, 0⟩, ⟨0, 1, .w1c, 1, 0⟩]⟩,
  ⟨0x40360108, 0x20, 8, 0x0, 1, 4, [⟨0, 32, .ro, 1, 0⟩]⟩,
  ⟨0x4036010C, 0x20, 8, 0x0, 1, 4, [⟨16, 16, .ro, 1, 0⟩, ⟨8, 8, .ro, 1, 0⟩, ⟨0, 8, .ro, 1, 0⟩]⟩]

/-- The registers of the BUS island. -/
def regRowsBUS : List RegRow := [
  ⟨0x40370004, 0x0, 1, 0x0, 1, 4, [⟨2, 1, .w1c, 1, 0⟩, ⟨1, 1, .w1c, 1, 0⟩, ⟨0, 1, .ro, 1, 0⟩]⟩,
  ⟨0x40370010, 0x0, 1, 0x0, 1, 8, [⟨63, 1, .w1c, 1, 0⟩, ⟨62, 1, .ro, 1, 0⟩, ⟨58, 4, .ro, 1, 0⟩, ⟨54, 4, .ro, 1, 0⟩, ⟨0, 40, .ro, 1, 0⟩]⟩,
  ⟨0x40370018, 0x0, 1, 0x0, 1, 4, [⟨0, 32, .ro, 1, 0⟩]⟩,
  ⟨0x40370020, 0x0, 1, 0x0, 1, 8, [⟨63, 1, .ro, 1, 0⟩, ⟨60, 3, .ro, 1, 0⟩, ⟨54, 6, .ro, 1, 0⟩, ⟨48, 6, .ro, 1, 0⟩, ⟨20, 20, .ro, 1, 0⟩]⟩]

/-- The registers of the HIF island. -/
def regRowsHIF : List RegRow := [
  ⟨0x40380004, 0x0, 1, 0x0, 1, 4, [⟨3, 1, .ro, 1, 0⟩, ⟨2, 1, .w1c, 1, 0⟩, ⟨1, 1, .w1c, 1, 0⟩, ⟨0, 1, .ro, 1, 0⟩]⟩,
  ⟨0x40380010, 0x0, 1, 0x0, 1, 16, [⟨96, 32, .ro, 1, 0⟩, ⟨64, 32, .ro, 1, 0⟩, ⟨32, 32, .ro, 1, 0⟩, ⟨0, 32, .ro, 1, 0⟩]⟩,
  ⟨0x40380020, 0x0, 1, 0x0, 1, 4, [⟨16, 4, .ro, 1, 0⟩, ⟨0, 6, .ro, 1, 0⟩]⟩,
  ⟨0x40380024, 0x0, 1, 0x0, 1, 4, [⟨0, 10, .rwp, 1, 0⟩]⟩,
  ⟨0x40380028, 0x0, 1, 0x0, 1, 4, [⟨16, 16, .rwp, 1, 0⟩, ⟨0, 1, .wo, 1, 0⟩]⟩,
  ⟨0x40380100, 0x20, 4, 0x0, 1, 8, [⟨12, 28, .rwp, 1, 0⟩]⟩,
  ⟨0x40380108, 0x20, 4, 0x0, 1, 4, [⟨8, 5, .rwp, 1, 0⟩, ⟨0, 1, .rwp, 1, 0⟩]⟩,
  ⟨0x4038010C, 0x20, 4, 0x0, 1, 4, [⟨0, 32, .rw, 1, 0⟩]⟩,
  ⟨0x40380110, 0x20, 4, 0x0, 1, 4, [⟨0, 32, .rw, 1, 0⟩]⟩,
  ⟨0x40380114, 0x20, 4, 0x0, 1, 4, [⟨0, 32, .ro, 1, 0⟩]⟩]

/-- The registers of the JRN island. -/
def regRowsJRN : List RegRow := [
  ⟨0x40390004, 0x0, 1, 0x0, 1, 4, [⟨4, 1, .w1c, 1, 0⟩, ⟨3, 1, .w1c, 1, 0⟩, ⟨2, 1, .w1c, 1, 0⟩, ⟨1, 1, .w1c, 1, 0⟩, ⟨0, 1, .ro, 1, 0⟩]⟩,
  ⟨0x40390010, 0x0, 1, 0x0, 1, 4, [⟨8, 5, .rwp, 1, 0⟩, ⟨0, 1, .rwp, 1, 0⟩]⟩,
  ⟨0x40390018, 0x0, 1, 0x0, 1, 8, [⟨20, 20, .rwp, 1, 0⟩]⟩,
  ⟨0x40390020, 0x0, 1, 0x0, 1, 4, [⟨16, 16, .rwp, 1, 0⟩, ⟨0, 12, .rwp, 1, 0⟩]⟩,
  ⟨0x40390024, 0x0, 1, 0x0, 1, 4, [⟨0, 12, .rwp, 1, 0⟩]⟩,
  ⟨0x40390030, 0x0, 1, 0x0, 1, 4, [⟨0, 32, .ro, 1, 0⟩]⟩,
  ⟨0x40390034, 0x0, 1, 0x0, 1, 4, [⟨0, 16, .ro, 1, 0⟩]⟩,
  ⟨0x40390038, 0x0, 1, 0x0, 1, 4, [⟨0, 32, .rwp, 1, 0⟩]⟩,
  ⟨0x4039003C, 0x0, 1, 0x0, 1, 4, [⟨0, 32, .ro, 1, 0⟩]⟩]

/-- The registers of the TEL island. -/
def regRowsTEL : List RegRow := [
  ⟨0x403A0004, 0x0, 1, 0x0, 1, 4, [⟨3, 1, .w1c, 1, 0⟩, ⟨2, 1, .w1c, 1, 0⟩, ⟨1, 1, .w1c, 1, 0⟩, ⟨0, 1, .ro, 1, 0⟩]⟩,
  ⟨0x403A0010, 0x0, 1, 0x0, 1, 4, [⟨24, 8, .rwp, 1, 0⟩, ⟨4, 1, .rwp, 1, 0⟩, ⟨3, 1, .rwp, 1, 0⟩, ⟨2, 1, .rwp, 1, 0⟩, ⟨1, 1, .rwp, 1, 0⟩, ⟨0, 1, .rwp, 1, 0⟩]⟩,
  ⟨0x403A0014, 0x0, 1, 0x0, 1, 4, [⟨0, 32, .rwp, 1, 0⟩]⟩,
  ⟨0x403A0018, 0x0, 1, 0x0, 1, 4, [⟨0, 6, .rwp, 1, 0⟩]⟩,
  ⟨0x403A0020, 0x0, 1, 0x0, 1, 4, [⟨16, 16, .rwp, 1, 0⟩, ⟨8, 4, .rwp, 9, 15⟩, ⟨4, 3, .rwp, 1, 0⟩]⟩,
  ⟨0x403A0028, 0x0, 1, 0x0, 1, 8, [⟨0, 48, .rwp, 1, 0⟩]⟩,
  ⟨0x403A0030, 0x0, 1, 0x0, 1, 4, [⟨16, 16, .rwp, 1, 0⟩, ⟨0, 16, .rwp, 1, 0⟩]⟩,
  ⟨0x403A0040, 0x0, 1, 0x0, 1, 16, [⟨0, 128, .rwp, 1, 0⟩]⟩,
  ⟨0x403A0050, 0x0, 1, 0x0, 1, 16, [⟨0, 128, .rwp, 1, 0⟩]⟩,
  ⟨0x403A0060, 0x0, 1, 0x0, 1, 8, [⟨20, 20, .rwp, 1, 0⟩]⟩,
  ⟨0x403A0068, 0x0, 1, 0x0, 1, 4, [⟨8, 6, .rwp, 1, 0⟩, ⟨0, 1, .rwp, 1, 0⟩]⟩]

/-- The registers of the POD island. -/
def regRowsPOD : List RegRow := [
  ⟨0x40420000, 0x40000, 8, 0x0, 1, 4, [⟨16, 4, .ro, 1, 0⟩, ⟨8, 4, .ro, 1, 0⟩, ⟨7, 1, .ro, 1, 0⟩, ⟨6, 1, .ro, 1, 0⟩, ⟨0, 4, .ro, 1, 0⟩]⟩,
  ⟨0x40420004, 0x40000, 8, 0x0, 1, 4, [⟨0, 16, .ro, 1, 0⟩]⟩,
  ⟨0x40420008, 0x40000, 8, 0x0, 1, 4, [⟨0, 8, .ro, 1, 0⟩]⟩,
  ⟨0x4042000C, 0x40000, 8, 0x0, 1, 4, [⟨0, 24, .rw, 1, 0⟩]⟩,
  ⟨0x40420010, 0x40000, 8, 0x0, 1, 4, [⟨0, 14, .ro, 1, 0⟩]⟩]

/-- The whole register map. -/
def regRows : List RegRow :=
  regRowsSYS ++ regRowsTKP ++ regRowsTDC ++ regRowsREF ++ regRowsENS ++ regRowsSYN ++ regRowsGNS ++ regRowsMAC ++ regRowsPTP ++ regRowsNSE ++ regRowsPLC ++ regRowsKEY ++ regRowsTWN ++ regRowsFLT ++ regRowsPWR ++ regRowsCLK ++ regRowsPMC ++ regRowsCHK ++ regRowsBUS ++ regRowsHIF ++ regRowsJRN ++ regRowsTEL ++ regRowsPOD

/-- The row of the map that holds the byte address `a`, with the address of the register's lowest byte. -/
def RegRow.holds (r : RegRow) (a : Nat) : Option Nat :=
  if a < r.base then none else
  let o := a - r.base
  let i1 := if r.n1 ≤ 1 then 0 else o / r.s1
  let o1 := o - i1 * r.s1
  let i2 := if r.n2 ≤ 1 then 0 else o1 / r.s2
  let o2 := o1 - i2 * r.s2
  if i1 < max r.n1 1 ∧ i2 < max r.n2 1 ∧ o2 < r.bytes then some (a - o2) else none

/-- Finds the register at a byte address: its row and the address of its lowest byte. -/
def findReg (rows : List RegRow) (a : Nat) : Option (RegRow × Nat) :=
  match rows with
  | [] => none
  | r :: rs => match r.holds a with
    | some b => some (r, b)
    | none => findReg rs a

/-- The rows of the island that an address lies in (R399). -/
def rowsAt (a : Nat) : List RegRow :=
  if a / 0x10000 = 0x4000 then regRowsSYS
  else if a / 0x10000 = 0x4001 then regRowsTKP
  else if a / 0x10000 = 0x4002 then regRowsTDC
  else if a / 0x10000 = 0x4003 then regRowsREF
  else if a / 0x10000 = 0x4004 then regRowsENS
  else if a / 0x10000 = 0x4005 then regRowsSYN
  else if a / 0x10000 = 0x4006 then regRowsGNS
  else if 0x4010 ≤ a / 0x10000 ∧ a / 0x10000 ≤ 0x4018 then regRowsMAC
  else if a / 0x10000 = 0x4020 then regRowsPTP
  else if a / 0x10000 = 0x4021 then regRowsNSE
  else if a / 0x10000 = 0x4022 then regRowsPLC
  else if a / 0x10000 = 0x4030 then regRowsKEY
  else if a / 0x10000 = 0x4031 then regRowsTWN
  else if a / 0x10000 = 0x4032 then regRowsFLT
  else if a / 0x10000 = 0x4033 then regRowsPWR
  else if a / 0x10000 = 0x4034 then regRowsCLK
  else if a / 0x10000 = 0x4035 then regRowsPMC
  else if a / 0x10000 = 0x4036 then regRowsCHK
  else if a / 0x10000 = 0x4037 then regRowsBUS
  else if a / 0x10000 = 0x4038 then regRowsHIF
  else if a / 0x10000 = 0x4039 then regRowsJRN
  else if a / 0x10000 = 0x403A then regRowsTEL
  else if 0x4040 ≤ a / 0x10000 ∧ a / 0x10000 ≤ 0x405F then regRowsPOD
  else []

/-- The register at a byte address of the map (R399), none at a reserved location (R11). -/
def regAt (a : Nat) : Option (RegRow × Nat) := findReg (rowsAt a) a

/-- Reset values other than 0, by the address of the register's lowest byte: the first address, the
stride, the number of registers and the value of the i-th. -/
def resetRows : List (Nat × Nat × Nat × (Nat → Nat)) := [
  (0x40010010, 0x4, 1, fun _ => 0x3C0000),  -- TKP_STEP_PERMIT
  (0x40010128, 0x80, 8, fun _ => 0x800000000),  -- TKP_VC_SINC
  (0x40010148, 0x80, 8, fun _ => 0x800000000),  -- TKP_VC_INC
  (0x40020010, 0x4, 1, fun _ => 0xA0000),  -- TDC_GCTRL
  (0x40020100, 0x40, 32, fun _ => 0x10000),  -- TDC_CH_CTRL
  (0x40020124, 0x40, 32, fun _ => 0x3E8),  -- TDC_CH_WPER
  (0x4002012C, 0x40, 32, fun _ => 0x7D0),  -- TDC_CH_GTO
  (0x40020130, 0x40, 32, fun _ => 0x10C8E0),  -- TDC_CH_STO
  (0x40030020, 0x4, 1, fun _ => 0x1F),  -- REF_SEL
  (0x40030100, 0x10, 18, fun _ => 0xF03F00),  -- REF_STATE
  (0x40030400, 0x10, 4, fun _ => 0x800),  -- REF_TOD_CFG
  (0x40040010, 0x4, 1, fun _ => 0x1F100C00),  -- ENS_TS
  (0x40040014, 0x4, 1, fun _ => 0x300004),  -- ENS_SWDOG
  (0x40040020, 0x4, 1, fun _ => 0xF4240),  -- ENS_BLIMIT
  (0x40040030, 0x4, 1, fun _ => 0x1000),  -- ENS_DAC
  (0x40040100, 0x20, 8, fun _ => 0x11F00),  -- ENS_MEM_STAT
  (0x40040200, 0x4, 1, fun _ => 0x1F),  -- ONION_LATCH
  (0x40040208, 0x4, 1, fun _ => 0x2FAF080),  -- ONION_TBU
  (0x4004020C, 0x4, 1, fun _ => 0x14),  -- ONION_VDIP
  (0x40040280, 0x4, 19, fun j => if j < 4 then 350 else if j < 8 then 500 else if j = 8 then 8000 else if j < 17 then 200 else 10000),  -- ONION_L4
  (0x40050208, 0x200, 4, fun _ => 0x8000000000000),  -- SYN_FREQ
  (0x40050210, 0x200, 4, fun i => 0x80000001 + i),  -- SYN_DITHER
  (0x40050214, 0x200, 4, fun _ => 0xE),  -- SYN_LOOP
  (0x40051000, 0x40, 8, fun _ => 0x2000),  -- SYN_OUT_CTRL
  (0x40051008, 0x40, 8, fun _ => 0x40),  -- SYN_OUT_DIV
  (0x40052008, 0x40, 8, fun _ => 0x186A0),  -- SYN_PPS_WIDTH
  (0x40052018, 0x40, 8, fun _ => 0xE8D4A51000),  -- SYN_PPS_PER
  (0x40053100, 0x40, 4, fun _ => 0x640802),  -- SYN_TOD_CTRL
  (0x40053108, 0x40, 4, fun _ => 0x474E),  -- SYN_TOD_TALKER
  (0x40060010, 0x4, 1, fun _ => 0x27F60),  -- GNS_CLK_CFG
  (0x40060014, 0x4, 1, fun _ => 0x100),  -- GNS_SOL
  (0x40060018, 0x4, 1, fun _ => 0xFFFFFFFF),  -- GNS_SIGMA
  (0x40060020, 0x4, 1, fun _ => 0x2),  -- GNS_CAUSE
  (0x40060024, 0x4, 1, fun _ => 0x1F),  -- GNS_FESPI_CTRL
  (0x40061004, 0x10, 256, fun _ => 0x80000),  -- GNS_CH_CFG
  (0x40100010, 0x10000, 9, fun p => if p = 8 then 0x0A080000 else 0x02080000),  -- MAC_PORT_CFG
  (0x40100018, 0x10000, 9, fun _ => 0x5F2),  -- MAC_MAXFRAME
  (0x40100040, 0x10000, 9, fun _ => 0xFFFF0010),  -- MAC_FC
  (0x40100044, 0x10000, 9, fun _ => 0x1800100),  -- MAC_FC_WM
  (0x40100180, 0x10000, 9, fun _ => 0x33F),  -- MAC_FILT_FIX
  (0x40100200, 0x10000, 9, fun _ => 0x657),  -- MAC_TC_MAP
  (0x40100300, 0x10000, 8, fun _ => 0x10000),  -- MAC_QBV_CTRL
  (0x40100320, 0x10000, 8, fun _ => 0xF4240),  -- MAC_QBV_CYCLE
  (0x40100500, 0x20000, 4, fun _ => 0x1907D00),  -- MAC_PRP_CFG
  (0x40104000, 0x8, 1024, fun _ => 0xFF00000000),  -- MAC_GCL
  (0x40114000, 0x8, 1024, fun _ => 0xFF00000000),  -- MAC_GCL
  (0x40124000, 0x8, 1024, fun _ => 0xFF00000000),  -- MAC_GCL
  (0x40134000, 0x8, 1024, fun _ => 0xFF00000000),  -- MAC_GCL
  (0x40144000, 0x8, 1024, fun _ => 0xFF00000000),  -- MAC_GCL
  (0x40154000, 0x8, 1024, fun _ => 0xFF00000000),  -- MAC_GCL
  (0x40164000, 0x8, 1024, fun _ => 0xFF00000000),  -- MAC_GCL
  (0x40174000, 0x8, 1024, fun _ => 0xFF00000000),  -- MAC_GCL
  (0x40200010, 0x4, 1, fun _ => 0x4C5448),  -- PTP_ORG
  (0x40200108, 0x40, 8, fun _ => 0xFFFFFFFFFFFEA000),  -- PTP_INST_UP
  (0x40210010, 0x4, 1, fun _ => 0xF0B14000),  -- NSE_CFG
  (0x40210014, 0x4, 1, fun _ => 0xFA0000),  -- NSE_ADMIT
  (0x40300010, 0x4, 1, fun _ => 0x40000),  -- KEY_STATUS
  (0x40300040, 0x4, 5, fun _ => 0x400),  -- KEY_TAMP_CFG
  (0x40310010, 0x4, 1, fun _ => 0xA0000),  -- TWN_CFG
  (0x40320010, 0x4, 1, fun _ => 0x1),  -- FLT_CFG
  (0x40320400, 0x4, 160, fltDefaultClass),  -- FLT_CLASS
  (0x40330010, 0x4, 1, fun _ => 0x8),  -- PWR_STATUS
  (0x40340014, 0x4, 1, fun _ => 0x100),  -- CLK_STATUS
  (0x40340030, 0x4, 1, fun _ => 0x800020000000000),  -- CLK_TRIM
  (0x40350010, 0x4, 1, fun _ => 0x3E8),  -- PMC_WIN
  (0x40380010, 0x4, 1, fun _ => 0xFFFFFFFFFFFFFFFFFFFFFFFFFFFFFFFF),  -- HIF_SEQ_STATUS
  (0x40380024, 0x4, 1, fun _ => 0x8),  -- HIF_IRQ
  (0x40380108, 0x20, 4, fun _ => 0x400),  -- HIF_RING_CFG
  (0x40390010, 0x4, 1, fun _ => 0x1C00),  -- JRN_CFG
  (0x40390018, 0x4, 1, fun _ => 0x1000000000),  -- JRN_BASE
  (0x40390020, 0x4, 1, fun _ => 0x3C0000),  -- JRN_ATT
  (0x403A0020, 0x4, 1, fun _ => 0x5C00000),  -- TEL_UDP_CTRL
  (0x403A0068, 0x4, 1, fun _ => 0x1400),  -- TEL_ARCH_CFG
  (0x4042000C, 0x40000, 8, fun _ => 0x186A0)  -- POD_WDOG
  ]

/-- The value that a register holds at reset, by the address of its lowest byte. -/
def resetValIn : List (Nat × Nat × Nat × (Nat → Nat)) → Nat → Nat
  | [], _ => 0
  | (b, st, n, f) :: rs, a =>
    if b ≤ a ∧ (a - b) / st < n ∧ (a - b) % st = 0 then f ((a - b) / st) else resetValIn rs a

/-- The value that the register at `a` holds at reset; 0 where its table gives 0 or gives none (notes/assumptions/2). -/
def resetVal (a : Nat) : Nat := resetValIn resetRows a

/-- Bits [lo + len - 1 : lo] of a register value. -/
def getBits (v lo len : Nat) : Nat := v / 2 ^ lo % 2 ^ len

/-- A register value with bits [lo + len - 1 : lo] replaced. -/
def setBits (v lo len x : Nat) : Nat :=
  v - v / 2 ^ lo % 2 ^ len * 2 ^ lo + x % 2 ^ len * 2 ^ lo

end Sys2Proof.Machine
end

