-- ==== Sys2Proof/Machine/Ops.lean ====
section
/-! DEFINITION. The named operations that the meanings are made of: registers and their fields, time and
virtual clocks, raising a fault source, the journal's staging, the host rings, bus errors, posted writes,
the completion and the cancelling of timed actions, and a Pod's fault. -/

namespace Sys2Proof.Machine

/-- The number of ticks in a microsecond: a tick is 800 ps (R59). -/
abbrev ticksPerUs : Nat := 1250

/-! ### Registers -/

/-- The value of the register at `a`: the bitwise majority of its three copies where it is triplicated (R402). -/
def State.reg (s : State) (a : Nat) : Nat :=
  tabGet (resetVal a) s.regs a ^^^ (tabGet 0 s.upset1 a &&& tabGet 0 s.upset2 a)

/-- Stores a value in the register at `a`, in all copies (R10). -/
def State.setReg (s : State) (a v : Nat) : State :=
  { s with regs := tabSet (resetVal a) s.regs a v, upset1 := tabErase s.upset1 a, upset2 := tabErase s.upset2 a }

/-- A field of a register. -/
def State.fld (s : State) (a : Nat) (f : Fld) : Nat := getBits (s.reg a) f.lo f.len

/-- Sets a field of a register. -/
def State.setFld (s : State) (a : Nat) (f : Fld) (x : Nat) : State := s.setReg a (setBits (s.reg a) f.lo f.len x)

/-- Adds to a counter field that saturates. -/
def State.incFld (s : State) (a : Nat) (f : Fld) (k : Nat) : State := s.setFld a f (satAdd f.len (s.fld a f) k)

/-- Adds to a PMC counter, which saturates at 2^48 − 1 (R450). -/
def State.countBy (s : State) (i k : Nat) : State := s.incFld (Reg.PMC_CNT i) Reg.PMC_CNT_COUNT k

/-- Adds 1 to a PMC counter (R450). -/
def State.count (s : State) (i : Nat) : State := s.countBy i 1

/-- A free value, and the state that has taken it. -/
def State.fresh (s : State) : Nat × State := (Config.freeNat s.free, { s with free := s.free + 1 })

/-- Whether a DRAM access of a class that can be refused finds bandwidth left by the classes before it: a free value (R29; DESIGN CHOICE,
notes/assumptions/171). -/
def State.dramTurn (s : State) : Bool × State := (decide (s.fresh.1 % 2 = 1), s.fresh.2)

/-! ### Time -/

/-- FRAC units in a nanosecond and in a second (R57). -/
abbrev fuNs : Int := 4294967296
abbrev fuSec : Int := 4294967296000000000

/-- The GTIME that a 128-bit value spells. -/
def gtOfRaw (v : Nat) : Gt :=
  toSigned 64 (v / 2 ^ 64) * fuSec + ((v / 2 ^ 32 % 2 ^ 32 : Nat) : Int) * fuNs + ((v % 2 ^ 32 : Nat) : Int)

/-- NS of a 128-bit value lies in its range (R58). -/
def gtRawOk (v : Nat) : Bool := v / 2 ^ 32 % 2 ^ 32 ≤ 999999999

/-- SECONDS, NS and FRAC of a GTIME. -/
def gtSec (g : Gt) : Int := g / fuSec
def gtNs (g : Gt) : Nat := (g % fuSec / fuNs).toNat
def gtFrac (g : Gt) : Nat := (g % fuNs).toNat

/-- The normalized 128-bit value of a GTIME (R58). -/
def gtToRaw (g : Gt) : Nat := ofSigned 64 (gtSec g) * 2 ^ 64 + gtNs g * 2 ^ 32 + gtFrac g

/-- The SECONDS of a GTIME lie in the range of R57. -/
def gtInRange (g : Gt) : Bool := decide (-(2 ^ 63 : Int) ≤ gtSec g) && decide (gtSec g < (2 ^ 63 : Int))

/-- The 16 bytes of a GTIME in a record (R57). -/
def gtBytes (g : Gt) : List Byte := natLe 16 (gtToRaw g)

/-- A reading of a virtual clock at the tick position `pn / pd`, exact and rounded toward minus infinity to a
whole FRAC unit (R62, R73). -/
def vcRead (c : VcSet) (pn : Int) (pd : Nat) : Gt :=
  if c.legacy then c.off + pn * c.inc / (10 * pd)
  else c.off + pn * (4 * 2 ^ 32) * (2 ^ 64 + c.rate) / (5 * 2 ^ 64 * pd)

/-- The parameter set of a VC in force (R63). -/
def State.vcSet (s : State) (v : Nat) : VcSet where
  off := gtOfRaw (s.reg (Reg.TKP_VC_OFFSET v))
  rate := toSigned 64 (s.reg (Reg.TKP_VC_RATE v))
  inc := s.reg (Reg.TKP_VC_INC v)
  legacy := s.fld (Reg.TKP_VC_STATUS v) Reg.TKP_VC_STATUS_MODE = 1

/-- The parameter set of a VC in force at a tick: the current one from its effective tick on, and the one
before it for earlier ticks (R19, R65). -/
def State.vcSetAt (s : State) (v tick : Nat) : VcSet :=
  if s.reg (Reg.TKP_VC_EFF v) ≤ tick then s.vcSet v else tabGet VcSet.reset s.tkp.prev v

/-- The reading of a VC at a tick, without interpolation. -/
def State.vcAt (s : State) (v tick : Nat) : Gt := vcRead (s.vcSetAt v tick) tick 1

/-- The reading of a VC now. -/
def State.vcNow (s : State) (v : Nat) : Gt := vcRead (s.vcSet v) s.tkp.rawcnt 1

/-- The first tick at which a parameter set reads at least `g`. -/
def tickOf (c : VcSet) (g : Gt) : Nat :=
  let d := g - c.off
  if c.legacy then (-(-(d * 10) / (max c.inc 1 : Nat))).toNat
  else (-(-(d * (5 * 2 ^ 64)) / (4 * 2 ^ 32 * (2 ^ 64 + c.rate)))).toNat

/-- True while the timebase is STOPPED (R440). -/
def State.tbStopped (s : State) : Bool := s.fld Reg.CLK_STATUS Reg.CLK_STATUS_TBP = 5

/-- True while the TBP is LOCKED (R440). -/
def State.tbLocked (s : State) : Bool := s.fld Reg.CLK_STATUS Reg.CLK_STATUS_TBP = 2

/-- The timebase counts: it has locked since its start and is not STOPPED (R59, R440). -/
def State.tbRuns (s : State) : Bool := s.clk.counts && !s.tbStopped

/-- The instant at which an event takes place: RAWCNT has advanced to that tick, where the timebase counts
(notes/assumptions/4). -/
def State.at (s : State) (t : Nat) : State :=
  if !s.tbRuns then s else { s with tkp := { s.tkp with rawcnt := max s.tkp.rawcnt t } }

/-- The VC0 second now, and its nanoseconds. -/
def State.vc0Sec (s : State) : Int := gtSec (s.vcNow 0)

/-- A phase in ps as FRAC units, rounded down. -/
def psToFu (x : Rat) : Gt := (x * (4294967296 : Rat) / 1000).floor

/-- A difference in FRAC units as ps. -/
def fuToPs (g : Gt) : Rat := (g : Rat) * 1000 / 4294967296

/-! ### Faults -/

/-- Raises a fault source: it is collected at the next collection tick (R416, R418). -/
def State.raise (s : State) (src : Nat) : State := { s with flt := { s.flt with raised := s.flt.raised ++ [src] } }

/-- A condition begins: its source is raised once and its cause is present (R416, R505). -/
def State.condOn (s : State) (src : Nat) : State :=
  if src ∈ s.flt.cond then s
  else ({ s with flt := { s.flt with cond := src :: s.flt.cond } } : State).raise src

/-- A condition ends. -/
def State.condOff (s : State) (src : Nat) : State :=
  { s with flt := { s.flt with cond := s.flt.cond.filter (· ≠ src) } }

/-- The bound engine receives an input of a layer (R175). -/
def State.boundIn (s : State) (i : BoundInput) : State := { s with bound := { s.bound with inputs := s.bound.inputs ++ [i] } }

/-! ### The journal -/

/-- The bytes of a journal record (R185). -/
def jrecBytes (dseq : Nat) (r : JRec) : List Byte :=
  let body := natLe 4 dseq ++ natLe 4 (gtNs r.time) ++ intLe 8 (gtSec r.time) ++ natLe 2 r.type
    ++ natLe 1 r.src ++ natLe 1 r.alive ++ padTo 40 r.payload
  body ++ natLe 4 (crc32c body)

/-- Puts a record of a given time into staging (R189); a record refused or displaced is one that the LOSS record of the next drain
counts (R29). True in the answer: the record was taken. -/
def State.stage (s : State) (time : Gt) (src type : Nat) (payload : List Byte) : State × Bool :=
  let alive := tabGet 0 s.jrn.alive src
  let r : JRec := ⟨time, type, src, alive, payload⟩
  let j := { s.jrn with alive := tabSet 0 s.jrn.alive src ((alive + 1) % 256) }
  let n := s.jrn.staging.length
  if src < 8 then
    if n ≥ 31744 then
      (({ s with jrn := { s.jrn with stageLost := s.jrn.stageLost + 1 } } : State).incFld Reg.JRN_LOST Reg.JRN_LOST_COUNT 1, false)
    else ({ s with jrn := { j with staging := j.staging ++ [r] } }, true)
  else if n ≥ 32768 then
    (({ s with jrn := { j with staging := j.staging.drop 1 ++ [r], stageLost := j.stageLost + 1 } } : State).incFld
      Reg.JRN_LOST Reg.JRN_LOST_COUNT 1, true)
  else ({ s with jrn := { j with staging := j.staging ++ [r] } }, true)

/-- Journals an event that takes place now (R185). -/
def State.journal (s : State) (src type : Nat) (payload : List Byte) : State :=
  (s.stage (s.vcNow 0) src type payload).1

/-! ### Telemetry -/

/-- A record enters the staging queue of the telemetry stream while TEL_CFG.EN is 1, or is lost when the queue is full
(R460). -/
def State.telStage (s : State) (type src : Nat) (payload : List Byte) : State :=
  if s.fld Reg.TEL_CFG Reg.TEL_CFG_EN = 0 then s
  else if 32768 ≤ s.tel.staging.length then
    ((({ s with tel := { s.tel with gap := s.tel.gap + 1 } } : State).count 588).setFld
      Reg.TEL_ISL_STATUS Reg.TEL_ISL_STATUS_OVERRUN 1).raise 120
  else { s with tel := { s.tel with staging := s.tel.staging ++ [⟨type, src, payload, s.tel.gap⟩], gap := 0 } }

/-! ### The host rings -/

/-- 2^SIZE of a ring, SIZE used as 4 to 16 (R389, R414). -/
def State.ringSize (s : State) (r : Nat) : Nat :=
  2 ^ min 16 (max 4 (s.fld (Reg.HIF_RING_CFG r) Reg.HIF_RING_CFG_SIZE))

/-- EN of a ring. -/
def State.ringEn (s : State) (r : Nat) : Bool := s.fld (Reg.HIF_RING_CFG r) Reg.HIF_RING_CFG_EN = 1

/-- The entries of a ring not yet consumed: PI − CI modulo 2^32 (R389). -/
def State.ringUsed (s : State) (r : Nat) : Nat :=
  (s.reg (Reg.HIF_RING_PI r) + 2 ^ 32 - s.reg (Reg.HIF_RING_CI r)) % 2 ^ 32

/-- The ring is enabled and has room for `n` entries. -/
def State.ringFits (s : State) (r n : Nat) : Bool := s.ringEn r && decide (s.ringUsed r + n ≤ s.ringSize r)

/-- The ring is enabled and has room for an entry. -/
def State.ringRoom (s : State) (r : Nat) : Bool := s.ringFits r 1

/-- The bytes of ring entry `i` (R390). -/
def ringBytes (size i dseq : Nat) (e : RingEntry) : List Byte :=
  natLe 4 dseq ++ natLe 4 e.hseq ++ natLe 2 e.type ++ natLe 2 e.status ++ padTo 48 e.payload
    ++ natLe 1 (min 48 e.payload.length) ++ natLe 1 e.frag ++ [0]
    ++ natLe 1 ((if i / size % 2 = 0 then 128 else 0) + e.ctrl)

/-- The field of HIF_SEQ_STATUS that holds the DSEQ of a ring. -/
def seqFld (r : Nat) : Fld := ⟨32 * r, 32⟩

/-- The vector of a ring is raised, at most once per HOLDOFF µs: one that comes earlier waits for the end of that time (R385; what becomes of it is
DESIGN CHOICE, notes/assumptions/179). -/
def State.ringVector (s : State) (v : Nat) : State :=
  let last := tabGet 0 s.hif.msixAt v
  let hold := min 1000 (s.fld Reg.HIF_IRQ Reg.HIF_IRQ_HOLDOFF) * 1250
  let due := s.hif.msixDue.filter (fun x => decide (x ≠ v))
  if s.tbRuns && decide (last ≠ 0) && decide (s.tkp.rawcnt + 1 < last + hold) then
    { s with hif := { s.hif with msixDue := due ++ [v] } }
  else { s with hif := { s.hif with msix := s.hif.msix ++ [v], msixDue := due, msixAt := tabSet 0 s.hif.msixAt v (s.tkp.rawcnt + 1) } }

/-- The vectors whose time has passed are raised. -/
def State.vectorsDue (s : State) : State := s.hif.msixDue.foldl State.ringVector s

/-- Writes one entry at PI, under the DSEQ of its record, advances PI and raises the ring's vector (R385, R390). -/
def State.ringPut (s : State) (r d : Nat) (e : RingEntry) : State :=
  let i := s.reg (Reg.HIF_RING_PI r)
  let size := s.ringSize r
  let a := s.reg (Reg.HIF_RING_BASE r) + i % size * 64
  (({ s with hif := { s.hif with mem := putBytes zeros s.hif.mem a (ringBytes size i d e) } } : State).setReg (Reg.HIF_RING_PI r)
    ((i + 1) % 2 ^ 32)).ringVector (r - 1)

/-- Writes the entries of one record, which has one DSEQ (R391; notes/assumptions/165). -/
def State.ringRecord (s : State) (r : Nat) (l : List RingEntry) : State :=
  let d := tabGet 0 s.hif.dseq r
  let s := l.foldl (fun s e => s.ringPut r d e) s
  ({ s with hif := { s.hif with dseq := tabSet 0 s.hif.dseq r ((d + 1) % 2 ^ 32) } } : State).setFld
    Reg.HIF_SEQ_STATUS (seqFld r) d

/-- Writes a record of one entry. -/
def State.ringWrite (s : State) (r : Nat) (e : RingEntry) : State := s.ringRecord r [e]

/-- The record that a ring loses (R391): its DSEQ is consumed and the loss counted. -/
def State.ringLose (s : State) (r : Nat) : State :=
  let d := tabGet 0 s.hif.dseq r
  let l := match tabGet none s.hif.loss r with
    | none => (d, 1)
    | some (f, n) => (f, n + 1)
  ({ s with hif := { s.hif with dseq := tabSet 0 s.hif.dseq r ((d + 1) % 2 ^ 32)
                                loss := tabSet none s.hif.loss r (some l) } } : State).incFld
    (Reg.HIF_RING_LOST r) Reg.HIF_RING_LOST_COUNT 1

/-- The last HSEQ accepted (R391). -/
def State.lastHseq (s : State) : Nat := s.fld Reg.HIF_SEQ_STATUS Reg.HIF_SEQ_STATUS_HSEQ

/-- The LOSS record of a ring that lost records, once the ring has room (R391). -/
def State.ringFlush (s : State) (r : Nat) : State :=
  match tabGet none s.hif.loss r with
  | none => s
  | some (f, n) =>
    if s.ringRoom r then
      ({ s with hif := { s.hif with loss := tabSet none s.hif.loss r none } } : State).ringWrite r
        ⟨s.lastHseq, if r = 3 then 0xFFFF else 0x0002, if r = 3 then 0x1C else 0x15, natLe 4 f ++ natLe 4 n, 0, 1⟩
    else s

/-- The entries of a record of EVT or TEL: one, or two where it has more than 48 bytes (R421, R461). -/
def State.ringEntries (s : State) (type source : Nat) (payload : List Byte) : List RingEntry :=
  if payload.length ≤ 48 then [⟨s.lastHseq, type, source, payload, 0, 1⟩]
  else [⟨s.lastHseq, type, source, payload.take 48, 0x01, 1⟩, ⟨s.lastHseq, type, source, payload.drop 48, 0x11, 1⟩]

/-- Posts a record on EVT (2) or TEL (3), or loses it when the ring is disabled or has no room for all of it (R391). -/
def State.ringPost (s : State) (r type source : Nat) (payload : List Byte) : State :=
  let s := s.ringFlush r
  let l := s.ringEntries type source payload
  if s.ringFits r l.length ∧ tabGet none s.hif.loss r = none then s.ringRecord r l else s.ringLose r

/-- Posts an event record (R397). -/
def State.event (s : State) (type source : Nat) (payload : List Byte) : State := s.ringPost 2 type source payload

/-- Writes or holds a response (R394, R412). -/
def State.answerEntry (s : State) (e : RingEntry) : State :=
  if s.ringRoom 1 ∧ s.hif.held = [] then s.ringWrite 1 e
  else { s with hif := { s.hif with held := s.hif.held ++ [e] } }

/-- The response of an accepted command, which is then complete (R394). -/
def State.respondEntry (s : State) (e : RingEntry) : State :=
  ({ s with hif := { s.hif with accepted := s.hif.accepted.filter (fun a => a.hseq ≠ e.hseq) } } : State).answerEntry e

/-- RES_ADDR of an accepted command, and whether the host memory there does not take its result (R394). -/
def State.resultAt (s : State) (q : Nat) : Nat × Bool :=
  match s.hif.accepted.find? (fun a => a.hseq = q) with
  | some a => (a.resAddr, a.resErr)
  | none => (0, false)

/-- Completes a host command with a status and a result; a result longer than 48 bytes goes to RES_ADDR with
INDIRECT set, or ends with DMA_ERROR where the host memory does not take it (R394). -/
def State.respond (s : State) (q op status : Nat) (result : List Byte) : State :=
  if result.length ≤ 48 then s.respondEntry ⟨q, op, status, result, 0, 0⟩
  else if (s.resultAt q).2 then s.respondEntry ⟨q, op, 0xFF03, [], 0, 0⟩
  else
    let s := { s with hif := { s.hif with result := result, mem := putBytes zeros s.hif.mem (s.resultAt q).1 result } }
    s.respondEntry ⟨q, op, status, natLe 4 result.length, 0, 2⟩

/-- A command of a family other than HIF before checkpoint CP4 completes with NOT_READY (R395). -/
def State.notReady (s : State) : Bool := decide (s.fld Reg.PWR_BOOT Reg.PWR_BOOT_STAGE < 4)

/-- A command may not start: no entry of its HSEQ and opcode is accepted, or an earlier one of its family is incomplete, or
any earlier one where it carries ORDER (R393, R394; notes/assumptions/7). -/
def State.blocked (s : State) (q op : Nat) : Bool :=
  match s.hif.accepted.find? (fun a => a.hseq = q) with
  | none => true
  | some a => decide (a.op ≠ op)
    || (s.hif.accepted.takeWhile (fun b => b.hseq ≠ q)).any (fun b => decide (b.op / 256 = op / 256) || a.order)

/-- Runs a host command: not before its turn (R394), NOT_READY before CP4 (R395), else its effect. -/
def State.hostCmd (s : State) (q op : Nat) (f : State → State) : State :=
  if s.blocked q op then s else if s.notReady then s.respond q op 0xFF08 [] else f s

/-- A command whose result can reach `most` bytes: RES_SPACE where RES_LEN is less and the result would not fit a response
(R394, R395). -/
def State.resSpace (s : State) (q op most : Nat) (f : State → State) : State :=
  let len := match s.hif.accepted.find? (fun a => a.hseq = q) with
    | some a => a.resLen
    | none => most
  if 48 < most ∧ len < most then s.respond q op 0xFF04 [] else f s

/-! ### The bus -/

/-- Logs a bus error: the first since VALID was cleared, and the count (R408, R414). A HOST read that ends so is
reported by AER (R385). -/
def State.busError (s : State) (m addr : Nat) (wr : Bool) (cause : Nat) : State :=
  let s := s.incFld Reg.BUS_ELOG_CNT Reg.BUS_ELOG_CNT_COUNT 1
  let s := if s.fld Reg.BUS_ELOG Reg.BUS_ELOG_VALID = 1 then s
    else s.setReg Reg.BUS_ELOG (2 ^ 63 + (if wr then 2 ^ 62 else 0) + cause * 2 ^ 58 + m * 2 ^ 54 + addr % 2 ^ 40)
  if wr then s
  else { s with hif := { s.hif with aborts := s.hif.aborts + (if m = 0 then 1 else 0), lastRead := some (m, 0, cause) } }

/-- ISL_STATUS of the island of a register (R400). -/
def islStatus (a : Nat) : Nat := a / 0x10000 * 0x10000 + 4

/-- BUSY of the island of a register. -/
def State.islBusy (s : State) (a : Nat) : Bool := getBits (s.reg (islStatus a)) 0 1 = 1

/-- A posted write that arrives while BUSY is 1: WDROP is set and ISL_WDROP raised (R10). -/
def State.wdrop (s : State) (a : Nat) : State :=
  (s.setReg (islStatus a) (setBits (s.reg (islStatus a)) 1 1 1)).raise 69

/-- A posted write: discarded with WDROP while BUSY is 1, else BUSY is set and the write acts (R10, R401). -/
def State.posted (s : State) (a : Nat) (f : State → State) : State :=
  if s.islBusy a then s.wdrop a else f (s.setReg (islStatus a) (setBits (s.reg (islStatus a)) 0 1 1))

/-- The posted write of an island ends: BUSY falls to 0 (R79). -/
def State.busyDone (s : State) (a : Nat) : State := s.setReg (islStatus a) (setBits (s.reg (islStatus a)) 0 1 0)

/-! ### Pods -/

/-- A Pod. -/
def State.pod (s : State) (p : Nat) : PodState := tabGet PodState.reset s.pods p

/-- Changes a Pod. -/
def State.modPod (s : State) (p : Nat) (f : PodState → PodState) : State :=
  { s with pods := tabMod PodState.reset s.pods p f }

/-- POD_STATUS.STATE: 0 STOPPED, 1 LOADING, 2 RUNNING, 3 FAULTED (R46). -/
def State.podSt (s : State) (p : Nat) : Nat := s.fld (Reg.POD_STATUS p) Reg.POD_STATUS_STATE

/-- Sets POD_STATUS.STATE. -/
def State.setPodSt (s : State) (p x : Nat) : State := s.setFld (Reg.POD_STATUS p) Reg.POD_STATUS_STATE x

/-- POD_STATUS.RESIDENT. -/
def State.resident (s : State) (p : Nat) : Bool := s.fld (Reg.POD_STATUS p) Reg.POD_STATUS_RESIDENT = 1

/-- The Pod runs its resident program (R55). -/
def State.runsResident (s : State) (p : Nat) : Bool := decide (s.podSt p = 2) && s.resident p

/-- A capability bit of a Pod (R40). -/
def State.hasCap (s : State) (p bit : Nat) : Bool := getBits (s.reg (Reg.POD_CAP p)) bit 1 = 1

/-- The Pod owns the VC (R42). -/
def State.ownsVc (s : State) (p v : Nat) : Bool := getBits (s.reg (Reg.POD_VCOWN p)) v 1 = 1

/-- Some Pod owns the VC. -/
def State.vcOwned (s : State) (v : Nat) : Bool := (List.range 8).any (fun p => s.ownsVc p v)

/-- Some Pod other than `p` owns one of the VCs in a mask. -/
def State.vcOthers (s : State) (p mask : Nat) : Bool :=
  (List.range 8).any (fun o => decide (o ≠ p) && decide (s.reg (Reg.POD_VCOWN o) &&& mask ≠ 0))

/-- A completion entry (R373). -/
def complWord (kind status tag : Nat) : Word := BitVec.ofNat 64 (kind * 2 ^ 20 + status * 2 ^ 16 + tag % 2 ^ 16)

/-- Adds a completion entry to the queue of a Pod, in the place that its issue has reserved. -/
def State.complete (s : State) (p kind status tag : Nat) : State :=
  s.modPod p (fun q => { q with compl := q.compl ++ [complWord kind status tag], reserved := q.reserved - 1 })

/-- Journals an event of a permit: 0 latch, 1 withdraw, 2 expire, 3 restore (R70, R186). -/
def State.jPermit (s : State) (v ev : Nat) : State := s.journal 0x11 0x0024 [BitVec.ofNat 8 v, BitVec.ofNat 8 ev]

/-- PERMIT of a VC (R69). -/
def State.permit (s : State) (v : Nat) : Bool := getBits (s.reg Reg.TKP_STEP_PERMIT) v 1 = 1

/-- Latches or clears the permit of a VC. -/
def State.setPermit (s : State) (v : Nat) (on : Bool) (expiry : Nat) : State :=
  ({ s with tkp := { s.tkp with permitExp := tabSet 0 s.tkp.permitExp v (if on then expiry else 0) } } : State).setReg
    Reg.TKP_STEP_PERMIT (setBits (s.reg Reg.TKP_STEP_PERMIT) v 1 (if on then 1 else 0))

/-- Restores what a step took when it did not complete DONE (R69). -/
def State.restore (s : State) (v : Nat) : Took → State
  | .nothing => s
  | .free => (s.setFld (Reg.TKP_VC_STATUS v) Reg.TKP_VC_STATUS_FIRST_DONE 0).jPermit v 3
  | .permit e =>
    if e ≤ s.tkp.rawcnt then s.jPermit v 2
    else if s.permit v then (s.setPermit v true (max e (tabGet 0 s.tkp.permitExp v))).jPermit v 3
    else (s.setPermit v true e).jPermit v 3

/-- FIRST_DONE of a VC (R68). -/
def State.firstDone (s : State) (v : Nat) : Bool := s.fld (Reg.TKP_VC_STATUS v) Reg.TKP_VC_STATUS_FIRST_DONE = 1

/-- The journal record of a step or of a refused step (R70, R186): kind 0 FREE, 1 PERMIT, 2 LEGACY, 3 REFUSED. -/
def State.jStep (s : State) (v kind tick : Nat) (delta : Gt) (requester : Nat) : State :=
  s.journal 0x11 0x0023 (natLe 1 v ++ natLe 1 kind ++ natLe 12 tick ++ gtBytes delta ++ natLe 1 requester)

/-- An action leaves its queue with a status; what a step took comes back unless it is DONE (R43, R69). -/
def State.endAction (s : State) (p : Nat) (a : TimedAction) (status : Nat) : State :=
  let s := s.modPod p (fun q => { q with acts := q.acts.filter (fun b => b.id ≠ a.id) })
  let s := s.complete p a.kind status a.tag
  if status = 0 then s else s.restore (a.vcChg % 8) a.took

/-- The tick of an action: the first at which its VC reaches the target (R43, R71). -/
def State.actTick (s : State) (a : TimedAction) : Nat := tickOf (s.vcSet a.vc) a.target

/-- The tick of an action that has reached the hardware has come (R45). -/
def State.actCame (s : State) (a : TimedAction) : Bool := a.arrived && !s.tbStopped && decide (s.actTick a ≤ s.tkp.rawcnt)

/-- Cancels every timed action of a Pod whose tick has not come; one whose tick has come completes normally (R43, R45). -/
def State.cancelAll (s : State) (p : Nat) : State :=
  ((s.pod p).acts.filter (fun a => !s.actCame a)).foldl (fun s a => s.endAction p a 3) s

/-- An action is the next that the hardware executes: no action that has reached it has an earlier tick, or the same tick
and a lower Pod number, or the same Pod and an earlier issue (R43, R44). -/
def State.actFirst (s : State) (p : Nat) (a : TimedAction) : Bool :=
  let n := s.actTick a
  (List.range 8).all (fun o => (s.pod o).acts.all (fun b =>
    let m := s.actTick b
    !b.arrived || decide (n < m) || (decide (n = m) && (decide (p < o) || (decide (p = o) && decide (a.id ≤ b.id))))))

/-! ### Channels of the TDC -/

/-- A channel of the TDC. -/
def State.chan (s : State) (c : Nat) : ChanState := tabGet ChanState.reset s.tdc.chan c

/-- True when a channel converts as in CAL_PERIODS, chosen or forced (R90). -/
def State.chanPeriods (s : State) (c : Nat) : Bool :=
  decide (s.fld (Reg.TDC_CH_CTRL c) Reg.TDC_CH_CTRL_CALMODE = 1) || (s.chan c).forced
    || decide (s.fld Reg.TDC_ISL_STATUS Reg.TDC_ISL_STATUS_DLL_LOCK = 0)

/-- A truth value as a bit of a register. -/
def bit (b : Bool) : Nat := if b then 1 else 0

/-- The bits of TDC_CH_STATUS and TDC_CLAIM that show what a channel is doing (R103). -/
def State.showChan (s : State) (c : Nat) : State :=
  let ch := s.chan c
  let conv := !ch.stops.isEmpty || ch.calib.isSome
  let a := Reg.TDC_CH_STATUS c
  let s := s.setFld a Reg.TDC_CH_STATUS_ARMED (bit (ch.arm.isSome || ch.window.isSome))
  let s := s.setFld a Reg.TDC_CH_STATUS_CONV (bit conv)
  let s := s.setFld a Reg.TDC_CH_STATUS_CAL_ACT (bit (conv && s.chanPeriods c))
  let s := s.setFld a Reg.TDC_CH_STATUS_CLAIMED (bit (ch.owner ≠ 0))
  s.setReg Reg.TDC_CLAIM (setBits (s.reg Reg.TDC_CLAIM) c 1 (bit (ch.owner ≠ 0)))

/-- Changes a channel and shows the change. -/
def State.modChan (s : State) (c : Nat) (f : ChanState → ChanState) : State :=
  ({ s with tdc := { s.tdc with chan := tabMod ChanState.reset s.tdc.chan c f } } : State).showChan c

/-- EN of a channel. -/
def State.chanEn (s : State) (c : Nat) : Bool := s.fld (Reg.TDC_CH_CTRL c) Reg.TDC_CH_CTRL_EN = 1

/-- TDC_GATE_LOST ends when no channel is in a gate loss any more (R505). -/
def State.gateCond (s : State) : State :=
  if (List.range 32).any (fun c => (s.chan c).gateLost) then s else s.condOff 91

/-- What ends on a channel when EN goes to 0: the open arm and the open window, with no record, and a gate loss
(R82, R101). A conversion under way completes. -/
def State.chanStop (s : State) (c : Nat) : State :=
  let s := s.setFld (Reg.TDC_CH_STATUS c) Reg.TDC_CH_STATUS_FELL_BACK 0
  (s.modChan c (fun ch => { ch with arm := none, window := none, calib := none, calGate := false, calMade := false, gateLost := false, gateRet := 0 })).gateCond

/-- EN of a channel is cleared and its claim released (R82). -/
def State.releaseChan (s : State) (c : Nat) : State :=
  ((s.setFld (Reg.TDC_CH_CTRL c) Reg.TDC_CH_CTRL_EN 0).chanStop c).modChan c (fun ch => { ch with owner := 0 })

/-- Every claim of a Pod is released (R82). -/
def State.releaseClaims (s : State) (p : Nat) : State :=
  (List.range 32).foldl (fun s c => if (s.chan c).owner = p + 1 then s.releaseChan c else s) s

/-! ### The end of a Pod's run -/

/-- The event POD_STATE: cause 0 HALT, 1 FAULTED (R397). -/
def State.podEvent (s : State) (p cause : Nat) : State :=
  s.event 0x0003 0x15 (natLe 1 p ++ natLe 1 (s.podSt p) ++ natLe 1 cause
    ++ natLe 1 (s.fld (Reg.POD_STATUS p) Reg.POD_STATUS_FCAUSE))

/-- A Pod leaves RUNNING: its wait is abandoned, its queued actions end CANCELLED, its claims are released (R45,
R46, R82). -/
def State.podLeave (s : State) (p : Nat) : State :=
  ((s.modPod p (fun q => { q with wait := none })).cancelAll p).releaseClaims p

/-- A fault of a Pod, precise at its program counter (R56, R361): 1 ILLEGAL, 2 CAP_DENIED, 3 ALIGN, 4 BOUNDS,
5 WDOG, 6 BUS. -/
def State.podFault (s : State) (p cause : Nat) : State :=
  let s := s.setFld (Reg.POD_FPC p) Reg.POD_FPC_PC (s.pod p).pc
  let s := s.setFld (Reg.POD_STATUS p) Reg.POD_STATUS_FCAUSE cause
  (((s.setPodSt p 3).podLeave p).raise p).podEvent p 1

/-- IMEM_WORDS of the image that a Pod holds, 0 without an image. -/
def State.imemWords (s : State) (p : Nat) : Nat :=
  match (s.pod p).image with
  | some i => i.words
  | none => 0

/-- A Pod executes instructions: it is RUNNING and no wait instruction waits. -/
def State.podRuns (s : State) (p : Nat) : Bool := decide (s.podSt p = 2) && (s.pod p).wait.isNone

/-! ### Memories of a Pod and the commons -/

/-- What DMEM holds where nothing is listed: for a resident program the bytes loaded from ROM, else 0. -/
def State.dmemDef (s : State) (p : Nat) : Nat → Byte :=
  if s.fld (Reg.POD_STATUS p) Reg.POD_STATUS_SOURCE = 1 then Config.residentDmem p else zeros

/-- What IMEM holds where nothing is listed: for a resident program the bytes loaded from ROM, else 0. -/
def State.imemDef (s : State) (p : Nat) : Nat → Byte :=
  if s.fld (Reg.POD_STATUS p) Reg.POD_STATUS_SOURCE = 1 then Config.residentImem p else zeros

/-- Bytes of DMEM. -/
def State.dmemRead (s : State) (p a n : Nat) : List Byte := bytesAt (s.dmemDef p) (s.pod p).dmem a n

/-- Writes bytes of DMEM. -/
def State.dmemWrite (s : State) (p a : Nat) (bs : List Byte) : State :=
  s.modPod p (fun q => { q with dmem := putBytes (s.dmemDef p) q.dmem a bs })

/-- Bytes of the commons. -/
def State.comRead (s : State) (a n : Nat) : List Byte := bytesAt zeros s.commons a n

/-- Writes bytes of the commons. -/
def State.comWrite (s : State) (a : Nat) (bs : List Byte) : State := { s with commons := putBytes zeros s.commons a bs }

/-- Every memory stands in its canonical form: the memories of each Pod, the commons, DRAM, the SRAM of the shared memory, the flash
and the host's memory. -/
def State.memWf (s : State) : Bool :=
  (List.range 8).all (fun p => Memory.wf (s.imemDef p) (s.pod p).imem && Memory.wf (s.dmemDef p) (s.pod p).dmem)
    && Memory.wf zeros s.commons && Memory.wf zeros s.dram && Memory.wf zeros s.sram && Memory.wf zeros s.flash
    && Memory.wf zeros s.hif.mem

/-- The fault of a DMEM access of `n` bytes at `a` that must be aligned to `al`: 3 ALIGN, 4 BOUNDS (R366). -/
def dmemFault (a al n : Nat) : Option Nat :=
  if a % al ≠ 0 then some 3 else if 0x10000 < a + n then some 4 else none

/-- The fault of a commons read of the 64-bit word at `a` (R366). -/
def comFault (a : Nat) : Option Nat :=
  if a % 8 ≠ 0 then some 3 else if 0x100000 < a + 8 then some 4 else none

/-- The fault of a commons write of the 64-bit word at `a`: 6 BUS below the resident region, 2 CAP_DENIED in it
without COMMONS_RES (R37, R366). -/
def State.comWrFault (s : State) (p a : Nat) : Option Nat :=
  match comFault a with
  | some c => some c
  | none =>
    if a < 0x10000 then some 6
    else if a < 0x50000 ∧ s.hasCap p 14 = false then some 2
    else none

/-- The effect of an instruction unless an access of it faults. -/
def State.unlessFault (s : State) (p : Nat) (fault : Option Nat) (f : State → State) : State :=
  match fault with
  | some c => s.podFault p c
  | none => f s

/-- An instruction whose Pod lacks a capability faults with CAP_DENIED (R41). -/
def State.needCap (s : State) (p cap : Nat) (f : State → State) : State :=
  if s.hasCap p cap then f s else s.podFault p 2

/-- Changes a Pod and advances its program counter. -/
def State.finish (s : State) (p : Nat) (f : PodState → PodState) : State := s.modPod p (fun q => (f q).advance)

/-! ### The form of a meaning -/

/-- What a command answers: the state that its effect leaves, with the queue of waiting commands as it stood. -/
def act (f : State → State) (s : State) : Host.Outcome State Fault Refusal :=
  .next { f s with pending := s.pending }

/-- An event takes place at a tick, not before the one that the engine has reached (notes/assumptions/4). -/
def actAt (t : Nat) (f : State → State) (s : State) : Host.Outcome State Fault Refusal := act (fun s => f (s.at t)) s

/-- The watchdog of a Pod has expired: its period has passed, the waits left out (R36, R361). -/
def State.wdogDue (s : State) (p : Nat) : Bool :=
  let q := s.pod p
  decide (q.wdog ≠ 0) && decide (q.wdogAt + q.wdog * ticksPerUs ≤ s.tkp.rawcnt)

/-- A FIN instruction: nothing when its Pod does not execute; WDOG at the instruction boundary after the watchdog's expiry
(R361); BOUNDS when the Pod would fetch beyond its instructions (R358); else its effect. -/
def fin (p : Nat) (f : State → State) (s : State) : Host.Outcome State Fault Refusal :=
  act (fun s =>
    if s.podRuns p then
      (if s.wdogDue p then s.podFault p 5 else if (s.pod p).pc < s.imemWords p then f s else s.podFault p 4)
    else s) s

/-- A FIN instruction that changes only its own Pod, and then advances. -/
def finPod (p : Nat) (f : PodState → PodState) (s : State) : Host.Outcome State Fault Refusal :=
  fin p (fun s => s.modPod p (fun q => (f q).advance)) s

/-! ### The command ring -/

/-- The opcodes of R396. -/
def knownOp (op : Nat) : Bool :=
  let k := op % 256
  match op / 256 with
  | 0 => decide (1 ≤ k ∧ k ≤ 4)
  | 1 => decide (k ≤ 6)
  | 2 => decide (k ≤ 3)
  | 3 => decide (k ≤ 6)
  | 4 => decide (k ≤ 4)
  | 5 => decide (k ≤ 0x0B)
  | 6 => decide (k = 0)
  | _ => false

/-- ARG_LEN is a length that the command takes: those of the HIF commands are stated (R395, R396). -/
def argLenOk (op n : Nat) : Bool :=
  if op = 1 then decide (n ≤ 32) else if op = 2 then decide (n = 0) else if op = 3 ∨ op = 4 then decide (n = 32)
  else decide (n ≤ 4096)

/-- The common status that a new entry completes with at once, 0 for none (R392, R395). -/
def entryStatus (e : List Byte) : Nat :=
  let f (off n : Nat) : Nat := leNat ((e.drop off).take n)
  if knownOp (f 4 2) = false then 0xFF01
  else if argLenOk (f 4 2) (f 8 2) = false then 0xFF02
  else if f 6 1 / 2 ≠ 0 ∨ f 7 1 ≠ 0 ∨ f 10 2 ≠ 0 then 0xFF07
  else 0

/-- The engine reads one CMD entry: the decision of R393, and acceptance, which reads the arguments (R394). -/
def State.cmdEntry (s : State) (e : List Byte) : State :=
  let f (off n : Nat) : Nat := leNat ((e.drop off).take n)
  let q := f 0 4
  let op := f 4 2
  let d := (q + 2 ^ 32 - s.lastHseq) % 2 ^ 32
  if d = 0 ∨ 2 ^ 31 ≤ d then s.answerEntry ⟨q, op, 0xFF05, [], 0, 0⟩
  else if d ≠ 1 then s.answerEntry ⟨q, op, 0xFF06, natLe 4 ((s.lastHseq + 1) % 2 ^ 32), 0, 0⟩
  else
    let s := s.setFld Reg.HIF_SEQ_STATUS Reg.HIF_SEQ_STATUS_HSEQ q
    if entryStatus e ≠ 0 then s.answerEntry ⟨q, op, entryStatus e, [], 0, 0⟩
    else if 32 < f 8 2 ∧ s.hif.argErr.contains q = true then s.answerEntry ⟨q, op, 0xFF03, [], 0, 0⟩
    else { s with hif := { s.hif with accepted := s.hif.accepted ++ [⟨q, op, decide (f 6 1 % 2 = 1), f 24 8, f 12 4, s.hif.resErr.contains q⟩] } }

/-- The engine may read a further CMD entry: both rings are enabled, fewer than 64 commands are incomplete, and an RSP
entry can be reserved (R391, R394, R412). -/
def State.cmdRoom (s : State) : Bool :=
  s.ringEn 0 && s.ringEn 1 && decide (s.ringUsed 0 ≠ 0) && decide (s.hif.accepted.length < 64)
    && decide (s.ringUsed 1 + s.hif.accepted.length + s.hif.held.length < s.ringSize 1)

/-- The engine reads up to `n` CMD entries in ring order and frees their space (R385, R393). -/
def State.cmdTake : Nat → State → State
  | 0, s => s
  | n + 1, s =>
    if s.cmdRoom then
      let ci := s.reg (Reg.HIF_RING_CI 0)
      let e := bytesAt zeros s.hif.mem (s.reg (Reg.HIF_RING_BASE 0) + ci % s.ringSize 0 * 64) 64
      let s := s.setReg (Reg.HIF_RING_CI 0) ((ci + 1) % 2 ^ 32)
      State.cmdTake n (({ s with hif := { s.hif with msix := s.hif.msix ++ [3] } } : State).cmdEntry e)
    else s

/-- The engine reads what the CMD ring holds, as far as it may. -/
def State.cmdRead (s : State) : State := s.cmdTake (min 65536 (s.ringUsed 0))

/-- RSP is enabled or has room again: the held responses are written, oldest first (R412). -/
def State.heldWrite : Nat → State → State
  | 0, s => s
  | n + 1, s =>
    match s.hif.held with
    | e :: rest =>
      if s.ringRoom 1 then State.heldWrite n (({ s with hif := { s.hif with held := rest } } : State).ringWrite 1 e) else s
    | [] => s

end Sys2Proof.Machine
end

