-- ==== Sys2Proof/Machine/MramOps.lean ====
section
/-! DEFINITION. The check units' view of a stream (R464 to R466), and the records of the MRAM: which slot is in
force, requests, and the record identifiers that this model uses (R434 to R437). -/

namespace Sys2Proof.Machine

/-! ### Check units -/

/-- Unit `n` sees an item of the stream that it watches (R465). `expect` is the alive value that an MRAM record is
held against; the other streams keep a baseline per key. -/
def State.snoopUnit (s : State) (n key : Nat) (crcOk : Bool) (alive : Nat) (expect : Option Nat) : State :=
  let mark (s : State) (st er : Fld) : State :=
    ((s.incFld (Reg.CHK_ERR n) er 1).setFld (Reg.CHK_STATUS n) st 1).raise (61 + n)
  let s :=
    if !crcOk then mark s Reg.CHK_STATUS_CRC Reg.CHK_ERR_CRC_ERR
    else
      let last := tabGet 0 (tabGet [] s.chk.base n) key
      let want := match expect with
        | some e => e
        | none => if last = 0 then alive else last % 256
      let repeated := expect.isNone && decide (last ≠ 0) && decide (alive + 1 = last)
      let s := if repeated then mark s Reg.CHK_STATUS_REPEAT Reg.CHK_ERR_REPEAT_ERR
        else if alive ≠ want then mark s Reg.CHK_STATUS_SKIP Reg.CHK_ERR_SKIP_ERR else s
      if expect.isNone then
        { s with chk := { s.chk with base := tabSet [] s.chk.base n (tabSet 0 (tabGet [] s.chk.base n) key (alive + 1)) } }
      else s
  s.incFld (Reg.CHK_ITEMS n) Reg.CHK_ITEMS_COUNT 1

/-- An item passes the snoop point of a stream: 1 TOD, 2 TWIN_TX, 3 TWIN_RX, 4 JOURNAL, 5 MRAM, 6 MAILBOX; INDEX
selects the output or the Pod (R464). -/
def State.snoop (s : State) (stream idx key : Nat) (crcOk : Bool) (alive : Nat) (expect : Option Nat := none) : State :=
  (List.range 8).foldl (fun s n =>
    if s.fld (Reg.CHK_CFG n) Reg.CHK_CFG_EN = 1 ∧ s.fld (Reg.CHK_CFG n) Reg.CHK_CFG_STREAM = stream
        ∧ ((stream ≠ 1 ∧ stream ≠ 6) ∨ s.fld (Reg.CHK_CFG n) Reg.CHK_CFG_INDEX = idx) then
      s.snoopUnit n key crcOk (alive % 256) expect
    else s) s

/-! ### MRAM -/

/-- Record identifiers, numbered by this model (notes/assumptions/10). -/
abbrev ridLeap : Nat := 1
abbrev ridPolicy : Nat := 2
abbrev ridTamper : Nat := 3
abbrev ridJrn : Nat := 4
abbrev ridEns : Nat := 5
abbrev ridCalEpoch : Nat := 6
abbrev ridClockId : Nat := 7
abbrev ridTwin : Nat := 8
abbrev ridFault : Nat := 9
abbrev ridTraining : Nat := 10
abbrev ridKept : Nat := 11
abbrev ridHusk (slot : Nat) : Nat := 0x1000 + slot
abbrev ridSeal (slot : Nat) : Nat := 0x2000 + slot

/-- The pair of slots of a record. -/
def State.mramPair (s : State) (rid : Nat) : MramPair := tabGet ⟨none, none⟩ s.mram.pairs rid

/-- Slot A is in force (true) or slot B: the committed slot, or the later of two by serial arithmetic (R435). -/
def MramPair.aInForce (p : MramPair) : Bool :=
  match p.a, p.b with
  | some (x, _), some (y, _) =>
    let d := (x + 2 ^ 32 - y) % 2 ^ 32
    decide (1 ≤ d ∧ d < 2 ^ 31)
  | some _, none => true
  | none, _ => false

/-- The slot in force, with its SEQ. -/
def MramPair.inForce (p : MramPair) : Option (Nat × MramVal) := if p.aInForce then p.a else p.b

/-- The record in force, none when the record is absent (R435). -/
def State.mramRec (s : State) (rid : Nat) : Option MramVal := (s.mramPair rid).inForce.map (·.2)

/-- MRAM records are deferred: a rail warning is active, or PWRGOOD has fallen (R430, R437). -/
def State.mramHeld (s : State) : Bool :=
  decide (s.fld Reg.PWR_STATUS Reg.PWR_STATUS_WARN ≠ 0) || s.clk.pgFell

/-- The record in front of the queue is started: none is deferred, or it had been started when the deferral began (R430, R437). -/
def State.mramStarted (s : State) : Bool := !s.mramHeld || s.mram.begun

/-- A deferral begins: the record in front, if any, has been started and completes (R430, R437). -/
def State.mramDefer (s : State) : State :=
  if s.mramHeld then s else { s with mram := { s.mram with begun := !s.mram.queue.isEmpty } }

/-- A request to write a record joins the requests that wait: it replaces the content that waits under the same identifier (R437). -/
def mramJoin (q : List MramReq) (r : MramReq) : List MramReq :=
  if q.any (fun x => x.rid = r.rid) then
    q.map (fun x => if x.rid = r.rid then { x with val := r.val, resp := x.resp ++ r.resp } else x)
  else q ++ [r]

/-- A request to write a record; a started record does not wait any more (R437). -/
def State.mramAsk (s : State) (rid : Nat) (val : MramVal) (resp : List (Nat × Nat × List Byte)) : State :=
  let k := if s.mramStarted then 1 else 0
  let q := s.mram.queue
  { s with mram := { s.mram with queue := q.take k ++ mramJoin (q.drop k) ⟨rid, val, resp⟩ } }

/-- The content that a record will have once its requests are written, or has now. -/
def State.mramNext (s : State) (rid : Nat) : Option MramVal :=
  match s.mram.queue.reverse.find? (fun r => decide (r.rid = rid)) with
  | some r => some r.val
  | none => s.mramRec rid

/-- Writes a record into the slot not in force, with the next SEQ (R436). -/
def MramPair.write (p : MramPair) (v : MramVal) : MramPair :=
  let seq := match p.inForce with
    | some (x, _) => (x + 1) % 2 ^ 32
    | none => 0
  if p.aInForce then { p with b := some (seq, v) } else { p with a := some (seq, v) }

/-- A write that reads back wrong: the target stops being committed, the other slot stays in force (R436). -/
def MramPair.spoil (p : MramPair) : MramPair := if p.aInForce then { p with b := none } else { p with a := none }

/-- The numbers of a record of numbers, the given ones when the record is absent. -/
def State.mramNums (s : State) (rid : Nat) (absent : List Nat) : List Nat :=
  match s.mramRec rid with
  | some (.nums l) => l
  | _ => absent

/-- The leap-second table in force: as shipped where the record is absent (R75). -/
def State.leapTable (s : State) : List LeapEntry :=
  match s.mramRec ridLeap with
  | some (.leap t) => t
  | _ => [⟨0, 37, 0, true⟩]

end Sys2Proof.Machine
end

