-- ==== Sys2Proof/Machine/FinTime.lean ====
section
/-! DEFINITION. The time instructions (R368) and the wait instructions (R369 to R371) of FIN. -/

namespace Sys2Proof.Machine

/-- The GTIME of a t register. -/
def PodState.gt (q : PodState) (r : Nat) : Gt := gtOfRaw (q.rt r)

/-- Writes a time into a t register and clears V, or sets V when it lies outside the SECONDS range (R368). -/
def PodState.putGt (q : PodState) (r : Nat) (g : Gt) : PodState :=
  if gtInRange g then { q.wt r (gtToRaw g) with v := false } else { q with v := true }

/-- TADD (R368). -/
def execTadd (p : PodId) (tD tA tB : TReg) (s : State) : Host.Outcome State Fault Refusal :=
  finPod p (fun q => q.putGt tD (q.gt tA + q.gt tB)) s

/-- TSUB (R368). -/
def execTsub (p : PodId) (tD tA tB : TReg) (s : State) : Host.Outcome State Fault Refusal :=
  finPod p (fun q => q.putGt tD (q.gt tA - q.gt tB)) s

/-- TADDQ: gX in units of 2^-32 ns (R368). -/
def execTaddq (p : PodId) (tD tA : TReg) (gX : GReg) (s : State) : Host.Outcome State Fault Refusal :=
  finPod p (fun q => q.putGt tD (q.gt tA + (q.rg gX).toInt)) s

/-- TDIFF: the difference in units of 2^-32 ns, saturating; C stays (R368). -/
def execTdiff (p : PodId) (gX : GReg) (tA tB : TReg) (s : State) : Host.Outcome State Fault Refusal :=
  finPod p (fun q =>
    let r := saturate (q.gt tA - q.gt tB)
    (q.wg gX r.1).resFlags r.1 q.c r.2) s

/-- TCMP: the flags of the difference of the two 128-bit values as a signed comparison (R362, R368). -/
def execTcmp (p : PodId) (tA tB : TReg) (s : State) : Host.Outcome State Fault Refusal :=
  finPod p (fun q =>
    let a := BitVec.ofNat 128 (q.rt tA)
    let b := BitVec.ofNat 128 (q.rt tB)
    q.setFlags (a = b) (a - b).msb (decide (a.toNat < b.toNat)) (decide ((a - b).toInt ≠ a.toInt - b.toInt))) s

/-- TSET: NS above 999,999,999 leaves tD and sets V (R368). -/
def execTset (p : PodId) (tD : TReg) (gX gY : GReg) (s : State) : Host.Outcome State Fault Refusal :=
  finPod p (fun q =>
    let v := (q.rg gX).toNat * 2 ^ 64 + (q.rg gY).toNat
    if gtRawOk v then { q.wt tD v with v := false } else { q with v := true }) s

/-- TSEC (R368). -/
def execTsec (p : PodId) (gX : GReg) (tA : TReg) (s : State) : Host.Outcome State Fault Refusal :=
  finPod p (fun q => q.wg gX (BitVec.ofNat 64 (q.rt tA / 2 ^ 64))) s

/-- TFRC (R368). -/
def execTfrc (p : PodId) (gX : GReg) (tA : TReg) (s : State) : Host.Outcome State Fault Refusal :=
  finPod p (fun q => q.wg gX (BitVec.ofNat 64 (q.rt tA % 2 ^ 64))) s

/-- TLD: 16 bytes of DMEM or of the commons (R368). -/
def execTld (p : PodId) (tD : TReg) (gX : GReg) (commons : Bool) (s : State) : Host.Outcome State Fault Refusal :=
  fin p (fun s =>
    let a := ((s.pod p).rg gX).toNat
    let fault := if commons then (comFault a).or (comFault (a + 8)) else dmemFault a 8 16
    s.unlessFault p fault (fun s =>
      s.finish p (fun q => q.wt tD (leNat (if commons then s.comRead a 16 else s.dmemRead p a 16))))) s

/-- TSTR: 16 bytes to DMEM or to the commons, where the Pod may write (R366, R368). -/
def execTstr (p : PodId) (tA : TReg) (gX : GReg) (commons : Bool) (s : State) : Host.Outcome State Fault Refusal :=
  fin p (fun s =>
    let a := ((s.pod p).rg gX).toNat
    let fault := if commons then (s.comWrFault p a).or (s.comWrFault p (a + 8)) else dmemFault a 8 16
    s.unlessFault p fault (fun s =>
      let bs := natLe 16 ((s.pod p).rt tA)
      (if commons then s.comWrite a bs else s.dmemWrite p a bs).finish p id)) s

/-- RDVC: the reading at the tick of the read (R368). -/
def execRdvc (p : PodId) (tD : TReg) (vc : VcId) (s : State) : Host.Outcome State Fault Refusal :=
  fin p (fun s => s.finish p (fun q =>
    if gtInRange (s.vcNow vc) then q.wt tD (gtToRaw (s.vcNow vc)) else { q with v := true })) s

/-- RDRAW: RAWCNT at one tick (R368). -/
def execRdraw (p : PodId) (gX gY : GReg) (s : State) : Host.Outcome State Fault Refusal :=
  fin p (fun s => s.finish p (fun q =>
    (q.wg gX (BitVec.ofNat 64 s.tkp.rawcnt)).wg gY (BitVec.ofNat 64 (s.tkp.rawcnt / 2 ^ 64 % 2 ^ 32)))) s

/-- The events of R371 that are pending for a Pod, one bit each. -/
def State.podEvents (s : State) (p : Nat) : Nat :=
  let q := s.pod p
  bit (tabGet [] s.tdc.qOwn p ≠ []) + 2 * bit (s.tdc.qPod1 ≠ []) + 4 * bit (q.mbox ≠ []) + 8 * bit (q.compl ≠ [])
    + q.events % 64 / 16 * 16 + 64 * s.fld Reg.FLT_STATUS Reg.FLT_STATUS_LATCHED + q.events / 128 % 2 * 128

/-- What releases a wait, at this moment: for WAITE the events found. -/
def State.waitMet (s : State) (p : Nat) : WaitOn → Option Nat
  | .time v target => if target ≤ s.vcNow v then some 0 else none
  | .event mask _ => if s.podEvents p &&& mask = 0 then none else some (s.podEvents p &&& mask)

/-- A wait completes: the wait ends, WAITE writes what it found, and C and V show how it ended (R369). -/
def State.waitDone (s : State) (p : Nat) (on : WaitOn) (found : Option Nat) (c v : Bool) : State :=
  s.finish p (fun q =>
    let q := match q.wait with
      | some w => { q with wait := none, wdogAt := q.wdogAt + (s.tkp.rawcnt - w.since) }
      | none => q
    let q := match on, found with
      | .event _ rd, some e => q.wg rd (BitVec.ofNat 64 e)
      | _, _ => q
    q.setCV c v)

/-- The timeout of a wait in ticks: gT in ns, at most 2^40 ns (R369). -/
def waitTicks (ns : Nat) : Nat := (min ns (2 ^ 40) * 5 + 3) / 4

/-- A wait instruction starts: it completes at once when it is met or its timeout is 0, and else it waits. -/
def State.startWait (s : State) (p : Nat) (on : WaitOn) (ns : Nat) : State :=
  match s.waitMet p on with
  | some e => s.waitDone p on (some e) (match on with | .time _ _ => true | .event _ _ => false) false
  | none =>
    if ns = 0 then s.waitDone p on none false true
    else s.modPod p (fun q => { q with wait := some ⟨on, s.tkp.rawcnt + waitTicks ns, s.tkp.rawcnt⟩ })

/-- WAITT (R369, R370). -/
def execWaitt (p : PodId) (tA : TReg) (gT : GReg) (vc : VcId) (s : State) : Host.Outcome State Fault Refusal :=
  fin p (fun s => s.startWait p (.time vc ((s.pod p).gt tA)) ((s.pod p).rg gT).toNat) s

/-- WAITE (R369, R371). -/
def execWaite (p : PodId) (gD gM gT : GReg) (s : State) : Host.Outcome State Fault Refusal :=
  fin p (fun s => s.startWait p (.event ((s.pod p).rg gM).toNat gD) ((s.pod p).rg gT).toNat) s

/-- What a wait waits for came about before its timeout expired: the VC reaches the target by the deadline, or the event is
pending while the deadline has not passed (R33, R369). -/
def State.waitInTime (s : State) (w : Wait) : Bool :=
  match w.on with
  | .time v target => decide (tickOf (s.vcSet v) target ≤ w.deadline)
  | .event _ _ => decide (s.tkp.rawcnt ≤ w.deadline)

/-- A wait of a Pod at tick `t`, in whichever of the two ways comes first: its release, where it is met in time, or its
timeout (R33, R369). -/
def State.waitEnd (s : State) (p t : Nat) : State :=
  let u := s.at t
  match (s.pod p).wait with
  | none => u
  | some w =>
    if s.podSt p ≠ 2 then u
    else
      let inTime := u.waitInTime w || (s.waitInTime w && (s.waitMet p w.on).isSome)
      match u.waitMet p w.on with
      | some e =>
        if inTime then u.waitDone p w.on (some e) false false
        else if w.deadline ≤ u.tkp.rawcnt then u.waitDone p w.on none false true else u
      | none => if w.deadline ≤ u.tkp.rawcnt then u.waitDone p w.on none false true else u

/-- WAIT_RELEASE: what the Pod waits for has come about, unless its timeout expired first (R33, R369). -/
def execWaitRelease (p : PodId) (t : Nat) (s : State) : Host.Outcome State Fault Refusal :=
  act (fun s => s.waitEnd p t) s

/-- WAIT_TIMEOUT: the timeout of the wait has expired, unless what it waits for came about first (R33, R369). -/
def execWaitTimeout (p : PodId) (t : Nat) (s : State) : Host.Outcome State Fault Refusal :=
  act (fun s => if (s.pod p).wait.isSome then s.waitEnd p t else s.at t) s

end Sys2Proof.Machine
end

