-- ==== Sys2Proof/Machine/FinAct.lean ====
section
/-! DEFINITION. The issue of timed actions by FIN (R372 to R374), POPC and VCRD. -/

namespace Sys2Proof.Machine

/-- What an issue asks for, beside its target time. -/
structure IssueReq where
  /-- The kind, as in the completion entry: 0 STEER, 1 STEP, 2 PULSE, 3 ARM, 4 SYN (R373). -/
  kind  : Nat
  /-- The operation within the kind. -/
  op    : Nat := 0
  /-- The index of the output, channel or synthesizer. -/
  index : Nat := 0
  /-- The VC that is changed. -/
  vcChg : Nat := 0
  /-- The rate, increment, width or argument. -/
  val   : Nat := 0
  /-- The 128 bits of the GTIME operand of a step, 0 for the others. -/
  gt    : Nat := 0
  /-- True when the VC's mode does not admit the action (R374). -/
  badMode : Bool := false
deriving DecidableEq, Repr

/-- The outcomes of an issue (R372). -/
inductive IssueEnd where
  /-- No completion entry; V as given. -/
  | none (v : Bool)
  /-- A completion at once with a status: 4 HORIZON, 5 QFULL. -/
  | now (status : Nat)
  /-- Queued. -/
  | queued
deriving DecidableEq, Repr

/-- The completion queue of a Pod has a free entry (R372). -/
def PodState.complRoom (q : PodState) : Bool := decide (q.compl.length + q.reserved < 128)

/-- The tag after a tag: counted modulo 2^16, without 0xFFFF (R372). -/
def nextTag (t : Nat) : Nat := if t ≥ 0xFFFE then 0 else t + 1

/-- A step needs a permit and finds none (R70). Steps in increment mode need none (R74). -/
def State.stepRefused (s : State) (v : Nat) : Bool :=
  !(s.vcSet v).legacy && s.firstDone v && !s.permit v

/-- A step takes the free first step or its permit (R68, R69). -/
def State.takeStep (s : State) (v : Nat) : State × Took :=
  if (s.vcSet v).legacy then (s, .nothing)
  else if s.firstDone v then (s.setPermit v false 0, .permit (tabGet 0 s.tkp.permitExp v))
  else (s.setFld (Reg.TKP_VC_STATUS v) Reg.TKP_VC_STATUS_FIRST_DONE 1, .free)

/-- How an issue ends: the reservation is checked first, then the rows of the outcomes table in their order. -/
def State.issueEnd (s : State) (p vc tgt : Nat) (r : IssueReq) : IssueEnd :=
  let q := s.pod p
  if !q.complRoom then .none false
  else if s.vcNow vc + 1000 * fuSec < gtOfRaw tgt then .now 4
  else if 64 ≤ q.acts.length then .now 5
  else if r.badMode then .none false
  else if r.kind = 1 ∧ s.stepRefused r.vcChg then .none false
  else if !gtRawOk tgt || !gtRawOk r.gt then .none true
  else .queued

/-- The queue entry of an issue that has not reached the hardware yet. -/
def IssueReq.action (r : IssueReq) (id vc tgt tag : Nat) (took : Took) : TimedAction where
  id := id
  arrived := false
  kind := r.kind
  vc := vc
  vcChg := r.vcChg
  target := gtOfRaw tgt
  op := r.op
  index := r.index
  val := r.val
  gt := gtOfRaw r.gt
  rate := toSigned 64 r.val
  took := took
  tag := tag

/-- The delta that a refused STEPAT is journaled with (R70). -/
def State.refusedDelta (s : State) (r : IssueReq) : Gt :=
  if r.op = 1 then gtOfRaw r.gt else gtOfRaw r.gt - s.vcNow r.vcChg

/-- An issue: the tag goes into gD, and the action is queued, completed at once or refused (R372). -/
def State.issue (s : State) (p : Nat) (tA gD vc : Nat) (r : IssueReq) : State :=
  let q := s.pod p
  let tgt := q.rt tA
  match s.issueEnd p vc tgt r with
  | .none v =>
    let s := if q.complRoom && decide (r.kind = 1) && !r.badMode && s.stepRefused r.vcChg
      then s.jStep r.vcChg 3 s.tkp.rawcnt (s.refusedDelta r) p else s
    s.finish p (fun q => (q.wg gD 0xFFFF).setCV true v)
  | .now st =>
    s.finish p (fun q => { (q.wg gD (BitVec.ofNat 64 q.tag)).setCV true false with
      compl := q.compl ++ [complWord r.kind st q.tag], tag := nextTag q.tag })
  | .queued =>
    let (s, took) := if r.kind = 1 then s.takeStep r.vcChg else (s, .nothing)
    s.finish p (fun q => { (q.wg gD (BitVec.ofNat 64 q.tag)).setCV false false with
      reserved := q.reserved + 1, tag := nextTag q.tag, nextAct := q.nextAct + 1,
      acts := q.acts ++ [r.action q.nextAct vc tgt q.tag took] })

/-- STEERAT (R374). -/
def execSteerat (p : PodId) (tA : TReg) (gD ga gb : GReg) (vc : VcId) (s : State) : Host.Outcome State Fault Refusal :=
  fin p (fun s => s.needCap p 0 (fun s =>
    let a := (s.pod p).rg ga
    let v := bitsOf a 0 3
    if s.ownsVc p v then
      s.issue p tA gD vc { kind := 0, op := bitsOf a 8 1, vcChg := v, val := ((s.pod p).rg gb).toNat,
                           badMode := decide (bitsOf a 8 1 ≠ bit (s.vcSet v).legacy) }
    else s.podFault p 2)) s

/-- STEPAT: op 0 ABS, 1 REL, 2 ABS_RATE (R374). -/
def State.stepat (s : State) (p : Nat) (tA gD ga gb vc op : Nat) : State :=
  s.needCap p 1 (fun s =>
    let a := (s.pod p).rg ga
    let v := bitsOf a 0 3
    if s.ownsVc p v then
      s.issue p tA gD vc { kind := 1, op := op, vcChg := v, gt := (s.pod p).rt (bitsOf a 8 3),
                           val := if op = 2 then ((s.pod p).rg gb).toNat else 0,
                           badMode := decide (op = 2) && (s.vcSet v).legacy }
    else s.podFault p 2)

/-- STEPAT with FN 0 (R374). -/
def execStepatAbs (p : PodId) (tA : TReg) (gD ga gb : GReg) (vc : VcId) (s : State) : Host.Outcome State Fault Refusal :=
  fin p (fun s => s.stepat p tA gD ga gb vc 0) s

/-- STEPAT with FN 1 (R374). -/
def execStepatRel (p : PodId) (tA : TReg) (gD ga gb : GReg) (vc : VcId) (s : State) : Host.Outcome State Fault Refusal :=
  fin p (fun s => s.stepat p tA gD ga gb vc 1) s

/-- STEPAT with FN 2 (R374). -/
def execStepatAbsRate (p : PodId) (tA : TReg) (gD ga gb : GReg) (vc : VcId) (s : State) : Host.Outcome State Fault Refusal :=
  fin p (fun s => s.stepat p tA gD ga gb vc 2) s

/-- PULSEAT: the width is clamped to 100 ns to 500 ms (R374). -/
def execPulseat (p : PodId) (tA : TReg) (gD ga gb : GReg) (vc : VcId) (s : State) : Host.Outcome State Fault Refusal :=
  fin p (fun s => s.needCap p 2 (fun s =>
    s.issue p tA gD vc { kind := 2, index := bitsOf ((s.pod p).rg ga) 0 3,
                         val := min 500000000 (max 100 ((s.pod p).rg gb).toNat) })) s

/-- ARMAT on a channel that the Pod claims (R374). -/
def execArmat (p : PodId) (tA : TReg) (gD ga : GReg) (vc : VcId) (s : State) : Host.Outcome State Fault Refusal :=
  fin p (fun s => s.needCap p 3 (fun s =>
    let c := bitsOf ((s.pod p).rg ga) 0 5
    if (s.chan c).owner = p + 1 then s.issue p tA gD vc { kind := 3, index := c } else s.podFault p 2)) s

/-- SYNAT: the operation of its table, with the target kind and the index that ga holds (R374). -/
def State.synat (s : State) (p : Nat) (tA gD ga vc op arg : Nat) : State :=
  s.needCap p 8 (fun s =>
    s.issue p tA gD vc { kind := 4, op := op, index := bitsOf ((s.pod p).rg ga) 0 7, val := arg })

/-- SYNAT SEARCH (R374). -/
def execSynatSearch (p : PodId) (tA : TReg) (gD ga gb : GReg) (vc : VcId) (s : State) : Host.Outcome State Fault Refusal :=
  fin p (fun s => s.synat p tA gD ga vc 0 ((s.pod p).rg gb).toNat) s

/-- SYNAT HOP (R374). -/
def execSynatHop (p : PodId) (tA : TReg) (gD ga gb : GReg) (vc : VcId) (s : State) : Host.Outcome State Fault Refusal :=
  fin p (fun s => s.synat p tA gD ga vc 1 ((s.pod p).rg gb).toNat) s

/-- SYNAT RELOCK (R374). -/
def execSynatRelock (p : PodId) (tA : TReg) (gD ga : GReg) (vc : VcId) (s : State) : Host.Outcome State Fault Refusal :=
  fin p (fun s => s.synat p tA gD ga vc 2 0) s

/-- SYNAT STORE (R374). -/
def execSynatStore (p : PodId) (tA : TReg) (gD ga gb : GReg) (vc : VcId) (s : State) : Host.Outcome State Fault Refusal :=
  fin p (fun s => s.synat p tA gD ga vc 3 ((s.pod p).rg gb).toNat) s

/-- SYNAT SAFE (R374). -/
def execSynatSafe (p : PodId) (tA : TReg) (gD ga : GReg) (vc : VcId) (s : State) : Host.Outcome State Fault Refusal :=
  fin p (fun s => s.synat p tA gD ga vc 4 0) s

/-- SYNAT RELEASE (R374). -/
def execSynatRelease (p : PodId) (tA : TReg) (gD ga : GReg) (vc : VcId) (s : State) : Host.Outcome State Fault Refusal :=
  fin p (fun s => s.synat p tA gD ga vc 5 0) s

/-- POPC: C := 1 and rd unchanged when the queue is empty (R373). -/
def execPopc (p : PodId) (rd : GReg) (s : State) : Host.Outcome State Fault Refusal :=
  finPod p (fun q => match q.compl with
    | [] => { q with c := true }
    | e :: rest => { q.wg rd e with compl := rest, c := false }) s

/-- VCRD (R374). -/
def execVcrd (p : PodId) (tD : TReg) (gX : GReg) (vc : VcId) (s : State) : Host.Outcome State Fault Refusal :=
  fin p (fun s => s.finish p (fun q =>
    (q.wt tD (s.reg (Reg.TKP_VC_OFFSET vc))).wg gX
      (BitVec.ofNat 64 (if (s.vcSet vc).legacy then s.reg (Reg.TKP_VC_INC vc) else s.reg (Reg.TKP_VC_RATE vc))))) s

/-- FENCE: every earlier access of the Pod is visible already in this model (notes/assumptions/4). -/
def execFence (p : PodId) (s : State) : Host.Outcome State Fault Refusal := finPod p id s

/-- NOP. -/
def execNop (p : PodId) (s : State) : Host.Outcome State Fault Refusal := finPod p (fun q => q) s

/-- HALT: the Pod goes to STOPPED, with its event (R46). -/
def execHalt (p : PodId) (s : State) : Host.Outcome State Fault Refusal :=
  fin p (fun s => (((s.modPod p PodState.advance).setPodSt p 0).podLeave p).podEvent p 0) s

/-- KICK: the watchdog's period restarts and a new TIMEOUT takes effect (R36). -/
def execKick (p : PodId) (s : State) : Host.Outcome State Fault Refusal :=
  fin p (fun s => s.finish p (fun q => { q with wdog := s.fld (Reg.POD_WDOG p) Reg.POD_WDOG_TIMEOUT, wdogAt := s.tkp.rawcnt })) s

/-- PODID. -/
def execPodid (p : PodId) (rd : GReg) (s : State) : Host.Outcome State Fault Refusal :=
  finPod p (fun q => q.wg rd (BitVec.ofNat 64 p)) s

/-- CAPRD. -/
def execCaprd (p : PodId) (rd : GReg) (s : State) : Host.Outcome State Fault Refusal :=
  fin p (fun s => s.finish p (fun q =>
    q.wg rd (BitVec.ofNat 64 (s.reg (Reg.POD_CAP p) + s.reg (Reg.POD_VCOWN p) * 2 ^ 16)))) s

/-- UNDEFINED_INSTRUCTION: fetching an undefined word faults the Pod with ILLEGAL (R358, R360). -/
def execUndefinedInstruction (p : PodId) (s : State) : Host.Outcome State Fault Refusal :=
  fin p (fun s => s.podFault p 1) s

end Sys2Proof.Machine
end

