-- ==== Sys2Proof/Machine/Params.lean ====
section
/-! DEFINITION. The parameters of the resident programs: identifiers, defaults, ranges and the checks that the
programs make on a value (R52, R53, R125, R126, R153, R172, R246, R320, R426, R503). -/

namespace Sys2Proof.Machine

/-- A row of the parameter tables: the identifier of the first of `num` parameters, the default, and the least and the
greatest value in the encoding of R53, rounded to the nearest whole number of units as R53's example rounds
(notes/assumptions/160). -/
structure ParamRow where
  id  : Nat
  num : Nat
  dflt : Int
  lo  : Int
  hi  : Int
deriving DecidableEq, Repr

/-- The tables of R53, R125, R153, R172, R194, R246, R320, R426 and the twin parameters. -/
def paramRows : List ParamRow :=
  [⟨0x001, 1, 1000, 125, 64000⟩,
   ⟨0x002, 1, 24, 1, 168⟩,
   ⟨0x003, 1, 1000000, 1000, 1000000000000⟩,
   ⟨0x004, 1, 184467440737, 184467441, 184467440737096⟩,
   ⟨0x005, 1, 12, 0, 31⟩,
   ⟨0x006, 1, 65536, 32768, 262144⟩,
   ⟨0x007, 1, 0, 0, 1⟩,
   ⟨0x008, 1, 50000, 1000, 1000000000⟩,
   ⟨0x009, 1, 60, 10, 3600⟩,
   ⟨0x00A, 1, 26214, 3277, 65536⟩,
   ⟨0x00B, 1, 1000000, 1000, 1000000000⟩,
   ⟨0x00C, 1, 1000000, 0, 86400000⟩,
   ⟨0x00D, 1, 3600000, 60000, 86400000⟩,
   ⟨0x00E, 1, 64, 16, 1024⟩,
   ⟨0x00F, 1, 49152, 6554, 262144⟩,
   ⟨0x010, 1, 393216, 196608, 1310720⟩,
   ⟨0x011, 1, 0, 0, 1⟩,
   ⟨0x012, 1, 0, -18446744074, 18446744074⟩,
   ⟨0x013, 1, 32768, 0, 16777216⟩,
   ⟨0x014, 1, 184467441, 184467, 184467440737⟩] ++
  [⟨0x015, 1, 1844674407371, 184467441, 1844674407370955⟩,
   ⟨0x016, 1, 0, 0, 1000000000000⟩,
   ⟨0x017, 1, 100000000000, 1000, 10000000000000⟩,
   ⟨0x018, 1, 60000, 0, 3600000⟩,
   ⟨0x020, 8, 31, 0, 31⟩,
   ⟨0x028, 8, 1, 0, 5⟩,
   ⟨0x050, 8, 184467441, 0, 18446744073710⟩,
   ⟨0x101, 1, 60, 10, 3600⟩,
   ⟨0x102, 1, 600, 60, 86400⟩,
   ⟨0x103, 1, 368934881, 1844674, 184467440737⟩,
   ⟨0x104, 1, 184467440737096, 18446744074, 1844674407370955⟩,
   ⟨0x105, 1, 18446744074, 18446744, 18446744073710⟩,
   ⟨0x106, 1, 9223372, 18447, 18446744074⟩,
   ⟨0x107, 1, 100, 1, 500⟩,
   ⟨0x108, 1, 0, 0, 1⟩,
   ⟨0x109, 1, 1, 0, 1⟩,
   ⟨0x10A, 1, 18446744074, 184467441, 184467440737096⟩,
   ⟨0x10B, 1, 255, 13, 255⟩,
   ⟨0x10C, 1, 7, 6, 255⟩,
   ⟨0x10D, 1, 20000, 1000, 1000000000⟩] ++
  [⟨0x120, 18, 255, 0, 255⟩,
   ⟨0x140, 8, 10000000, 1, 800000000⟩,
   ⟨0x160, 18, 0, 0, 1000000000000⟩,
   ⟨0x1A0, 18, 1000, 0, 1000000000⟩,
   ⟨0x201, 1, 0, 0, 2⟩,
   ⟨0x202, 1, 0, 0, 1⟩,
   ⟨0x203, 1, 1048575, 0, 1048575⟩,
   ⟨0x204, 1, 1000, 0, 9000⟩,
   ⟨0x205, 1, 3000, 2000, 5000⟩,
   ⟨0x206, 1, 0, 0, 1⟩,
   ⟨0x207, 1, 3600000, 600000, 604800000⟩,
   ⟨0x208, 1, 1000, 10, 100000⟩,
   ⟨0x209, 1, 10000, 1000, 1000000⟩,
   ⟨0x20A, 1, 1, 0, 1⟩,
   ⟨0x20B, 3, 0, -10000000000, 10000000000⟩,
   ⟨0x20E, 1, 0, 0, 10000000⟩,
   ⟨0x210, 4, 0, -1000000, 1000000⟩,
   ⟨0x214, 1, 15000, 1000, 1000000⟩,
   ⟨0x215, 1, 50000, 5000, 10000000⟩,
   ⟨0x216, 1, 100000, 1000, 1000000000⟩,
   ⟨0x217, 1, 922337204, 1844674, 184467440737⟩,
   ⟨0x218, 1, 100, 0, 500⟩] ++
  [⟨0x219, 1, 32768, 6554, 65536⟩,
   ⟨0x21A, 1, 60000, 0, 3600000⟩,
   ⟨0x21B, 1, 0, 0, 1⟩,
   ⟨0x21C, 1, 3600000, 600000, 86400000⟩,
   ⟨0x21D, 1, 300000, 120000, 86340000⟩,
   ⟨0x21E, 1, 0, 0, 7⟩,
   ⟨0x21F, 1, 0, 0, 7⟩,
   ⟨0x220, 1, 0, -1000000, 1000000⟩,
   ⟨0x301, 1, 0, 0, 255⟩,
   ⟨0x302, 1, 100, 0, 10000⟩,
   ⟨0x303, 1, 1000, 100, 60000⟩,
   ⟨0x304, 1, 0, 0, 3600000⟩,
   ⟨0x401, 1, 86400000, 3600000, 2592000000⟩,
   ⟨0x402, 1, 655, 1, 65536⟩]

/-- The row of an identifier. -/
def paramRow (id : Nat) : Option ParamRow := paramRows.find? (fun r => decide (r.id ≤ id) && decide (id < r.id + r.num))

/-- A noise coefficient MEM_Q1 to MEM_R, in binary64 (R153). -/
def isNoise (id : Nat) : Bool := decide (0x30 ≤ id) && decide (id < 0x50)

/-- An entry of the TDEV mask (R125). -/
def isTdev (id : Nat) : Bool := decide (0x180 ≤ id) && decide (id < 0x188)

/-- The default TDEV mask (R125): τ in s, limit in ps. -/
def tdevDefault (k : Nat) : Nat :=
  match k with
  | 0 => 1 * 2 ^ 32 + 2000
  | 1 => 10 * 2 ^ 32 + 2000
  | 2 => 100 * 2 ^ 32 + 4000
  | 3 => 1000 * 2 ^ 32 + 20000
  | 4 => 10000 * 2 ^ 32 + 40000
  | _ => 0

/-- The default of a parameter, as 64 bits; REF_L0 by kind of reference (R194). -/
def paramDefault (id : Nat) : Nat :=
  if isTdev id then tdevDefault (id - 0x180)
  else if id = 0x20 then 0x1E
  else if 0x168 ≤ id ∧ id < 0x16C then 100000
  else if 0x16D ≤ id ∧ id < 0x171 then 1000000
  else match paramRow id with
    | some r => ofSigned 64 r.dflt
    | none => 0

/-- The 64 bits of a parameter in force. -/
def State.paramRaw (s : State) (id : Nat) : Nat := tabGet (paramDefault id) s.params id

/-- A parameter in force, as a signed integer (R53). -/
def State.param (s : State) (id : Nat) : Int := toSigned 64 (s.paramRaw id)

/-- A parameter in force that is not negative. -/
def State.paramN (s : State) (id : Nat) : Nat := (s.param id).toNat

/-- A fractional frequency in units of 2^-64. -/
def freqQ (x : Int) : Rat := (x : Rat) / 18446744073709551616

/-- A ratio in units of 1/65,536. -/
def ratioQ (x : Int) : Rat := (x : Rat) / 65536

/-- The greatest value of a noise coefficient: 1.0E-15, 1.0E-20, 1.0E-30, 1.0E-12, each as its nearest binary64 (R153). -/
def noiseMax (id : Nat) : Rat :=
  fpToRat (fpOfRat (if id < 0x38 then 1 / 10 ^ 15 else if id < 0x40 then 1 / 10 ^ 20 else if id < 0x48 then 1 / 10 ^ 30 else 1 / 10 ^ 12))

/-- A TDEV mask entry with the entries before it: τ rises and lies in its range (R125). -/
def State.tdevOk (s : State) (k v : Nat) : Bool :=
  let tau := v / 2 ^ 32
  let lim := v % 2 ^ 32
  if lim = 0 then true
  else decide (1 ≤ tau ∧ tau ≤ 10000)
    && (k == 0 || decide (s.paramRaw (0x180 + (k - 1)) / 2 ^ 32 < tau))
    && (k == 7 || decide (s.paramRaw (0x180 + (k + 1)) % 2 ^ 32 = 0) || decide (tau < s.paramRaw (0x180 + (k + 1)) / 2 ^ 32))

/-- Member slot i is EMPTY: ENS_MEM_STAT.STATUS is 0 (R131). -/
def State.memEmpty (s : State) (i : Nat) : Bool := s.fld (Reg.ENS_MEM_STAT i) Reg.ENS_MEM_STAT_STATUS = 0

/-- ENS_MEM_STAT.SRC of a member slot that is not EMPTY: the reference that feeds it (R128). -/
def State.feeds (s : State) (j : Nat) (x : Int) : Bool :=
  !s.memEmpty j && decide ((s.fld (Reg.ENS_MEM_STAT j) Reg.ENS_MEM_STAT_SRC : Int) = x)

/-- MEM_SRC of a member: no reference that feeds another slot, also one that is LEAVING, or is set for one (R128). -/
def State.memSrcOk (s : State) (i : Nat) (x : Int) : Bool :=
  decide (1 ≤ i) && (decide (0 ≤ x ∧ x ≤ 17) || decide (x = 0x1F))
    && (decide (x = 0x1F) || !(List.range 8).any (fun j => decide (j ≠ i) && (decide (s.param (0x20 + j) = x) || s.feeds j x)))
    && (decide (x = 0x1F) || s.memEmpty i || s.feeds i x)

/-- A REFIN or PPSIN that carries the peer's signals while TW is enabled: REFIN7 and PPSIN3 (R105, R343). -/
def State.peerInput (s : State) (m : Nat) : Bool := (m == 7 || m == 11) && decide (s.param 0x131 ≠ 0xFF)

/-- ENS_DAC.BITS as used: below 16 as 16, above 20 as 20 (R155). -/
def State.dacBits (s : State) : Nat := min 20 (max 16 (s.fld Reg.ENS_DAC Reg.ENS_DAC_BITS))

/-- The answer of a resident program to a parameter: 0 OK, 1 PARAM_UNKNOWN, 2 PARAM_RANGE (R52). -/
def State.paramCheck (s : State) (id v : Nat) : Nat :=
  let x := toSigned 64 v
  let ok (b : Bool) : Nat := if b then 0 else 2
  if isNoise id then
    let w : Word := BitVec.ofNat 64 v
    ok (fpFinite w && decide (0 ≤ fpToRat w) && decide (fpToRat w ≤ noiseMax id))
  else if isTdev id then ok (s.tdevOk (id - 0x180) v)
  else match paramRow id with
    | none => 1
    | some r =>
      let inR := decide (r.lo ≤ x) && decide (x ≤ r.hi)
      if id = 0x001 then ok (inR && ((List.range 10).any (fun k => decide (x = 125 * 2 ^ k))))
      else if id = 0x011 then ok (inR && (decide (x = 0) || decide (s.param 0x012 ≠ 0)))
      else if id = 0x012 then ok (inR && decide (18447 ≤ x.natAbs))
      else if id = 0x013 then ok (decide (0 ≤ x) && decide (x < 2 ^ s.dacBits))
      else if id = 0x016 then ok (decide (x = 0) || (decide (1000 ≤ x) && inR))
      else if 0x020 ≤ id ∧ id < 0x028 then ok (s.memSrcOk (id - 0x20) x)
      else if 0x028 ≤ id ∧ id < 0x030 then
        ok (inR && (decide (x ≠ 0) || decide (0 < fpToRat (BitVec.ofNat 64 (s.paramRaw (id + 8))))))
      else if id = 0x10B then ok ((decide (13 ≤ x) && decide (x ≤ 16)) || decide (x = 0xFF))
      else if 0x120 ≤ id ∧ id < 0x132 then
        ok (((decide (0 ≤ x) && decide (x ≤ 15)) || decide (x = 0xFF)) && !s.peerInput (id - 0x120))
      else if id = 0x21C then ok (inR && decide (s.param 0x21D ≤ x - 60000))
      else if id = 0x21D then ok (inR && decide (x ≤ s.param 0x21C - 60000))
      else if id = 0x301 then ok ((decide (0 ≤ x) && decide (x ≤ 2)) || decide (x = 0xFF))
      else if id = 0x304 then ok (decide (x = 0) || (decide (1000 ≤ x) && inR))
      else ok inR

end Sys2Proof.Machine
end

