-- ==== Sys2Proof/Machine/SynOps.lean ====
section
/-! DEFINITION. The named operations of the synthesis island: synthesizers, their relock, their clock outputs
and the safe states of the outputs (R197 to R210). -/

namespace Sys2Proof.Machine

/-- A synthesizer. -/
def State.synth (s : State) (n : Nat) : Synth := tabGet Synth.reset s.syn.syn n

/-- Changes a synthesizer. -/
def State.modSynth (s : State) (n : Nat) (f : Synth → Synth) : State :=
  { s with syn := { s.syn with syn := tabMod Synth.reset s.syn.syn n f } }

/-- An output: CLKOUT at 0 to 7, PPSOUT at 8 to 15, IRIGOUT at 16 and 17, TODOUT at 18 to 21. -/
def State.outp (s : State) (o : Nat) : OutPin := tabGet OutPin.reset s.syn.out o

/-- Changes an output. -/
def State.modOut (s : State) (o : Nat) (f : OutPin → OutPin) : State :=
  { s with syn := { s.syn with out := tabMod OutPin.reset s.syn.out o f } }

/-- SYN_STATUS.STATE: 0 OFF, 1 SEARCH, 2 ACQUIRE, 3 LOCKED, 4 UNLOCKED, 5 NOLOCK, 6 QUIESCE (R201). -/
def State.synSt (s : State) (n : Nat) : Nat := s.fld (Reg.SYN_STATUS n) Reg.SYN_STATUS_STATE

/-- f_VCO in Hz: 1.25 GHz × the ratio × (1 + RATE_F) (R198). -/
def Synth.vcoHz (y : Synth) : Rat :=
  1250000000 * ((y.ratio : Rat) / 281474976710656) * (1 + (y.rate : Rat) / 18446744073709551616)

/-- A synthesizer enters a state; its fault conditions begin and end with the states NOLOCK and UNLOCKED, and the governor is engaged in
UNLOCKED, at the frequency that was locked (R201, R202). -/
def State.setSynSt (s : State) (n st : Nat) : State :=
  let s := s.setFld (Reg.SYN_STATUS n) Reg.SYN_STATUS_STATE st
  let s := s.modSynth n (fun y => { y with since := s.tkp.rawcnt, gov := if st = 4 then some y.vcoHz else none })
  let s := if st = 5 then s.condOn (53 + n) else s.condOff (53 + n)
  if st = 4 then s.condOn (57 + n) else s.condOff (57 + n)

/-- The VCO frequency that the loop's control `f` gives: in UNLOCKED the governor holds it to ±50 ppm of its last value while locked (R202). -/
def Synth.govern (y : Synth) (f : Rat) : Rat :=
  match y.gov with
  | some g => min (g * (1 + 50 / 1000000)) (max (g * (1 - 50 / 1000000)) f)
  | none => f

/-- One cycle of the modulator with input `x` in units of 2^-64: the integer that its carries add, and the modulator after it (R197). -/
def Mash.cycle (m : Mash) (x : Nat) : Int × Mash :=
  let s1 := m.a1 + x
  let s2 := m.a2 + s1 % 2 ^ 64
  let s3 := m.a3 + s2 % 2 ^ 64
  let c2 : Nat := s2 / 2 ^ 64
  let c3 : Nat := s3 / 2 ^ 64
  (((s1 / 2 ^ 64 : Nat) : Int) + ((c2 : Int) - m.c2) + ((c3 : Int) - 2 * m.c3 + m.c3'),
   ⟨s1 % 2 ^ 64, s2 % 2 ^ 64, s3 % 2 ^ 64, c2, c3, m.c3⟩)

/-- The modulator's input in units of 2^-64: the ratio times 1 + RATE_F, with a 64-bit fraction (R198; what lies below it is cut off:
DESIGN CHOICE, notes/assumptions/173), and ±1 unit of dither as the LFSR puts out 1 or 0 (R199). -/
def Synth.input (y : Synth) : Nat :=
  let x := ((y.ratio * 2 ^ 16 : Nat) : Int) * (2 ^ 64 + y.rate) / 2 ^ 64
  (if y.dither then (if y.lfsr / 2 ^ 30 % 2 = 1 then x + 1 else x - 1) else x).toNat

/-- The feedback divider of the present cycle (R197). -/
def Synth.divider (y : Synth) : Int := (y.input / 2 ^ 64 : Nat) + (y.mash.cycle (y.input % 2 ^ 64)).1

/-- The synthesizer after one more cycle of its modulator. -/
def Synth.cycle (y : Synth) : Synth := { y with mash := (y.mash.cycle (y.input % 2 ^ 64)).2, lfsr := lfsrNext y.lfsr }

/-- The modulator and the LFSR have advanced to the present tick, one cycle a tick (R197, R199). -/
def State.modulated (s : State) (n : Nat) : Synth :=
  let y := s.synth n
  { Nat.repeat Synth.cycle (s.tkp.rawcnt - y.modTick) y with modTick := s.tkp.rawcnt }

/-- NINT + FRAC × 2^-48 lies between 7.68 and 10.24 (R198). -/
def ratioOk (r : Nat) : Bool := decide (768 * 2 ^ 48 ≤ 100 * r) && decide (100 * r ≤ 1024 * 2 ^ 48)

/-- DIV as used: 6 for smaller values (R198). -/
def State.outDiv (s : State) (j : Nat) : Nat := max 6 (s.reg (Reg.SYN_OUT_DIV j))

/-- The EN bit of an output by its number. -/
def State.outEn (s : State) (o : Nat) : Bool :=
  if o < 8 then s.fld (Reg.SYN_OUT_CTRL o) Reg.SYN_OUT_CTRL_EN = 1
  else if o < 16 then s.fld (Reg.SYN_PPS_CTRL (o - 8)) Reg.SYN_PPS_CTRL_EN = 1
  else if o < 18 then s.fld (Reg.SYN_IRIG_CTRL (o - 16)) Reg.SYN_IRIG_CTRL_EN = 1
  else s.fld (Reg.SYN_TOD_CTRL (o - 18)) Reg.SYN_TOD_CTRL_EN = 1

/-- A clock output's synthesizer is OFF, or FMTERR holds it (R201, R208). -/
def State.clkHeld (s : State) (j : Nat) : Bool :=
  decide (s.synSt (j / 2) = 0) || decide (s.fld (Reg.SYN_OUT_STATUS j) Reg.SYN_OUT_STATUS_FMTERR = 1)

/-- An output drives its signal: enabled, and neither forced nor held at its safe state (R201, R208 to R210). -/
def State.outLive (s : State) (o : Nat) : Bool :=
  s.outEn o && !(s.outp o).forced && !(s.outp o).tbHold && !(decide (o < 8) && s.clkHeld o)

/-- f_nom of a clock output as numerator and denominator in hertz: by the ratio in force, and by SYN_FREQ while the synthesizer is OFF
(R198). -/
def State.fNom (s : State) (j : Nat) : Nat × Nat :=
  let n := j / 2
  (1250000000 * (if s.synSt n = 0 then s.reg (Reg.SYN_FREQ n) % 2 ^ 52 else (s.synth n).ratio), 2 ^ 48 * s.outDiv j)

/-- MIN_PERIOD as used, in ps (R205). -/
def State.minPeriod (s : State) (j : Nat) : Nat := max 625 (s.reg (Reg.SYN_OUT_MINPER j))

/-- The VCO cycles of one cycle of a clock output: DIV, or where that is shorter than MIN_PERIOD the VCO edges that reach it; the low phase
absorbs the stretch (R205). -/
def State.cycleVco (s : State) (j : Nat) : Nat :=
  max (s.outDiv j) (((s.minPeriod j : Rat) * (s.synth (j / 2)).vcoHz / 1000000000000).ceil.toNat)

/-- Each cycle is stretched (R205). -/
def State.shortPeriod (s : State) (j : Nat) : Bool := decide (s.outDiv j < s.cycleVco j)

/-- A clock output is no longer known to be aligned. -/
def State.unalign (s : State) (j : Nat) : State :=
  (s.setFld (Reg.SYN_OUT_STATUS j) Reg.SYN_OUT_STATUS_ALIGNED 0).modOut j (fun o => { o with edge := none })

/-- Cycles of a clock output have been stretched: CLAMPED, and ALIGNED falls (R205). -/
def State.clamped (s : State) (j : Nat) : State := (s.setFld (Reg.SYN_OUT_STATUS j) Reg.SYN_OUT_STATUS_CLAMPED 1).unalign j

/-- A realign event of a clock output with REALIGN at 1 (R207). -/
def State.realignEvent (s : State) (j : Nat) : State :=
  if s.fld (Reg.SYN_OUT_CTRL j) Reg.SYN_OUT_CTRL_REALIGN = 1 then
    s.modOut j (fun o => { o with realign := some (s.vcNow 0) })
  else s

/-- FMTERR and ALIGN_NA of a clock output follow its frequency and format: FMTERR holds the output at its safe state, and the output realigns
on its release; a period below MIN_PERIOD is stretched (R198, R205, R207, R208). -/
def State.showOut (s : State) (j : Nat) : State :=
  let (num, den) := s.fNom j
  let cmos := decide (s.fld (Reg.SYN_OUT_CTRL j) Reg.SYN_OUT_CTRL_FMT = 3)
  let bad := s.outEn j && (decide (num < den) || decide (1600000000 * den < num) || (cmos && decide (250000000 * den < num)))
  let was := decide (s.fld (Reg.SYN_OUT_STATUS j) Reg.SYN_OUT_STATUS_FMTERR = 1)
  let s := (s.setFld (Reg.SYN_OUT_STATUS j) Reg.SYN_OUT_STATUS_FMTERR (bit bad)).setFld (Reg.SYN_OUT_STATUS j)
    Reg.SYN_OUT_STATUS_ALIGN_NA (bit (decide (num % den ≠ 0)))
  let s := if bad then s.unalign j else if was && s.outEn j then (s.unalign j).realignEvent j else s
  if s.outLive j && s.shortPeriod j then s.clamped j else s

/-- The synthesizer's two clock outputs, through a function. -/
def State.onOuts (s : State) (n : Nat) (f : State → Nat → State) : State := f (f s (2 * n)) (2 * n + 1)

/-- What a relock does to a clock output: ALIGNED falls, a cycle may be stretched, which is open unless the
nominal period is too short, and the output is muted under RELOCK_MUTE until LOCKED (R205, R206). -/
def relockOut (s : State) (j : Nat) : State :=
  if s.outEn j then
    let (v, s) := s.fresh
    let s := s.unalign j
    let s := if s.outLive j && decide (v % 2 = 1) then s.clamped j else s
    s.modOut j (fun o => { o with muted := o.muted || decide (s.fld (Reg.SYN_OUT_CTRL j) Reg.SYN_OUT_CTRL_RELOCK_MUTE = 1) })
  else s

/-- A synthesizer starts a relock: SEARCH (1) or ACQUIRE (2), at the acquisition bandwidth, with the dither
sequence from its seed, the modulator at 0 and the VC0 rate in force (R198 to R201). -/
def State.relock (s : State) (n st ratio : Nat) : State :=
  let d := s.reg (Reg.SYN_DITHER n)
  let s := s.modSynth n (fun y => { y with
    ratio := ratio, code := 40, dither := decide (d / 2 ^ 31 % 2 = 1), lfsr := max 1 (d % 2 ^ 31)
    mash := ⟨0, 0, 0, 0, 0, 0⟩, modTick := s.tkp.rawcnt
    rate := if s.fld (Reg.SYN_CTRL n) Reg.SYN_CTRL_FOLLOW = 0 then (s.vcSet 0).rate else 0, ratePend := none })
  let s := (s.setSynSt n st).setFld (Reg.SYN_STATUS n) Reg.SYN_STATUS_SETTLED 0
  (s.onOuts n State.showOut).onOuts n relockOut

/-- A synthesizer goes to OFF; its outputs rest at their safe states (R201). -/
def State.synOff (s : State) (n : Nat) : State :=
  let s := (s.setSynSt n 0).setFld (Reg.SYN_STATUS n) Reg.SYN_STATUS_SETTLED 0
  let s := s.modSynth n (fun y => { y with op := none })
  s.onOuts n (fun s j => ((s.showOut j).unalign j).modOut j (fun o => { o with muted := false, realign := none }))

/-- A band-memory entry holds a lock (R204). -/
def State.bmValid (s : State) (n k : Nat) : Bool := s.fld (Reg.SYN_BM n k) Reg.SYN_BM_VALID = 1

/-- TDRIFT of every band-memory entry that has stored a temperature follows the junction temperature (R204). -/
def State.showDrift (s : State) : State :=
  (List.range 64).foldl (fun s i =>
    let a := Reg.SYN_BM (i / 16) (i % 16)
    if s.reg a ≠ 0 then
      s.setFld a Reg.SYN_BM_TDRIFT (bit (decide (40 < (s.clk.temp - toSigned 8 (s.fld a Reg.SYN_BM_TEMP)).natAbs)))
    else s) s

/-- The junction temperature is now `x` °C. -/
def State.setTemp (s : State) (x : Int) : State := ({ s with clk := { s.clk with temp := x } } : State).showDrift

/-- OP STORE (R204). -/
def State.bmStore (s : State) (n k : Nat) : State :=
  s.setReg (Reg.SYN_BM n k) (2 ^ 81 + ofSigned 8 s.clk.temp * 2 ^ 72
    + s.fld (Reg.SYN_STATUS n) Reg.SYN_STATUS_BAND * 2 ^ 64 + (s.synth n).ratio)

/-- The target of a relock: ACQUIRE or SEARCH, or in QUIESCE the SEARCH that follows takes it. -/
def State.retarget (s : State) (n st ratio : Nat) : State :=
  if s.synSt n = 6 then (s.modSynth n (fun y => { y with ratio := ratio })).onOuts n State.showOut else s.relock n st ratio

/-- OP HOP: NINT, FRAC and the band of an entry, and ACQUIRE (R204). -/
def State.bmHop (s : State) (n k : Nat) : State :=
  let e := s.reg (Reg.SYN_BM n k)
  (s.setFld (Reg.SYN_STATUS n) Reg.SYN_STATUS_BAND (getBits e 64 8)).retarget n 2 (e % 2 ^ 52)

/-- A synthesizer operation at its tick: 1 SEARCH, 2 HOP, 3 STORE, 4 CLEAR, 5 RELOCK. The answer is the RESULT:
1 DONE, 2 RANGE, 3 EMPTY, 4 NOT_LOCKED, 6 OFF (R203, R204, R221). In QUIESCE the new target is kept for the
SEARCH that follows. -/
def State.synOp (s : State) (n op k target : Nat) : Nat × State :=
  if s.fld (Reg.SYN_CTRL n) Reg.SYN_CTRL_EN = 0 then (6, s)
  else match op with
    | 1 => if ratioOk target then (1, s.retarget n 1 target) else (2, s)
    | 2 => if s.bmValid n k then (1, s.bmHop n k) else (3, s)
    | 3 => if s.synSt n = 3 then (1, s.bmStore n k) else (4, s)
    | 4 => (1, s.setFld (Reg.SYN_BM n k) Reg.SYN_BM_VALID 0)
    | _ => (1, s.retarget n 2 (s.synth n).ratio)

/-- A VC0 rate reaches the synthesizers at the tick at which the TKP applies it (R22). -/
def State.passRate (s : State) (rate : Int) : State :=
  (List.range 4).foldl (fun s n => s.modSynth n (fun y => { y with ratePend := some rate })) s

/-- An output goes to its safe state by SYNAT SAFE; a clock output there is no longer aligned (R374). -/
def State.outForce (s : State) (o : Nat) : State :=
  (if o < 8 then s.unalign o else s).modOut o (fun x => { x with forced := true, release := false })

/-- A forced output is released: a clock output at once at a cycle start, the others at the next pulse or frame
start; a clock output then realigns (R207, R374). -/
def State.outRelease (s : State) (o : Nat) : State :=
  if (s.outp o).forced = false then s
  else if o < 8 then
    (s.modOut o (fun x => { x with forced := false, release := false })).realignEvent o
  else s.modOut o (fun x => { x with release := true })

/-- A pulse, frame or message starts: a pending release of the output takes effect, and so does the resumption after a timebase failure
(R210, R374). -/
def State.outStart (s : State) (o : Nat) : State :=
  s.modOut o (fun x => { x with
    forced := x.forced && !x.release, release := false, tbHold := false, from' := none })

/-- A pulse, IRIG-B or ToD output may start a pulse, frame or message at VC0 time `g`: enabled, forced only with its release due, and after a
timebase failure not before the second at which it resumes (R209, R210, R374). -/
def State.outReady (s : State) (o : Nat) (g : Gt) : Bool :=
  let x := s.outp o
  s.tbRuns && s.outEn o && (!x.forced || x.release)
    && (!x.tbHold || (match x.from' with | some f => decide (f ≤ g) | none => false))

/-- EN of an output goes to 1: it starts at a cycle start (R209). -/
def State.outOn (s : State) (o : Nat) : State :=
  if o < 8 then ((s.unalign o).showOut o).realignEvent o
  else if o < 16 then
    (s.setFld (Reg.SYN_PPS_STATUS (o - 8)) Reg.SYN_PPS_STATUS_SKIP 0).modOut o (fun x =>
      { x with cfgs := [], enAt := some (s.vcNow 0), endAt := none })
  else if o < 18 then s.modOut o (fun x => { x with sent := [], endAt := none })
  else (s.setReg (Reg.SYN_TOD_CNT (o - 18)) 0).modOut o (fun x =>
    { x with ctl := s.reg (Reg.SYN_TOD_CTRL (o - 18)), sent := [], endAt := none })

/-! ### What the pins drive -/

/-- The level of a ball: low, high, at high impedance, or toggling at the clock output's frequency. -/
inductive PinLevel where
  | low
  | high
  | hiz
  | clock
deriving DecidableEq, Repr

/-- The bits per second of a BAUD code (R126). -/
def baudOf : Nat → Nat
  | 0 => 9600
  | 1 => 19200
  | 2 => 38400
  | 3 => 57600
  | 4 => 115200
  | 5 => 230400
  | 6 => 460800
  | _ => 921600

/-- The exact position of a VC0 time on the raw timebase, in ps rounded down. -/
def edgePs (c : VcSet) (g : Gt) : Int :=
  let d := g - c.off
  if c.legacy then d * 10 * 800 / (max c.inc 1 : Nat)
  else d * (5 * 2 ^ 64) * 800 / (4 * 2 ^ 32 * (2 ^ 64 + c.rate))

/-- The present time on the raw timebase, in ps. -/
def State.rawPs (s : State) : Int := (s.tkp.rawcnt : Int) * 800

/-- The high time in ms of an IRIG-B bit: 2 for a 0, 5 for a 1, 8 for a position marker (R216). -/
def irigHigh (b : Byte) : Nat := if b = 0 then 2 else if b = 1 then 5 else 8

/-- The active pulse of a pulse output: its end in ps of raw timebase time, while it lasts. -/
def State.pulseEnd (s : State) (o : Nat) : Option Int :=
  match (s.outp o).last with
  | some (e, w) => if e ≤ s.rawPs ∧ s.rawPs < e + w then some (e + w) else none
  | none => none

/-- The high time of the IRIG-B bit under way: its end on VC0, while it lasts (R216). -/
def State.irigEnd (s : State) (o : Nat) : Option Gt :=
  match (s.outp o).sentAt with
  | none => none
  | some (g, _) =>
    let k := ((s.vcNow 0 - g) / (10 * (fuSec / 1000))).toNat
    match (s.outp o).sent[k]? with
    | none => none
    | some b =>
      let e := g + (10 * k + irigHigh b : Nat) * (fuSec / 1000)
      if s.vcNow 0 < e then some e else none

/-- The character of a ToD message under way: its number, and the bit of its frame of start bit, 8 data bits and stop bit, while it lasts
(R218). -/
def State.todBit (s : State) (o : Nat) : Option (Nat × Nat) :=
  match (s.outp o).sentAt with
  | none => none
  | some (g, _) =>
    let k := ((s.vcNow 0 - g) * baudOf ((s.outp o).ctl / 2 ^ 9 % 8) / fuSec).toNat
    if k < 10 * (s.outp o).sent.length then some (k / 10, k % 10) else none

/-- The end of the character under way, on VC0. -/
def State.todCharEnd (s : State) (o : Nat) : Option Gt :=
  match (s.outp o).sentAt, s.todBit o with
  | some (g, _), some (c, _) => some (g + ((c + 1) * 10 : Nat) * fuSec / baudOf ((s.outp o).ctl / 2 ^ 9 % 8))
  | _, _ => none

/-- EN of an output goes to 0: it completes its cycle, pulse, symbol or character, and then rests at its safe state (R209). -/
def State.outOff (s : State) (o : Nat) : State :=
  if o < 8 then ((s.unalign o).showOut o).modOut o (fun x => { x with realign := none, muted := false })
  else if o < 16 then s.modOut o (fun x => { x with endAt := s.pulseEnd o })
  else if o < 18 then s.modOut o (fun x => { x with endAt := (s.irigEnd o).map (edgePs (s.vcSet 0)) })
  else s.modOut o (fun x => { x with
    endAt := (s.todCharEnd o).map (edgePs (s.vcSet 0)), sent := x.sent.take ((s.todBit o).elim 0 (fun c => c.1 + 1)) })

/-- SAFE of an output: 0 LOW, 1 HIGH, 2 HIZ (R209). -/
def State.outSafe (s : State) (o : Nat) : Nat :=
  if o < 8 then s.fld (Reg.SYN_OUT_CTRL o) Reg.SYN_OUT_CTRL_SAFE
  else if o < 16 then s.fld (Reg.SYN_PPS_CTRL (o - 8)) Reg.SYN_PPS_CTRL_SAFE
  else if o < 18 then s.fld (Reg.SYN_IRIG_CTRL (o - 16)) Reg.SYN_IRIG_CTRL_SAFE
  else s.fld (Reg.SYN_TOD_CTRL (o - 18)) Reg.SYN_TOD_CTRL_SAFE

/-- The level of a safe state on a ball; `neg`: the _N ball of a pair (R209). -/
def safeLevel (safe : Nat) (neg : Bool) : PinLevel :=
  if safe = 2 then .hiz else if (safe = 1) ≠ neg then .high else .low

/-- POL of a pulse output in force now (R215). -/
def State.polNow (s : State) (k : Nat) : Nat :=
  match (s.outp (8 + k)).cfgs.find? (fun c => c.1 ≤ s.tkp.rawcnt) with
  | some c => c.2.pol
  | none => s.fld (Reg.SYN_PPS_CTRL k) Reg.SYN_PPS_CTRL_POL

/-- The level of the signal of a pulse, IRIG-B or ToD output: a pulse is active at the level of POL, the UART idles high (R209, R211, R216,
R218). -/
def State.outSignal (s : State) (o : Nat) : Bool :=
  if o < 16 then (s.pulseEnd o).isSome != decide (s.polNow (o - 8) = 1)
  else if o < 18 then (s.irigEnd o).isSome
  else match s.todBit o with
    | none => true
    | some (c, b) => if b = 0 then false else if b = 9 then true else ((s.outp o).sent.getD c 0).toNat / 2 ^ (b - 1) % 2 = 1

/-- The level of a ball of an output; `neg`: the _N ball of a clock output. LVCMOS leaves the _N ball at high impedance, and a muted clock
output is held low (R206, R208 to R210). -/
def State.outPad (s : State) (o : Nat) (neg : Bool) : PinLevel :=
  let x := s.outp o
  if o < 8 then
    if neg && decide (s.fld (Reg.SYN_OUT_CTRL o) Reg.SYN_OUT_CTRL_FMT = 3) then .hiz
    else if !s.outLive o then safeLevel (s.outSafe o) neg
    else if x.muted then (if neg then .high else .low)
    else .clock
  else
    let ends := match x.endAt with
      | some e => decide (s.rawPs < e)
      | none => false
    if x.forced || x.tbHold || (!s.outEn o && !ends) then safeLevel (s.outSafe o) false
    else if s.outSignal o then .high else .low

/-- The timebase has failed: every output goes to its safe state, a frame or a character in progress is abandoned, and every enabled
synthesizer goes to QUIESCE (R201, R210). -/
def State.synQuiesce (s : State) : State :=
  let s := (List.range 8).foldl State.unalign s
  let s := (List.range 22).foldl (fun s o => s.modOut o (fun x => { x with
    tbHold := true, sent := if 16 ≤ o then [] else x.sent, endAt := none })) s
  (List.range 4).foldl (fun s n =>
    if s.synSt n = 0 then s
    else ((s.setSynSt n 6).setFld (Reg.SYN_STATUS n) Reg.SYN_STATUS_SRCFAIL 1).setFld (Reg.SYN_STATUS n)
      Reg.SYN_STATUS_SETTLED 0) s

/-- The first whole VC0 second after now. -/
def State.nextSecond (s : State) : Gt := (s.vcNow 0 / fuSec + 1) * fuSec

/-- The timebase is back and counted in: the synthesizers search; pulse, IRIG-B and ToD outputs resume at the next whole VC0 second, and
each clock output stays at its safe state until its synthesizer is LOCKED (R210). -/
def State.synResume (s : State) : State :=
  let s := (List.range 14).foldl (fun s k => s.modOut (8 + k) (fun x => { x with from' := some s.nextSecond })) s
  (List.range 4).foldl (fun s n => if s.synSt n = 6 then s.relock n 1 (s.synth n).ratio else s) s

end Sys2Proof.Machine
end

