-- ==== Sys2Proof/Machine/Tkp.lean ====
section
/-! DEFINITION. The timekeeping block: changes of a virtual clock, the host's operations on them, step permits,
latches, and the execution of STEERAT and STEPAT (R57 to R80). -/

namespace Sys2Proof.Machine

/-- The least spacing of two changes of a VC: 1 ms in ticks (R19). -/
abbrev vcSpacing : Nat := 1250000

/-- A change of a VC at tick `n` would come less than 1 ms after its previous change (R19). -/
def State.tooSoon (s : State) (v n : Nat) : Bool :=
  let c := tabGet 0 s.tkp.changed v
  decide (c ≠ 0) && decide (n + 1 < c + vcSpacing)

/-- RATE held to ±2^54 units of 2^-64; true when it was clamped (R66). -/
def clampRate (r : Int) : Int × Bool :=
  if 2 ^ 54 < r then (2 ^ 54, true) else if r < -(2 ^ 54) then (-(2 ^ 54), true) else (r, false)

/-- INC held to 0x07_0000_0000 to 0x08_FFFF_FFFF; true when it was clamped (R73). -/
def clampInc (x : Nat) : Nat × Bool :=
  if x < 0x0700000000 then (0x0700000000, true) else if 0x08FFFFFFFF < x then (0x08FFFFFFFF, true) else (x, false)

/-- INC nearest to 8 ns × (1 + RATE), ties toward the lower value (R74). -/
def incOfRate (rate : Int) : Nat := (-(-(8 * fuNs * (2 ^ 64 + rate) * 2 - 2 ^ 64) / 2 ^ 65)).toNat

/-- RATE of an increment: (INC.NS − 8) × 2^61 + INC.FRAC × 2^29 (R74). -/
def rateOfInc (inc : Nat) : Int := ((inc / 2 ^ 32 : Nat) - 8 : Int) * 2 ^ 61 + ((inc % 2 ^ 32 : Nat) : Int) * 2 ^ 29

/-- The set with the OFFSET that makes it read `g` at tick `n`. -/
def rebaseTo (c : VcSet) (g : Gt) (n : Nat) : VcSet := { c with off := g - vcRead { c with off := 0 } n 1 }

/-- A new parameter set of a VC takes effect at tick `n`; the set before it stays for earlier ticks (R19, R63, R65). -/
def State.putVc (s : State) (v n : Nat) (c : VcSet) (clamped : Bool) : State :=
  let old := s.vcSet v
  let s := { s with tkp := { s.tkp with prev := tabSet VcSet.reset s.tkp.prev v old, changed := tabSet 0 s.tkp.changed v (n + 1) } }
  let s := s.setReg (Reg.TKP_VC_OFFSET v) (gtToRaw c.off)
  let s := s.setReg (Reg.TKP_VC_RATE v) (ofSigned 64 c.rate)
  let s := s.setReg (Reg.TKP_VC_INC v) c.inc
  let s := s.setReg (Reg.TKP_VC_EFF v) n
  let s := s.setFld (Reg.TKP_VC_STATUS v) Reg.TKP_VC_STATUS_MODE (bit c.legacy)
  let s := if clamped then s.setFld (Reg.TKP_VC_STATUS v) Reg.TKP_VC_STATUS_CLAMP 1 else s
  if v = 0 ∧ c.rate ≠ old.rate then s.passRate c.rate else s

/-- The actions that a forward step of a VC has passed over complete LATE: those whose target is at or above the
old reading and below the new one (R71). -/
def State.passOver (s : State) (v : Nat) (old new : Gt) : State :=
  (List.range 8).foldl (fun s p =>
    ((s.pod p).acts.filter (fun a => a.arrived && decide (a.vc = v) && decide (old ≤ a.target) && decide (a.target < new))).foldl
      (fun s a => s.endAction p a 1) s) s

/-- A step of VC0 makes every clock output with REALIGN at 1 realign (R207). -/
def State.stepRealign (s : State) : State := (List.range 8).foldl (fun s j => s.realignEvent j) s

/-- What Pod 1 keeps of a reference, shifted by a step of VC0 of `w` whole seconds and `f` ps (R146). -/
def RefTrack.shift (r : RefTrack) (w : Int) (f : Rat) : RefTrack :=
  let p : Int × Rat → Int × Rat := fun x => (x.1 + w, x.2 + f)
  { r with
    hist := r.hist.map p
    cleanX := r.cleanX.map p
    expect := r.expect.map (· + f)
    lastSeen := r.lastSeen.map (· + (w * fuSec + psToFu f))
    rejAt := r.rejAt.map (· + (w * fuSec + psToFu f))
    lastPulse := r.lastPulse.map (· + w)
    accSum := r.accSum + f * r.accN
    qualFrom := r.qualFrom + w
    qualSince := r.qualSince + w
    cleanFrom := r.cleanFrom.map (· + w)
    suspectAt := r.suspectAt + w
    presentFrom := r.presentFrom.map (· + w)
    availAt := r.availAt + w
    okShort := r.okShort + w
    okMed := r.okMed + w
    okLong := r.okLong + w
    okTdev := r.okTdev + w
    label := r.label.map (fun x => (x.1 + w, x.2))
    labels := r.labels.map (fun x => (x.1 + w, x.2))
    medAt := r.medAt.map (· + w)
    testedAt := r.testedAt.map (· + w)
    outFrom := r.outFrom.map (· + w) }

/-- Pod 0 posts a step of VC0 to Pod 1, which shifts what it keeps of every reference (R146). -/
def State.shiftRefs (s : State) (delta : Gt) : State :=
  if s.runsResident 0 && s.runsResident 1 then
    let w := (delta + fuSec / 2) / fuSec
    let f := fuToPs (delta - w * fuSec)
    { s with
      ref := { s.ref with
        track := (List.range 18).foldl (fun t m => tabMod RefTrack.reset t m (fun r => r.shift w f)) s.ref.track
        evalAt := s.ref.evalAt.map (· + w) }
      ens := { s.ens with
        eau := s.ens.eau.map (fun c => (c.1, ⟨c.2.pulses.map (fun y => (y.1 + delta, y.2)),
          c.2.secs.map (fun y => (y.1 + w, y.2.1 + f, y.2.2))⟩)) } }
  else s

/-- What Pod 2 keeps by VC0 second moves with a step of VC0, so that g does not change; the F written before it is lost
(R234, R238); a CGGTTS track ends at the step (R245). `sec` is the VC0 second before the step and `tick` its tick. -/
def GnsState.shift (g : GnsState) (delta : Gt) (sec : Int) (tick : Nat) : GnsState :=
  let w := (delta + fuSec / 2) / fuSec
  let x := fuToPs delta
  { g with
    ppsf := none
    cut := some (sec, tick)
    posn := g.posn.map (fun p => (p.1 + w, p.2))
    fixAt := g.fixAt.map (· + w)
    xs := g.xs.map (fun p => (p.1 + w, p.2 + x))
    gs := g.gs.map (fun p => (p.1 + w, p.2))
    held := g.held.map (fun p => (p.1, p.2 + w))
    flat := g.flat.map (· + w)
    keptAt := g.keptAt + w
    slAt := g.slAt.map (· + w * 1000) }

/-- A step that takes effect: the count of steps, the passed-over actions, the journal record (kind 0 FREE,
1 PERMIT, 2 LEGACY) and, for VC0, the realignment of the clock outputs, the loss of F and the shift of Pod 1's phase
values (R70, R71, R78, R146, R207, R234). -/
def State.stepDone (s : State) (v n : Nat) (old new : Gt) (took : Took) (legacy : Bool) (requester : Nat) : State :=
  let s := s.incFld (Reg.TKP_VC_STATUS v) Reg.TKP_VC_STATUS_STEPS 1
  let s := s.passOver v old new
  let kind := if legacy then 2 else match took with | .permit _ => 1 | _ => 0
  let s := s.jStep v kind n (new - old) requester
  if v = 0 then ({ s with gns := s.gns.shift (new - old) (gtSec old) n } : State).stepRealign.shiftRefs (new - old) else s

/-- A change of R65 of a VC at tick `n`: op 1 STEP_ABS, 2 STEP_REL, 3 RATE, 4 STEP_RATE, 5 INC, 6 MODE_INC,
7 MODE_RATE. The answer is none where the result would leave the SECONDS range (R58). -/
def State.vcChange (s : State) (v n op : Nat) (g : Gt) (rate : Int) (inc : Nat) (took : Took) (requester : Nat) :
    Option State :=
  let c := s.vcSet v
  let old := vcRead c n 1
  let (r, rc) := clampRate rate
  let (i, ic) := clampInc inc
  let new := if op = 2 then old + g else g
  let done (c' : VcSet) (at' : Gt) (cl step : Bool) : Option State :=
    let c' := rebaseTo c' at' n
    if gtInRange at' && gtInRange c'.off then
      let s := s.putVc v n c' cl
      some (if step then s.stepDone v n old at' took c.legacy requester else s)
    else none
  match op with
  | 1 => done c new false true
  | 2 => done c new false true
  | 3 => done { c with rate := r } old rc false
  | 4 => done { c with rate := r } new rc true
  | 5 => done { c with inc := i } old ic false
  | 6 => done { c with legacy := true, inc := incOfRate c.rate } old false false
  | _ =>
    let (r, rc) := clampRate (rateOfInc c.inc)
    (done { c with legacy := false, rate := r } old rc false).map
      (fun s => s.setFld (Reg.TKP_VC_STATUS v) Reg.TKP_VC_STATUS_FIRST_DONE 1)

/-! ### Host operations -/

/-- RESULT of the last host operation on a VC. -/
def State.vcResult (s : State) (v x : Nat) : State := s.setFld (Reg.TKP_VC_STATUS v) Reg.TKP_VC_STATUS_RESULT x

/-- The delta that a refused host step is journaled with (R70). -/
def State.hostDelta (s : State) (v op : Nat) : Gt :=
  let g := gtOfRaw (s.reg (Reg.TKP_VC_SOFF v))
  if op = 2 then g else g - s.vcNow v

/-- The mode of a VC admits an operation (R73). -/
def State.opModeOk (s : State) (v op : Nat) : Bool :=
  let legacy := (s.vcSet v).legacy
  match op with
  | 3 => !legacy
  | 4 => !legacy
  | 5 => legacy
  | 6 => !legacy && decide (2 ≤ v)
  | 7 => legacy
  | _ => true

/-- True for the operations that step. -/
def opSteps (op : Nat) : Bool := op == 1 || op == 2 || op == 4

/-- The TKP accepts a write of a nonzero TKP_VC_CTRL.OP: it refuses at once what R58, R70, R72, R73 and R78 refuse,
and else holds the operation for its tick, with what a step took (R67, R69). -/
def State.hostOpAccept (s : State) (v op : Nat) : State :=
  let finish (x : Nat) (s : State) : State := s.vcResult v x
  if 8 ≤ op then finish 6 s
  else if s.vcOwned v then finish 3 s
  else if !s.opModeOk v op then finish 5 s
  else if opSteps op && !gtRawOk (s.reg (Reg.TKP_VC_SOFF v)) then finish 7 s
  else if opSteps op && s.stepRefused v then finish 4 (s.jStep v 3 s.tkp.rawcnt (s.hostDelta v op) 0xFF)
  else
    let (s, took) := if opSteps op then s.takeStep v else (s, .nothing)
    { s with tkp := { s.tkp with hostOp := some ⟨v, op, s.tkp.rawcnt, took, s.tbStopped⟩ } }

/-- The effect of an accepted write of TKP_VC_CTRL (R78). -/
def State.vcCtrlAct (s : State) (v data : Nat) : State :=
  let s := s.setFld (Reg.TKP_VC_CTRL v) Reg.TKP_VC_CTRL_OP data
  if data % 16 = 0 then s else s.hostOpAccept v (data % 16)

/-- A write of TKP_VC_CTRL (R78, R79): BUSY stays 1 until RESULT is valid. -/
def State.vcCtrlWrite (s : State) (v data : Nat) : State := s.posted (Reg.TKP_VC_CTRL v) (fun s => s.vcCtrlAct v data)

/-- A timed action that changes a VC takes effect at a tick or before it, and has not yet: it goes first (R44, R67). -/
def State.actWaits (s : State) (v n : Nat) : Bool :=
  (List.range 8).any (fun p => (s.pod p).acts.any (fun a =>
    a.arrived && decide (a.kind ≤ 1) && decide (a.vcChg = v) && decide (s.actTick a ≤ n)))

/-- The application of a host operation at the first tick 1 µs after its acceptance: NO_TICK where the timebase was STOPPED at
acceptance, or has stopped before that tick; TOO_SOON, GTIME_RANGE or DONE; what a step took comes back unless it is
DONE (R67, R69; notes/assumptions/166). -/
def State.hostOpApply (s : State) (h : HostOp) : State :=
  let s := { s with tkp := { s.tkp with hostOp := none } }
  let refuse (x : Nat) (s : State) : State := (s.vcResult h.vc x).restore h.vc h.took
  let n := h.tick + ticksPerUs
  let s := if h.stopped then refuse 8 s
    else if s.tbStopped && decide (s.tkp.rawcnt < n) then refuse 8 s
    else
      let s := s.at n
      if s.tooSoon h.vc n then refuse 2 s
      else match s.vcChange h.vc n h.op (gtOfRaw (s.reg (Reg.TKP_VC_SOFF h.vc)))
          (toSigned 64 (s.reg (Reg.TKP_VC_SRATE h.vc))) (s.reg (Reg.TKP_VC_SINC h.vc)) h.took 0xFF with
        | some s => s.vcResult h.vc 1
        | none => refuse 7 s
  s.busyDone Reg.TKP_ISL_STATUS

/-! ### Permits and latches -/

/-- A write of TKP_STEP_PERMIT: TTL is stored between 1 and 3,600; each PERMIT bit that rises is a new permit, each
that falls is withdrawn (R69, R78). -/
def State.permitWrite (s : State) (data : Nat) : State :=
  let s := s.setFld Reg.TKP_STEP_PERMIT Reg.TKP_STEP_PERMIT_TTL (min 3600 (max 1 (data / 2 ^ 16 % 2 ^ 16)))
  let ttl := s.fld Reg.TKP_STEP_PERMIT Reg.TKP_STEP_PERMIT_TTL * 1250000000
  (List.range 8).foldl (fun s v =>
    let want := decide (data / 2 ^ v % 2 = 1)
    if want && !s.permit v then (s.setPermit v true (s.tkp.rawcnt + ttl)).jPermit v 0
    else if !want && s.permit v then (s.setPermit v false 0).jPermit v 1
    else s) s

/-- Latches RAWCNT and the VCs of a mask at the present tick (R64). -/
def State.latchVcs (s : State) (mask : Nat) : State :=
  let s := s.setReg Reg.TKP_LATCH_RAW s.tkp.rawcnt
  (List.range 8).foldl (fun s v =>
    if mask / 2 ^ v % 2 = 1 then s.setReg (Reg.TKP_VC_LATCH v) (gtToRaw (s.vcNow v)) else s) s

/-- The effect of an accepted write of TKP_LATCH_CTRL; GO reads 1 until the posted write ends (R64, R79). -/
def State.latchAct (s : State) (data : Nat) : State :=
  let s := s.setFld Reg.TKP_LATCH_CTRL Reg.TKP_LATCH_CTRL_VCMASK data
  if data / 256 % 2 = 1 then (s.latchVcs (data % 256)).setFld Reg.TKP_LATCH_CTRL Reg.TKP_LATCH_CTRL_GO 1 else s

/-- A write of TKP_LATCH_CTRL (R64). -/
def State.latchWrite (s : State) (data : Nat) : State := s.posted Reg.TKP_LATCH_CTRL (fun s => s.latchAct data)

/-! ### Who may write -/

/-- A register that only Pod instructions write (R405). -/
def podOnly (a : Nat) : Bool :=
  decide (0x40030000 ≤ a ∧ a < 0x40040000 ∧ a ≠ Reg.REF_ISL_STATUS) && podOnlyRef a
    || (decide (0x40040008 ≤ a ∧ a < 0x40040200) && !(a == Reg.ENS_SWDOG || a == Reg.ENS_DAC))
where
  /-- The registers of the REF island that Pod 1 writes. -/
  podOnlyRef (a : Nat) : Bool :=
    decide (a = Reg.REF_SEL) || decide (a = Reg.REF_HB)
      || decide (Reg.REF_STATE 0 ≤ a ∧ a < Reg.REF_STATE 18 ∧ a % 16 < 4)

/-- A register of the reduced view that the management slaves may write over SPI (R387). -/
def mgmtWrites (a : Nat) : Bool :=
  let isl := a / 0x10000
  decide (isl = 0x4000) || decide (isl = 0x4032) || decide (isl = 0x4033) || decide (isl = 0x4034)
    || decide (a = Reg.TKP_STEP_PERMIT) || decide (a = Reg.ONION_LATCH) || decide (a = Reg.ONION_TBU)
    || decide (a = Reg.ONION_VDIP) || decide (Reg.ONION_L4 0 ≤ a ∧ a < Reg.ONION_L4 19)

/-- A master may write a register over the bus (R387, R404, R405). A Pod writes registers by XWR only. -/
def mayWrite (m a : Nat) : Bool :=
  !podOnly a && (decide (m = 0) || decide (m = 11) || (decide (m = 1) && mgmtWrites a))

/-- A register lies in a domain that is gated or in QUIESCE or restarts (R442). -/
def State.gated (s : State) (a : Nat) : Bool :=
  let g := s.reg Reg.CLK_GATE_STATUS ||| s.clk.reopen
  let isl := a / 0x10000
  (decide (0x4010 ≤ isl ∧ isl ≤ 0x4017) && decide (g / 2 ^ (isl - 0x4010) % 2 = 1))
    || (decide (isl = 0x4031) && decide (g / 2 ^ 8 % 2 = 1))
    || (decide (Reg.SYN_CTRL 0 ≤ a ∧ a < Reg.SYN_CTRL 4) && decide (g / 2 ^ (12 + (a - Reg.SYN_CTRL 0) / 0x200) % 2 = 1))
    || (decide (isl = 0x4006) && decide (g / 2 ^ 16 % 2 = 1))

/-- A write of a master to a register: a bus error where it may not write (ACCESS) or the island is gated (GATED),
else the register's own effect (R408). -/
def State.regWrite (s : State) (m a : Nat) (f : State → State) : State :=
  if !mayWrite m a then s.busError m a true 3
  else if s.gated a then s.busError m a true 5
  else f s

/-! ### The rows -/

/-- TKP_LATCH (R64). -/
def execTkpLatch (m : Master) (data : Nat) (s : State) : Host.Outcome State Fault Refusal :=
  act (fun s => s.regWrite m Reg.TKP_LATCH_CTRL (fun s => s.latchWrite data)) s

/-- A master writes TKP_VC_CTRL with an operation. -/
def vcOp (m : Master) (v : VcId) (op : Nat) (s : State) : Host.Outcome State Fault Refusal :=
  act (fun s => s.regWrite m (Reg.TKP_VC_CTRL v) (fun s => s.vcCtrlWrite v op)) s

/-- STEP_ABS (R65). -/
def execStepAbs (m : Master) (vc : VcId) (s : State) : Host.Outcome State Fault Refusal := vcOp m vc 1 s
/-- STEP_REL (R65). -/
def execStepRel (m : Master) (vc : VcId) (s : State) : Host.Outcome State Fault Refusal := vcOp m vc 2 s
/-- RATE (R65). -/
def execRate (m : Master) (vc : VcId) (s : State) : Host.Outcome State Fault Refusal := vcOp m vc 3 s
/-- STEP_RATE (R65). -/
def execStepRate (m : Master) (vc : VcId) (s : State) : Host.Outcome State Fault Refusal := vcOp m vc 4 s
/-- INC (R73). -/
def execInc (m : Master) (vc : VcId) (s : State) : Host.Outcome State Fault Refusal := vcOp m vc 5 s
/-- MODE_INC (R74). -/
def execModeInc (m : Master) (vc : VcId) (s : State) : Host.Outcome State Fault Refusal := vcOp m vc 6 s
/-- MODE_RATE (R74). -/
def execModeRate (m : Master) (vc : VcId) (s : State) : Host.Outcome State Fault Refusal := vcOp m vc 7 s

/-- TKP_INVALID_OP: an OP of 8 to 15 (R78). -/
def execTkpInvalidOp (m : Master) (vc : VcId) (op : Nat) (s : State) : Host.Outcome State Fault Refusal :=
  vcOp m vc (8 + op % 8) s

/-- TKP_HOST_OP_APPLY: a timed action due by its tick on the same VC goes first (R67). -/
def execTkpHostOpApply (s : State) : Host.Outcome State Fault Refusal :=
  act (fun s => match s.tkp.hostOp with
    | some h => if !s.tbStopped && s.actWaits h.vc (h.tick + ticksPerUs) then s else s.hostOpApply h
    | none => s) s

/-- STEP_PERMIT_WRITE: HOST and SPIM only (R69). -/
def execStepPermitWrite (m : Master) (data : Nat) (s : State) : Host.Outcome State Fault Refusal :=
  act (fun s => if m.val ≤ 1 then s.permitWrite data else s.busError m Reg.TKP_STEP_PERMIT true 3) s

/-- PERMIT_EXPIRE: a latched permit reaches its expiry (R69). -/
def execPermitExpire (vc : VcId) (s : State) : Host.Outcome State Fault Refusal :=
  act (fun s =>
    if s.permit vc then ((s.at (tabGet 0 s.tkp.permitExp vc)).setPermit vc false 0).jPermit vc 2 else s) s

/-! ### Timed actions -/

/-- The action of a Pod with a number, once it has reached the hardware. -/
def State.action (s : State) (p id kind : Nat) : Option TimedAction :=
  (s.pod p).acts.find? (fun a => decide (a.id = id) && decide (a.kind = kind) && a.arrived)

/-- TIMED_ACTION_ARRIVE: LATE where the target has been reached, else the action waits for its tick (R43, R372). -/
def execTimedActionArrive (p : PodId) (id t : Nat) (s : State) : Host.Outcome State Fault Refusal :=
  actAt t (fun s =>
    match (s.pod p).acts.find? (fun a => decide (a.id = id) && !a.arrived) with
    | none => s
    | some a =>
      if a.target ≤ s.vcNow a.vc then s.endAction p a 1
      else s.modPod p (fun q => { q with acts := q.acts.map (fun b => if b.id = id then { b with arrived := true } else b) })) s

/-- The state at the tick of an action. -/
def State.atAction (s : State) (a : TimedAction) : State := s.at (s.actTick a)

/-- An action executes at its tick `n` once it is the next in order (R43, R44): what it does answers its completion status. -/
def execAction (p : PodId) (id kind : Nat) (f : TimedAction → Nat → State → State × Nat) (s : State) :
    Host.Outcome State Fault Refusal :=
  act (fun s =>
    if s.tbStopped then s
    else match s.action p id kind with
      | none => s
      | some a =>
        if !s.actFirst p a then s
        else
          let u := (s.atAction a).modPod p (fun q => { q with acts := q.acts.filter (fun b => b.id ≠ a.id) })
          let r := f a (s.actTick a) u
          r.1.endAction p a r.2) s

/-- The LO_SPI frame of the tick at which a STEERAT on VC0 completes DONE with a DAC code pending: 24 bits, CMD and
the code shifted left by 20 − BITS; none while STALL is 1, while PWR_WARN is active, or once STEER_TARGET is NUMERIC again (R151, R152,
R170). A frame that is not sent counts as missed (notes/assumptions/170). -/
def State.dacFrame (s : State) : State :=
  if s.fld Reg.ENS_DAC_CODE Reg.ENS_DAC_CODE_PEND = 0 then s
  else if s.fld Reg.ENS_ISL_STATUS Reg.ENS_ISL_STATUS_STALL = 1 ∨ s.fld Reg.PWR_STATUS Reg.PWR_STATUS_WARN ≠ 0
      ∨ s.fld Reg.ENS_TS Reg.ENS_TS_DAC = 0 then
    { s with ens := { s.ens with dacMissed := s.ens.dacMissed + s.ens.dacU0 } }
  else
    let bits := s.dacBits
    let frame := s.fld Reg.ENS_DAC Reg.ENS_DAC_CMD * 2 ^ 20 + s.fld Reg.ENS_DAC_CODE Reg.ENS_DAC_CODE_CODE * 2 ^ (20 - bits)
    ({ s with ens := { s.ens with loFrame := some (frame % 2 ^ 24), dacSent := true } } : State).setFld
      Reg.ENS_DAC_CODE Reg.ENS_DAC_CODE_PEND 0

/-- A STEERAT on VC0 completes DONE: the steer watchdog's COUNT returns to 0, STALL clears, and a pending DAC code
is sent (R149, R151); Pod 0's resident program journals the steering (R23, R186). -/
def State.steerDone (s : State) (p : Nat) : State :=
  let s := s.dacFrame
  let s := if p = 0 ∧ s.runsResident 0 = true then
      s.journal 0 0x0021 (natLe 8 (s.reg (Reg.TKP_VC_RATE 0)) ++ natLe 8 (fpOfRat s.ens.ys).toNat) else s
  let s := { s with ens := { s.ens with doneInInterval := true } }
  let s := (s.setFld Reg.ENS_SWDOG Reg.ENS_SWDOG_COUNT 0).setFld Reg.ENS_ISL_STATUS Reg.ENS_ISL_STATUS_STALL 0
  s.condOff 94

/-- A change of a VC by a timed action at its tick `n`: TOO_SOON under the spacing rule, and where the mode no longer admits it.
A result outside the SECONDS range changes nothing (R58); R43 has no GTIME_RANGE, so it completes TOO_SOON (DESIGN CHOICE,
notes/assumptions/166). -/
def vcAction (a : TimedAction) (op : Nat) (ok : Bool) (p n : Nat) (s : State) : State × Nat :=
  if !ok || s.tooSoon a.vcChg n then (s, 2)
  else match s.vcChange a.vcChg n op a.gt a.rate a.val a.took p with
    | some s => (s, 0)
    | none => (s, 2)

/-- STEERAT_EXECUTE (R65). -/
def execSteeratExecute (p : PodId) (id : Nat) (s : State) : Host.Outcome State Fault Refusal :=
  execAction p id 0 (fun a n s =>
    let legacy := (s.vcSet a.vcChg).legacy
    let r := vcAction a (if a.op = 1 then 5 else 3) (decide (a.op = bit legacy)) p n s
    if r.2 = 0 ∧ a.vcChg = 0 then (r.1.steerDone p, 0)
    else (r.1, r.2)) s

/-- STEPAT_EXECUTE (R65). -/
def execStepatExecute (p : PodId) (id : Nat) (s : State) : Host.Outcome State Fault Refusal :=
  execAction p id 1 (fun a n s =>
    let op := if a.op = 0 then 1 else if a.op = 1 then 2 else 4
    vcAction a op (decide (a.op ≠ 2) || !(s.vcSet a.vcChg).legacy) p n s) s

end Sys2Proof.Machine
end

