-- ==== Sys2Proof/Machine/Bound.lean ====
section
/-! DEFINITION. The bound engine: the layers and their inputs, the Onion of VC0 and its records, widenings, the
calibration epoch, and L4 of the emission points (R174 to R184, R192, R195). -/

namespace Sys2Proof.Machine

/-! ### L4 and the calibration epoch -/

/-- CAL_EPOCH (R181). -/
def State.calEpoch (s : State) : Nat := s.fld Reg.ONION_STAT Reg.ONION_STAT_CAL_EPOCH

/-- The floor of L4 of an emission point, in ps (R180, R504). -/
def State.l4Floor (s : State) (j : Nat) : Nat :=
  let speed := s.fld (Reg.MAC_PORT_CFG j) Reg.MAC_PORT_CFG_SPEED
  if j < 4 then (if 3 ≤ speed then 350 else 500)
  else if j < 8 then (if speed = 0 then 800 else 500)
  else if j = 8 then 8000
  else if j < 17 then 200
  else 10000

/-- L4 of an emission point as the registers stand: L4, ONION_L4.VALUE, the floor, and the speed byte of L4_STATE
(R180, R186). -/
def State.l4Now (s : State) (j : Nat) : Nat × Nat × Nat × Nat :=
  let v := min 1000000000 (s.fld (Reg.ONION_L4 j) Reg.ONION_L4_VALUE)
  (max v (s.l4Floor j), v, s.l4Floor j, if j < 9 then s.fld (Reg.MAC_PORT_CFG j) Reg.MAC_PORT_CFG_SPEED else 0xFF)

/-- L4 in force of an emission point, in ps; 0 for VC0 alone (R175, R183). -/
def State.l4 (s : State) (j : Nat) : Nat := if j < 19 then (tabGet (0, 0, 0, 0) s.bound.l4 j).1 else 0

/-! ### The terms -/

/-- Seconds of a span of VC0 time as a binary64 value, rounded to nearest (R174). -/
def secondsFp (g : Gt) : Word := fpOfRat ((g : Rat) / 4294967296000000000)

/-- The square-bracketed terms of the listing of R174, each operation rounding to nearest: g in s at d. -/
def growthFp (c1 c2 c3 c4 c5 lin quad d : Word) : Word :=
  let m (a b : Word) := (fpMul a b).1
  let p (a b : Word) := (fpAdd a b).1
  let x := m c1 d
  let x := p x (m (m c2 d) d)
  let x := p x (m (m (m c3 d) d) d)
  let x := p x (m (m (m (m c4 d) d) d) d)
  let x := p x (m (m (m (m (m c5 d) d) d) d) d)
  let g := m 0x4010000000000000 (fpSqrt x).1
  let g := p g (m lin d)
  p g (m (m quad d) d)

/-- A coefficient register as its binary64 value. -/
def State.word (s : State) (a : Nat) : Word := BitVec.ofNat 64 (s.reg a)

/-- L2 in ps of the model in the ENS_HM registers at VC0 time `e` (R159, R174); none where the result is no number. -/
def State.l2Model (s : State) (e : Gt) : Option Nat :=
  let g := growthFp (s.word Reg.ENS_HM_C1) (s.word Reg.ENS_HM_C2) (s.word Reg.ENS_HM_C3) (s.word Reg.ENS_HM_C4)
    (s.word Reg.ENS_HM_C5) (s.word Reg.ENS_HM_LIN) (s.word Reg.ENS_HM_QUAD) (secondsFp (e - gtOfRaw (s.reg Reg.ENS_HM_T0)))
  let r := (fpAdd (fpOfInt (s.fld Reg.ENS_HM_L2E Reg.ENS_HM_L2E_VALUE)) (fpMul g 0x426D1A94A2000000).1).1
  match fpOf r with
  | .nan => none
  | .inf n => some (if n then 0 else 2 ^ 48)
  | .fin _ _ _ => some (fpToRat r).ceil.toNat

/-- The growth in ps of the timebase widening from its start to VC0 time `e` (R179). -/
def State.tbGrowth (s : State) (e : Gt) : Nat :=
  match s.bound.tbFrom with
  | none => 0
  | some b =>
    let v := s.fld Reg.ONION_TBU Reg.ONION_TBU_VALUE
    let v := min 50000000 (max 1 v)
    (-(-((v : Int) * (e - b)) / fuSec)).toNat

/-- The dip term in force (R179). -/
def State.dipTerm (s : State) : Nat :=
  if s.bound.vdip then min 1000000 (s.fld Reg.ONION_VDIP Reg.ONION_VDIP_VALUE) else 0

/-- The sum of the widenings held in a layer. -/
def BoundState.widened (b : BoundState) (layer : Nat) : Nat :=
  ((b.widen.filter (fun w => w.layer = layer)).map (·.value)).sum

/-- L3 at VC0 time `e` (R179). -/
def State.l3Now (s : State) (e : Gt) : Nat :=
  40 + s.tbGrowth e + s.dipTerm + (if s.bound.therm then 100 else 0) + s.bound.widened 3

/-! ### Records -/

/-- The reference number of a source as TRACE shows it: 0x1E the combination, 0x1F none. -/
def sourceTrace (src : Nat) : Nat := if src = 0x3E then 0x1E else if src < 18 ∨ src = 0x1E then src else 0x1F

/-- CLASS of a source; a combination of REFINs alone carries no time and is FREQ (R161, R184). -/
def sourceClass (src : Nat) : Nat :=
  let m := if 0x40 ≤ src then src - 0x40 else src
  if src = 0x1F then 0
  else if src = 0x20 then 7
  else if src = 0x3E then 5
  else if m = 0x1E then 6
  else if m < 8 then 5
  else if m < 12 then 3
  else if m = 12 then 1
  else if m < 17 then 2
  else 4

/-- CLASS in force: NONE until time has been set, FREQ while the model is FREQ_ONLY (R161, R184). -/
def State.onionClass (s : State) : Nat :=
  if s.firstDone 0 = false then 0 else if s.bound.model = 4 then 5 else sourceClass s.bound.source

/-- A record of the bound engine: SOURCE 0x10, TIME as given (R175, R185). -/
def State.jBound (s : State) (time : Gt) (type : Nat) (payload : List Byte) : State := (s.stage time 0x10 type payload).1

/-- The total at an emission point in ps: it saturates at 2^48 − 1 (R174, R180). -/
def State.boundAt (s : State) (point : Nat) : Nat := min (2 ^ 48 - 1) (s.bound.total + s.l4 point)

/-- The cause flags at an emission point: SAT also where L4 carries the sum above 2^48 − 1 (R174, R182). -/
def State.flagsAt (s : State) (point : Nat) : Nat :=
  if s.bound.flags / 4096 % 2 = 0 ∧ 2 ^ 48 ≤ s.bound.total + s.l4 point then s.bound.flags ||| 2048 else s.bound.flags

/-- The DSEQ of an Onion: of the latest record whose TIME is not later than the start of its span (R183, R192). -/
def BoundState.dseq (b : BoundState) : Nat :=
  ((b.dseqs.reverse.find? (fun x => decide (x.1 ≤ b.spanEnd - 10000000 * fuNs))).map (·.2)).getD 0

/-- Bytes 0 to 59 of the Onion record (R183). -/
def State.onionBody (s : State) (point : Nat) : List Byte :=
  let b := s.bound
  natLe 6 (s.boundAt point) ++ natLe 6 b.l0 ++ natLe 6 (b.l1 + b.bo + b.widened 1) ++ natLe 6 b.l2 ++ natLe 6 b.l3
    ++ natLe 6 (s.l4 point) ++ natLe 1 b.stateByte ++ natLe 1 b.trace ++ natLe 2 (s.flagsAt point) ++ natLe 2 s.calEpoch
    ++ natLe 1 point ++ natLe 1 b.model ++ natLe 4 b.dseq ++ natLe 4 (gtNs b.spanEnd) ++ intLe 8 (gtSec b.spanEnd)

/-- The 64 bytes of the Onion record (R183). -/
def State.onionBytes (s : State) (point : Nat) : List Byte :=
  s.onionBody point ++ natLe 4 (crc32c (s.onionBody point))

/-- The 16 bytes of the Onion summary (R184). -/
def State.onionSummary (s : State) (point : Nat) : List Byte :=
  natLe 4 (min 0xFFFFFFFF ((s.boundAt point + 999) / 1000)) ++ natLe 1 s.bound.stateByte ++ natLe 1 s.onionClass
    ++ natLe 2 (s.flagsAt point) ++ natLe 4 s.bound.dseq ++ natLe 2 s.calEpoch
    ++ natLe 1 (s.fld Reg.JRN_ERA Reg.JRN_ERA_ERA) ++ [1]

/-- The payload of CKPT (R186, R192). -/
def State.ckptBytes (s : State) : List Byte :=
  let b := s.bound
  natLe 6 b.l0 ++ natLe 6 (b.l1 + b.bo + b.widened 1) ++ natLe 6 b.l2 ++ natLe 6 b.l3 ++ natLe 1 b.stateByte
    ++ natLe 1 b.trace ++ natLe 2 b.flags ++ natLe 2 s.calEpoch ++ natLe 1 b.model ++ natLe 1 b.widen.length

/-! ### Inputs -/

/-- Changes the bound engine. -/
def State.modBound (s : State) (f : BoundState → BoundState) : State := { s with bound := f s.bound }

/-- The number of the 10 ms span of VC0 that holds an instant (R174). -/
def spanNo (g : Gt) : Int := g / (10000000 * fuNs)

/-- The lowest slot number that no widening holds (R178). -/
def freeSlot (l : List Widen) : Nat := ((List.range 32).find? (fun k => !l.any (fun w => w.slot = k))).getD 0

/-- The record WIDEN_ADD (R186). -/
def State.jWiden (s : State) (b : Gt) (slot layer cause ref value : Nat) (span : Rat) : State :=
  s.jBound b 0x0012 (natLe 1 slot ++ natLe 1 layer ++ natLe 1 cause ++ natLe 1 ref ++ natLe 6 value
    ++ natLe 8 (fpOfRat span).toNat)

/-- A widening enters: a slot of its own, or the oldest one grows while 32 are held (R178). -/
def State.widenAdd (s : State) (b : Gt) (cause ref value layer : Nat) (span : Rat) : State :=
  match s.bound.widen with
  | w :: rest =>
    if 31 ≤ rest.length then
      (s.modBound (fun x => { x with widen := { w with value := w.value + value } :: rest })).jWiden b w.slot w.layer
        w.cause w.ref value span
    else
      let k := freeSlot (w :: rest)
      (s.modBound (fun x => { x with widen := w :: rest ++ [⟨k, cause, ref, value, layer, spanNo b, 0, 0x1F, false⟩] })).jWiden b k
        layer cause ref value span
  | [] =>
    (s.modBound (fun x => { x with widen := [⟨0, cause, ref, value, layer, spanNo b, 0, 0x1F, false⟩] })).jWiden b 0 layer cause ref
      value span

/-- A widening is released (R178). -/
def State.widenRel (s : State) (b : Gt) (slot by' : Nat) : State :=
  match s.bound.widen.find? (fun w => w.slot = slot) with
  | none => s
  | some w =>
    (s.modBound (fun x => { x with widen := x.widen.filter (fun v => v.slot ≠ slot) })).jBound b 0x0013
      (natLe 1 slot ++ natLe 1 by' ++ natLe 6 w.value)

/-- The record L3_EVT (R186): term, edge 0 start and 1 end, value. -/
def State.jL3 (s : State) (b : Gt) (term edge value : Nat) : State :=
  s.jBound b 0x0017 (natLe 1 term ++ natLe 1 edge ++ natLe 6 value)

/-- A term of L3 begins or ends with the span that starts at `b` (R179): 0 timebase unlock, whose growth is kept as a
widening after relock; 1 VDDA dip; 2 temperature. -/
def State.l3Input (s : State) (b : Gt) (term : Nat) (on : Bool) : State :=
  match term, on with
  | 0, true => if s.bound.tbFrom.isSome then s else (s.modBound (fun x => { x with tbFrom := some b })).jL3 b 0 0 0
  | 0, false =>
    match s.bound.tbFrom with
    | none => s
    | some from' =>
      let v := s.tbGrowth b
      ((s.modBound (fun x => { x with tbFrom := none })).jL3 b 0 1 v).widenAdd b 0x20 0x1F v 3
        (((b - from' : Int) : Rat) / 4294967296000000000)
  | 1, true =>
    if s.bound.vdip then s
    else
      let s := s.modBound (fun x => { x with vdip := true })
      s.jL3 b 1 0 s.dipTerm
  | 1, false =>
    if s.bound.vdip then (s.modBound (fun x => { x with vdip := false, vdipEnd := none })).jL3 b 1 1 s.dipTerm else s
  | _, on =>
    if s.bound.therm = on then s
    else (s.modBound (fun x => { x with therm := on })).jL3 b 2 (if on then 0 else 1) 100

/-- An input takes effect with the span that starts at `b` (R175), with its journal record (R186). -/
def State.boundInput (s : State) (b : Gt) : BoundInput → State
  | .src l0 l1 flags source =>
    let same := decide (s.bound.l0 = l0 ∧ s.bound.l1 = l1 ∧ s.bound.source = source)
    let s := s.modBound (fun x => { x with l0 := l0, l1 := l1, source := source, srcFlags := flags })
    if same then s
    else s.jBound b 0x0011 (natLe 6 l0 ++ natLe 6 l1 ++ natLe 1 (sourceTrace source) ++ natLe 1 (sourceClass source))
  | .buildOut v ref =>
    (s.modBound (fun x => { x with bo := v.natAbs })).jBound b 0x0014 (intLe 8 v ++ natLe 1 ref)
  | .widenAdd cause ref value layer span => s.widenAdd b cause ref value layer span
  | .widenRel slot by' => s.widenRel b slot by'
  | .model grow l2 => s.modBound (fun x => { x with grow := grow, l2held := l2, hm := if grow && x.grow then x.hm else [] })
  | .l3 term on => s.l3Input b term on
  | .cal kind index old new =>
    let e := s.calEpoch
    let e' := (e + 1) % 65536
    ((s.setFld Reg.ONION_STAT Reg.ONION_STAT_CAL_EPOCH e').mramAsk ridCalEpoch (.nums [e']) []).jBound b 0x0018
      (natLe 2 e ++ natLe 2 e' ++ natLe 1 kind ++ natLe 1 index ++ natLe 8 old ++ natLe 8 new)

/-- The inputs received take effect in the order received (R175). -/
def State.takeInputs (s : State) (b : Gt) : State :=
  let l := s.bound.inputs
  l.foldl (fun s i => s.boundInput b i) (s.modBound (fun x => { x with inputs := [] }))

/-! ### The span -/

/-- The model registers as HM_A and HM_B journal them. -/
def State.hmRegs (s : State) : List Nat :=
  [s.reg Reg.ENS_HM_C1, s.reg Reg.ENS_HM_C2, s.reg Reg.ENS_HM_C3, s.reg Reg.ENS_HM_C4, s.reg Reg.ENS_HM_C5,
   s.reg Reg.ENS_HM_LIN, s.reg Reg.ENS_HM_QUAD, s.reg Reg.ENS_HM_DH, s.reg Reg.ENS_HM_L2E,
   s.fld Reg.ENS_HOLD Reg.ENS_HOLD_MODEL, s.fld Reg.ENS_HM_T0 Reg.ENS_HM_T0_SECONDS]

/-- HM_A and HM_B when L2 starts to grow and at each change of the coefficients while it grows (R192). -/
def State.hmJournal (s : State) (b : Gt) : State :=
  let l := s.hmRegs
  if s.bound.grow ∧ s.bound.hm ≠ l then
    let w (k : Nat) : List Byte := natLe 8 (l.getD k 0)
    ((s.modBound (fun x => { x with hm := l })).jBound b 0x0015 (w 0 ++ w 1 ++ w 2 ++ w 3 ++ w 4)).jBound b 0x0016
      (w 5 ++ w 6 ++ w 7 ++ natLe 6 (l.getD 8 0) ++ natLe 1 (l.getD 9 0) ++ [0] ++ w 10)
  else s

/-- L4_STATE of every emission point whose L4, ONION_L4 value or floor has changed, and of every one at the first span
of a start (R180, R504). -/
def State.l4Journal (s : State) (b : Gt) : State :=
  (List.range 19).foldl (fun s j =>
    let n := s.l4Now j
    let o := tabGet (0, 0, 0, 0) s.bound.l4 j
    let s := s.modBound (fun x => { x with l4 := tabSet (0, 0, 0, 0) x.l4 j n })
    if n.1 = o.1 ∧ n.2.1 = o.2.1 ∧ n.2.2.1 = o.2.2.1 then s
    else s.jBound b 0x001A (natLe 1 j ++ natLe 6 n.1 ++ natLe 6 n.2.1 ++ natLe 6 n.2.2.1 ++ natLe 1 n.2.2.2)) s

/-- The CKPT that an ensemble update has made due: it carries the Onion of the span that has just ended (R192). -/
def State.ckptJournal (s : State) (k : Int) : State :=
  match s.bound.ckpt with
  | none => s
  | some ms =>
    if (ms + 20) / 10 ≤ k then
      (s.modBound (fun x => { x with ckpt := none })).jBound s.bound.spanEnd 0x0010 s.ckptBytes
    else s

/-- The cause flags of a span (R182), without LIMIT. -/
def State.onionFlags (s : State) (sat unset : Bool) : Nat :=
  let b := s.bound
  bit b.grow + 2 * bit (!b.widen.isEmpty) + 4 * bit (decide (0 < b.bo))
    + 8 * bit (b.tbFrom.isSome || b.widen.any (fun w => w.cause = 0x20)) + 16 * bit b.vdip
    + 32 * s.fld Reg.ENS_HOLD Reg.ENS_HOLD_FREEZE + 64 * s.fld Reg.ENS_ISL_STATUS Reg.ENS_ISL_STATUS_STALL
    + 128 * bit (decide (b.model = 4)) + (b.srcFlags &&& 0x300) + 2048 * bit sat + 4096 * bit unset

/-- The layers, the total and the flags for the span that ends at `e` (R174, R182). -/
def State.onionSum (s : State) (e : Gt) : State :=
  let unset := !s.firstDone 0
  let (l2, s) := if s.bound.grow then
      (match s.l2Model e with
       | some v => (v, s)
       | none => s.fresh)
    else (s.bound.l2held, s)
  let l3 := s.l3Now e
  let sum := s.bound.l0 + (s.bound.l1 + s.bound.bo + s.bound.widened 1) + l2 + l3
  let ts := Reg.ENS_TS
  let s := s.modBound (fun x => { x with
    l2 := l2, l3 := l3, spanEnd := e, total := if unset then 2 ^ 48 - 1 else min (2 ^ 48 - 1) sum
    stateByte := s.fld ts Reg.ENS_TS_STATE + 16 * s.fld ts Reg.ENS_TS_CAUSE
    trace := s.fld ts Reg.ENS_TS_TRACE, model := s.fld Reg.ENS_HOLD Reg.ENS_HOLD_MODEL })
  s.modBound (fun x => { x with flags := s.onionFlags (decide (2 ^ 48 ≤ sum)) unset })

/-- The VC0 bound is above BOUND_LIMIT; never while UNSET (R174). -/
def State.limitHigh (s : State) : Bool := s.firstDone 0 && decide (s.fld Reg.ENS_BLIMIT Reg.ENS_BLIMIT_VALUE < s.bound.total)

/-- The Onion of the span that contains VC0 time `g`, from the inputs in force, as an output that labels that time carries it (R217, R219). -/
def State.onionFor (s : State) (g : Gt) : State :=
  let s := s.onionSum ((spanNo g + 1) * 10000000 * fuNs)
  s.modBound (fun x => { x with flags := x.flags + 1024 * bit s.limitHigh })

/-- The crossing of BOUND_LIMIT, judged against the state before, and flag LIMIT; none while UNSET (R166, R174). -/
def State.limitJudge (s : State) (b : Gt) : State :=
  let high := s.limitHigh
  let was := s.bound.above
  let s := s.modBound (fun x => { x with above := high, flags := x.flags + 1024 * bit high })
  if high = was ∨ s.firstDone 0 = false then s
  else s.jBound b 0x0019 (natLe 6 s.bound.total ++ natLe 1 (bit (!high)))

/-- The end of the dip term 10 s after the warning cleared (R179). -/
def State.dipEnd (s : State) (b : Gt) : State :=
  match s.bound.vdipEnd with
  | some x => if x ≤ b then s.l3Input b 1 false else s
  | none => s

/-- The Onion of the span that starts at `k × 10 ms` of VC0. -/
def State.spanEval (s : State) (k : Int) : State :=
  let b : Gt := k * 10000000 * fuNs
  let s := s.ckptJournal k
  let s := (s.takeInputs b).dipEnd b
  let s := (s.hmJournal b).l4Journal b
  let s := (s.onionSum (b + 10000000 * fuNs)).limitJudge b
  (s.modBound (fun x => { x with span := some k })).setFld Reg.ONION_STAT Reg.ONION_STAT_WIDEN s.bound.widen.length

/-- The Onion record of every ODIV-th span goes into the telemetry stream (R459). -/
def State.spanTel (s : State) : State :=
  let div := s.fld Reg.TEL_CFG Reg.TEL_CFG_ODIV
  if s.fld Reg.TEL_CFG Reg.TEL_CFG_EN = 0 ∨ div = 0 then s
  else if s.tel.spans + 1 < div then { s with tel := { s.tel with spans := s.tel.spans + 1 } }
  else ({ s with tel := { s.tel with spans := 0 } } : State).telStage 0x0002 0x10 (s.onionBytes 0x1F)

/-- SPAN_EVALUATION: at the start of each 10 ms span of VC0 (R174, R459). -/
def execSpanEvaluation (t : Nat) (s : State) : Host.Outcome State Fault Refusal :=
  actAt t (fun s =>
    let k := spanNo (s.vcNow 0)
    if !s.tbRuns || decide (s.bound.span = some k) then s else (s.spanEval k).spanTel) s

/-- The effect of an accepted write of ONION_LATCH: the Onion of the current span is copied, and ONION_REC shows it when GO
reads 0 (R195). -/
def State.onionLatchAct (s : State) (data : Nat) : State :=
  let p := data % 32
  let s := if p < 19 ∨ p = 31 then s.setFld Reg.ONION_LATCH Reg.ONION_LATCH_POINT p else s
  if data / 256 % 2 = 1 then
    let s := s.setFld Reg.ONION_LATCH Reg.ONION_LATCH_GO 1
    s.modBound (fun x => { x with latch := some (leNat (s.onionBytes (s.fld Reg.ONION_LATCH Reg.ONION_LATCH_POINT))) })
  else s

/-- A write of ONION_LATCH (R195). -/
def State.onionLatchWrite (s : State) (data : Nat) : State := s.posted Reg.ONION_LATCH (fun s => s.onionLatchAct data)

/-- The end of the posted write: ONION_REC takes the record and GO reads 0 (R195). -/
def State.onionLatchDone (s : State) : State :=
  match s.bound.latch with
  | none => s
  | some v => ((s.modBound (fun x => { x with latch := none })).setReg Reg.ONION_REC v).setFld Reg.ONION_LATCH Reg.ONION_LATCH_GO 0

/-- ONION_LATCH (R195). -/
def execOnionLatch (m : Master) (data : Nat) (s : State) : Host.Outcome State Fault Refusal :=
  act (fun s => s.regWrite m Reg.ONION_LATCH (fun s => s.onionLatchWrite data)) s

/-- The effect of an accepted write of ONION_L4 (R181, R195). -/
def State.onionL4Act (s : State) (j data : Nat) : State :=
  let old := s.reg (Reg.ONION_L4 j)
  (s.setReg (Reg.ONION_L4 j) (data % 2 ^ 32)).boundIn (.cal 0 j old (data % 2 ^ 32))

/-- A write of ONION_L4 (R181). -/
def State.onionL4Write (s : State) (j data : Nat) : State := s.posted (Reg.ONION_L4 j) (fun s => s.onionL4Act j data)

/-- ONION_L4_WRITE (R181). -/
def execOnionL4Write (m : Master) (j : PointId) (data : Nat) (s : State) : Host.Outcome State Fault Refusal :=
  act (fun s => s.regWrite m (Reg.ONION_L4 j) (fun s => s.onionL4Write j data)) s

/-! ### Indications -/

/-- What the services indicate: LI 3, the stratum, clockClass in the profiles of the first and of the second column, and
whether time and frequency are traceable (R165). -/
structure Indication where
  li3     : Bool
  stratum : Nat
  cls     : Nat
  clsG    : Nat
  timeTr  : Bool
  freqTr  : Bool
deriving DecidableEq, Repr

/-- The VC0 bound without L4 is above BOUND_LIMIT. -/
def State.overLimit (s : State) : Bool := decide (s.fld Reg.ENS_BLIMIT Reg.ENS_BLIMIT_VALUE < s.bound.total)

/-- The row of R165 that applies now; the rows for a bound above BOUND_LIMIT come first. -/
def State.indication (s : State) : Indication :=
  let st := s.fld Reg.ENS_TS Reg.ENS_TS_STATE
  let learned := decide (s.fld Reg.ENS_TS Reg.ENS_TS_LEARNED = 1)
  if st = 0 ∧ s.fld Reg.ENS_TS Reg.ENS_TS_CAUSE = 1 then ⟨true, 16, 248, 248, false, false⟩
  else if s.overLimit ∨ st = 4 then
    (if learned then ⟨true, 16, 52, 140, false, false⟩ else ⟨true, 16, 248, 248, false, false⟩)
  else if st = 0 then ⟨false, 1, 248, 248, false, false⟩
  else if st = 3 ∨ s.fld Reg.ENS_HOLD Reg.ENS_HOLD_MODEL = 4 then ⟨false, 1, 7, 7, true, true⟩
  else if st = 2 then ⟨false, 1, 6, 6, true, true⟩
  else if learned then ⟨false, 1, 7, 7, true, true⟩
  else ⟨false, 1, 248, 248, true, true⟩

/-! ### Temperature -/

/-- The junction temperature lies outside −40 °C to 105 °C (R179). -/
def tempOut (x : Int) : Bool := decide (x < -40) || decide (105 < x)

end Sys2Proof.Machine
end

