-- ==== Sys2Proof/Machine/Tdc.lean ====
section
/-! DEFINITION. The interval measurement unit: arming, stops and windows, conversion, calibration, gate loss, the
record queues (R81 to R103), the execution of ARMAT, and the measurement instructions of FIN (R375). -/

namespace Sys2Proof.Machine

/-! ### What a channel is set to -/

/-- The virtual clock of a channel. -/
def State.chanVc (s : State) (c : Nat) : Nat := s.fld (Reg.TDC_CH_CTRL c) Reg.TDC_CH_CTRL_CVC

/-- The channel watches windows: MODE is WINDOW, or it has fallen back (R95, R96). -/
def State.chanWin (s : State) (c : Nat) : Bool :=
  decide (s.fld (Reg.TDC_CH_CTRL c) Reg.TDC_CH_CTRL_MODE = 1)
    || decide (s.fld (Reg.TDC_CH_STATUS c) Reg.TDC_CH_STATUS_FELL_BACK = 1)

/-- SKEW + DELAY of a channel in FRAC units, exact (R85). -/
def State.chanCorr (s : State) (c : Nat) : Rat :=
  ((toSigned 16 (s.reg (Reg.TDC_CH_SKEW c)) + toSigned 32 (s.reg (Reg.TDC_CH_DELAY c)) : Int) : Rat) * 4294967296 / 100000

/-- The channel has an open arm, calibrates or converts (R92, R94). -/
def ChanState.busy (ch : ChanState) : Bool := ch.arm.isSome || ch.calib.isSome || !ch.stops.isEmpty

/-- WPER as used, in ms (R103). -/
def State.winPer (s : State) (c : Nat) : Nat := min 3600000 (s.reg (Reg.TDC_CH_WPER c))

/-- W_k (R95). -/
def State.winAt (s : State) (c k : Nat) : Gt :=
  gtOfRaw (s.reg (Reg.TDC_CH_WSTART c)) + ((k * s.winPer c : Nat) : Int) * (1000000 * fuNs)

/-- The number of the first window whose W_k does not lie in the past (R95). -/
def State.winFrom (s : State) (c : Nat) : Nat :=
  let d := s.vcNow (s.chanVc c) - s.winAt c 0
  if d ≤ 0 then 0
  else if s.winPer c = 0 then 1
  else (-(-d / (((s.winPer c : Nat) : Int) * (1000000 * fuNs)))).toNat

/-- The length of a window in ns: at most WPER − 1,000 ns where windows repeat (R95). -/
def State.winLen (s : State) (c : Nat) : Nat :=
  let l := s.reg (Reg.TDC_CH_WLEN c)
  if s.winPer c = 0 then l else min l (s.winPer c * 1000000 - 1000)

/-- The first tick at which the channel's VC reads a window time plus the correction (R95). -/
def State.winTick (s : State) (c : Nat) (g : Gt) : Nat :=
  tickOf (s.vcSet (s.chanVc c)) (g + -(-(s.chanCorr c)).floor)

/-- TDC_CH_GTO.TIMEOUT as used, in ticks: 1 ms to 60,000 ms (R96). -/
def ChanState.gtoTicks (ch : ChanState) : Nat := min 60000 (max 1 ch.gto) * 1250000

/-- TDC_GCTRL.CALINT as used, in ticks (R87). -/
def State.calInt (s : State) : Nat := max 1 (s.fld Reg.TDC_GCTRL Reg.TDC_GCTRL_CALINT) * 125000000

/-! ### Records -/

/-- Flags of a measurement record (R99). -/
def flNoStop : Nat := 1
def flDouble : Nat := 2
def flWindowed : Nat := 4
def flOver : Nat := 64
def flFalling : Nat := 512

/-- The flags that describe a channel: CAL_PERIODS, CAL_FAULT, CAL_AGED, TB_UNCERTAIN, VC_UNSET, SKEW_UNCAL (R94, R99). -/
def State.chanFlags (s : State) (c : Nat) (uncertain : Bool) : Nat :=
  let ch := s.chan c
  8 * bit (s.chanPeriods c) + 16 * bit (ch.calBad || !ch.calOk) + 32 * bit ch.aged + 128 * bit uncertain
    + 256 * bit (!s.firstDone (s.chanVc c)) + 1024 * bit (!ch.skewOk)

/-- The 32 bytes of a measurement record (R99). -/
def measBytes (r : MeasRec) : List Byte :=
  gtBytes r.gt ++ natLe 4 r.seq ++ natLe 6 r.tick ++ natLe 2 r.fine ++ natLe 1 (r.chan + r.cvc * 32)
    ++ natLe 1 r.calTag ++ natLe 2 r.flags

/-- Counts an issued record in the counters of its channel (R450). -/
def State.countRec (s : State) (r : MeasRec) : State :=
  let f (s : State) (k b : Nat) : State := if r.flags / b % 2 = 1 then s.count (608 + 8 * r.chan + k) else s
  f (f (f (f (f (f (s.count (608 + 8 * r.chan)) 1 1) 2 64) 3 16) 4 32) 5 2) 6 128

/-- A measurement ends: it takes the channel's SEQ, and its record goes into the FIFO of 16 or is discarded (R97, R98). -/
def State.emit (s : State) (c : Nat) (r : MeasRec) : State :=
  let ch := s.chan c
  let r := { r with seq := ch.seq }
  let s := s.modChan c (fun ch => { ch with seq := (ch.seq + 1) % 2 ^ 32 })
  if ch.fifo.length < 16 then (s.modChan c (fun ch => { ch with fifo := ch.fifo ++ [r] })).countRec r
  else s.incFld (Reg.TDC_CH_LOST c) Reg.TDC_CH_LOST_FIFODROP 1

/-- A NO_STOP record of an arm or window that closed at tick `n`, with the flags of the channel then (R94). -/
def State.emitNoStop (s : State) (c n flags : Nat) : State :=
  s.emit c ⟨0, 0, n, 0, c, s.chanVc c, (s.chan c).epoch % 256, flNoStop + flags⟩

/-- The flags that a NO_STOP record of this moment carries (R94). -/
def State.noStopFlags (s : State) (c : Nat) : Nat := s.chanFlags c (!s.tbLocked)

/-- The record of a window that closed at tick `n` with the channel's flags then: the first stop inside, or NO_STOP (R95). -/
def State.endWindow (s : State) (c n flags : Nat) (w : WinOpen) : State :=
  let s := s.modChan c (fun ch => { ch with window := none, calMade := false })
  match w.first with
  | some r => s.emit c { r with flags := r.flags + bit w.double * flDouble }
  | none => s.emitNoStop c n (flWindowed + flags)

/-- A window closes at tick `n`: its record is issued, or waits for the stops in conversion (R95, R96). -/
def State.closeWindow (s : State) (c n : Nat) (w : WinOpen) : State :=
  if (s.chan c).stops.isEmpty then s.endWindow c n (s.noStopFlags c) w
  else
    let f := s.noStopFlags c
    s.modChan c (fun ch => { ch with window := some { w with closed := some (w.closed.getD (n, f)) } })

/-! ### Arming -/

/-- An ignored arm (R94). -/
def State.armIgn (s : State) (c : Nat) : State := s.incFld (Reg.TDC_CH_LOST c) Reg.TDC_CH_LOST_ARMIGN 1

/-- An arm opens with arm tick A; STO and GTO take effect (R92, R94, R102). -/
def State.openArm (s : State) (c a : Nat) : State :=
  let sto := max 1 (s.reg (Reg.TDC_CH_STO c))
  let gto := s.reg (Reg.TDC_CH_GTO c)
  s.modChan c (fun ch => { ch with arm := some (a, a + sto * ticksPerUs), calib := none, calGate := false, gto := gto })

/-- The channel cannot be armed at tick `n`: it is armed, converts, or calibrates for another arm (R92, R94). -/
def State.armBlocked (s : State) (c n : Nat) : Bool :=
  let ch := s.chan c
  ch.arm.isSome || !ch.stops.isEmpty || ch.calGate || decide (ch.calib ≠ none ∧ ch.calib ≠ some n)

/-- A channel that an arm can reach: EN 1, in GATE mode and not in fall-back (R92, R96). -/
def State.armable (s : State) (c : Nat) : Bool := s.chanEn c && !s.chanWin c

/-- ARMAT_EXECUTE (R92). -/
def execArmatExecute (p : PodId) (id : Nat) (s : State) : Host.Outcome State Fault Refusal :=
  execAction p id 3 (fun a n s =>
    let c := a.index
    if !s.armable c then (s, 2)
    else if s.armBlocked c n then (s.armIgn c, 2)
    else (s.openArm c n, 0)) s

/-- The tick `t` is the first at which the VC has reached a multiple of a period within its second. -/
def periodicTick (c : VcSet) (t : Nat) (period : Gt) : Bool :=
  let g := vcRead c t 1
  let r := g % fuSec
  decide (vcRead c ((t : Int) - 1) 1 < g - r + r / period * period)

/-- PERIODIC_ARM (R92). -/
def execPeriodicArm (c : ChanId) (t : Nat) (s : State) : Host.Outcome State Fault Refusal :=
  actAt t (fun s =>
    let per := min 1000000 (s.reg (Reg.TDC_CH_APER c))
    let n := s.tkp.rawcnt
    if s.armable c ∧ s.fld (Reg.TDC_CH_CTRL c) Reg.TDC_CH_CTRL_ARMSRC = 5 ∧ per ≠ 0
        ∧ periodicTick (s.vcSet (s.chanVc c)) n ((per : Int) * (1000 * fuNs)) = true then
      if s.armBlocked c n then s.armIgn c else s.openArm c n
    else s) s

/-! ### The calibrations of CAL_PERIODS -/

/-- The counts N1 over one tick and N2 over two that a channel measures before a stop: one calibration, one epoch; an invalid
one leaves the last valid N1 and D (R84, R88, R89). -/
def State.takeCal (s : State) (c n1 n2 : Nat) : State :=
  let d : Int := (n2 : Int) - (n1 : Int)
  let now := s.tkp.rawcnt
  if 900 ≤ n1 ∧ n1 ≤ 1100 ∧ 900 ≤ d ∧ d ≤ 1100 then
    s.modChan c (fun ch => { ch with epoch := ch.epoch + 1, n1off := (n1 : Int) - 1000, doff := d - 1000, calMade := true,
                                     calOk := true, calBad := false, aged := false, calTick := now })
  else
    ((s.modChan c (fun ch => { ch with epoch := ch.epoch + 1, calBad := true, calMade := true })).setFld (Reg.TDC_CH_STATUS c)
      Reg.TDC_CH_STATUS_CAL_FAULT 1).raise 89

/-- PRE_ARM_CALIBRATION with the counts N1 and N2: before an arm at a known tick, its tick is that at which the calibrations
start, 2.0 µs before the arm; after a gate edge, that at which they end, and the arm takes effect at the next
(R88). -/
def execPreArmCalibration (c : ChanId) (cal : PreArmCal) (s : State) : Host.Outcome State Fault Refusal :=
  actAt cal.t (fun s =>
    let ch := s.chan c
    let now := s.tkp.rawcnt
    if !s.chanEn c then s
    else if ch.calGate then (s.takeCal c cal.n1 cal.n2).openArm c (min (now + 1) (ch.calib.getD (now + 1)))
    else if s.chanPeriods c && !ch.busy && ch.window.isNone then
      (s.takeCal c cal.n1 cal.n2).modChan c (fun ch => { ch with calib := some (now + 2500) })
    else s) s

/-! ### Gates -/

/-- An active gate edge arms a channel: at once, or in CAL_PERIODS when the calibrations that it starts have ended, 2.0 µs at
most (R88, R92). -/
def State.gateArm (s : State) (c : Nat) : State :=
  let n := s.tkp.rawcnt
  if (s.chan c).busy then s.armIgn c
  else if s.chanPeriods c then s.modChan c (fun ch => { ch with calib := some (n + 2500), calGate := true })
  else s.openArm c n

/-- A gate loss ends at the third returning edge: an open window closes at that edge, and the channel is back in GATE mode
(R96). -/
def State.gateBack (s : State) (c : Nat) : State :=
  let s := match (s.chan c).window with
    | some w => s.closeWindow c s.tkp.rawcnt w
    | none => s
  ((s.modChan c (fun ch => { ch with gateLost := false, gateRet := 0 })).setFld (Reg.TDC_CH_STATUS c)
    Reg.TDC_CH_STATUS_FELL_BACK 0).gateCond

/-- A gate edge at a channel that selects the gate: it counts toward the end of a gate loss, three edges with each spacing below
TIMEOUT, and it arms but in fall-back (R92, R96). -/
def State.gateEdge (s : State) (c : Nat) : State :=
  let ch := s.chan c
  let n := s.tkp.rawcnt
  let ret := if ch.gateRet ≠ 0 ∧ n - ch.gateAt < ch.gtoTicks then ch.gateRet + 1 else 1
  let back := ch.gateLost && decide (3 ≤ ret)
  let s := s.modChan c (fun x => { x with gateTick := n, gateAt := n, gateRet := if ch.gateLost then ret else 0 })
  if back then (s.gateBack c).gateArm c
  else if s.chanWin c then s else s.gateArm c

/-- TDC_GATE_EDGE: `t` is the tick at which the synchronizer samples the gate, 1 or 2 ticks after the edge (R92). -/
def execTdcGateEdge (g : Fin 4) (t : Nat) (s : State) : Host.Outcome State Fault Refusal :=
  actAt t (fun s =>
    if !s.tbRuns then s
    else (List.range 32).foldl (fun s c =>
      if s.chanEn c ∧ s.fld (Reg.TDC_CH_CTRL c) Reg.TDC_CH_CTRL_MODE = 0
          ∧ s.fld (Reg.TDC_CH_CTRL c) Reg.TDC_CH_CTRL_ARMSRC = g.val + 1 then s.gateEdge c else s) s) s

/-- STOP_TIMEOUT: no stop within STO of the arm (R94). -/
def execStopTimeout (c : ChanId) (s : State) : Host.Outcome State Fault Refusal :=
  act (fun s =>
    match (s.chan c).arm with
    | some (_, close) =>
      if s.tbRuns then
        let s := (s.at close).modChan c (fun ch => { ch with arm := none, calMade := false })
        s.emitNoStop c close (s.noStopFlags c)
      else s
    | none => s) s

/-- GATE_TIMEOUT: no gate edge for GTO (R96). An arm that is still open when fall-back begins takes no stop any more and ends
with NO_STOP at its timeout (DESIGN CHOICE, notes/assumptions/168). -/
def execGateTimeout (c : ChanId) (s : State) : Host.Outcome State Fault Refusal :=
  act (fun s =>
    let src := s.fld (Reg.TDC_CH_CTRL c) Reg.TDC_CH_CTRL_ARMSRC
    if s.chanEn c && !s.chanWin c && decide (1 ≤ src ∧ src ≤ 4) && s.tbRuns then
      let ch := s.chan c
      let s := (s.at (ch.gateTick + ch.gtoTicks)).condOn 91
      let n := s.tkp.rawcnt
      let s := s.modChan c (fun ch => { ch with gateLost := true, gateTick := n })
      let fb := decide (s.fld (Reg.TDC_CH_CTRL c) Reg.TDC_CH_CTRL_FALLBACK = 1)
      if fb && decide (s.reg (Reg.TDC_CH_WLEN c) ≠ 0) then
        let k := s.winFrom c
        (s.modChan c (fun ch => { ch with winIdx := k })).setFld (Reg.TDC_CH_STATUS c) Reg.TDC_CH_STATUS_FELL_BACK 1
      else
        let s := if fb then s.setFld (Reg.TDC_CH_STATUS c) Reg.TDC_CH_STATUS_FB_NOWIN 1 else s
        s.emitNoStop c n (s.noStopFlags c)
    else s) s

/-! ### Windows -/

/-- WINDOW_OPEN: the channel's VC reads W_k + C (R95). A window that a forward step of the VC has passed over opens in its
turn, late (DESIGN CHOICE, notes/assumptions/168). -/
def execWindowOpen (c : ChanId) (s : State) : Host.Outcome State Fault Refusal :=
  act (fun s =>
    let ch := s.chan c
    if s.chanEn c && s.chanWin c && ch.window.isNone && (decide (ch.winIdx = 0) || decide (s.winPer c ≠ 0)) && s.tbRuns then
      let w := s.winAt c ch.winIdx
      let len := s.winLen c
      (s.at (s.winTick c w)).modChan c (fun ch =>
        { ch with window := some ⟨w, len, none, false, none⟩, winIdx := ch.winIdx + 1, calib := none, calGate := false })
    else s) s

/-- WINDOW_CLOSE: the channel's VC has reached W_k + WLEN + C. A stop less than 50 ps before that tick is captured one tick
later, so the record is issued after that tick, once no stop is in conversion (R83, R95). -/
def execWindowClose (c : ChanId) (s : State) : Host.Outcome State Fault Refusal :=
  act (fun s =>
    match (s.chan c).window with
    | some w =>
      if s.tbRuns && w.closed.isNone then
        let n := s.winTick c (w.start + (w.len : Int) * fuNs)
        (s.at (n + 1)).closeWindow c n w
      else s
    | none => s) s

/-! ### Stops and conversion -/

/-- The exact reading of a VC at a tick position, in FRAC units (R62, R73, R85). -/
def vcExact (c : VcSet) (p : Rat) : Rat :=
  if c.legacy then (c.off : Rat) + p * (c.inc : Rat) / 10
  else (c.off : Rat) + p * (4 * 4294967296) * (18446744073709551616 + (c.rate : Rat)) / (5 * 18446744073709551616)

/-- Tick `k` is the first that follows by at least 50 ps the instant at which a VC reads `g` (R83). -/
def captures (c : VcSet) (g : Gt) (k : Nat) : Bool :=
  decide ((g : Rat) ≤ vcExact c ((k : Rat) - 1 / 16)) && decide (vcExact c ((k : Rat) - 17 / 16) < g)

/-- The pulses of the internal sources: PS0_PPS to PS3_PPS and GN_PPS by their VC and VC time, most recent first (R81, R234,
R284). -/
def State.pulsesOf (s : State) (src : Nat) : List (Nat × Gt) :=
  if src = 44 then s.gns.pulses.map (fun g => (0, g))
  else (List.range 8).flatMap (fun i => match (tabGet PtpInst.reset s.ptp.inst i).cfg with
    | some c => if c.role = 1 ∧ 40 + c.ps = src then (tabGet PtpInst.reset s.ptp.inst i).pulses.map (fun x => (c.vc, x.1)) else []
    | none => [])

/-- An edge of a source may be captured at tick `k`: the pulses of sources 40 to 45 are the engine's own, each rising at the
instant of its rule and falling 100 µs later on the same VC (R81; notes/assumptions/168). -/
def State.edgeDue (s : State) (src k : Nat) (falling : Bool) : Bool :=
  let d : Gt := if falling then 100000 * fuNs else 0
  if src < 40 ∨ 46 ≤ src then true
  else if src = 45 then
    let g := (vcExact (s.vcSet 0) ((k : Rat) - 1 / 16)).floor - d
    captures (s.vcSet 0) (g / fuSec * fuSec + d) k
  else (s.pulsesOf src).any (fun x => captures (s.vcSet x.1) (x.2 + d) k)

/-- A stop edge whose captured tick is `k` at one channel: taken by the open window, or by the open arm where its tick n can be
greater than A (R93, R95). n is known when the conversion is done. -/
def State.stopAt (s : State) (c k : Nat) (falling : Bool) : State :=
  let ch := s.chan c
  let cap (arm : Option (Nat × Nat)) : StopCap := ⟨k, falling, !s.tbLocked, arm.isNone, arm⟩
  if s.chanEn c && decide (s.fld (Reg.TDC_CH_CTRL c) Reg.TDC_CH_CTRL_EDGE = bit falling) then
    if s.chanWin c then
      match ch.window with
      | some w => if w.closed.isSome then s else s.modChan c (fun ch => { ch with stops := ch.stops ++ [cap none] })
      | none => s
    else match ch.arm with
      | some (a, close) =>
        if a + 1 < k ∧ k ≤ close ∧ ch.stops = [] then
          s.modChan c (fun ch => { ch with arm := none, stops := [cap (some (a, close))] })
        else s
      | none => s
  else s

/-- TDC_STOP_EDGE: an edge of a source, captured at tick `k`, reaches the channels that select the source (R81, R93, R95). -/
def execTdcStopEdge (src : Fin 48) (k : Nat) (falling : Bool) (s : State) : Host.Outcome State Fault Refusal :=
  actAt k (fun s =>
    if s.tbRuns && s.edgeDue src k falling then
      (List.range 32).foldl (fun s c =>
        if s.fld (Reg.TDC_CH_SRC c) Reg.TDC_CH_SRC_SRC = src.val then s.stopAt c k falling else s) s
    else s) s

/-- The tick position p of a stop, as a rational: k − u with u = 1 + (N − N1) / D (R84). -/
def convPos (k n : Nat) (n1 d : Int) : Rat := (k : Rat) - (1 + ((n : Int) - n1 : Int) / (d : Rat))

/-- u lies outside 0.05 to 1.075 (R86). -/
def overrange (n : Nat) (n1 d : Int) : Bool :=
  let u : Rat := 1 + ((n : Int) - n1 : Int) / (d : Rat)
  decide (u < 5 / 100) || decide (1075 / 1000 ≤ u)

/-- The record of a converted stop, before its SEQ (R84, R85, R99). The channel's fields are those at the end of the conversion,
also where a write that cleared EN has changed CVC or CALMODE meanwhile (DESIGN CHOICE, notes/assumptions/168). -/
def State.convRec (s : State) (c : Nat) (x : StopCap) (n : Nat) : MeasRec :=
  let ch := s.chan c
  let n1 := 1000 + ch.n1off
  let d := if s.chanPeriods c then 1000 + ch.doff else 1000
  let p := convPos x.tick n n1 d
  let tick := p.floor.toNat
  { gt := (vcExact (s.vcSetAt (s.chanVc c) tick) p - s.chanCorr c).floor
    seq := 0
    tick := tick
    fine := ((p - p.floor) * 65536).floor.toNat
    chan := c
    cvc := s.chanVc c
    calTag := ch.epoch % 256
    flags := s.chanFlags c x.uncertain + bit (overrange n n1 d) * flOver + bit x.falling * flFalling
      + bit x.win * flWindowed }

/-- A converted stop of a window: the first inside is kept, each further one is counted (R95). -/
def State.windowStop (s : State) (c : Nat) (w : WinOpen) (r : MeasRec) : State :=
  let s := if w.start ≤ r.gt ∧ r.gt < w.start + (w.len : Int) * fuNs then
      match w.first with
      | none => s.modChan c (fun ch => { ch with window := some { w with first := some r } })
      | some _ => (s.modChan c (fun ch => { ch with window := some { w with double := true } })).incFld
          (Reg.TDC_CH_STATUS c) Reg.TDC_CH_STATUS_EXTRA 1
    else s
  match (s.chan c).window with
  | some w => match w.closed with
    | some (n, f) => if (s.chan c).stops.isEmpty then s.endWindow c n f w else s
    | none => s
  | none => s

/-- A converted stop of an arm: its record is issued, or, where its tick n is not greater than A, it is not accepted and the arm
stays open (R93). -/
def State.gateStop (s : State) (c : Nat) (arm : Option (Nat × Nat)) (r : MeasRec) : State :=
  match arm with
  | some (a, close) =>
    if a < r.tick then (s.modChan c (fun ch => { ch with calMade := false })).emit c r
    else if s.chanEn c && !s.chanWin c then s.modChan c (fun ch => { ch with arm := some (a, close) })
    else s
  | none => s.emit c r

/-- TDC_CONVERSION_DONE: the count N, and the counts N1 over one tick and N2 over two where CAL_PERIODS has made no calibration
for the arm yet (R84 to R90). -/
def execTdcConversionDone (c : ChanId) (n n1 n2 : Nat) (s : State) : Host.Outcome State Fault Refusal :=
  act (fun s =>
    match (s.chan c).stops with
    | [] => s
    | x :: rest =>
      let s := if s.chanPeriods c && !(s.chan c).calMade then s.takeCal c n1 n2 else s
      let r := s.convRec c x n
      let s := s.modChan c (fun ch => { ch with stops := rest })
      match x.win, (s.chan c).window with
      | true, some w => s.windowStop c w r
      | _, _ => s.gateStop c x.arm r) s

/-- Puts a record into a queue of `cap` records, or counts its loss (R21, R83). -/
def queueRec (cap : Nat) (q : List MeasRec) (r : MeasRec) : List MeasRec × Bool :=
  if q.length < cap then (q ++ [r], false) else (q, true)

/-- A record goes to the three consumers, and to the Pod other than Pod 1 that claims the channel (R21, R83). -/
def State.dispatch (s : State) (own : Nat) (r : MeasRec) : State :=
  let a := queueRec 4096 s.tdc.qPod1 r
  let b := queueRec 4096 s.tdc.qEau r
  let t := queueRec 4096 s.tdc.qTel r
  let s := { s with tdc := { s.tdc with qPod1 := a.1, qEau := b.1, qTel := t.1 } }
  let s := if a.2 then s.count 576 else s
  let s := if b.2 then s.count 577 else s
  let s := if t.2 then s.count 578 else s
  if own = 0 ∨ own = 2 then s
  else
    let o := queueRec 64 (tabGet [] s.tdc.qOwn (own - 1)) r
    let s := { s with tdc := { s.tdc with qOwn := tabSet [] s.tdc.qOwn (own - 1) o.1 } }
    if o.2 then s.count (579 + (own - 1)) else s

/-- The channel that the arbiter serves next: the first with a record, in round-robin order after the last served (R97). -/
def State.nextServed (s : State) : Option Nat :=
  ((List.range 32).map (fun k => (s.tdc.served + 1 + k) % 32)).find? (fun c => !(s.chan c).fifo.isEmpty)

/-- TDC_RECORD_DISPATCH: the oldest record of a channel moves when it is the channel's turn (R21, R83, R97). -/
def execTdcRecordDispatch (c : ChanId) (s : State) : Host.Outcome State Fault Refusal :=
  act (fun s =>
    if s.nextServed = some c.val then
      match (s.chan c).fifo with
      | [] => s
      | r :: rest =>
        let own := (s.chan c).owner
        let s := { s with tdc := { s.tdc with served := c } }
        (s.modChan c (fun ch => { ch with fifo := rest })).dispatch own r
    else s) s

/-! ### Calibration -/

/-- BACKGROUND_CALIBRATION: an idle channel in CAL_LOCKED has measured N1, once every CALINT; D is 1,000 (R87, R89, R90). A
calibration that a stop abandons is not given and stays due (notes/assumptions/168). -/
def execBackgroundCalibration (c : ChanId) (n1 : Nat) (s : State) : Host.Outcome State Fault Refusal :=
  act (fun s =>
    let ch := s.chan c
    if decide (s.fld (Reg.TDC_CH_CTRL c) Reg.TDC_CH_CTRL_CALMODE = 0) && ch.stops.isEmpty && ch.calib.isNone && s.tbRuns
        && decide (s.fld Reg.TDC_ISL_STATUS Reg.TDC_ISL_STATUS_DLL_LOCK = 1) then
      let s := s.at (ch.calTry + s.calInt)
      let now := s.tkp.rawcnt
      if 900 ≤ n1 ∧ n1 ≤ 1100 then
        s.modChan c (fun ch => { ch with n1off := (n1 : Int) - 1000, doff := 0, epoch := ch.epoch + 1, calOk := true,
                                         calBad := false, aged := false, forced := false, calTick := now, calTry := now })
      else
        ((s.modChan c (fun ch => { ch with calBad := true, calTry := now })).setFld (Reg.TDC_CH_STATUS c)
          Reg.TDC_CH_STATUS_CAL_FAULT 1).raise 89
    else s) s

/-- CAL_AGED: no new N1 within 2 × CALINT (R87). -/
def execCalAged (c : ChanId) (s : State) : Host.Outcome State Fault Refusal :=
  act (fun s =>
    if !s.chanPeriods c && s.tbRuns then
      (s.at ((s.chan c).calTick + 2 * s.calInt)).modChan c (fun ch => { ch with aged := true })
    else s) s

/-- DLL_UNLOCK (R90). -/
def execDllUnlock (s : State) : Host.Outcome State Fault Refusal :=
  act (fun s =>
    let s := (s.setFld Reg.TDC_ISL_STATUS Reg.TDC_ISL_STATUS_DLL_LOCK 0).condOn 90
    (List.range 32).foldl (fun s c =>
      if s.fld (Reg.TDC_CH_CTRL c) Reg.TDC_CH_CTRL_CALMODE = 0 then s.modChan c (fun ch => { ch with forced := true }) else s) s) s

/-- DLL_LOCK (R90). -/
def execDllLock (s : State) : Host.Outcome State Fault Refusal :=
  act (fun s => (s.setFld Reg.TDC_ISL_STATUS Reg.TDC_ISL_STATUS_DLL_LOCK 1).condOff 90) s

/-- A write of TDC_GCTRL: CALINT is stored, and SKEWGO starts a skew calibration of every channel whose EN is 0 (R100). -/
def State.gctrlAct (s : State) (data : Nat) : State :=
  let s := s.setFld Reg.TDC_GCTRL Reg.TDC_GCTRL_CALINT (data / 2 ^ 16)
  if data % 2 = 1 then
    let m := (List.range 32).foldl (fun m c => if s.chanEn c then m else m + 2 ^ c) 0
    { s with tdc := { s.tdc with skewChans := s.tdc.skewChans ||| m } }
  else s

/-- SKEWGO: a write of TDC_GCTRL (R100). -/
def execSkewgo (m : Master) (data : Nat) (s : State) : Host.Outcome State Fault Refusal :=
  act (fun s => s.regWrite m Reg.TDC_GCTRL (fun s =>
    s.posted Reg.TDC_GCTRL (fun s => s.gctrlAct (setBits data 0 1 1)))) s

/-- The mean of measurements. -/
def meanQ (l : List Int) : Rat := ((l.sum : Int) : Rat) / ((max 1 l.length : Nat) : Rat)

/-- The measurements scatter by more than 10 ps rms about their mean, in 0.01 ps (R100). -/
def scatters (l : List Int) : Bool :=
  decide (1000000 * ((l.length : Nat) : Rat) < (l.map (fun (x : Int) => ((x : Rat) - meanQ l) * ((x : Rat) - meanQ l))).sum)

/-- The result of a channel's skew calibration: the mean of its 256 measurements, rounded to 0.01 ps (R100; DESIGN CHOICE of the
rounding, notes/assumptions/168). A channel that is enabled keeps its value. -/
def State.skewResult (s : State) (r : SkewResult) : State :=
  let c := r.chan
  if c < 32 ∧ s.tdc.skewChans / 2 ^ c % 2 = 1 ∧ s.chanEn c = false ∧ r.meas ≠ [] then
    if scatters r.meas then (s.setFld (Reg.TDC_CH_STATUS c) Reg.TDC_CH_STATUS_CAL_FAULT 1).raise 89
    else (s.setFld (Reg.TDC_CH_SKEW c) Reg.TDC_CH_SKEW_VALUE (ofSigned 16 (meanQ r.meas + 1 / 2).floor)).modChan c
      (fun ch => { ch with skewOk := true })
  else s

/-- SKEW_CALIBRATION_DONE (R100). -/
def execSkewCalibrationDone (res : List SkewResult) (s : State) : Host.Outcome State Fault Refusal :=
  act (fun s =>
    let s := res.foldl State.skewResult s
    { s with tdc := { s.tdc with skewRun := false, skewChans := 0 } }) s

/-! ### Configuration -/

/-- A refused configuration write of a channel (R102). -/
def State.chanRej (s : State) (c : Nat) : State := s.setFld (Reg.TDC_CH_STATUS c) Reg.TDC_CH_STATUS_CFG_REJ 1

/-- TDC_CH_CTRL as a write leaves it: reserved encodings of EDGE and ARMSRC keep their value (R12). -/
def chanCtrlVal (old data : Nat) : Nat :=
  let v := setBits (setBits (setBits (setBits 0 16 4 (data / 2 ^ 16)) 4 2 (data / 16)) 0 1 data) 8 4
    (if data / 256 % 16 ≤ 5 then data / 256 else old / 256)
  setBits v 6 2 (if data / 64 % 4 ≤ 1 then data / 64 else old / 64)

/-- EN of a channel goes to 1 (R95, R96, R103). -/
def State.chanStart (s : State) (c : Nat) : State :=
  let s := (s.setReg (Reg.TDC_CH_LOST c) 0).setFld (Reg.TDC_CH_STATUS c) Reg.TDC_CH_STATUS_EXTRA 0
  let k := s.winFrom c
  let n := s.tkp.rawcnt
  let gto := s.reg (Reg.TDC_CH_GTO c)
  s.modChan c (fun ch => { ch with winIdx := k, gateTick := n, gto := gto, gateRet := 0 })

/-- A write of TDC_CH_CTRL, false in the answer when it is refused (R102, R103). A channel put into CAL_LOCKED while the DLL is
unlocked converts as in CAL_PERIODS until its next N1 (R90). -/
def State.chanCtrl (s : State) (c data : Nat) : State × Bool :=
  let was := s.chanEn c
  if (was || s.tdc.skewRun) && decide (data % 2 = 1) then (s.chanRej c, false)
  else
    let s := s.setReg (Reg.TDC_CH_CTRL c) (chanCtrlVal (s.reg (Reg.TDC_CH_CTRL c)) data)
    let s := if was then s.chanStop c else if s.chanEn c then s.chanStart c else s
    let f := s.fld (Reg.TDC_CH_CTRL c) Reg.TDC_CH_CTRL_CALMODE = 0 ∧ s.fld Reg.TDC_ISL_STATUS Reg.TDC_ISL_STATUS_DLL_LOCK = 0
    (s.modChan c (fun ch => { ch with forced := ch.forced || decide f }), true)

/-- A write of another register of a channel, from its control register on: 0x04 SRC, 0x10 WSTART, 0x20 WLEN,
0x24 WPER, 0x28 APER, 0x2C GTO, 0x30 STO, 0x38 DELAY (R102, R103). An accepted DELAY of a channel that Pod 1 claims
increments CAL_EPOCH (R181). -/
def State.chanConf (s : State) (c off data : Nat) : State × Bool :=
  if s.chanEn c && !(off == 0x2C || off == 0x30) then (s.chanRej c, false)
  else if off = 0x10 ∧ gtRawOk data = false then (s.chanRej c, false)
  else if off = 4 ∧ 48 ≤ data % 64 then (s, true)
  else
    let old := s.reg (Reg.TDC_CH_CTRL c + off)
    let s := s.setReg (Reg.TDC_CH_CTRL c + off) (if off = 4 then data % 64 else if off = 0x10 then data % 2 ^ 128 else data % 2 ^ 32)
    (if off = 0x38 ∧ (s.chan c).owner = 2 then s.boundIn (.cal 1 c old (data % 2 ^ 32)) else s, true)

/-- The effect of an accepted write of the host to a register of a channel: discarded with CLAIMREJ while a Pod claims it
(R82). -/
def State.chanHost (s : State) (c : Nat) (f : State → State × Bool) : State :=
  if (s.chan c).owner ≠ 0 then s.setFld Reg.TDC_ISL_STATUS Reg.TDC_ISL_STATUS_CLAIMREJ 1 else (f s).1

/-- A posted write of the host to a register of a channel. -/
def State.chanWrite (s : State) (c : Nat) (f : State → State × Bool) : State :=
  s.posted Reg.TDC_ISL_STATUS (fun s => s.chanHost c f)

/-- TDC_CH_CTRL_WRITE (R102). -/
def execTdcChCtrlWrite (m : Master) (c : ChanId) (data : Nat) (s : State) : Host.Outcome State Fault Refusal :=
  act (fun s => s.regWrite m (Reg.TDC_CH_CTRL c) (fun s => s.chanWrite c (fun s => s.chanCtrl c data))) s

/-! ### Measurement instructions -/

/-- MCFG and MCFGT: the claim of an unclaimed channel, and the write (R375). -/
def State.mcfg (s : State) (p c : Nat) (f : State → State × Bool) : State :=
  let o := (s.chan c).owner
  if o ≠ 0 ∧ o ≠ p + 1 then s.finish p (fun q => { q with c := true })
  else
    let r := f (s.modChan c (fun ch => { ch with owner := p + 1 }))
    r.1.finish p (fun q => { q with c := !r.2 })

/-- MCFG (R375). -/
def execMcfg (p : PodId) (ra rb : GReg) (fn : Fin 8) (s : State) : Host.Outcome State Fault Refusal :=
  fin p (fun s => s.needCap p 3 (fun s =>
    let c := bitsOf ((s.pod p).rg ra) 0 5
    let v := ((s.pod p).rg rb).toNat
    s.mcfg p c (fun s => match fn.val with
      | 0 => s.chanCtrl c v
      | 1 => s.chanConf c 4 v
      | 2 => s.chanConf c 0x20 v
      | 3 => s.chanConf c 0x24 v
      | 4 => s.chanConf c 0x28 v
      | 5 => s.chanConf c 0x2C v
      | 6 => s.chanConf c 0x30 v
      | _ => s.chanConf c 0x38 v))) s

/-- MCFGT (R375). -/
def execMcfgt (p : PodId) (gX : GReg) (tA : TReg) (s : State) : Host.Outcome State Fault Refusal :=
  fin p (fun s => s.needCap p 3 (fun s =>
    let c := bitsOf ((s.pod p).rg gX) 0 5
    s.mcfg p c (fun s => s.chanConf c 0x10 ((s.pod p).rt tA)))) s

/-- MREL (R375). -/
def execMrel (p : PodId) (ra : GReg) (s : State) : Host.Outcome State Fault Refusal :=
  fin p (fun s => s.needCap p 3 (fun s =>
    let c := bitsOf ((s.pod p).rg ra) 0 5
    if (s.chan c).owner = p + 1 then (s.releaseChan c).finish p (fun q => { q with c := false })
    else s.finish p (fun q => { q with c := true }))) s

/-- MPOP (R375). -/
def execMpop (p : PodId) (rd ra : GReg) (qual : Bool) (s : State) : Host.Outcome State Fault Refusal :=
  fin p (fun s => s.needCap p (if qual then 4 else 3) (fun s =>
    let a := ((s.pod p).rg ra).toNat
    s.unlessFault p (dmemFault a 8 32) (fun s =>
      match if qual then s.tdc.qPod1 else tabGet [] s.tdc.qOwn p with
      | [] => s.finish p (fun q => { q with c := true })
      | r :: rest =>
        let s := if qual then { s with tdc := { s.tdc with qPod1 := rest } }
          else { s with tdc := { s.tdc with qOwn := tabSet [] s.tdc.qOwn p rest } }
        (s.dmemWrite p a (measBytes r)).finish p (fun q =>
          { q.wg rd (BitVec.ofNat 64 rest.length) with c := false })))) s

/-! ### The telemetry stream takes its queue -/

/-- The SOURCE of a measurement record: of the Pod that claims its channel (R461). -/
def State.measSource (s : State) (c : Nat) : Nat := (s.chan c).owner - 1

/-- The TEL takes every record of its queue: those of the channels set in TEL_MEAS go into the stream, the others leave
uncounted (R459). -/
def State.telIntake (s : State) : State :=
  let recs := s.tdc.qTel
  let s := { s with tdc := { s.tdc with qTel := [] } }
  recs.foldl (fun (s : State) r =>
    if s.fld Reg.TEL_CFG Reg.TEL_CFG_MEAS = 1 ∧ getBits (s.reg Reg.TEL_MEAS) r.chan 1 = 1 then
      s.telStage 0x0001 (s.measSource r.chan) (measBytes r)
    else s) s

end Sys2Proof.Machine
end

