-- ==== Sys2Proof/Machine/TwnOps.lean ====
section
/-! DEFINITION. TWIN_LOCK and steering authority: what releases the line, and the claim that Pod 0 keeps (R347 to R349). -/

namespace Sys2Proof.Machine

/-- Changes the twin island. -/
def State.modTwn (s : State) (f : TwnState → TwnState) : State := { s with twn := f s.twn }

/-- The twin state: 0 DISABLED, 1 DETACHED, 2 PAIRED, 3 ALONE (R346). -/
def State.twinState (s : State) : Nat := s.fld Reg.TWN_STATUS Reg.TWN_STATUS_STATE

/-- TWN_CFG.EN. -/
def State.inTwin (s : State) : Bool := s.fld Reg.TWN_CFG Reg.TWN_CFG_EN = 1

/-- TWN_CFG.SIDE. -/
def State.twinSide (s : State) : Nat := s.fld Reg.TWN_CFG Reg.TWN_CFG_SIDE

/-- AUTH: 0 NONE, 1 HOLDER, 2 FOLLOWER, 3 CLAIMING (R347, R357). -/
def State.twinAuth (s : State) : Nat := s.fld Reg.TWN_STATUS Reg.TWN_STATUS_AUTH

/-- The engine holds steering authority (R347). -/
def State.holder (s : State) : Bool := decide (s.twinAuth = 1)

/-- AUTH changes, and the change is journaled with its cause: 0 claim, 1 release, 2 conflict, 3 handover (R356). -/
def State.setAuth (s : State) (a cause : Nat) : State :=
  if s.twinAuth = a then s
  else (s.setFld Reg.TWN_STATUS Reg.TWN_STATUS_AUTH a).journal 0x17 0x0041 (natLe 1 s.twinAuth ++ natLe 1 a ++ natLe 1 cause)

/-- The line is released and the claim withdrawn (R348). -/
def State.twinRelease (s : State) (cause : Nat) : State :=
  let pulled := s.twn.pull
  let s := s.modTwn (fun t => { t with claim := false, pull := false })
  if pulled then s.setAuth 0 cause else s

/-- A claim may be requested and the line pulled: PAIRED or ALONE, no C3 fault, no STALL of the steer watchdog, and a
timebase that counts (R348, R349). -/
def State.mayClaim (s : State) : Bool :=
  decide (2 ≤ s.twinState) && !s.flt.fatalLow && decide (s.fld Reg.ENS_ISL_STATUS Reg.ENS_ISL_STATUS_STALL = 0) && s.tbRuns

/-- What the peer's latest heartbeat says: over the link where that path is present, else over the pins. -/
def State.peerSays (s : State) : Option PeerSays :=
  if s.fld Reg.TWN_STATUS Reg.TWN_STATUS_LINKPATH = 1 then s.twn.link
  else if s.fld Reg.TWN_STATUS Reg.TWN_STATUS_HBPATH = 1 then s.twn.hb
  else none

/-- The peer reports LOCKED or HOLDOVER with the bound flag set (R349, R350). -/
def peerFit (x : PeerSays) : Bool := (x.ts % 8 == 2 || x.ts % 8 == 3) && x.bound

/-- The claim that the resident program on Pod 0 keeps, evaluated at its update; `hold` is YIELD_HOLD in ticks (R349). -/
def State.keepClaim (s : State) (hold : Nat) : State :=
  let st := s.fld Reg.ENS_TS Reg.ENS_TS_STATE
  let yields := (st == 0 || st == 4) && (match s.peerSays with | some x => peerFit x | none => false)
  let held : Bool := match s.ens.yieldTo with
    | some t => decide (s.tkp.rawcnt < t)
    | none => false
  if !(decide (2 ≤ s.twinState)) then s
  else if yields then
    (if s.twn.claim || s.twn.pull then
      ({ s with ens := { s.ens with yieldTo := some (s.tkp.rawcnt + hold) } } : State).twinRelease 1
     else s)
  else if held || s.twn.handover.isSome then s
  else if s.mayClaim then s.modTwn (fun t => { t with claim := true })
  else s

/-- TWCLM: a claim is requested; C := 1 in DISABLED and DETACHED (R381). -/
def execTwclm (p : PodId) (s : State) : Host.Outcome State Fault Refusal :=
  fin p (fun s => s.needCap p 15 (fun s =>
    if s.twinState < 2 then s.finish p (fun q => { q with c := true })
    else (if s.mayClaim then s.modTwn (fun t => { t with claim := true }) else s).finish p (fun q => { q with c := false }))) s

/-- TWREL: the line is released and the claim withdrawn (R348, R380). -/
def execTwrel (p : PodId) (s : State) : Host.Outcome State Fault Refusal :=
  fin p (fun s => s.needCap p 15 (fun s => (s.twinRelease 1).finish p (fun q => q))) s

end Sys2Proof.Machine
end

