-- ==== Sys2Proof/Machine/RefOps.lean ====
section
/-! DEFINITION. What Pod 1's qualification program knows of the references: their channels, phase values, tests and
bound terms (R104 to R117, R176, R177). -/

namespace Sys2Proof.Machine

/-! ### Access -/

/-- What Pod 1 keeps of a reference. -/
def State.track (s : State) (m : Nat) : RefTrack := tabGet RefTrack.reset s.ref.track m

/-- Changes what Pod 1 keeps of a reference. -/
def State.modTrack (s : State) (m : Nat) (f : RefTrack → RefTrack) : State :=
  { s with ref := { s.ref with track := tabMod RefTrack.reset s.ref.track m f } }

/-- REF_STATE.STATE: 0 DISABLED, 1 QUALIFYING, 2 AVAILABLE, 3 SELECTED, 4 SUSPECT, 5 FAILED (R112). -/
def State.refSt (s : State) (m : Nat) : Nat := s.fld (Reg.REF_STATE m) Reg.REF_STATE_STATE

/-- A reference is AVAILABLE or SELECTED. -/
def State.refOk (s : State) (m : Nat) : Bool := s.refSt m == 2 || s.refSt m == 3

/-- The channel of a reference, 0x3F for none. -/
def State.refChan (s : State) (m : Nat) : Nat := s.fld (Reg.REF_STATE m) Reg.REF_STATE_CHAN

/-- The reference that a channel measures, and true for the second channel of TW (R104). -/
def State.refOfChan (s : State) (c : Nat) : Option (Nat × Bool) :=
  match (List.range 18).find? (fun m => decide (s.refSt m ≠ 0) && decide (s.refChan m = c)) with
  | some m => some (m, false)
  | none => if c = 14 ∧ s.refSt 17 ≠ 0 then some (17, true) else none

/-- REF_FREQ of a REFIN in Hz. -/
def State.refFreq (s : State) (m : Nat) : Nat := max 1 (s.paramN (0x140 + m))

/-- A reference that gives pulses: all but REFIN. -/
def isPulse (m : Nat) : Bool := decide (8 ≤ m)

/-- A reference carries time: all but REFIN (R123). -/
def carriesTime (m : Nat) : Bool := decide (8 ≤ m ∧ m < 18)

/-! ### Channels -/

/-- The TDC source of a reference (R104, R342). -/
def refSrc (m : Nat) : Nat :=
  if m < 12 then m else if m = 12 then 44 else if m < 17 then 40 + (m - 13) else 11

/-- The channels that a reference may take, in order (R104, R105). -/
def State.refChans (s : State) (m : Nat) : List Nat :=
  if m < 12 then [m]
  else if m = 12 then [12]
  else if m = 17 then [13]
  else [15] ++ (if s.param 0x12C = 0xFF then [12] else []) ++ (if s.param 0x131 = 0xFF then [13, 14] else [])

/-- A channel that Pod 1 may take: no other Pod claims it and no reference has it. -/
def State.chanFree (s : State) (c : Nat) : Bool :=
  ((s.chan c).owner == 0 || (s.chan c).owner == 2) && (s.refOfChan c).isNone

/-- Pod 1 sets up and enables a channel (R104): periodic arming with a period of 1,000 µs and a timeout of 500 µs, or
ARMAT with a timeout in µs. Conversions are on VC0. -/
def State.takeChan (s : State) (c src : Nat) (periodic : Bool) (sto : Nat) : State :=
  let s := s.modChan c (fun ch => { ch with owner := 2 })
  let ctl := s.reg (Reg.TDC_CH_CTRL c)
  let keep := setBits (setBits 0 16 1 (ctl / 2 ^ 16)) 5 1 (ctl / 32)
  let s := (s.chanCtrl c keep).1
  let s := (s.chanConf c 4 src).1
  let s := if periodic then (s.chanConf c 0x28 1000).1 else s
  let s := (s.chanConf c 0x30 sto).1
  let s := (s.chanCtrl c (setBits (setBits keep 8 4 (if periodic then 5 else 0)) 0 1 1)).1
  let s := { s with ref := { s.ref with seqs := tabSet 0 s.ref.seqs c 0 } }
  if periodic || !s.armable c || s.armBlocked c (s.tkp.rawcnt + 1) then s else s.openArm c (s.tkp.rawcnt + 1)

/-- Pod 1 enables the channels of a reference (R104). -/
def State.refChannels (s : State) (m c : Nat) : State :=
  if m < 8 then
    let f := s.refFreq m
    if 10000 ≤ f then s.takeChan c m true 500 else s.takeChan c m false ((2000000 + f - 1) / f + 100)
  else
    let s := s.takeChan c (refSrc m) false 1100000
    if m = 17 then s.takeChan 14 7 true 500 else s

/-- A reference releases its channels, and their EN is cleared (R113). -/
def State.refRelease (s : State) (m : Nat) : State :=
  let c := s.refChan m
  let s := if c < 32 ∧ (s.chan c).owner = 2 then s.releaseChan c else s
  let s := if m = 17 ∧ (s.chan 14).owner = 2 then s.releaseChan 14 else s
  s.setFld (Reg.REF_STATE m) Reg.REF_STATE_CHAN 0x3F

/-- The channel is re-armed after a record (R104; notes/assumptions/15). -/
def State.reArm (s : State) (c : Nat) : State :=
  if s.fld (Reg.TDC_CH_CTRL c) Reg.TDC_CH_CTRL_ARMSRC = 0 ∧ s.armable c = true ∧ s.armBlocked c (s.tkp.rawcnt + 1) = false then
    s.openArm c (s.tkp.rawcnt + 1)
  else s

/-! ### Phase values -/

/-- The absolute value of a rational. -/
def absQ (x : Rat) : Rat := if x < 0 then -x else x

/-- The nearest whole number. -/
def nearest (x : Rat) : Int := (x + 1 / 2).floor

/-- The phase value at a VC0 second. -/
def RefTrack.xAt (r : RefTrack) (sec : Int) : Option Rat := (r.hist.find? (fun h => h.1 = sec)).map (·.2)

/-- The phase value of a second enters the history of 30,001 s. -/
def RefTrack.push (r : RefTrack) (sec : Int) (x : Rat) : RefTrack :=
  { r with hist := ((sec, x) :: r.hist.filter (fun h => h.1 ≠ sec)).take 30001 }

/-- The seconds that the history spans (R116). -/
def RefTrack.span (r : RefTrack) : Int :=
  match r.hist.head?, r.hist.getLast? with
  | some a, some b => a.1 - b.1
  | _, _ => 0

/-- A record of a REFIN: its time modulo the nominal period, unwrapped against the phase before (R106). -/
def RefTrack.refin (r : RefTrack) (period : Rat) (gt : Gt) : RefTrack :=
  let raw := fuToPs (gt % fuSec)
  let near : Rat := match r.hist.head? with
    | some h => h.2
    | none => if r.accN = 0 then 0 else r.accSum / r.accN
  let x := raw + (nearest ((near - raw) / period) : Rat) * period
  { r with accSum := r.accSum + x, accN := r.accN + 1 }

/-- A phase difference in ps between −0.5 s and 0.5 s. -/
def wrapSec (x : Rat) : Rat := x - (nearest (x / 1000000000000) : Rat) * 1000000000000

/-- An accepted pulse lies within ±`w` ps of its expectation, or 1 s after the pulse seen last (R107). -/
def RefTrack.accepts (r : RefTrack) (gt : Gt) (x w : Rat) : Bool :=
  let inside (d : Rat) : Bool := decide (-w ≤ d) && decide (d ≤ w)
  match r.expect with
  | some e => inside (wrapSec (x - e))
  | none => match r.lastSeen with
    | some g => inside (fuToPs (gt - g) - 1000000000000)
    | none => false

/-- REF_TOD_CFG in force at the message boundary (R127). -/
def State.todCfg (s : State) (n : Nat) : Nat := tabGet (resetVal (Reg.REF_TOD_CFG n)) s.ref.todCfg n

/-- A message boundary of TODINn: a changed configuration takes effect; the first label after a change of BAUD or FMT counts as a
first label (R127). -/
def State.todBoundary (s : State) (n : Nat) : State :=
  let old := s.todCfg n
  let new := s.reg (Reg.REF_TOD_CFG n)
  let fresh := decide (old / 2 ^ 9 % 8 ≠ new / 2 ^ 9 % 8) || decide (old / 16 % 4 ≠ new / 16 % 4)
  { s with ref := { s.ref with
    todCfg := tabSet (resetVal (Reg.REF_TOD_CFG n)) s.ref.todCfg n new
    todLast := if fresh then tabSet none s.ref.todLast n none else s.ref.todLast } }

/-- ToD labels are due for a reference (R109). -/
def State.todOn (s : State) (m : Nat) : Bool := decide (8 ≤ m ∧ m < 12) && decide (s.todCfg (m - 8) % 2 = 1)

/-- The label that a slave instance gave with the pulse of reference `m` measured at tick `k`, where the pulse has a valid one
(R110, R284). -/
def State.psLabel (s : State) (m k : Nat) : Option Int :=
  (List.range 8).findSome? (fun i =>
    let x := tabGet PtpInst.reset s.ptp.inst i
    match x.cfg with
    | some c =>
      if c.role = 1 ∧ 13 + c.ps = m then
        (x.pulses.find? (fun y => decide (((s.vcAt c.vc k - y.1).natAbs : Int) < fuSec / 4))).bind
          (fun y => if y.2.2 then some y.2.1 else none)
      else none
    | none => none)

/-- The label of an accepted pulse of VC0 second `n`, measured at tick `k`, and the count of pulses without a ToD label (R108 to
R110). -/
def State.pulseLabel (s : State) (m : Nat) (n : Int) (k : Nat) : State :=
  let r := s.track m
  let got : Option Int := if 13 ≤ m ∧ m < 17 then s.psLabel m k else (r.labels.find? (fun x => x.1 = n)).map (·.2)
  let precedes := s.todOn m && decide (s.todCfg (m - 8) / 256 % 2 = 1)
  if precedes then
    let missed : Bool := match r.lastPulse with
      | some p => decide (r.label.map (·.1) ≠ some p)
      | none => false
    s.modTrack m (fun r => { r with noLabel := if missed then r.noLabel + 1 else 0 })
  else match got with
    | some l => s.modTrack m (fun r => { r with label := some (n, l), noLabel := 0 })
    | none => if s.todOn m then s.modTrack m (fun r => { r with noLabel := r.noLabel + 1 }) else s

/-- A pulse record of a reference (R106, R107). No ToD message runs at a pulse, so it is a message boundary as well (R108, R127;
DESIGN CHOICE, notes/assumptions/169). -/
def State.pulseRec (s : State) (m : Nat) (gt : Gt) (k : Nat) : State :=
  let n := (gt + fuSec / 2) / fuSec
  let x := fuToPs (gt - n * fuSec)
  let s := if 8 ≤ m ∧ m < 12 then s.todBoundary (m - 8) else s
  let r := s.track m
  if r.accepts gt x ((s.param 0x107 : Int) * 1000000000) then
    (s.pulseLabel m n k).modTrack m (fun r => { r.push n x with expect := some x, lastSeen := some gt, lastPulse := some n, noStop := 0 })
  else
    let rej := (gt :: r.rejAt).filter (fun g => gt - 10 * fuSec < g)
    (s.modTrack m (fun r => { r with lastSeen := some gt, rejAt := rej, burst := r.burst || decide (4 < rej.length), noStop := 0 })).incFld
      (Reg.REF_CNT m) Reg.REF_CNT_REJECT 1

/-- A record of a channel: lost ones show as a jump in SEQ (R98, R106); NO_STOP and OVERRANGE give no value (R86, R104). -/
def State.refRecord (s : State) (m : Nat) (second : Bool) (r : MeasRec) : State :=
  let exp := tabGet 0 s.ref.seqs r.chan
  let gap := if exp = 0 then 0 else (r.seq + 2 ^ 32 - exp % 2 ^ 32) % 2 ^ 32
  let s := { s with ref := { s.ref with seqs := tabSet 0 s.ref.seqs r.chan (r.seq + 1) } }
  let noStop := decide (r.flags % 2 = 1)
  let void := noStop || decide (r.flags / 64 % 2 = 1)
  if second then s.modTrack m (fun t => { t with noStop2 := if noStop then t.noStop2 + 1 else 0 })
  else
    let s := s.modTrack m (fun t => { t with missed := t.missed + gap + bit void, noStop := if noStop then t.noStop + 1 else t.noStop
                                             lastFlags := r.flags })
    if void then s
    else
      if isPulse m then s.pulseRec m r.gt r.tick
      else s.modTrack m (fun t => { t.refin (1000000000000 / (s.refFreq m : Rat)) r.gt with noStop := 0 })

/-- The phase value less the build-out of a reference at a second. -/
def State.seen (s : State) (m : Nat) (sec : Int) : Option Rat :=
  ((s.track m).xAt sec).map (fun x => x - tabGet 0 s.ref.buildOut m)

/-! ### Loss of signal -/

/-- Loss of signal of an enabled reference at VC0 second `sec` (R104, R111, R346). -/
def State.refLos (s : State) (m : Nat) (sec : Int) : Bool :=
  let r := s.track m
  let pulses := decide (3 ≤ sec - max (r.lastPulse.getD r.qualSince) (min r.qualSince sec))
  if m < 8 then decide ((if 10000 ≤ s.refFreq m then 8 else 3) ≤ r.noStop)
  else if m = 12 then pulses || decide (s.ref.gnVerdict = 1)
  else if 13 ≤ m ∧ m < 17 then pulses || (match r.outFrom with | some o => decide (3 ≤ sec - o) | none => false)
  else if m = 17 then pulses || decide (8 ≤ r.noStop2) || decide (s.twinState ≠ 2)
  else pulses

/-- The signal of a reference is present at a VC0 second: measured within it, and not out by R104. -/
def State.refPresent (s : State) (m : Nat) (sec : Int) : Bool :=
  let r := s.track m
  !s.refLos m sec
    && (if m < 8 then decide (r.noStop = 0) && (match r.hist.head? with | some h => decide (h.1 = sec) | none => false)
        else match r.lastPulse with | some p => decide (sec - 1 ≤ p) | none => false)
    && (decide (m < 13) || decide (m = 17) || r.outFrom.isNone)

/-! ### Tests -/

/-- A breach of a test: the cause, the widening in ps, and the interval covered in s (R116, R117). -/
structure Breach where
  cause : Nat
  value : Rat
  span  : Rat
deriving DecidableEq, Repr

/-- A determinant of order 3. -/
def det3 (a b c d e f g h i : Rat) : Rat := a * (e * i - f * h) - b * (d * i - f * g) + c * (d * h - e * g)

/-- d of the least-squares fit x = a + y·t + d·t²/2, in ps/s² (R116). -/
def fitDrift (l : List (Rat × Rat)) : Rat :=
  let sum (f : Rat × Rat → Rat) : Rat := (l.map f).sum
  let n := sum (fun _ => 1)
  let t1 := sum (fun p => p.1)
  let t2 := sum (fun p => p.1 * p.1)
  let t3 := sum (fun p => p.1 * p.1 * p.1)
  let t4 := sum (fun p => p.1 * p.1 * p.1 * p.1)
  let x0 := sum (fun p => p.2)
  let x1 := sum (fun p => p.1 * p.2)
  let x2 := sum (fun p => p.1 * p.1 * p.2)
  let d := det3 n t1 t2 t1 t2 t3 t2 t3 t4
  if d = 0 then 0 else 2 * det3 n t1 x0 t1 t2 x1 t2 t3 x2 / d

/-- The phase values of a history second by second, oldest first; none where a second has no value. -/
def perSecond : List (Int × Rat) → List (Option Rat)
  | [] => []
  | (n, x) :: rest => go n rest [some x]
where
  /-- The older values, with the seconds between them. -/
  go (n : Int) : List (Int × Rat) → List (Option Rat) → List (Option Rat)
    | [], acc => acc
    | (k, y) :: rest, acc => go k rest (some y :: (List.replicate (n - k - 1).toNat none ++ acc))

/-- A term of the time variance at `n` seconds, from 3n consecutive phase values. -/
def tvarTerm (n : Nat) (l : List Rat) : Rat :=
  let third (k : Nat) : Rat := ((l.drop (k * n)).take n).sum
  third 2 - 2 * third 1 + third 0

/-- The time variance at `n` seconds from 1 s phase values, in ps², over the terms whose seconds all have a value; none
without such a term (R116; notes/assumptions/164). -/
def tvar (xs : List (Option Rat)) (n : Nat) : Option Rat :=
  let terms := (List.range (xs.length + 1 - 3 * n)).filterMap (fun j =>
    let l := (xs.drop j).take (3 * n)
    if l.all Option.isSome then some (tvarTerm n (l.filterMap id)) else none)
  if terms = [] then none
  else some ((terms.map (fun a => a * a)).sum / (6 * (n : Rat) * n * terms.length))

/-- The entries of the mask before its end: τ and limit (R125). -/
def State.tdevMask (s : State) : List (Nat × Nat) :=
  ((List.range 8).map (fun k => let v := s.paramRaw (0x180 + k); (v / 2 ^ 32, v % 2 ^ 32))).takeWhile (fun e => e.2 ≠ 0)

/-- The phase values that have come since the last evaluation, newest first: without one the second's tests are absent (R106). -/
def RefTrack.news (r : RefTrack) (sec : Int) : List (Int × Rat) :=
  r.hist.takeWhile (fun h => decide (sec - 1 ≤ h.1) && r.testedAt.all (fun t => decide (t < h.1)))

/-- The short test: y over 1 s, the largest of those not tested before; none when it is absent (R106, R116). -/
def RefTrack.yShort (r : RefTrack) (sec : Int) : Option Rat :=
  if r.thin then none
  else ((r.news sec).filterMap (fun h => (r.xAt (h.1 - 1)).map (fun y => (h.2 - y) / 1000000000000))).foldl
    (fun (acc : Option Rat) y => match acc with | some a => some (if absQ a < absQ y then y else a) | none => some y) none

/-- The medium test: y over up to 100 s; none when it is not evaluated (R116). -/
def RefTrack.yMedium (r : RefTrack) (sec : Int) : Option Rat :=
  let tau := min 100 r.span
  match r.news sec with
  | (n, x) :: _ =>
    if sec % 10 ≠ 0 ∨ tau < 10 then none
    else (r.xAt (n - tau)).map (fun y => (x - y) / ((tau : Rat) * 1000000000000))
  | [] => none

/-- The long test: d in ps/s²; none when it is not evaluated (R116). -/
def RefTrack.dLong (r : RefTrack) (sec : Int) : Option Rat :=
  match r.news sec with
  | (n, _) :: _ =>
    if sec % 1000 ≠ 0 ∨ r.span < 1000 then none
    else some (fitDrift ((r.hist.filter (fun h => n - 10000 ≤ h.1)).map (fun h => (((h.1 - n : Int) : Rat), h.2))))
  | [] => none

/-- The TDEV test: the time variance and the limit at every mask point evaluated (R116). -/
def State.tdevPoints (s : State) (r : RefTrack) (sec : Int) : List (Rat × Rat) :=
  match r.news sec with
  | (n, _) :: _ =>
    if sec % 100 ≠ 0 ∨ r.span < 3 then []
    else
      let xs := perSecond (r.hist.filter (fun h => n - 30000 ≤ h.1))
      s.tdevMask.filterMap (fun e =>
        if 3 * e.1 + 1 ≤ xs.length then (tvar xs e.1).map (fun v => (v, (e.2 : Rat))) else none)
  | [] => []

/-- The least whole number whose square is not below a rational. -/
def sqrtUp (q : Rat) : Nat :=
  let n := q.ceil.toNat
  let r := Nat.sqrt n
  if r * r = n then r else r + 1

/-- The tests of R116 at a VC0 second: their breaches, and the track with the seconds of the passing evaluations. -/
def State.refTests (s : State) (m : Nat) (sec : Int) : List Breach × RefTrack :=
  let r := s.track m
  let ps : Rat := 1000000000000
  let dt (ok : Int) : Rat := ((sec - ok : Int) : Rat)
  let yS := r.yShort sec
  let bS := match yS with
    | some y => if absQ y ≤ freqQ (s.param 0x104) then [] else [⟨2, absQ y * dt r.okShort * ps, dt r.okShort⟩]
    | none => []
  let yM := r.yMedium sec
  let bM := match yM with
    | some y => if absQ y ≤ freqQ (s.param 0x105) then [] else [⟨3, absQ y * dt r.okMed * ps, dt r.okMed⟩]
    | none => []
  let dL := r.dLong sec
  let bL := match dL with
    | some d => if absQ d / ps * 86400 ≤ freqQ (s.param 0x106) then []
        else [⟨4, absQ d * dt r.okLong * dt r.okLong / 2, dt r.okLong⟩]
    | none => []
  let pts := s.tdevPoints r sec
  let bT := if pts.all (fun p => decide (p.1 ≤ p.2 * p.2)) then []
    else [⟨5, ((sqrtUp (16 * pts.foldl (fun a p => max a p.1) 0) : Nat) : Rat), dt r.okTdev⟩]
  let r := if yS.isSome ∧ bS = [] then { r with okShort := sec } else r
  let r := { r with testedAt := r.hist.head?.map (·.1) }
  let r := if yM.isSome then { r with yMed := yM, medAt := some sec, medOk := r.medOk || decide (bM = []), okMed := if bM = [] then sec else r.okMed } else r
  let r := if dL.isSome ∧ bL = [] then { r with okLong := sec } else r
  let r := if pts ≠ [] ∧ bT = [] then { r with okTdev := sec } else r
  (bS ++ bM ++ bL ++ bT, r)

/-- A label disagrees with the VC0 second of its pulse (R109, R110). -/
def State.labelWrong (s : State) (m : Nat) (sec : Int) : Bool :=
  match (s.track m).label with
  | some (n, l) => s.firstDone 0 && decide (m ≠ 12) && decide (sec - 2 ≤ n) && decide (l ≠ n)
  | none => false

/-- The input causes of a reference that count as breaches: 8 INPUT, 9 TOD_MISMATCH, 10 GNSS_CHECK, 11 UPSTREAM,
7 INNOVATION (R107, R109 to R111, R114, R346). -/
def State.refInputs (s : State) (m : Nat) (sec : Int) : List Nat :=
  let r := s.track m
  (if r.burst || (s.todOn m && s.firstDone 0 && decide (3 ≤ r.noLabel))
      || (m == 17 && decide (s.twinState = 2) && decide (s.fld Reg.TWN_STATUS Reg.TWN_STATUS_LINKPATH = 0)) then [8] else [])
    ++ (if s.labelWrong m sec then [9] else [])
    ++ (if m = 12 ∧ 2 ≤ s.ref.gnVerdict then [10] else [])
    ++ (match r.up with
        | some u => if 13 ≤ m ∧ m < 17 ∧ s.param 0x10C < (u.1 : Int) then [11] else []
        | none => [])
    ++ (if s.ref.biased.contains m then [7] else [])

/-- The breach that a cause outside R116 makes: |y_medium| × the time since the last passing medium evaluation (R117). -/
def RefTrack.inputBreach (r : RefTrack) (sec : Int) (cause : Nat) : Breach :=
  let dt : Rat := ((sec - r.okMed : Int) : Rat)
  ⟨cause, absQ (r.yMed.getD 0) * dt * 1000000000000, dt⟩

/-! ### Bound terms -/

/-- L0_m and flag UPSTREAM (R176, R182). -/
def State.refL0 (s : State) (m : Nat) : Nat × Nat :=
  let base := s.paramN (0x160 + m)
  if m < 8 then (0, 0)
  else if m = 12 then (4 * s.fld Reg.GNS_SIGMA Reg.GNS_SIGMA_VALUE + base, 0)
  else if m = 17 then (s.twn.peerBound.getD 0 + base, 0)
  else match (s.track m).up with
    | some (_, some l0, tlv) => if 13 ≤ m then (l0, if tlv then 0x100 else 0) else (base, 0)
    | _ => (base, 0)

/-- L1_m and flag TDC_DEGRADED (R177, R182). -/
def State.refL1 (s : State) (m : Nat) : Nat × Nat :=
  let base := s.paramN (0x1A0 + m)
  if (s.track m).lastFlags &&& 0x4B0 ≠ 0 then (base + 100, 0x200)
  else (base + (if s.chanPeriods (s.refChan m % 32) then 10 else 8), 0)

end Sys2Proof.Machine
end

