-- ==== Sys2Proof/Machine/EnsOps.lean ====
section
/-! DEFINITION. The parts of the ensemble: the schedule, noise models, the three-state filter, weights, the bandwidth of
the loop, the traceability source and its error, and the coefficients of the holdover model (R128 to R143, R156 to R163). -/

namespace Sys2Proof.Machine

/-! ### Access and schedule -/

/-- Changes the ensemble. -/
def State.modEns (s : State) (f : EnsState → EnsState) : State := { s with ens := f s.ens }

/-- A member. -/
def State.mem (s : State) (i : Nat) : Member := tabGet Member.reset s.ens.mem i

/-- Changes a member. -/
def State.modMem (s : State) (i : Nat) (f : Member → Member) : State :=
  s.modEns (fun e => { e with mem := tabMod Member.reset e.mem i f })

/-- ENS_MEM_STAT.STATUS: 0 EMPTY, 1 WAITING, 2 LEARNING, 3 RAMP, 4 ACTIVE, 5 FROZEN, 6 LEAVING (R131). -/
def State.memStat (s : State) (i : Nat) : Nat := s.fld (Reg.ENS_MEM_STAT i) Reg.ENS_MEM_STAT_STATUS

/-- ENS_MEM_STAT.SRC. -/
def State.memSrc (s : State) (i : Nat) : Nat := s.fld (Reg.ENS_MEM_STAT i) Reg.ENS_MEM_STAT_SRC

/-- Sets the status of a member. -/
def State.setMemStat (s : State) (i x : Nat) : State := s.setFld (Reg.ENS_MEM_STAT i) Reg.ENS_MEM_STAT_STATUS x

/-- The ensemble interval published, in ms: 2^(IVAL − 3) s (R155). -/
def State.ensIval (s : State) : Nat := 125 * 2 ^ s.fld Reg.ENS_SWDOG Reg.ENS_SWDOG_IVAL

/-- τ of Pod 0 in s. -/
def State.ensTau (s : State) : Rat := (s.ensIval : Rat) / 1000

/-- VC0 now in ms. -/
def State.nowMs (s : State) : Int := s.vcNow 0 / (1000000 * fuNs)

/-- The last interval boundary, in ms of VC0 (R23). -/
def State.ensBoundary (s : State) : Int := s.nowMs / s.ensIval * s.ensIval

/-- The last VC0 second before a boundary (R132). -/
def lastSec (b : Int) : Int := (b - 1) / 1000

/-- IVAL of an ENS_INTERVAL in ms. -/
def ivalCode (ms : Int) : Nat := ((List.range 10).find? (fun k => decide (ms = 125 * 2 ^ k))).getD 3

/-- A changed ENS_INTERVAL takes effect at the first VC0 time that is a whole multiple of the new one (R153). -/
def State.ensInterval (s : State) : State :=
  let p := s.param 0x001
  let due : Bool := match s.ens.eauAt with
    | some b => decide (b < s.nowMs / p * p)
    | none => true
  if s.runsResident 0 && due then s.setFld Reg.ENS_SWDOG Reg.ENS_SWDOG_IVAL (ivalCode p) else s

/-- SLEW_MAX (R53). -/
def State.slewMax (s : State) : Rat := freqQ (s.param 0x004)

/-- HOLDOVER_LEARN in s (R53). -/
def State.holdLearn (s : State) : Nat := s.paramN 0x002 * 3600

/-! ### Noise -/

/-- The classes of R129: q1, q2, q3. -/
def noiseClass : Nat → Rat × Rat × Rat
  | 1 => (1 / 10 ^ 24, 27 / 10 ^ 27, 1 / 10 ^ 40)
  | 2 => (1 / 10 ^ 22, 3 / 10 ^ 31, 1 / 10 ^ 45)
  | 3 => (25 / 10 ^ 24, 3 / 10 ^ 35, 0)
  | 4 => (1 / 10 ^ 26, 3 / 10 ^ 36, 1 / 10 ^ 46)
  | _ => (1 / 10 ^ 24, 1 / 10 ^ 30, 0)

/-- A noise parameter as a number. -/
def State.noiseParam (s : State) (id : Nat) : Rat := fpToRat (BitVec.ofNat 64 (s.paramRaw id))

/-- MEM_CLASS of a member. -/
def State.memClass (s : State) (i : Nat) : Nat := s.paramN (0x028 + i)

/-- q1, q2 and q3 of a member (R129). -/
def State.memNoise (s : State) (i : Nat) : Rat × Rat × Rat :=
  if s.memClass i = 0 then (s.noiseParam (0x030 + i), s.noiseParam (0x038 + i), s.noiseParam (0x040 + i))
  else noiseClass (s.memClass i)

/-- The measurement variance of a source kind (R130). -/
def sourceR (src : Nat) : Rat :=
  if src < 8 then 1 / 10 ^ 24
  else if src < 12 ∨ src = 17 then 4 / 10 ^ 24
  else if src = 12 then 225 / 10 ^ 20
  else if src < 17 then 1 / 10 ^ 18
  else 0

/-- R of a member: MEM_R, or that of its source kind while MEM_R is 0 (R130). -/
def State.memR (s : State) (i src : Nat) : Rat :=
  if s.noiseParam (0x048 + i) = 0 then sourceR src else s.noiseParam (0x048 + i)

/-! ### The filter -/

/-- The prediction of the filter over τ with the noise of the member and of M0, and the known input u0 (R133). -/
def Member.predict (m m0 : Member) (tau u0 : Rat) : Member :=
  let h := tau * tau / 2
  let q1 := m.q1 + m0.q1
  let q2 := m.q2 + m0.q2
  let q3 := m.q3 + m0.q3
  let a00 := m.pxx + tau * m.pxy + h * m.pxd
  let a01 := m.pxy + tau * m.pyy + h * m.pyd
  let a02 := m.pxd + tau * m.pyd + h * m.pdd
  let a11 := m.pyy + tau * m.pyd
  let a12 := m.pyd + tau * m.pdd
  { m with
    zx := m.zx + tau * m.zy + h * m.zd
    zy := m.zy + tau * m.zd - u0
    pxx := a00 + tau * a01 + h * a02 + (q1 * tau + q2 * tau ^ 3 / 3 + q3 * tau ^ 5 / 20)
    pxy := a01 + tau * a02 + (q2 * tau ^ 2 / 2 + q3 * tau ^ 4 / 8)
    pxd := a02 + q3 * tau ^ 3 / 6
    pyy := a11 + tau * a12 + (q2 * tau + q3 * tau ^ 3 / 3)
    pyd := a12 + q3 * tau ^ 2 / 2
    pdd := m.pdd + q3 * tau }

/-- An innovation that is not applied: it enters the mean as ±OUTLIER_K (R133, R134). -/
def Member.outlier (m : Member) (nu k : Rat) : Member :=
  { m with nu := nu, outl := m.outl + 1, outRun := m.outRun + 1, sn := ((if nu < 0 then -k else k) :: m.sn).take 1024 }

/-- The square root of a number that is not negative, as the nearest binary64 (R133; DESIGN CHOICE of the format,
notes/assumptions/27). -/
def sqrtQ (x : Rat) : Rat := fpToRat (fpSqrt (fpOfRat x)).1

/-- The measurement step of the filter with the innovation `nu` (R133). -/
def Member.measure (m : Member) (nu : Rat) : Member :=
  let v := m.pxx + m.r
  let kx := m.pxx / v
  let ky := m.pxy / v
  let kd := m.pxd / v
  { m with
    nu := nu, outRun := 0, sn := (nu / sqrtQ v :: m.sn).take 1024
    zx := m.zx + kx * nu, zy := m.zy + ky * nu, zd := m.zd + kd * nu
    pxx := m.pxx - kx * m.pxx, pxy := m.pxy - kx * m.pxy, pxd := m.pxd - kx * m.pxd
    pyy := m.pyy - ky * m.pxy, pyd := m.pyd - ky * m.pxd, pdd := m.pdd - kd * m.pxd }

/-- The state of a filter at LEARNING entry (R133). -/
def Member.start (m : Member) (x : Rat) : Member :=
  { m with init := false, zx := x, zy := 0, zd := 0, pxx := m.r, pxy := 0, pxd := 0, pyy := 1 / 10 ^ 16, pyd := 0,
           pdd := 1 / 10 ^ 34, sn := [], outRun := 0, outl := 0, nu := 0 }

/-- One update of the filter of a member; `x` is X_i0, none when it is absent. The innovation is taken modulo 1 s, since
x_i holds no whole seconds (notes/assumptions/18). -/
def Member.update (m m0 : Member) (tau u0 k : Rat) (x : Option Rat) : Member :=
  if m.init then (match x with | some v => m.start v | none => m)
  else
    let p := m.predict m0 tau u0
    match x with
    | none => { p with outRun := 0 }
    | some v =>
      let nu := (v - p.zx) - (nearest (v - p.zx) : Rat)
      if k * k * (p.pxx + p.r) < nu * nu then p.outlier nu k else p.measure nu

/-- VC0 minus LO time at a VC0 second, in s, exact from the parameter sets of the TKP (R132). -/
def State.loOffset (s : State) (sec : Int) : Rat :=
  let g : Gt := sec * fuSec
  let c := s.vcSetAt 0 (tickOf (s.vcSet 0) g)
  (sec : Rat) - ((g - c.off : Int) : Rat) * 18446744073709551616 / ((18446744073709551616 + c.rate : Int) : Rat) / 4294967296000000000

/-- What the EAU has of a channel. -/
def State.eauChan (s : State) (c : Nat) : EauChan := tabGet ⟨[], []⟩ s.ens.eau c

/-- A record of a REFIN enters the mean of its second: its time within the second, taken nearest to the second's first record
modulo the nominal period (R106). -/
def eauMean (l : List (Int × Rat × Rat × Nat)) (period : Rat) (gt : Gt) : List (Int × Rat × Rat × Nat) :=
  let sec := gt / fuSec
  let raw := fuToPs (gt % fuSec)
  match l with
  | (n, b, sum, k) :: rest =>
    if n = sec then
      let d := raw - b
      (n, b, sum + (d - (nearest (d / period) : Rat) * period), k + 1) :: rest
    else (sec, raw, 0, 1) :: l.take 2
  | [] => [(sec, raw, 0, 1)]

/-- The EAU takes the records of its queue; NO_STOP and OVERRANGE give no measurement (R21, R86, R132). A record lost for the EAU is
a measurement that it does not have. It takes them at each tick in which no command waits and at its update (DESIGN CHOICE,
notes/assumptions/170). -/
def State.eauTake (s : State) : State :=
  if s.tdc.qEau = [] then s
  else
    let s := s.tdc.qEau.foldl (fun s r =>
      if r.flags % 2 = 1 ∨ r.flags / 64 % 2 = 1 then s
      else
        let c := s.eauChan r.chan
        let c : EauChan := { pulses := (r.gt, r.tick) :: c.pulses.take 3
                             secs := if r.chan < 8 then eauMean c.secs (1000000000000 / (s.refFreq r.chan : Rat)) r.gt else c.secs }
        s.modEns (fun e => { e with eau := tabSet ⟨[], []⟩ e.eau r.chan c })) s
    { s with tdc := { s.tdc with qEau := [] } }

/-- x_i of a reference at a VC0 second for the update of the boundary `b` in ms: Pod 1's value, where the EAU itself has a record of
that pulse whose edge lies before the boundary; for a REFIN the mean of the EAU's own records of the second before, unwrapped to Pod
1's value (R21, R23, R106, R132). -/
def State.eauX (s : State) (src : Nat) (sec b : Int) : Option Rat :=
  let c := s.eauChan (s.refChan src)
  match (s.track src).xAt sec with
  | none => none
  | some x =>
    if src < 8 then
      (c.secs.find? (fun y => y.1 = sec - 1)).map (fun y =>
        let m := y.2.1 + y.2.2.1 / ((max 1 y.2.2.2 : Nat) : Rat)
        let p : Rat := 1000000000000 / (s.refFreq src : Rat)
        m + (nearest ((x - m) / p) : Rat) * p)
    else
      let edge := tickOf (s.vcSet 0) (b * 1000000 * fuNs)
      if c.pulses.any (fun y => decide (fuToPs (y.1 - sec * fuSec) = x) && decide (y.2 < edge)) then some x else none

/-- X_i0 at a VC0 second for the update of a boundary (R132). -/
def State.memX (s : State) (src : Nat) (sec b : Int) : Option Rat :=
  (s.eauX src sec b).map (fun x => s.loOffset sec - x / 1000000000000)

/-! ### Weights -/

/-- P_i (R135). -/
def phaseVar (q : Rat × Rat × Rat) (t : Rat) : Rat := q.1 * t + q.2.1 * t ^ 3 / 3 + q.2.2 * t ^ 5 / 20

/-- The passes of R135: members with their a_i, those capped so far, and the cap. -/
def capWeights (l : List (Nat × Rat)) (cap : Rat) : Nat → List Nat → List (Nat × Rat)
  | 0, _ => []
  | fuel + 1, capped =>
    let free := l.filter (fun x => !capped.contains x.1)
    let sum := (free.map (·.2)).sum
    let left := 1 - cap * capped.length
    let w := l.map (fun x => (x.1, if capped.contains x.1 then cap else left * x.2 / sum))
    let above := (w.filter (fun x => !capped.contains x.1 && decide (cap < x.2))).map (·.1)
    if above = [] then w else capWeights l cap fuel (capped ++ above)

/-- The weights of members with a_i above 0 (R135). -/
def weights (l : List (Nat × Rat)) (wcap : Rat) : List (Nat × Rat) :=
  if l = [] then [] else capWeights l (max wcap (1 / (l.length : Rat))) (l.length + 1) []

/-! ### The loop -/

/-- The bandwidth code in force: the largest one not above LOOP_BW whose f_bw does not exceed 0.125 Hz over the interval
(R142), for an interval in ms. -/
def bwCode (loopBw ms : Nat) : Nat :=
  ((List.range (loopBw + 1)).filter (fun c => decide (10 ^ (4 * c) * ms ^ 31 ≤ 1250000 ^ 31))).foldl max 0

/-- The binary64 nearest to π (R141; DESIGN CHOICE of the format, notes/assumptions/27). -/
def piQ : Rat := 884279719003555 / 281474976710656

/-- The largest whole number below 2^n + r whose 31st power is not above x, found bit by bit on top of `r`. -/
def root31 (x : Nat) : Nat → Nat → Nat
  | 0, r => r
  | n + 1, r => root31 x n (if (r + 2 ^ n) ^ 31 ≤ x then r + 2 ^ n else r)

/-- f_bw of a bandwidth code in Hz: 1.0E-4 × 10^(4c / 31) as the nearest binary64 (R142; notes/assumptions/27). -/
def bandwidth (c : Nat) : Rat :=
  fpToRat (fpOfRat ((root31 (10 ^ (4 * c) * 2 ^ (31 * 80)) 96 0 : Rat) / (2 ^ 80 * 10000)))

/-- ω of a bandwidth code (R141). -/
def omega (c : Nat) : Rat := 2 * piQ * bandwidth c

/-- A value held to ±limit; true when it was clamped. -/
def clampQ (x lim : Rat) : Rat × Bool := if lim < x then (lim, true) else if x < -lim then (-lim, true) else (x, false)

/-- The loop of R141: y_s, I_k, and whether y_s was clamped. -/
def loopStep (damp w tau slew i : Rat) (e : Option Rat) : Rat × Rat × Bool :=
  match e with
  | none => let c := clampQ (-i) slew; (c.1, i, c.2)
  | some e =>
    let i' := i + w * w * e * tau
    let c := clampQ (-(2 * damp * w * e + i')) slew
    (c.1, if c.2 then i else i', c.2)

/-! ### The traceability source -/

/-- SELECT_MODE is ENSEMBLE, as the last evaluation has taken it (R120), and applies: an engine of a twin without authority steers
toward TW alone while TW is AVAILABLE (R143). -/
def State.combining (s : State) : Bool :=
  decide (s.fld Reg.REF_SEL Reg.REF_SEL_MODE = 1) && !(s.inTwin && !s.holder && s.refOk 17)

/-- The references of the combination: all AVAILABLE ones; an engine of a twin with authority leaves TW out (R119, R143). -/
def State.combined (s : State) : List Nat :=
  (List.range 18).filter (fun m => s.refOk m && !(s.inTwin && s.holder && m == 17))

/-- The traceability source: its references with their v_m (R143). -/
def State.sources (s : State) : List (Nat × Rat) :=
  if s.combining then
    let l := s.combined.map (fun m => (m, 1 / ((max 1 ((s.track m).l0 + (s.track m).l1) : Nat) : Rat) ^ 2))
    let sum := (l.map (·.2)).sum
    l.map (fun x => (x.1, x.2 / sum))
  else match (List.range 18).find? (fun m => decide (s.refSt m = 3)) with
    | some m => [(m, 1)]
    | none => []

/-- TRACE of the source: a reference, 0x1E the combination, 0x1F none (R155). -/
def State.sourceNo (s : State) (l : List (Nat × Rat)) : Nat :=
  if l = [] then 0x1F else if s.combining then 0x1E else match l with | (m, _) :: _ => m | [] => 0x1F

/-- The source carries time: not a REFIN, nor a combination of REFINs alone (R161). -/
def timeSource (l : List (Nat × Rat)) : Bool := l.any (fun x => carriesTime x.1)

/-- e_k in s at a VC0 second, none when a term is absent (R141, R143). -/
def State.loopError (s : State) (l : List (Nat × Rat)) (sec : Int) : Option Rat :=
  l.foldl (fun acc x => match acc, s.seen x.1 sec with
    | some a, some v => some (a + x.2 * v / 1000000000000)
    | _, _ => none) (if l = [] then none else some 0)

end Sys2Proof.Machine
end

