-- ==== Sys2Proof/Machine/Eau.lean ====
section
/-! DEFINITION. The ensemble assist unit: its update at boundary + 10 ms, and the instructions that configure it (R132,
R133, R376). -/

namespace Sys2Proof.Machine

/-- Pod 0's resident program keeps the EAU's configuration as its parameters and the member statuses say: a member that
is EMPTY or WAITING has no source (R129 to R131, R376). -/
def State.eauRefresh (s : State) : State :=
  if s.runsResident 0 then
    let s := (List.range 8).foldl (fun s i =>
      let src := if 2 ≤ s.memStat i then s.memSrc i else 0x1F
      let q := s.memNoise i
      s.modMem i (fun m => { m with q1 := q.1, q2 := q.2.1, q3 := q.2.2, r := s.memR i src, src := src })) s
    s.modEns (fun e => { e with tau := s.ensTau, outlierK := ratioQ (s.param 0x010) })
  else s

/-- The EAU publishes z, P, nu and sn of every member from the start of the resident region of the commons on; the layout is open
(R37, R133; notes/assumptions/28). -/
def State.eauPublish (s : State) : State :=
  let l := (List.range 8).map (fun i =>
    let m := s.mem i
    [m.zx, m.zy, m.zd, m.pxx, m.pxy, m.pxd, m.pyy, m.pyd, m.pdd, m.nu, m.sn.headD 0].map fpOfRat)
  { s with commons := putBytes zeros s.commons 0x10000 ((Config.eauPublish l).take 0x40000) }

/-- The update of every member, with the event EAU for the Pods (R133, R371, R376). -/
def State.eauUpdate (s : State) (b : Int) : State :=
  let sec := lastSec b
  let s := s.eauTake
  let m0 := s.mem 0
  let e := s.ens
  let s := (List.range 8).foldl (fun s i =>
    let src := (s.mem i).src
    if i ≠ 0 ∧ src < 18 then s.modMem i (fun m => m.update m0 e.tau e.u0 e.outlierK (s.memX src sec b)) else s) s
  let s := (s.modEns (fun e => { e with updates := (e.updates + 1) % 2 ^ 32, u0Used := e.u0, u0 := 0, eauAt := some b })).eauPublish
  (List.range 8).foldl (fun s p => s.modPod p (fun q => { q with events := q.events ||| 16 })) s

/-- EAU_UPDATE: at boundary + 10 ms of each ensemble interval (R23, R133). -/
def execEauUpdate (t : Nat) (s : State) : Host.Outcome State Fault Refusal :=
  actAt t (fun s =>
    if !s.tbRuns then s
    else
      let s' := s.ensInterval
      let b := s'.ensBoundary
      if b + 10 ≤ s'.nowMs ∧ s'.ens.eauAt ≠ some b then s'.eauRefresh.eauUpdate b else s) s

/-- An EAU instruction whose operands are good changes the EAU and clears V; else the EAU keeps its state and V is set
(R376). -/
def State.eauSet (s : State) (p : Nat) (ok : Bool) (f : State → State) : State :=
  s.needCap p 5 (fun s => (if ok then f s else s).finish p (fun q => { q with v := !ok }))

/-- EAUW (R376). -/
def execEauw (p : PodId) (ra rb : GReg) (fn : Fin 7) (s : State) : Host.Outcome State Fault Refusal :=
  fin p (fun s =>
    let i := ((s.pod p).rg ra).toNat
    let v := (s.pod p).rg rb
    let x := fpToRat v
    s.eauSet p (decide (i ≤ 7) && (decide (fn.val = 6) || fpFinite v)) (fun s =>
      match fn.val with
      | 0 => s.modMem i (fun m => { m with q1 := x })
      | 1 => s.modMem i (fun m => { m with q2 := x })
      | 2 => s.modMem i (fun m => { m with q3 := x })
      | 3 => s.modMem i (fun m => { m with r := x })
      | 4 => s.modEns (fun e => { e with tau := x })
      | 5 => s.modEns (fun e => { e with outlierK := x })
      | _ => s.modMem i (fun m => { m with src := v.toNat % 32 }))) s

/-- EAUU0 (R376). -/
def execEauu0 (p : PodId) (ra : GReg) (s : State) : Host.Outcome State Fault Refusal :=
  fin p (fun s =>
    let v := (s.pod p).rg ra
    s.eauSet p (fpFinite v) (fun s => s.modEns (fun e => { e with u0 := fpToRat v }))) s

/-- EAURST (R376). -/
def execEaurst (p : PodId) (ra : GReg) (s : State) : Host.Outcome State Fault Refusal :=
  fin p (fun s =>
    let i := ((s.pod p).rg ra).toNat
    s.eauSet p (decide (i ≤ 7)) (fun s => s.modMem i (fun m => { m with init := true }))) s

/-- EAUSTAT: no update runs while an instruction does in this model (R376; notes/assumptions/4). -/
def execEaustat (p : PodId) (rd : GReg) (s : State) : Host.Outcome State Fault Refusal :=
  fin p (fun s => s.needCap p 5 (fun s =>
    s.finish p (fun q => { q.wg rd (BitVec.ofNat 64 s.ens.updates) with events := setBits q.events 4 1 0 }))) s

/-- One timebase tick passes: the engine reads further CMD entries, and the EAU and the TEL take their records. -/
def State.tick (s : State) : State :=
  let s := s.vectorsDue.cmdRead.eauTake.telIntake
  if !s.tbRuns then s else { s with tkp := { s.tkp with rawcnt := s.tkp.rawcnt + 1 } }

end Sys2Proof.Machine
end

