-- ==== Sys2Proof/Machine/KeyOps.lean ====
section
/-! DEFINITION. The vault: slots, the chain check, Husks, the root, vault states and the use of keys (R323 to R334). -/

namespace Sys2Proof.Machine

/-- A field of a slot's metadata. -/
def State.meta (s : State) (slot : Nat) (f : Fld) : Nat := s.fld (Reg.KEY_SLOT_META slot) f

/-- GEN of a slot (R325). -/
def State.keyGen (s : State) (slot : Nat) : Nat := s.meta slot Reg.KEY_SLOT_META_GEN

/-- The stored state of a slot: 0 EMPTY, 1 VALID, 2 INVALID. -/
def State.keySt (s : State) (slot : Nat) : Nat := s.meta slot Reg.KEY_SLOT_META_STATE

/-- What the vault keeps of a slot besides its metadata. -/
def State.keySlot (s : State) (slot : Nat) : KeySlot := tabGet ⟨[], [], 0, 0⟩ s.key.slots slot

/-- Changes what the vault keeps of a slot. -/
def State.modSlot (s : State) (slot : Nat) (f : KeySlot → KeySlot) : State :=
  { s with key := { s.key with slots := tabMod ⟨[], [], 0, 0⟩ s.key.slots slot f } }

/-- The metadata word of a slot (R341). -/
def metaWord (gen parent state kind use type : Nat) : Nat :=
  gen % 2 ^ 32 * 2 ^ 32 + parent % 4096 * 2 ^ 20 + state % 4 * 2 ^ 16 + kind % 4 * 2 ^ 12 + use % 8 * 2 ^ 8 + type % 8 * 16

/-- Every slot on the chain to the root is VALID and records its parent's present generation (R324). -/
def State.chainOk (s : State) : Nat → Nat → Bool
  | 0, _ => false
  | fuel + 1, slot =>
    if slot = 0 then decide (s.keySt 0 = 1)
    else
      let par := s.meta slot Reg.KEY_SLOT_META_PARENT
      decide (s.keySt slot = 1) && decide ((s.keySlot slot).pgen = s.keyGen par) && s.chainOk fuel par

/-- A VALID slot whose chain holds: at most four links above a leaf (R323, R324). -/
def State.keyUsable (s : State) (slot : Nat) : Bool := decide (slot < 4096) && s.chainOk 5 slot

/-- The state of a slot as found: 3 ORPHANED for a VALID one whose chain fails (R324, R341). -/
def State.keyFound (s : State) (slot : Nat) : Nat :=
  if s.keySt slot = 1 ∧ s.keyUsable slot = false then 3 else s.keySt slot

/-- The depth of a slot below the root (R323). -/
def State.keyDepth (s : State) : Nat → Nat → Nat
  | 0, _ => 0
  | fuel + 1, slot => if slot = 0 then 0 else s.keyDepth fuel (s.meta slot Reg.KEY_SLOT_META_PARENT) + 1

/-- KEY_STATUS.VAULT: 0 SEALED, 1 OPEN, 2 LOCKED, 3 ZEROED. -/
def State.vault (s : State) : Nat := s.fld Reg.KEY_STATUS Reg.KEY_STATUS_VAULT

/-- The key of a slot for one of some uses, or why it fails: 1 KEY_INVALID, 2 KEY_ORPHANED, 3 KEY_USE, 4 KEY_LOCKED,
5 KEY_ZEROED (R324, R334, R379). -/
def State.keyFor (s : State) (slot : Nat) (uses : List Nat) : Nat ⊕ List Byte :=
  if s.vault = 3 then .inl 5
  else if s.vault ≠ 1 then .inl 4
  else if s.keySt slot ≠ 1 ∨ 4096 ≤ slot then .inl 1
  else if !s.keyUsable slot then .inl 2
  else if !(uses.contains (s.meta slot Reg.KEY_SLOT_META_USE)) then .inl 3
  else .inr (s.keySlot slot).key

/-- The length in bytes of the key material of a type (R323). -/
def keyLen : Nat → Nat
  | 0 => 32
  | 1 => 16
  | 2 => 32
  | 3 => 48
  | 4 => 32
  | 5 => 97
  | _ => 32

/-- The types that a use allows (R323). -/
def useTypes : Nat → List Nat
  | 0 => [0]
  | 1 => [2]
  | 2 => [1, 2]
  | 3 => [1, 2]
  | 4 => [3, 4]
  | 5 => [2]
  | 6 => [5, 6]
  | _ => []

/-- The bytes of an ASCII string. -/
def ascii (t : String) : List Byte := t.toList.map (fun c => BitVec.ofNat 8 c.toNat)

/-- The wrap key KW (R328). -/
def State.wrapKw (s : State) : List Byte :=
  match s.key.root with
  | some r => Config.hkdf r (ascii "HUSK-WRAP") 32
  | none => []

/-- The Husk of a slot as it stands (R328). -/
def State.huskOf (s : State) (slot : Nat) : Husk where
  slot := slot
  parent := s.meta slot Reg.KEY_SLOT_META_PARENT
  gen := s.keyGen slot
  pgen := (s.keySlot slot).pgen
  kind := s.meta slot Reg.KEY_SLOT_META_KIND
  use := s.meta slot Reg.KEY_SLOT_META_USE
  type := s.meta slot Reg.KEY_SLOT_META_TYPE
  state := s.keySt slot
  rcount := s.key.rcount
  kcv := (s.keySlot slot).kcv
  wrapped := if s.keySt slot = 1 then Config.wrapKey s.wrapKw (s.keySlot slot).key else []
  good := true

/-- Asks for the commit of a slot's Husk, with the command that completes after it. -/
def State.huskAsk (s : State) (slot : Nat) (resp : List (Nat × Nat × List Byte)) : State :=
  s.mramAsk (ridHusk slot) (.husk (s.huskOf slot)) resp

/-- Journals an event of the KEY island (R340). -/
def State.jKey (s : State) (type : Nat) (payload : List Byte) : State := s.journal 0x12 type payload

/-- The vault enters a state with a cause: 0 NONE, 1 TAMPER_B, 2 TAMPER_A, 3 KA_LOST, 4 BOOT (R334, R340). -/
def State.setVault (s : State) (v cause : Nat) : State :=
  let old := s.vault
  let s := (s.setFld Reg.KEY_STATUS Reg.KEY_STATUS_VAULT v).setFld Reg.KEY_STATUS Reg.KEY_STATUS_CAUSE cause
  s.jKey 0x0033 (natLe 1 old ++ natLe 1 v ++ natLe 1 cause)

/-- The key store is cleared (R334). -/
def State.clearStore (s : State) : State :=
  (s.key.slots.map (·.1)).foldl (fun s slot => s.modSlot slot (fun k => { k with key := [] })) s

/-- The slots that hold something or have a generation. -/
def State.slotsInUse (s : State) : List Nat :=
  s.regs.filterMap (fun p => if 0x40308000 ≤ p.1 ∧ p.1 < 0x40310000 then some ((p.1 - 0x40308000) / 8) else none)

/-- Some IMAGE_VERIFY slot is usable (R50, R335). -/
def State.verifySlot (s : State) : Bool :=
  s.slotsInUse.any (fun k => s.keyUsable k && decide (s.meta k Reg.KEY_SLOT_META_USE = 6))

/-- After a change of keys: when the last IMAGE_VERIFY slot has become unusable, signatures are no longer required,
and that is posted and journaled (R335). -/
def State.verifyLost (s before : State) : State :=
  if s.fld Reg.KEY_STATUS Reg.KEY_STATUS_SIGNED_ADMIN = 1 ∧ before.verifySlot = true ∧ s.verifySlot = false then
    let p := natLe 1 1 ++ natLe 1 (s.fld Reg.KEY_STATUS Reg.KEY_STATUS_KALOCK) ++ natLe 1 1
    (s.jKey 0x0038 p).event 0x0007 0x12 p
  else s

/-- Bytes from the random bit generator: free values. -/
def State.random : Nat → State → List Byte × State
  | 0, s => ([], s)
  | n + 1, s =>
    let (v, s) := s.fresh
    let (bs, s) := State.random n s
    (BitVec.ofNat 8 v :: bs, s)

/-- The public key that belongs to key material of a type, empty for a secret (R323). -/
def pubFor (type : Nat) (key : List Byte) : List Byte :=
  if type = 3 ∨ type = 4 then Config.pubKey type key else if type = 5 ∨ type = 6 then key else []

/-- KCV of key material (R327). For SECRET256, which is no AES key and has no public key, its value is open. -/
def State.kcvFor (s : State) (type : Nat) (key : List Byte) : Nat × State :=
  if type = 1 ∨ type = 2 then (leNat ((Config.aesCmac key (List.replicate 16 0)).take 4), s)
  else if type = 0 then
    let (v, s) := s.fresh
    (v % 2 ^ 32, s)
  else (leNat ((Config.sha384 (pubFor type key)).take 4), s)

/-- A key enters a slot: PGEN from the parent, GEN bumped (R325, R327). -/
def State.placeKey (s : State) (slot parent kind use type : Nat) (key : List Byte) : State :=
  let (kcv, s) := s.kcvFor type key
  let pg := s.keyGen parent
  (s.setReg (Reg.KEY_SLOT_META slot) (metaWord (s.keyGen slot + 1) parent 1 kind use type)).modSlot slot
    (fun _ => ⟨key, pubFor type key, pg, kcv⟩)

/-- Every Husk is erased (R330, R338). -/
def State.eraseHusks (s : State) : State :=
  let husk (r : Nat) : Bool := decide (0x1000 ≤ r) && decide (r < 0x2000)
  { s with mram := { pairs := s.mram.pairs.filter (fun p => !husk p.1)
                     queue := s.mram.queue.filter (fun r => !husk r.rid)
                     begun := s.mram.begun && !s.mram.queue.head?.any (fun r => husk r.rid) } }

/-- A new root: RCOUNT, Husks, generations, slot 1, the policy record, ROOT_NEW (R330, R336). -/
def State.newRoot (s : State) : State :=
  let (r, s) := State.random 32 s
  let s := s.eraseHusks
  let s := s.slotsInUse.foldl (fun s k => s.setReg (Reg.KEY_SLOT_META k) 0) s
  let s := { s with key := { s.key with root := some r, rcount := (s.key.rcount + 1) % 2 ^ 32, slots := [], rootNew := true } }
  let s := s.setReg (Reg.KEY_SLOT_META 0) (metaWord 0 0 1 0 0 0)
  let (k, s) := State.random 48 s
  let s := (s.placeKey 1 0 2 4 3 k).huskAsk 1 []
  let s := s.mramAsk ridPolicy (.nums [0, 0]) []
  let s := (s.setFld Reg.KEY_STATUS Reg.KEY_STATUS_SIGNED_ADMIN 0).setFld Reg.KEY_STATUS Reg.KEY_STATUS_KALOCK 0
  s.jKey 0x0036 (natLe 4 s.key.rcount ++ [0])

/-- A Husk that cannot be used: the slot is INVALID with GEN kept; cause 0 CRC, 1 unwrap, 2 RCOUNT (R329). -/
def State.huskBad (s : State) (h : Husk) (cause : Nat) : State :=
  (((s.setReg (Reg.KEY_SLOT_META h.slot) (metaWord h.gen h.parent 2 h.kind h.use h.type)).modSlot h.slot
    (fun _ => ⟨[], [], h.pgen, h.kcv⟩)).raise 102).jKey 0x0037 (natLe 2 h.slot ++ natLe 1 cause)

/-- The slot of a Husk enters the vault: a VALID one is unwrapped into the key store (R329). -/
def State.unwrapHusk (s : State) (h : Husk) : State :=
  let s := s.setReg (Reg.KEY_SLOT_META h.slot) (metaWord h.gen h.parent h.state h.kind h.use h.type)
  if !h.good then s.huskBad h 0
  else if h.state ≠ 1 then s.modSlot h.slot (fun _ => ⟨[], [], h.pgen, h.kcv⟩)
  else if h.rcount ≠ s.key.rcount then s.huskBad h 2
  else match Config.unwrapKey s.wrapKw h.wrapped with
    | some k => s.modSlot h.slot (fun _ => ⟨k, pubFor h.type k, h.pgen, h.kcv⟩)
    | none => s.huskBad h 1

/-- The Husks in force (R328, R435). -/
def State.husks (s : State) : List Husk :=
  s.mram.pairs.filterMap (fun p => match p.2.inForce with | some (_, .husk h) => some h | _ => none)

/-- Every Husk is unwrapped (R329, R334). -/
def State.unwrapAll (s : State) : State := s.husks.foldl State.unwrapHusk s

/-- ACTIVE of the tamper inputs follows their levels (R341). -/
def State.setPins (s : State) (pins : Nat) : State :=
  let s := { s with key := { s.key with pins := pins } }
  let act := (List.range 5).foldl (fun m n =>
    let lvl := pins / 2 ^ n % 2
    let on := if n = 4 then decide (lvl = 1) != s.key.meshOut else decide (lvl = s.fld (Reg.KEY_TAMP_CFG n) Reg.KEY_TAMP_CFG_LEVEL)
    m + bit on * 2 ^ n) 0
  s.setFld Reg.KEY_TAMP_STAT Reg.KEY_TAMP_STAT_ACTIVE act

/-- Some armed input is at its active level, the mesh among them (R334; that a mesh of class DISABLED does not count is DEDUCED,
notes/assumptions/178). -/
def State.tamperActive (s : State) : Bool :=
  (List.range 5).any (fun n =>
    decide (s.fld (Reg.KEY_TAMP_CFG n) Reg.KEY_TAMP_CFG_CLASS ≠ 0)
      && decide (s.fld Reg.KEY_TAMP_STAT Reg.KEY_TAMP_STAT_ACTIVE / 2 ^ n % 2 = 1))

/-- The status of KEY_SIGN for a key that cannot be used: 1 KEY_USE, 2 KEY_INVALID, 3 KEY_ORPHANED, 4 KEY_LOCKED,
6 KEY_ZEROED (R326). -/
def signFail : Nat → Nat
  | 1 => 2
  | 2 => 3
  | 3 => 1
  | 4 => 4
  | _ => 6

/-- SGN takes its next work when it is idle: an attestation first, else the oldest KEY_SIGN whose key passes the check of R324; one that fails
it ends (R332, R333). An attestation that fails it stays without a key. -/
def State.sgnNext : Nat → State → State
  | 0, s => s
  | fuel + 1, s =>
    match s.jrn.att, s.key.sgn with
    | some a, _ =>
      (match s.keyFor a.slot [4] with
       | .inr k => { s with jrn := { s.jrn with att := some { a with key := some (s.meta a.slot Reg.KEY_SLOT_META_TYPE, k) } } }
       | .inl _ => s)
    | none, [] => s
    | none, r :: rest =>
      match s.keyFor r.slot [4] with
      | .inr k => { s with key := { s.key with sgn := { r with key := some (s.meta r.slot Reg.KEY_SLOT_META_TYPE, k) } :: rest } }
      | .inl e => State.sgnNext fuel (({ s with key := { s.key with sgn := rest } } : State).respond r.hseq 0x0507 (signFail e) [])

/-- SGN computes a signature. -/
def State.sgnBusy (s : State) : Bool :=
  s.key.sgn.any (fun r => r.key.isSome) || (match s.jrn.att with | some a => a.key.isSome | none => false)

/-- SGN begins the next signature if it is idle. -/
def State.sgnLoad (s : State) : State := if s.sgnBusy then s else s.sgnNext 17

/-- The keep-alive counter as a read finds it: it has counted on its own oscillator since the model last showed it, by a free number of periods
(R337, R341). -/
def State.kaNow (s : State) : State :=
  let (d, s) := s.fresh
  s.setReg Reg.KEY_KA_TIME ((s.reg Reg.KEY_KA_TIME + d) % 2 ^ 48)

/-- `n` AES blocks go through CL6 or CL7 (R190, R291, R344, R379, R450): which of the two takes them is a free value, and a
lane that has failed takes none (R416). -/
def State.macBlocks (s : State) (n : Nat) : State :=
  if s.flt.cond.contains 14 then (if s.flt.cond.contains 15 then s else s.countBy 871 n)
  else if s.flt.cond.contains 15 then s.countBy 870 n
  else
    let (v, s) := s.fresh
    s.countBy (870 + v % 2) n

/-! ### The keys of the time service -/

/-- The use COOKIE_MASTER (R323). -/
abbrev cookieUse : Nat := 1

/-- The slots of the VALID entries of NSE_CKEY, entry 0 first (R307). -/
def State.ckeys (s : State) : List Nat :=
  (List.range 4).filterMap (fun e =>
    if s.fld (Reg.NSE_CKEY e) Reg.NSE_CKEY_VALID = 1 then some (s.fld (Reg.NSE_CKEY e) Reg.NSE_CKEY_SLOT) else none)

/-- The slot that seals now: entry 0 where it is usable (R307, R308). -/
def State.sealSlot (s : State) : Option Nat :=
  match s.ckeys with
  | [] => none
  | k :: _ => match s.keyFor k [cookieUse] with
    | .inr _ => some k
    | .inl _ => none

/-- Entry 0 has become unusable: CKEY_FAIL is set and NSE_CKEY_FAIL raised (R308). -/
def State.ckeyReview (s : State) : State :=
  if s.ckeys ≠ [] ∧ s.sealSlot = none ∧ 101 ∉ s.flt.cond then
    (s.setFld Reg.NSE_ISL_STATUS Reg.NSE_ISL_STATUS_CKEY_FAIL 1).condOn 101
  else s

end Sys2Proof.Machine
end

