-- ==== Sys2Proof/Machine/Pod.lean ====
section
/-! DEFINITION. Pods as the host drives them: the window, loads, starts and stops, parameters and messages (R35,
R36, R39, R46 to R56), and the messaging instructions of FIN (R378). -/

namespace Sys2Proof.Machine

/-! ### Mailboxes -/

/-- The bytes of a mailbox entry before its CRC (R39). -/
def mboxBody (e : MboxEntry) : List Byte :=
  natLe 1 e.sender ++ natLe 1 e.type ++ natLe 1 e.alive ++ [0] ++ padTo 24 e.payload

/-- The 32 bytes of a mailbox entry (R39). -/
def mboxBytes (e : MboxEntry) : List Byte := mboxBody e ++ natLe 2 e.crc ++ [0, 0]

/-- The mailbox of a Pod is full (R39). -/
def State.mboxFull (s : State) (p : Nat) : Bool := decide (32 ≤ (s.pod p).mbox.length)

/-- An entry enters the mailbox of a Pod: alive counter, CRC, the place in the commons, and the check units' view
(R37, R39, R464). `sender` is 0 to 7 for a Pod and 0xFF for the host. -/
def State.mboxPost (s : State) (p sender type : Nat) (payload : List Byte) : State :=
  let key := min sender 8
  let q := s.pod p
  let a := tabGet 0 q.alive key
  let e : MboxEntry := ⟨sender, type, a, padTo 24 payload, 0⟩
  let e := { e with crc := crc16 (mboxBody e) }
  let s := s.modPod p (fun q => { q with mbox := q.mbox ++ [e], mboxWr := q.mboxWr + 1, alive := tabSet 0 q.alive key ((a + 1) % 256) })
  (s.comWrite (p * 1024 + q.mboxWr % 32 * 32) (mboxBytes e)).snoop 6 p sender true a

/-! ### The window -/

/-- POD_MEM_WRITE (R35). -/
def execPodMemWrite (m : Master) (p : PodId) (dmem : Bool) (off size data : Nat) (s : State) :
    Host.Outcome State Fault Refusal :=
  act (fun s =>
    let a := 0x40400000 + p.val * 0x40000 + (if dmem then 0x10000 else 0) + off
    if !mayWrite m a then s.busError m a true 3
    else if !(size == 4 || size == 8) || off % size ≠ 0 then s.busError m a true 4
    else if 0x10000 < off + size then s.busError m a true 2
    else if s.podSt p ≠ 0 then s.busError m a true 7
    else if dmem then s.dmemWrite p off (natLe size data)
    else s.modPod p (fun q => { q with imem := putBytes (s.imemDef p) q.imem off (natLe size data) })) s

/-- The effect of a write of POD_WDOG (R35, R36). -/
def State.podWdogAct (s : State) (p data : Nat) : State :=
  let x := min 10000000 (data % 2 ^ 24)
  if x = 0 ∧ s.resident p = true then s else s.setReg (Reg.POD_WDOG p) x

/-- POD_WDOG_WRITE (R36). -/
def execPodWdogWrite (m : Master) (p : PodId) (data : Nat) (s : State) : Host.Outcome State Fault Refusal :=
  act (fun s => s.regWrite m (Reg.POD_WDOG p) (fun s => s.podWdogAct p data)) s

/-! ### Loads -/

/-- Capabilities and VCs of a resident program (R51). -/
def residentCap : Nat → Nat × Nat
  | 0 => (0xE823, 3)
  | 1 => (0x6858, 0)
  | 2 => (0x6888, 0)
  | 3 => (0x7900, 0)
  | 4 => (0x6E00, 0)
  | _ => (0, 0)

/-- The Pod's memories and masks are cleared, and it holds no image (R46). -/
def State.podClear (s : State) (p : Nat) : State :=
  let s := s.modPod p (fun q => { q with imem := [], dmem := [], image := none, load := none })
  let s := (s.setReg (Reg.POD_CAP p) 0).setReg (Reg.POD_VCOWN p) 0
  let s := s.setFld (Reg.POD_STATUS p) Reg.POD_STATUS_SOURCE 0
  let s := s.setFld (Reg.POD_STATUS p) Reg.POD_STATUS_VERIFIED 0
  (s.setFld (Reg.POD_STATUS p) Reg.POD_STATUS_RESIDENT 0).setPodSt p 0

/-- A Pod takes an image: memories, masks, status, the journal record (R48 to R51, R186). -/
def State.podTake (s : State) (p src : Nat) (im dm : Tab Byte) (i : ImageInfo) (cap vc : Nat) (verified resident : Bool) : State :=
  let s := s.modPod p (fun q => { q with imem := im, dmem := dm, image := some i, load := none })
  let s := (s.setReg (Reg.POD_CAP p) (cap % 2 ^ 16)).setReg (Reg.POD_VCOWN p) (vc % 2 ^ 8)
  let s := s.setFld (Reg.POD_STATUS p) Reg.POD_STATUS_SOURCE src
  let s := s.setFld (Reg.POD_STATUS p) Reg.POD_STATUS_VERIFIED (bit verified)
  let s := (s.setFld (Reg.POD_STATUS p) Reg.POD_STATUS_RESIDENT (bit resident)).setPodSt p 0
  s.journal 0x15 0x0029 (natLe 1 p ++ natLe 1 src ++ natLe 4 i.iface ++ natLe 4 i.ver ++ natLe 1 (bit verified))

/-- A Pod takes its resident program (R51). -/
def State.podResident (s : State) (p : Nat) : State :=
  let c := residentCap p
  s.podTake p 1 [] [] ⟨Config.residentEntry p, Config.residentWords p, Config.residentIface p, Config.residentVer p⟩
    c.1 c.2 true true

/-- The status of a Pod that does not allow a command: the numbers of POD_BUSY and POD_FAULTED (R47). -/
def State.podBusy (s : State) (p busy faulted : Nat) : Nat := if s.podSt p = 3 then faulted else busy

/-- POD_LOAD (R46, R47, R49). -/
def execPodLoad (q : Nat) (p : PodId) (src : LoadSource) (cap vc slot : Nat) (s : State) : Host.Outcome State Fault Refusal :=
  act (fun s => s.hostCmd q 0x0100 (fun s =>
    if s.podSt p ≠ 0 then s.respond q 0x0100 (s.podBusy p 11 12) []
    else
      let rom := decide (src = .rom)
      if rom && decide (5 ≤ p.val) then s.respond q 0x0100 9 []
      else if rom && s.vcOthers p (residentCap p).2 then s.respond q 0x0100 8 []
      else (s.modPod p (fun x => { x with load := some ⟨q, src, cap, vc, slot, s.tkp.rawcnt⟩ })).setPodSt p 1)) s

/-- What a source provides at an offset (R49). -/
def State.loadBytes (s : State) (src : LoadSource) (off n : Nat) : List Byte :=
  match src with
  | .rom => []
  | .host a _ => bytesAt zeros s.hif.mem (a + off) n
  | .flash o => bytesAt zeros s.flash (o + off) n

/-- The bytes that a source provides (R49). -/
def loadAvail : LoadSource → Nat
  | .rom => 0
  | .host _ len => len
  | .flash o => Config.flashSize - o

/-- A number in the image header (R48). -/
def hdrNat (h : List Byte) (off n : Nat) : Nat := leNat ((h.drop off).take n)

/-- The bytes of the signature block by SIG_ALG (R48). -/
def sigLen : Nat → Nat
  | 1 => 64
  | 2 => 96
  | _ => 0

/-- Step 3 of a load (R49). -/
def hdrSizesOk (h : List Byte) (avail : Nat) : Bool :=
  let w := hdrNat h 0x0C 4
  let d := hdrNat h 0x10 4
  let alg := hdrNat h 0x1D 1
  decide (1 ≤ w ∧ w ≤ 16384) && decide (d ≤ 65536) && decide (hdrNat h 0x14 4 < w) && decide (alg ≤ 2)
    && decide (hdrNat h 0x08 4 = 64 + 4 * w + d + 4 + sigLen alg)
    && decide ((hdrNat h 0x06 2 % 2 = 1) ↔ alg ≠ 0) && decide (hdrNat h 0x08 4 ≤ avail)

/-- Step 7 of a load: none when the signature is good or not asked for, with VERIFIED (R50). -/
def State.imageSig (s : State) (slot alg : Nat) (msg sig : List Byte) : Option Bool :=
  if s.verifySlot then
    if alg ≠ 0 ∧ s.vault = 1 ∧ s.keyUsable slot = true ∧ s.meta slot Reg.KEY_SLOT_META_USE = 6
        ∧ s.meta slot Reg.KEY_SLOT_META_TYPE = (if alg = 1 then 6 else 5)
        ∧ Config.sigOk (s.meta slot Reg.KEY_SLOT_META_TYPE) (s.keySlot slot).pub msg sig = true then some true
    else none
  else some false

/-- Steps 2 to 8 of a load from HOST or FLASH: the status of the first check that fails, or the state with the image (R49).
A source of fewer than 64 bytes has no header to check: BAD_MAGIC (DESIGN CHOICE, notes/assumptions/137). -/
def State.loadImage (s : State) (p : Nat) (r : LoadReq) : Nat ⊕ State :=
  let avail := loadAvail r.src
  let h := s.loadBytes r.src 0 64
  let w := hdrNat h 0x0C 4
  let d := hdrNat h 0x10 4
  let alg := hdrNat h 0x1D 1
  let body := s.loadBytes r.src 64 (4 * w + d)
  if avail < 64 ∨ hdrNat h 0 4 ≠ 0x314E4946 ∨ hdrNat h 4 2 ≠ 1 then .inl 1
  else if crc32c (h.take 60) ≠ hdrNat h 60 4 then .inl 2
  else if !hdrSizesOk h avail then .inl 4
  else if hdrNat h 0x1E 2 ≠ 0x0B02 then .inl 5
  else if hdrNat h 0x18 4 &&& r.cap ≠ hdrNat h 0x18 4 ∨ hdrNat h 0x1C 1 &&& r.vc ≠ hdrNat h 0x1C 1 then .inl 6
  else if 2 ^ 16 ≤ r.cap ∨ (r.cap / 16 % 2 = 1 ∧ p ≠ 1) then .inl 7
  else if s.vcOthers p (r.vc % 256) then .inl 8
  else if leNat (s.loadBytes r.src (64 + 4 * w + d) 4) ≠ crc32c body then .inl 2
  else match s.imageSig r.slot alg (s.loadBytes r.src 0 (68 + 4 * w + d)) (s.loadBytes r.src (68 + 4 * w + d) (sigLen alg)) with
    | none => .inl 3
    | some v =>
      .inr (s.podTake p (match r.src with | .flash _ => 3 | _ => 2) (putBytes zeros [] 0 (body.take (4 * w)))
        (putBytes zeros [] 0 (body.drop (4 * w))) ⟨hdrNat h 0x14 4, w, hdrNat h 0x20 4, hdrNat h 0x24 4⟩ r.cap r.vc v false)

/-- A load whose 50 ms have elapsed (R46). -/
def State.loadLate (s : State) (p : Nat) (r : LoadReq) : State := (s.podClear p).respond r.hseq 0x0100 10 []

/-- POD_LOAD_COMPLETE: LOAD_TIMEOUT where more than 50 ms have elapsed (R46, R49). -/
def execPodLoadComplete (p : PodId) (s : State) : Host.Outcome State Fault Refusal :=
  act (fun s =>
    match (s.pod p).load with
    | none => s
    | some r =>
      if s.podSt p ≠ 1 then s
      else if r.tick + 50000 * ticksPerUs < s.tkp.rawcnt then s.loadLate p r
      else match r.src with
        | .rom => (s.podResident p).respond r.hseq 0x0100 0 []
        | _ => match s.loadImage p r with
          | .inl x => (s.podClear p).respond r.hseq 0x0100 x []
          | .inr s' => s'.respond r.hseq 0x0100 0 []) s

/-- LOAD_TIMEOUT: 50 ms after acceptance (R46). -/
def execLoadTimeout (p : PodId) (s : State) : Host.Outcome State Fault Refusal :=
  act (fun s =>
    match (s.pod p).load with
    | none => s
    | some r =>
      if s.podSt p ≠ 1 then s
      else (s.at (r.tick + 50000 * ticksPerUs)).loadLate p r) s

/-! ### Starts and stops -/

/-- What the program of Pod 2 holds when it starts: nothing but the kept data and the delays it has applied; its first publication and its
choice of a start kind stand before it (R235, R236, R241, R242). -/
def GnsState.podStart (g : GnsState) : GnsState :=
  { g with
    solAt := none, fixAt := none, xs := [], gs := [], held := [], flat := none, surN := 0, surX := 0, surY := 0, surZ := 0, surQ := 0
    hold := none, posn := [], last := none, mode := 0, leaps := [], resurvey := false, starting := true }

/-- A Pod starts at the ENTRY of its image with cleared registers (R46). Its watchdog takes TIMEOUT. -/
def State.podRun (s : State) (p : Nat) (i : ImageInfo) : State :=
  let s := if p = 2 ∧ s.resident 2 = true then
    ({ s with gns := s.gns.podStart } : State).setFld Reg.GNS_SOL Reg.GNS_SOL_POS 0 else s
  let w := s.fld (Reg.POD_WDOG p) Reg.POD_WDOG_TIMEOUT
  let s := s.modPod p (fun q => { q with g := [], t := [], z := false, n := false, c := false, v := false, pc := i.entry, wait := none, wdog := w, wdogAt := s.tkp.rawcnt })
  let s := s.setFld (Reg.POD_STATUS p) Reg.POD_STATUS_FCAUSE 0
  (s.setFld (Reg.POD_FPC p) Reg.POD_FPC_PC 0).setPodSt p 2

/-- POD_START (R46, R47). -/
def execPodStart (q : Nat) (p : PodId) (s : State) : Host.Outcome State Fault Refusal :=
  act (fun s => s.hostCmd q 0x0101 (fun s =>
    if s.podSt p ≠ 0 then s.respond q 0x0101 (s.podBusy p 2 3) []
    else match (s.pod p).image with
      | none => s.respond q 0x0101 1 []
      | some i => (s.podRun p i).respond q 0x0101 0 [])) s

/-- A Pod goes to STOPPED (R45, R46). -/
def State.podHalt (s : State) (p : Nat) : State :=
  (if s.podSt p = 2 then s.podLeave p else s).setPodSt p 0

/-- POD_STOP (R46, R47). -/
def execPodStop (q : Nat) (p : PodId) (s : State) : Host.Outcome State Fault Refusal :=
  act (fun s => s.hostCmd q 0x0102 (fun s =>
    if s.podSt p = 2 ∨ s.podSt p = 3 then (s.podHalt p).respond q 0x0102 0 [] else s.respond q 0x0102 1 [])) s

/-- POD_UNLOAD (R42, R46, R47). -/
def execPodUnload (q : Nat) (p : PodId) (s : State) : Host.Outcome State Fault Refusal :=
  act (fun s => s.hostCmd q 0x0103 (fun s => ((s.podHalt p).podClear p).respond q 0x0103 0 [])) s

/-- POD_WATCHDOG_EXPIRE: the period in force ends; not while a wait instruction waits (R36, R361). -/
def execPodWatchdogExpire (p : PodId) (s : State) : Host.Outcome State Fault Refusal :=
  act (fun s =>
    let q := s.pod p
    if s.podRuns p && decide (q.wdog ≠ 0) then
      let s := s.at (q.wdogAt + q.wdog * ticksPerUs)
      if s.wdogDue p then s.podFault p 5 else s
    else s) s

/-! ### Parameters and messages -/

/-- The commons offset of a parameter table entry (R37). -/
def paramAddr (p id : Nat) : Nat := 0x2000 + p * 2048 + id % 256 * 8

/-- The parameter table entry of a Pod. -/
def State.paramEntry (s : State) (p id : Nat) : Nat := leNat (s.comRead (paramAddr p id) 8)

/-- Writes a parameter table entry. -/
def State.setParamEntry (s : State) (p id v : Nat) : State := s.comWrite (paramAddr p id) (natLe 8 v)

/-- A resident program's answer: an accepted value is in force, a refused one leaves the entry as it was (R52). A change
of REF_FREQ or REF_RANK restarts the reference's qualification (R125), and one of REF_L0 or REF_DUNC reaches the bound
engine (R181, R194). -/
def State.paramTake (s : State) (id v : Nat) : State :=
  let old := s.paramRaw id
  let s := { s with params := tabSet (paramDefault id) s.params id v }
  let restart (m : Nat) (s : State) : State :=
    { s with ref := { s.ref with track := tabMod RefTrack.reset s.ref.track m (fun r =>
      { r with qualFrom := s.vc0Sec, qualSince := s.vc0Sec, medOk := false, restart := true }) } }
  if 0x120 ≤ id ∧ id < 0x132 ∧ (old ≠ v ∨ v = 0xFF) then restart (id - 0x120) s
  else if 0x140 ≤ id ∧ id < 0x148 ∧ old ≠ v then restart (id - 0x140) s
  else if 0x160 ≤ id ∧ id < 0x172 ∧ old ≠ v then s.boundIn (.cal 2 (id - 0x160) old v)
  else if 0x1A0 ≤ id ∧ id < 0x1B2 ∧ old ≠ v then s.boundIn (.cal 3 (id - 0x1A0) old v)
  else s

/-- POD_PARAM: the resident program answers at once, a user program by PANS (R52). The type and the payload of the
mailbox entry are not stated: free values. -/
def execPodParam (q : Nat) (p : PodId) (id val : Nat) (s : State) : Host.Outcome State Fault Refusal :=
  act (fun s => s.hostCmd q 0x0104 (fun s =>
    let v := val % 2 ^ 64
    if (s.pod p).param.isSome then s
    else if s.mboxFull p then s.respond q 0x0104 4 []
    else
      let old := s.paramEntry p id
      let (ty, s) := s.fresh
      let (pl, s) := s.fresh
      let s := (s.setParamEntry p id v).mboxPost p 0xFF (ty % 256) (natLe 24 pl)
      if s.runsResident p then
        let s := s.modPod p (fun x => { x with mbox := x.mbox.dropLast })
        let a := if id / 256 = p.val then s.paramCheck id v else 1
        if a = 0 then (s.paramTake id v).respond q 0x0104 0 [] else (s.setParamEntry p id old).respond q 0x0104 a []
      else s.modPod p (fun x => { x with param := some ⟨q, id, old⟩, paramTick := s.tkp.rawcnt }))) s

/-- A POD_PARAM that has had no answer for 100 ms: POD_NO_ANSWER, and the table entry is restored (R52). -/
def State.paramLate (s : State) (p : Nat) (r : ParamPend) : State :=
  ((s.setParamEntry p r.id r.old).modPod p (fun x => { x with param := none })).respond r.hseq 0x0104 3 []

/-- POD_PARAM_TIMEOUT: 100 ms without an answer (R52). -/
def execPodParamTimeout (p : PodId) (s : State) : Host.Outcome State Fault Refusal :=
  act (fun s =>
    match (s.pod p).param with
    | none => s
    | some r => (s.at ((s.pod p).paramTick + 100000 * ticksPerUs)).paramLate p r) s

/-- POD_MSG (R39). -/
def execPodMsg (q : Nat) (p : PodId) (type : Byte) (payload : List Byte) (s : State) : Host.Outcome State Fault Refusal :=
  act (fun s => s.hostCmd q 0x0105 (fun s =>
    if payload.length ≠ 24 then s.respond q 0x0105 0xFF02 []
    else if s.mboxFull p then s.respond q 0x0105 1 []
    else (s.mboxPost p 0xFF type.toNat payload).respond q 0x0105 0 [])) s

/-- POD_STATUS (R47). -/
def execPodStatus (q : Nat) (p : PodId) (s : State) : Host.Outcome State Fault Refusal :=
  act (fun s => s.hostCmd q 0x0106 (fun s =>
    let i := (s.pod p).image
    s.respond q 0x0106 0 (natLe 4 (s.reg (Reg.POD_STATUS p)) ++ natLe 4 (s.reg (Reg.POD_CAP p))
      ++ natLe 4 (s.reg (Reg.POD_VCOWN p)) ++ natLe 4 (match i with | some x => x.iface | none => 0)
      ++ natLe 4 (match i with | some x => x.ver | none => 0)))) s

/-! ### Messaging instructions -/

/-- SEND: to the Pod that ra's low three bits name (R378). -/
def execSend (p : PodId) (ra rb : GReg) (type : Byte) (s : State) : Host.Outcome State Fault Refusal :=
  fin p (fun s =>
    let a := ((s.pod p).rg rb).toNat
    let dest := bitsOf ((s.pod p).rg ra) 0 3
    s.unlessFault p (dmemFault a 8 24) (fun s =>
      if s.mboxFull dest then s.finish p (fun q => { q with c := true })
      else (s.mboxPost dest p type.toNat (s.dmemRead p a 24)).finish p (fun q => { q with c := false }))) s

/-- RECV (R378). -/
def execRecv (p : PodId) (ra : GReg) (s : State) : Host.Outcome State Fault Refusal :=
  fin p (fun s =>
    let a := ((s.pod p).rg ra).toNat
    s.unlessFault p (dmemFault a 8 32) (fun s =>
      match (s.pod p).mbox with
      | [] => s.finish p (fun q => q.setCV true false)
      | e :: rest =>
        let s := (s.dmemWrite p a (mboxBytes e)).modPod p (fun q => { q with mbox := rest })
        s.finish p (fun q => q.setCV false (decide (crc16 (mboxBody e) ≠ e.crc))))) s

/-- PANS: an answer later than 100 ms finds the POD_PARAM answered with POD_NO_ANSWER (R52, R378). -/
def execPans (p : PodId) (ra rb : GReg) (s : State) : Host.Outcome State Fault Refusal :=
  fin p (fun s =>
    let id := ((s.pod p).rg ra).toNat
    let x := ((s.pod p).rg rb).toNat
    match (s.pod p).param with
    | none => s.finish p (fun q => { q with c := true })
    | some r =>
      if (s.pod p).paramTick + 100000 * ticksPerUs < s.tkp.rawcnt then (s.paramLate p r).finish p (fun q => { q with c := true })
      else if r.id ≠ id ∨ 2 < x then s.finish p (fun q => { q with c := true })
      else
        let s := if x = 0 then s else s.setParamEntry p r.id r.old
        (s.respond r.hseq 0x0104 x []).finish p (fun q => { q with c := false, param := none })) s

/-- EVPOST (R378, R391). -/
def execEvpost (p : PodId) (ra rb : GReg) (s : State) : Host.Outcome State Fault Refusal :=
  fin p (fun s => s.needCap p 13 (fun s =>
    let a := ((s.pod p).rg ra).toNat
    let n := ((s.pod p).rg rb).toNat
    if n = 0 ∨ 48 < n then s.finish p (fun q => { q with v := true })
    else if 0x10000 < a + n then s.podFault p 4
    else
      let s := s.ringFlush 2
      if s.ringRoom 2 then
        (s.event (0x0100 + p) p (s.dmemRead p a n)).finish p (fun q => q.setCV false false)
      else s.finish p (fun q => q.setCV true false))) s

/-- JAPP (R189, R378). -/
def execJapp (p : PodId) (ra rb : GReg) (s : State) : Host.Outcome State Fault Refusal :=
  fin p (fun s => s.needCap p 11 (fun s =>
    let a := ((s.pod p).rg rb).toNat
    let type := bitsOf ((s.pod p).rg ra) 0 16 ||| (if s.resident p then 0 else 0x8000)
    if 0x10000 < a + 40 then s.podFault p 4
    else
      let r := s.stage (s.vcNow 0) p type (s.dmemRead p a 40)
      r.1.finish p (fun q => { q with c := !r.2 }))) s

end Sys2Proof.Machine
end

