-- ==== Sys2Proof/Machine/Flt.lean ====
section
/-! DEFINITION. The fault island and the reactions of the resident program on Pod 3 (R416 to R427, R505). -/

namespace Sys2Proof.Machine

/-! ### Sources -/

/-- The islands of R399, by their addresses divided by 0x10000. -/
def islandPages : List Nat :=
  (List.range 7).map (0x4000 + ·) ++ (List.range 9).map (0x4010 + ·) ++ (List.range 3).map (0x4020 + ·)
    ++ (List.range 11).map (0x4030 + ·)

/-- FLT_PEND of a source. -/
def State.fltPend (s : State) (n : Nat) : Bool := getBits (s.reg (Reg.FLT_PEND (n / 32))) (n % 32) 1 = 1

/-- Sets or clears FLT_PEND of a source. -/
def State.setPend (s : State) (n : Nat) (on : Bool) : State :=
  s.setReg (Reg.FLT_PEND (n / 32)) (setBits (s.reg (Reg.FLT_PEND (n / 32))) (n % 32) 1 (bit on))

/-- The class in force of a source (R417). -/
def State.fltClass (s : State) (n : Nat) : Nat := s.fld (Reg.FLT_CLASS n) Reg.FLT_CLASS_CLASS

/-- The sticky bit that is the cause of a source of R505, none for any other source. -/
def State.fltSticky (s : State) (n : Nat) : Option Bool :=
  if n = 69 then some (islandPages.any (fun g => getBits (s.reg (g * 0x10000 + 4)) 1 1 = 1))
  else if n = 76 then some (s.fld Reg.BUS_ISL_STATUS Reg.BUS_ISL_STATUS_MABORT = 1)
  else if 61 ≤ n ∧ n ≤ 68 then
    let a := Reg.CHK_STATUS (n - 61)
    some (s.fld a Reg.CHK_STATUS_CRC = 1 ∨ s.fld a Reg.CHK_STATUS_REPEAT = 1 ∨ s.fld a Reg.CHK_STATUS_SKIP = 1)
  else if n = 89 then some ((List.range 32).any (fun c => s.fld (Reg.TDC_CH_STATUS c) Reg.TDC_CH_STATUS_CAL_FAULT = 1))
  else if n = 99 then some (s.fld Reg.JRN_ISL_STATUS Reg.JRN_ISL_STATUS_OVERRUN = 1)
  else if n = 100 then some (s.fld Reg.JRN_ISL_STATUS Reg.JRN_ISL_STATUS_ATT_FAIL = 1)
  else if n = 98 then some ((List.range 4).any (fun k => s.fld (Reg.GNS_PORT_STATUS k) Reg.GNS_PORT_STATUS_OVF = 1))
  else if n = 120 then some (s.fld Reg.TEL_ISL_STATUS Reg.TEL_ISL_STATUS_OVERRUN = 1)
  else if n = 87 then some (s.fld Reg.CLK_STATUS Reg.CLK_STATUS_SWITCH_FORCED = 1)
  else if n = 109 then some (s.fld Reg.TWN_STATUS Reg.TWN_STATUS_CONFLICT = 1)
  else none

/-- FLT_CAUSE of a source: its sticky bit, or its condition (R505). -/
def State.fltCause (s : State) (n : Nat) : Bool :=
  match s.fltSticky n with
  | some b => b
  | none => s.flt.cond.contains n

/-- The value of FLT_CAUSE word `w`. -/
def State.fltCauseWord (s : State) (w : Nat) : Nat :=
  (List.range 32).foldl (fun v k => if s.fltCause (32 * w + k) then v + 2 ^ k else v) 0

/-! ### The record -/

/-- A record of R421 sealed with its CRC over bytes 0 to 59. -/
def recSeal (v : Nat) : Nat := leNat (natLe 60 v ++ natLe 4 (crc32c (natLe 60 v)))

/-- The fields of FLT_REC: FSEQ, FIRST, CLASS, MERGES, SRC, CONC (R421). -/
abbrev recFseq (v : Nat) : Nat := getBits v 0 32
abbrev recClass (v : Nat) : Nat := getBits v 40 2
abbrev recClassFirst (v : Nat) : Nat := getBits v 42 2
abbrev recMerges (v : Nat) : Nat := getBits v 48 16
abbrev recSrc (v : Nat) : Nat := getBits v 160 160

/-- LATCHED of FLT_STATUS. -/
def State.fltLatched (s : State) : Bool := s.fld Reg.FLT_STATUS Reg.FLT_STATUS_LATCHED = 1

/-- The record is posted as event FAULT in two entries (R421). -/
def State.fltEvent (s : State) : State :=
  s.event 0x0004 0x14 (natLe 64 (s.reg Reg.FLT_REC))

/-- The MRAM log of faults, newest first (R420). -/
def State.faultLog (s : State) : List (List Byte) :=
  match s.mramRec ridFault with
  | some (.recs l) => l
  | _ => []

/-- A record of class C2 or C3 goes to the MRAM log: at latch as a new entry, at acknowledgement in place of the
entry made at latch, if any (R420). -/
def State.fltCommit (s : State) (atAck : Bool) : State :=
  let v := s.reg Reg.FLT_REC
  if recClass v < 2 then s
  else
    let l := match s.mramNext ridFault with
      | some (.recs l) => l
      | _ => []
    let l := if atAck && decide (2 ≤ recClassFirst v) then l.drop 1 else l
    s.mramAsk ridFault (.recs ((natLe 64 v :: l).take 8)) []

/-- The sources of a list as a mask. -/
def srcMask (l : List Nat) : Nat := l.foldl (fun v n => v ||| 2 ^ n) 0

/-- The source of the highest class, and of equal classes the lowest (R418). -/
def State.fltFirst (s : State) (l : List Nat) : Nat :=
  l.foldl (fun b n => if s.fltClass b < s.fltClass n ∨ (s.fltClass b = s.fltClass n ∧ n < b) then n else b) (l.headD 0)

/-- The raises of a tick open a record (R418, R420, R421). -/
def State.fltOpen (s : State) (l : List Nat) : State :=
  let f := s.fltFirst l
  let c := s.fltClass f
  let now := s.vcNow 0
  let conc := srcMask (l.filter (· ≠ f))
  let v := s.flt.fseq + f * 2 ^ 32 + (c * 5) * 2 ^ 40 + gtNs now * 2 ^ 64 + ofSigned 64 (gtSec now) * 2 ^ 96
    + srcMask l * 2 ^ 160 + conc * 2 ^ 320
  let s := s.setReg Reg.FLT_REC (recSeal v)
  let s := ({ s with flt := { s.flt with fseq := (s.flt.fseq + 1) % 2 ^ 32, latchTick := s.tkp.rawcnt } } : State).setFld
    Reg.FLT_STATUS Reg.FLT_STATUS_LATCHED 1
  let s := s.journal 0x14 0x0050 (natLe 4 (recFseq v) ++ natLe 1 f ++ natLe 1 (c * 5) ++ natLe 20 conc)
  s.fltEvent.fltCommit false

/-- The raises of a tick merge into the latched record (R418). -/
def State.fltMerge (s : State) (l : List Nat) : State :=
  let v := s.reg Reg.FLT_REC
  let c := l.foldl (fun c n => max c (s.fltClass n)) (recClass v)
  let v := setBits v 40 2 c
  let v := setBits v 48 16 (satAdd 16 (recMerges v) l.length)
  s.setReg Reg.FLT_REC (recSeal (setBits v 160 160 (recSrc v ||| srcMask l)))

/-- The clear of a pending source takes effect when it was not raised in the tick, its cause is gone and its class is
below C3; `by'` is 0 for the host and p + 1 for Pod p (R424). -/
def State.fltClear (s : State) (raised : List Nat) (n by' : Nat) : State :=
  if s.fltPend n && !raised.contains n && !s.fltCause n && decide (s.fltClass n < 3) then
    (s.setPend n false).journal 0x14 0x0052 (natLe 1 n ++ natLe 1 by')
  else s

/-- The latched record is acknowledged (R419, R420, R421). -/
def State.fltAckDone (s : State) (by' : Nat) : State :=
  let v := s.reg Reg.FLT_REC
  let s := s.setFld Reg.FLT_STATUS Reg.FLT_STATUS_LATCHED 0
  let s := (List.range 15).foldl (fun s k => s.setReg (Reg.FLT_HIST (15 - k)) (s.reg (Reg.FLT_HIST (14 - k)))) s
  let s := s.setReg (Reg.FLT_HIST 0) v
  let s := s.journal 0x14 0x0051
    (natLe 4 (recFseq v) ++ natLe 1 (getBits v 40 8) ++ natLe 1 by' ++ natLe 2 (recMerges v) ++ natLe 20 (recSrc v))
  s.fltEvent.fltCommit true

/-- The sources that are pending. -/
def State.fltPending (s : State) : List Nat := (List.range 128).filter s.fltPend

/-- ERR_N, FATAL_N and MAXCLASS follow the pending sources, a fall of ERR_N raises MSI-X vector 4, and a C3 fault
releases TWIN_LOCK (R348, R422, R427). -/
def State.fltPins (s : State) : State :=
  let l := s.fltPending
  let err := l.any (fun n => decide (s.fld Reg.FLT_CFG Reg.FLT_CFG_ERR_CLASS ≤ s.fltClass n))
  let fatal := l.any (fun n => decide (s.fltClass n = 3))
  let top := l.foldl (fun c n => max c (s.fltClass n)) 0
  let fell := err && !s.flt.errLow
  let s := ((s.setFld Reg.FLT_STATUS Reg.FLT_STATUS_ERR (bit err)).setFld Reg.FLT_STATUS Reg.FLT_STATUS_FATAL
    (bit fatal)).setFld Reg.FLT_STATUS Reg.FLT_STATUS_MAXCLASS top
  let s := { s with flt := { s.flt with errLow := err, fatalLow := fatal } }
  let s := if fatal then s.twinRelease 1 else s
  if fell then { s with hif := { s.hif with msix := s.hif.msix ++ [4] } } else s

/-- A new raise of SYNn_UNLOCK or TBP_UNLOCK calls for its reaction again, also where the record held the source before (DEDUCED,
notes/assumptions/181): RELOCK comes once per raise, and TB_SAFE counts from the raise (R425). -/
def State.fltAgain (s : State) (l : List Nat) : State :=
  match s.flt.noted with
  | some (f, m) =>
    let m' := l.foldl (fun m n => if n = 83 ∨ (57 ≤ n ∧ n ≤ 60) then setBits m n 1 0 else m) m
    { s with flt := { s.flt with noted := some (f, m') } }
  | none => s

/-- The end of a collection tick: its raises, then its clears, then its acknowledgement, then the pins (R418, R419,
R424). -/
def State.fltCollect (s : State) : State :=
  let l := s.flt.raised.eraseDups
  let cl := s.flt.clears
  let ack := s.flt.ack
  let latched := s.fltLatched
  let s := { s with flt := { s.flt with raised := [], clears := [], ack := none } }
  let s := (l.foldl (fun s n => s.setPend n true) s).fltAgain l
  let s := if l = [] then s else if latched then s.fltMerge l else s.fltOpen l
  let s := cl.foldl (fun s c => s.fltClear l c.1 c.2) s
  let s := match ack with
    | some by' => if latched then s.fltAckDone by' else s
    | none => s
  s.fltPins

/-- An acknowledgement arrives: it counts when a record is latched (R419). -/
def State.fltAsk (s : State) (by' : Nat) : State :=
  if s.fltLatched then { s with flt := { s.flt with ack := some (s.flt.ack.getD by') } } else s

/-- A clear arrives (R424). -/
def State.fltAskClear (s : State) (n by' : Nat) : State :=
  { s with flt := { s.flt with clears := s.flt.clears ++ [(n, by')] } }

/-- A clear of a source would be refused (R424). -/
def State.fltStays (s : State) (n : Nat) : Bool := s.fltCause n || decide (s.fltClass n = 3)

/-! ### Rows of the island -/

/-- FAULT_COLLECTION_TICK (R418). -/
def execFaultCollectionTick (s : State) : Host.Outcome State Fault Refusal := act State.fltCollect s

/-- The effect of a write of FLT_ACK. -/
def State.fltAckAct (s : State) (data : Nat) : State := if data % 2 = 1 then s.fltAsk 0 else s

/-- FLT_ACK (R419). -/
def execFltAck (m : Master) (data : Nat) (s : State) : Host.Outcome State Fault Refusal :=
  act (fun s => s.regWrite m Reg.FLT_ACK (fun s => s.fltAckAct data)) s

/-- The effect of a write of a word of FLT_PEND. -/
def State.fltPendAct (s : State) (w data : Nat) : State :=
  (List.range 32).foldl (fun s k => if data / 2 ^ k % 2 = 1 then s.fltAskClear (32 * w + k) 0 else s) s

/-- FLT_PEND_CLEAR (R424). -/
def execFltPendClear (m : Master) (w : Fin 5) (data : Nat) (s : State) : Host.Outcome State Fault Refusal :=
  act (fun s => s.regWrite m (Reg.FLT_PEND w) (fun s => s.fltPendAct w data)) s

/-- The effect of a write of FLT_CLASS: a source of default class C3 and a spare source ignore it, and the value 3 is
reserved; ERR_N follows the new class at once (R12, R417). -/
def State.fltClassAct (s : State) (n data : Nat) : State :=
  if 128 ≤ n ∨ fltDefaultClass n = 3 ∨ data % 4 = 3 then s else (s.setFld (Reg.FLT_CLASS n) Reg.FLT_CLASS_CLASS data).fltPins

/-- FLT_CLASS_WRITE (R417). -/
def execFltClassWrite (m : Master) (src : Fin 160) (data : Nat) (s : State) : Host.Outcome State Fault Refusal :=
  act (fun s => s.regWrite m (Reg.FLT_CLASS src) (fun s => s.fltClassAct src data)) s

/-- FACK (R380, R419). -/
def execFack (p : PodId) (s : State) : Host.Outcome State Fault Refusal :=
  fin p (fun s => s.needCap p 12 (fun s =>
    (s.fltAsk (p + 1)).finish p (fun q => { q with c := !s.fltLatched }))) s

/-- FCLR (R380, R424). A source number above 159 sets C. -/
def execFclr (p : PodId) (ra : GReg) (s : State) : Host.Outcome State Fault Refusal :=
  fin p (fun s => s.needCap p 12 (fun s =>
    let n := ((s.pod p).rg ra).toNat
    if 159 < n ∨ s.fltStays n = true then s.finish p (fun q => { q with c := true })
    else (s.fltAskClear n (p + 1)).finish p (fun q => { q with c := false }))) s

/-! ### The reactions of Pod 3 -/

/-- A resident program posts an event record in the layout of R398, when the ring has room (R378). -/
def State.residentEvent (s : State) (p code status : Nat) (data : List Byte) : State :=
  if s.runsResident p then
    let s := s.ringFlush 2
    if s.ringRoom 2 then s.event (0x0100 + p) p (padTo 48 (natLe 1 code ++ [0] ++ natLe 2 status ++ data)) else s
  else s

/-- The reaction to one source (R425). -/
def State.fltReact (s : State) (fseq n : Nat) : State :=
  if 57 ≤ n ∧ n ≤ 60 then { s with flt := { s.flt with relock := tabSet 0 s.flt.relock (n - 57) (s.tkp.rawcnt + 1) } }
  else if n = 83 then
    if s.paramN 0x304 = 0 ∨ s.tbLocked = true then s else { s with flt := { s.flt with tbWatch := some s.tkp.rawcnt } }
  else s.residentEvent 3 0x10 0 (natLe 4 fseq ++ natLe 1 n)

/-- The sources of FLT_REC to which Pod 3 has reacted, none where it has not seen that record. -/
def State.fltSeen (s : State) : Option Nat :=
  match s.flt.noted with
  | some (f, m) => if f = recFseq (s.reg Reg.FLT_REC) then some m else none
  | none => none

/-- Pod 3 reacts to each source of the latched record that it has not reacted to, and to those that merged into a record that it has seen
up to the acknowledgement (R419, R425). -/
def State.fltReactAll (s : State) : State :=
  if s.runsResident 3 && (s.fltLatched || s.fltSeen.isSome) then
    let v := s.reg Reg.FLT_REC
    let seen := s.fltSeen.getD 0
    let l := (List.range 128).filter (fun n => decide (recSrc v / 2 ^ n % 2 = 1) && decide (seen / 2 ^ n % 2 = 0))
    let s := { s with flt := { s.flt with noted := some (recFseq v, recSrc v) } }
    l.foldl (fun s n => s.fltReact (recFseq v) n) s
  else s

/-- FAULT_REACTION (R425). -/
def execFaultReaction (s : State) : Host.Outcome State Fault Refusal := act State.fltReactAll s

/-- Pod 3 clears what FLT_AUTO_CLASS allows, and does so again a second later (R425, R426). -/
def State.autoClear (s : State) : State :=
  let s := { s with flt := { s.flt with clearAt := s.tkp.rawcnt + 1250000001 } }
  let top := s.paramN 0x301
  if top = 0xFF then s
  else s.fltPending.foldl (fun s n => if s.fltClass n ≤ top ∧ s.fltStays n = false then s.fltAskClear n 4 else s) s

/-- ACK_HOLD_EXPIRE: the sources that have merged since the last reaction get theirs first (R425). -/
def execAckHoldExpire (s : State) : Host.Outcome State Fault Refusal :=
  act (fun s =>
    if s.runsResident 3 && s.fltLatched then
      ((s.at (s.flt.latchTick + s.paramN 0x302 * 1000 * ticksPerUs)).fltReactAll.fltAsk 4).autoClear
    else s) s

/-- AUTO_CLEAR: each second from the last clearing (R425). -/
def execAutoClear (s : State) : Host.Outcome State Fault Refusal :=
  act (fun s =>
    if s.runsResident 3 && decide (s.flt.clearAt ≠ 0) then (s.at (s.flt.clearAt - 1)).autoClear else s) s

/-- RELOCK_WAIT_EXPIRE: SYNAT RELOCK on a synthesizer that is not LOCKED, and the event RELOCK_ISSUED (R425). -/
def execRelockWaitExpire (n : SynId) (s : State) : Host.Outcome State Fault Refusal :=
  act (fun s =>
    let t := tabGet 0 s.flt.relock n
    if t = 0 then s
    else
      let s := { s with flt := { s.flt with relock := tabSet 0 s.flt.relock n 0 } }
      if s.runsResident 3 then
        let s := s.at (t - 1 + s.paramN 0x303 * 1000 * ticksPerUs)
        if s.synSt n = 3 then s else ((s.synOp n 5 0 0).2).residentEvent 3 0x11 0 (natLe 1 n)
      else s) s

/-- The target kind and the index of an output in the SYNAT encoding (R374). -/
def outKind (o : Nat) : Nat × Nat :=
  if o < 8 then (1, o) else if o < 16 then (2, o - 8) else if o < 18 then (3, o - 16) else (4, o - 18)

/-- TB_SAFE_EXPIRE: the TBP has stayed unlocked, and Pod 3 forces every enabled output (R425). -/
def execTbSafeExpire (s : State) : Host.Outcome State Fault Refusal :=
  act (fun s =>
    match s.flt.tbWatch with
    | none => s
    | some t =>
      let s := { s with flt := { s.flt with tbWatch := none } }
      if s.runsResident 3 && !s.tbLocked && decide (s.paramN 0x304 ≠ 0) then
        let s := s.at (t + s.paramN 0x304 * 1000 * ticksPerUs)
        (List.range 22).foldl (fun s o =>
          if s.outEn o then
            let k := outKind o
            let s := { s.outForce o with flt := { s.flt with tbForced := s.flt.tbForced ||| 2 ^ o } }
            s.residentEvent 3 0x12 0 (natLe 1 k.1 ++ natLe 1 k.2 ++ natLe 1 83)
          else s) s
      else s) s

/-- The TBP has relocked: Pod 3 releases what it has forced (R425). -/
def State.tbRelease (s : State) : State :=
  let m := s.flt.tbForced
  let s := { s with flt := { s.flt with tbWatch := none } }
  if s.runsResident 3 then
    let s := { s with flt := { s.flt with tbForced := 0 } }
    (List.range 22).foldl (fun s o =>
      if m / 2 ^ o % 2 = 1 then
        let k := outKind o
        (s.outRelease o).residentEvent 3 0x13 0 (natLe 1 k.1 ++ natLe 1 k.2)
      else s) s
  else s

/-- CRYPTO_LANE_FAULT: the lane fails its self-check, and the Placer issues nothing to it any more (R416). -/
def execCryptoLaneFault (lane : Fin 8) (s : State) : Host.Outcome State Fault Refusal :=
  act (fun s => s.condOn (8 + lane)) s

end Sys2Proof.Machine
end

