-- ==== Sys2Proof/Machine/Ens.lean ====
section
/-! DEFINITION. Pod 0's ensemble program at each update, the timescale states, steering, holdover and return, and the
steer watchdog (R131 to R171). -/

namespace Sys2Proof.Machine

/-! ### Issue of timed actions by Pod 0 -/

/-- Pod 0 issues a STEERAT (kind 0) or STEPAT (kind 1) on VC0 time: the answer is its tag, none when the queues have no
room (R372). -/
def State.podIssue (s : State) (kind op vcChg : Nat) (target : Gt) (val : Nat) (gt : Gt) : State × Option Nat :=
  let q := s.pod 0
  if !q.complRoom || decide (64 ≤ q.acts.length) then (s, none)
  else
    let (s, took) := if kind = 1 then s.takeStep vcChg else (s, .nothing)
    let a : TimedAction := ⟨q.nextAct, false, kind, 0, vcChg, target, op, 0, val, gt, toSigned 64 val, took, q.tag⟩
    (s.modPod 0 (fun q => { q with reserved := q.reserved + 1, tag := nextTag q.tag, nextAct := q.nextAct + 1,
                                   acts := q.acts ++ [a] }), some q.tag)

/-- The time of VC0 is set: FIRST_DONE is 1, and no free first step that Pod 0 has issued is still to be completed
(R68, R69, R159; notes/assumptions/163). -/
def State.timeSet (s : State) : Bool :=
  s.firstDone 0 && !s.ens.steps.any (fun x => x.free)

/-- The next VC0 second at least 100 ms ahead (R146, R168). -/
def State.stepSecond (s : State) : Int := -(-(s.vcNow 0 + fuSec / 10) / fuSec)

/-- A whole number of seconds nearest to a number. -/
def wholeSec (x : Rat) : Int := nearest x

/-- Pod 0 issues a relative step of VC0 by `delta` s for a purpose of Stepping. -/
def State.issueStep (s : State) (kind ref : Nat) (delta : Rat) : State :=
  let sec := s.stepSecond
  let free := !s.firstDone 0
  match s.podIssue 1 1 0 (sec * fuSec) 0 (psToFu (delta * 1000000000000)) with
  | (s, some tag) => s.modEns (fun e => { e with steps := e.steps ++ [⟨tag, kind, ref, delta, sec + wholeSec delta, free⟩] })
  | (s, none) => s

/-! ### The committed state -/

/-- A commit of the ensemble state (R145). -/
def State.ensCommit (s : State) : State :=
  let v : EnsSave := { mem := s.ens.mem, integ := s.ens.integ, integ1 := s.ens.integ1, learn := s.reg Reg.ENS_LEARN
                       learned := decide (s.fld Reg.ENS_TS Reg.ENS_TS_LEARNED = 1), everLocked := s.ens.everLocked
                       stat := (List.range 8).map (fun i => s.reg (Reg.ENS_MEM_STAT i)) }
  (s.mramAsk ridEns (.ens v) []).modEns (fun e => { e with commitAt := s.vc0Sec, commitDue := false })

/-! ### Completions -/

/-- A step of VC0 has completed DONE: Pod 0 keeps its own times in step with VC0 (R146, R168, R176). -/
def State.stepCompleted (s : State) (x : Stepping) : State :=
  let w := wholeSec x.delta
  let s := s.modEns (fun e => { e with
    tH := e.tH + w, tI := e.tI + w, commitAt := e.commitAt + w, fit := e.fit.map (fun p => (p.1 + w, p.2))
    errs := if x.kind = 1 then e.errs.map (· + x.delta) else e.errs })
  match x.kind with
  | 0 =>
    let r := s.track x.ref
    let s := s.modEns (fun e => { e with tFree := x.sec, tH := x.sec, l2 := 0, l2e := 0, everLocked := false })
    if s.sources = [] then s.boundIn (.src (r.l0 + r.l1) 0 r.lflags (0x40 + x.ref)) else s
  | 1 => s
  | _ =>
    let s := if x.free then s.modEns (fun e => { e with tFree := x.sec, tH := x.sec, l2 := 0, l2e := 0, everLocked := false }) else s
    if s.sources = [] then s.boundIn (.src (s.paramN 0x017) 0 0 0x20) else s

/-- The completion entries of Pod 0: a STEERAT that completed LATE is counted and raised (R23), and a step that completed
DONE takes its effect on the program. A step that is no longer queued is awaited no more. -/
def State.ensCompletions (s : State) : State :=
  let l := (s.pod 0).compl
  let s := s.modPod 0 (fun q => { q with compl := [] })
  let s := l.foldl (fun s w =>
    let tag := bitsOf w 0 16
    let st := bitsOf w 16 4
    let s := match s.ens.steer with
      | some t =>
        if t = tag then
          let s := s.modEns (fun e => { e with steer := none })
          if st = 1 then (s.modEns (fun e => { e with steerLate := e.steerLate + 1, dacMissed := e.dacMissed + e.dacU0 })).raise 93
          else s
        else s
      | none => s
    match s.ens.steps.find? (fun x => x.tag = tag) with
    | some x =>
      let s := s.modEns (fun e => { e with steps := e.steps.filter (fun y => y.tag ≠ tag) })
      if st = 0 then s.stepCompleted x else s
    | none => s) s
  let acts := (s.pod 0).acts
  s.modEns (fun e => { e with steps := e.steps.filter (fun x => acts.any (fun a => a.tag = x.tag)) })

/-! ### Member statuses -/

/-- A member enters LEARNING (R131, R133). -/
def State.learnMem (s : State) (i : Nat) : State :=
  (s.setMemStat i 2).modMem i (fun m => { m with init := true, resetDue := false, learnMs := 0, ramp := 0, outl := 0, sn := [], outRun := 0 })

/-- A member slot becomes EMPTY and its estimates are discarded (R131). -/
def State.emptyMem (s : State) (i : Nat) : State :=
  ((s.setMemStat i 0).setFld (Reg.ENS_MEM_STAT i) Reg.ENS_MEM_STAT_SRC 0x1F).modMem i (fun _ => Member.reset)

/-- A member goes FROZEN, with weight 0 at the same update (R131, R136). -/
def State.freezeMem (s : State) (i : Nat) (attributed : Bool) : State :=
  (s.setMemStat i 5).modMem i (fun m => { m with ramp := 0, attributed := attributed })

/-- Status changes of a member from the state of its reference (R114, R131, R136). A reference back in QUALIFYING counts as
not AVAILABLE (notes/assumptions/19). -/
def State.memRef (s : State) (i : Nat) : State :=
  let m := s.memSrc i
  if i = 0 ∨ 18 ≤ m then s
  else
    let st := s.memStat i
    let ok := s.refOk m
    let s := if ok then s else s.modMem i (fun x => { x with attributed := false })
    if st = 1 then (if ok then s.learnMem i else s)
    else if st = 0 ∨ 7 ≤ st then s
    else if s.refSt m = 4 then (if st = 5 then s else s.freezeMem i false)
    else if !ok then (s.setMemStat i 1).modMem i (fun x => { x with ramp := 0 })
    else if st = 5 ∧ (s.mem i).attributed = false then (s.setMemStat i 3).modMem i (fun x => { x with ramp := 0 })
    else s

/-- Status changes of a member from MEM_SRC (R128, R131). -/
def State.memParam (s : State) (i : Nat) : State :=
  let p := s.paramN (0x020 + i)
  let s := s.setFld (Reg.ENS_MEM_STAT i) Reg.ENS_MEM_STAT_CLASS (s.memClass i)
  let st := s.memStat i
  if i = 0 then
    (if st = 0 then (s.setFld (Reg.ENS_MEM_STAT 0) Reg.ENS_MEM_STAT_SRC 0x1E).learnMem 0 else s)
  else if p = 0x1F then
    (if st = 1 ∨ st = 2 ∨ st = 5 then s.emptyMem i else if st = 3 ∨ st = 4 then s.setMemStat i 6 else s)
  else if st = 0 then
    let s := s.setFld (Reg.ENS_MEM_STAT i) Reg.ENS_MEM_STAT_SRC p
    if s.refOk p then s.learnMem i else s.setMemStat i 1
  else s

/-- A MEMBER_RESET received since the last update sends its member to LEARNING; that of M0 resets the filters of the other members
and ends ENS_LO_SUSPECT; each is committed (R134, R136, R145). -/
def State.memReset (s : State) (i : Nat) : State :=
  if (s.mem i).resetDue = false then s
  else if s.memStat i < 2 then s.modMem i (fun m => { m with resetDue := false })
  else
    let s := s.learnMem i
    let s := if i = 0 then
        ((List.range 8).foldl (fun s j => if 2 ≤ s.memStat j then s.modMem j (fun m => { m with init := true }) else s) s).condOff 95
      else s
    s.ensCommit

/-- The sign of the bias of a member's innovation sequence, none when it is not biased (R134). -/
def State.bias (s : State) (i : Nat) : Option Bool :=
  let m := s.mem i
  let n := s.paramN 0x00E
  let mean := (m.sn.take n).sum / (n : Rat)
  if i = 0 ∨ s.memStat i < 2 then none
  else if n ≤ m.sn.length ∧ ratioQ (s.param 0x00F) < absQ mean then some (decide (mean < 0))
  else if 5 ≤ m.outRun then some (decide (m.nu < 0))
  else none

/-- Bias attribution: to M0 when every other member with a weight is biased with the same sign, else to each biased member
(R134). -/
def State.memBias (s : State) : State :=
  let w := (List.range 8).filter (fun i => decide (i ≠ 0) && decide (0 < (s.mem i).w))
  let all (x : Bool) := w.all (fun i => s.bias i == some x)
  if 2 ≤ w.length ∧ (all true || all false) then (s.freezeMem 0 true).condOn 95
  else
    (List.range 8).foldl (fun a i =>
      if (s.bias i).isSome then
        let a := { a with ref := { a.ref with biased := if a.ref.biased.contains (s.memSrc i) then a.ref.biased
                                                        else a.ref.biased ++ [s.memSrc i] } }
        a.freezeMem i true
      else a) s

/-- Ramps: LEARNING ends after MEM_LEARN, RAMP and LEAVING move over WEIGHT_RAMP; `old` is the status before this update
(R131). -/
def State.memRamp (s : State) (i old : Nat) : State :=
  let iv := s.ensIval
  let ramp := s.paramN 0x00C
  let step : Rat := if ramp = 0 then 1 else (iv : Rat) / ramp
  let toActive (s : State) : State := if 1 ≤ (s.mem i).ramp then (s.setMemStat i 4).modMem i (fun m => { m with ramp := 1 }) else s
  match s.memStat i with
  | 2 =>
    let s := if old = 2 then s.modMem i (fun m => { m with learnMs := m.learnMs + iv }) else s
    if s.paramN 0x00D ≤ (s.mem i).learnMs then
      toActive ((s.setMemStat i 3).modMem i (fun m => { m with ramp := if ramp = 0 then 1 else 0 }))
    else s
  | 3 =>
    let s := if old = 3 ∨ ramp = 0 then s.modMem i (fun m => { m with ramp := m.ramp + step }) else s
    toActive s
  | 6 =>
    let s := if old = 6 ∨ ramp = 0 then s.modMem i (fun m => { m with ramp := m.ramp - step }) else s
    if (s.mem i).ramp ≤ 0 then s.emptyMem i else s
  | _ => s

/-- The status changes of an update, in the order of R136. -/
def State.memStatuses (s : State) : State :=
  let old := (List.range 8).map s.memStat
  let s := (List.range 8).foldl State.memRef s
  let s := (List.range 8).foldl State.memParam s
  let s := (List.range 8).foldl State.memReset s
  let s := s.memBias
  (List.range 8).foldl (fun s i => s.memRamp i (old.getD i 0)) s

/-! ### Weights and ET -/

/-- r_i (R131). -/
def State.rampOf (s : State) (i : Nat) : Rat :=
  let st := s.memStat i
  if st = 3 ∨ st = 4 ∨ st = 6 then (s.mem i).ramp else 0

/-- The weights of an update; none above 0 raises ENS_NO_MEMBER (R135, R137). -/
def State.memWeights (s : State) : State :=
  let tW : Rat := (s.paramN 0x00B : Rat) / 1000
  let a := ((List.range 8).map (fun i => (i, s.rampOf i / phaseVar (s.memNoise i) tW))).filter (fun x => decide (0 < x.2))
  let w := weights a (ratioQ (s.param 0x00A))
  let s := (List.range 8).foldl (fun s i =>
    let x := ((w.find? (fun y => y.1 = i)).map (·.2)).getD 0
    (s.modMem i (fun m => { m with w := x })).setFld (Reg.ENS_MEM_W i) Reg.ENS_MEM_W_WEIGHT (nearest (x * 65536)).toNat) s
  if a = [] then s.condOn 96 else s.condOff 96

/-- ET: M0's terms from the weighted members, and every member's from M0's (R137, R138). -/
def State.etUpdate (s : State) : State :=
  let t := s.ensTau
  let h := t * t / 2
  let l := (List.range 8).filter (fun i => decide (0 < (s.mem i).w))
  let m0 := s.mem 0
  let sum (f : Member → Rat) : Rat := (l.map (fun i => (s.mem i).w * f (s.mem i))).sum
  let x0 := if l = [] then m0.xe + m0.ye * t + m0.de * h else sum (fun m => m.xe + m.ye * t + m.de * h - m.zx)
  let y0 := if l = [] then m0.ye + m0.de * t else sum (fun m => m.ye + m.de * t - m.zy) + s.ens.u0Used
  let d0 := if l = [] then m0.de else sum (fun m => m.de - m.zd)
  (List.range 8).foldl (fun s i =>
    let s := s.setFld (Reg.ENS_MEM_STAT i) Reg.ENS_MEM_STAT_OUTL (min 255 (s.mem i).outl)
    if s.memStat i < 2 then s
    else
      let s := s.modMem i (fun m => { m with xe := x0 + m.zx, ye := y0 + m.zy, de := d0 + m.zd })
      s.setReg (Reg.ENS_MEM_Y i) (ofSigned 64 (nearest ((s.mem i).ye * 18446744073709551616)))) s

/-! ### The source -/

/-- The members that a REFIN or any reference feeds. -/
def State.fedBy (s : State) (m : Nat) : Option Nat :=
  (List.range 8).find? (fun i => decide (s.memSrc i = m) && decide (s.memStat i ≠ 0))

/-- e_k of a set of references with their v_m at a VC0 second in ps, none when a term is absent (R143). -/
def State.comboError (s : State) (l : List (Nat × Rat)) (sec : Int) : Option Rat := (s.loopError l sec).map (· * 1000000000000)

/-- The build-outs after a change of the combination to `l`: the error before it was `e0`. A reference that joins shows that error;
what the change of the weights moves is taken by the references that are no REFIN, and by the REFINs only where there is no other,
since a REFIN keeps its build-out (R143; notes/assumptions/17). -/
def State.comboJoin (s : State) (l : List (Nat × Rat)) (sec : Int) (e0 : Rat) : State :=
  let old := s.ref.combo.map (·.1)
  let t := l.foldl (fun t x =>
    if old.contains x.1 then t else tabSet 0 t x.1 (((s.track x.1).xAt sec).getD 0 - e0)) s.ref.buildOut
  let s := { s with ref := { s.ref with buildOut := t, boFresh := true } }
  let free := l.filter (fun x => carriesTime x.1 || !old.contains x.1)
  let free := if free = [] then l else free
  let v := (free.map (·.2)).sum
  match s.comboError l sec with
  | some e => { s with ref := { s.ref with buildOut := free.foldl (fun t x => tabSet 0 t x.1 (tabGet 0 t x.1 + (e - e0) / v)) t } }
  | none => s

/-- The build-outs that keep e_k the same when a reference joins or leaves the combination (R143): taken at the first update at which
every reference of the new one has its phase value. With no source before, a time-carrying reference takes 0 and a REFIN its own
phase. -/
def State.comboBuild (s : State) (l : List (Nat × Rat)) (sec : Int) : State :=
  let keep (s : State) : State := { s with ref := { s.ref with combo := l } }
  if s.combining = false ∨ s.ref.combo.map (·.1) = l.map (·.1) then keep s
  else if l.any (fun x => ((s.track x.1).xAt sec).isNone) then s
  else if s.ref.combo = [] then
    keep { s with ref := { s.ref with buildOut := l.foldl (fun t x =>
      tabSet 0 t x.1 (if carriesTime x.1 then 0 else ((s.track x.1).xAt sec).getD 0)) s.ref.buildOut } }
  else keep (s.comboJoin l sec ((s.comboError s.ref.combo sec).getD (s.ens.lastE.getD 0 * 1000000000000)))

/-- A build-out moved toward 0 by at most `d`. -/
def toward0 (b d : Rat) : Rat := if 0 < b then max 0 (b - d) else min 0 (b + d)

/-- The build-outs of an update: reduced by BO_SLEW × the interval, but not at the switch and not for a REFIN (R123, R143);
the bound engine takes what remains. -/
def State.buildOuts (s : State) (l : List (Nat × Rat)) : State :=
  let d := min (freqQ (s.param 0x10A)) s.slewMax * s.ensTau * 1000000000000
  let s := if s.ref.boFresh then { s with ref := { s.ref with boFresh := false } }
    else l.foldl (fun s x =>
      if carriesTime x.1 then
        { s with ref := { s.ref with buildOut := tabSet 0 s.ref.buildOut x.1 (toward0 (tabGet 0 s.ref.buildOut x.1) d) } }
      else s) s
  let sum : Rat := (l.map (fun x => if carriesTime x.1 then x.2 * tabGet 0 s.ref.buildOut x.1 else 0)).sum
  let v : Int := if sum < 0 then sum.floor else sum.ceil
  if l = [] ∨ v.natAbs = s.bound.bo then s else s.boundIn (.buildOut v (s.sourceNo l))

/-- The terms of a combination for the bound engine (R176, R177). -/
def State.comboTerms (s : State) (l : List (Nat × Rat)) : State :=
  if s.combining = false ∨ l = [] then s
  else
    let sum (f : RefTrack → Nat) : Nat := ((l.map (fun x => x.2 * (f (s.track x.1) : Rat))).sum).ceil.toNat
    s.boundIn (.src (sum (·.l0)) (sum (·.l1)) (l.foldl (fun a x => a ||| (s.track x.1).lflags) 0) (if timeSource l then 0x1E else 0x3E))

/-! ### States of the timescale -/

/-- The timescale takes a state and a cause; a commit is asked for at each entry to HOLDOVER, by Pod 0's next update where the hardware
has set it (R144, R145, R149). -/
def State.setTs (s : State) (st cause : Nat) (by' : Nat := 0) : State :=
  let old := s.fld Reg.ENS_TS Reg.ENS_TS_STATE
  if old = st ∧ s.fld Reg.ENS_TS Reg.ENS_TS_CAUSE = cause then s
  else
    let s := (s.setFld Reg.ENS_TS Reg.ENS_TS_STATE st).setFld Reg.ENS_TS Reg.ENS_TS_CAUSE cause
    let s := s.journal by' 0x0020 (natLe 1 old ++ natLe 1 st ++ natLe 1 cause ++ natLe 1 (s.fld Reg.ENS_TS Reg.ENS_TS_TRACE))
    let s := if (st = 1 ∨ st = 2) then s else s.modEns (fun e => { e with stepTried := false, lockRun := 0, awayRun := 0 })
    if st = 3 ∧ old ≠ 3 then (if by' = 0 then s.ensCommit else s.modEns (fun e => { e with commitDue := true })) else s

/-- ENS_TS.STATE. -/
def State.tsSt (s : State) : Nat := s.fld Reg.ENS_TS Reg.ENS_TS_STATE

/-- LOOP_MODE is OPEN. -/
def State.loopOpen (s : State) : Bool := s.param 0x007 = 1

/-- Pod 0 takes ACQUIRING: the holdover drift is folded into the integrator where the steering of R157 has been applied (R167), while
after an open loop it resumes from the held I_k (R148); the errors start anew (R169). -/
def State.toAcquiring (s : State) (b : Int) : State :=
  let dt : Rat := (b : Rat) / 1000 - s.ens.tI
  (s.modEns (fun e => { e with integ := if e.held then e.iH + e.dH * dt else e.integ, held := false
                               errs := [], lockRun := 0, awayRun := 0 })).setTs 1 0

/-- The transitions of R144 that come before the loop: the source, the loop's mode and the free first step. True in the
answer: ACQUIRING was entered from outside ACQUIRING and LOCKED. -/
def State.tsBefore (s : State) (l : List (Nat × Rat)) (b : Int) : State × Bool :=
  let st := s.tsSt
  let cause := s.fld Reg.ENS_TS Reg.ENS_TS_CAUSE
  let learned := decide (s.fld Reg.ENS_TS Reg.ENS_TS_LEARNED = 1)
  let present := decide (l ≠ [])
  let away := if learned then 3 else 0
  if st = 0 ∧ cause = 1 then
    (if s.timeSet = false then (s, false)
     else if present && !s.loopOpen then (s.toAcquiring b, true)
     else (s.setTs 0 2, false))
  else if st = 1 ∨ st = 2 then
    (if !present then (s.setTs away (if s.ref.dispute then 3 else 2), false)
     else if s.loopOpen then (s.setTs away 4, false)
     else (s, false))
  else if present && !s.loopOpen && s.timeSet then (s.toAcquiring b, true)
  else (s, false)

/-- The transitions between ACQUIRING and LOCKED (R144). -/
def State.tsLock (s : State) (e : Option Rat) (clamped : Bool) : State :=
  let lim : Rat := (s.paramN 0x008 : Rat) / 1000000000000
  let x := absQ (e.getD 0)
  match s.tsSt with
  | 1 =>
    let n := if x ≤ lim ∧ clamped = false then s.ens.lockRun + 1 else 0
    let s := s.modEns (fun v => { v with lockRun := n })
    if s.paramN 0x009 ≤ n then (s.modEns (fun v => { v with awayRun := 0, everLocked := true })).setTs 2 0 else s
  | 2 =>
    let n := if 4 * lim < x then s.ens.awayRun + 1 else 0
    let s := s.modEns (fun v => { v with awayRun := n })
    if 10 ≤ n then (s.modEns (fun v => { v with lockRun := 0, awayRun := 0, errs := [] })).setTs 1 0 else s
  | _ => s

/-- HOLDOVER and FREE_RUN with time set go LOST on the bound (R144). -/
def State.tsBound (s : State) (by' : Nat) : State :=
  if (s.tsSt = 3 ∨ s.tsSt = 0) ∧ s.timeSet = true ∧ s.overLimit = true then s.setTs 4 6 by' else s

/-! ### Learning and the fit -/

/-- Time spent LOCKED, LEARNED, and the fit of I_k (R145, R158). -/
def State.learn (s : State) (b : Int) : State :=
  let s := if s.tsSt = 2 then
      let ms := s.ens.learnMs + s.ensIval
      let s := (s.modEns (fun e => { e with learnMs := ms % 1000 })).incFld Reg.ENS_LEARN Reg.ENS_LEARN_SECONDS (ms / 1000)
      let t : Rat := (b : Rat) / 1000
      s.modEns (fun e => { e with fit := (t, e.integ) :: e.fit.filter (fun p => decide (t - s.holdLearn < p.1)) })
    else s
  s.setFld Reg.ENS_TS Reg.ENS_TS_LEARNED (bit (decide (s.holdLearn ≤ s.fld Reg.ENS_LEARN Reg.ENS_LEARN_SECONDS)))

/-- The slope of a least-squares line. -/
def slope (l : List (Rat × Rat)) : Rat :=
  let n : Rat := l.length
  let mx := (l.map (·.1)).sum / n
  let my := (l.map (·.2)).sum / n
  let d := (l.map (fun p => (p.1 - mx) * (p.1 - mx))).sum
  if d = 0 then 0 else (l.map (fun p => (p.1 - mx) * (p.2 - my))).sum / d

/-- I_H and d_H at a present e_k (R156 to R158); d_H is 0 in the FREQ_ONLY model of a source without time (R159). -/
def State.holdTerms (s : State) (sec : Int) (time : Bool) : State :=
  let learned := decide (s.fld Reg.ENS_TS Reg.ENS_TS_LEARNED = 1)
  s.modEns (fun e => { e with iH := e.integ, dH := if learned && time then -slope e.fit else 0, tI := sec })

/-! ### The holdover model -/

/-- R_T · ω³ · τ (R160). -/
def State.sigmaY2 (s : State) (l : List (Nat × Rat)) : Rat :=
  let r (m : Nat) : Rat := match s.fedBy m with | some i => s.memR i m | none => sourceR m
  let w := omega (s.fld Reg.ENS_TS Reg.ENS_TS_BWCODE)
  let rT : Rat := match l, s.combining with
    | [(m, _)], false => r m
    | _, _ => (l.map (fun x => x.2 * x.2 * r x.1)).sum
  rT * w ^ 3 * s.ensTau

/-- The model that would apply without a REFIN source: 1 FREE, 2 UNLEARNED, 3 LEARNED (R159). -/
def State.baseModel (s : State) : Nat :=
  if s.fld Reg.ENS_TS Reg.ENS_TS_LEARNED = 1 then 3 else if s.ens.everLocked then 2 else 1

/-- C1, C3, C5, LIN and QUAD of a model (R159, R161). -/
def State.modelCoefs (s : State) (model : Nat) (l : List (Nat × Rat)) : List Rat :=
  let q : List (Rat × (Rat × Rat × Rat)) :=
    if model = 4 then l.map (fun x => (x.2, match s.fedBy x.1 with | some i => s.memNoise i | none => noiseClass 1))
    else (List.range 8).map (fun i => ((s.mem i).w, s.memNoise i))
  let sum (f : Rat × Rat × Rat → Rat) : Rat := (q.map (fun x => x.1 * x.1 * f x.2)).sum
  let lin : Rat := if model = 1 then freqQ (s.param 0x015)
    else if model = 4 then (l.map (fun x => if x.1 < 8 then x.2 * freqQ (s.param (0x050 + x.1)) else 0)).sum else 0
  [sum (·.1), sum (·.2.1) / 3, sum (·.2.2) / 20, lin, if model = 3 then 0 else freqQ (s.param 0x106) / 172800]

/-- Writes a coefficient register; within one holdover a coefficient never falls (R163). -/
def State.putCoef (s : State) (a : Nat) (x : Rat) (keep : Bool) : State :=
  let old := fpToRat (s.word a)
  s.setReg a (fpOfRat (if keep then max old x else x)).toNat

/-- The ENS_HM registers and ENS_HOLD.MODEL of an update: `grows` while L2 grows (R159 to R163, R172). While e_k is absent in ACQUIRING
or LOCKED with a time-carrying source, L2 grows from the last present e_k with that update's coefficients (R169). -/
def State.hmWrite (s : State) (l : List (Nat × Rat)) (grows : Bool) : State :=
  let old := s.fld Reg.ENS_HOLD Reg.ENS_HOLD_MODEL
  let gap := grows && timeSource l && (s.tsSt == 1 || s.tsSt == 2)
  let model := if s.timeSet = false then 0
    else if l ≠ [] ∧ timeSource l = false then 4
    else if grows = true ∧ gap = false ∧ old ≠ 0 then old
    else s.baseModel
  let keep := grows && !gap && decide (old = model)
  let s := s.setFld Reg.ENS_HOLD Reg.ENS_HOLD_MODEL model
  if model = 0 then s
  else
    let c := s.modelCoefs model (if model = 4 ∧ timeSource l = true then [] else l)
    let c := if model = 4 ∧ l = [] then [0, 0, 0, 0, 0] else c
    let k (i : Nat) : Rat := c.getD i 0
    let s := (s.putCoef Reg.ENS_HM_C1 (k 0) keep).putCoef Reg.ENS_HM_C3 (k 1) keep
    let s := (s.putCoef Reg.ENS_HM_C5 (k 2) keep).putCoef Reg.ENS_HM_LIN (k 3) keep
    let s := s.putCoef Reg.ENS_HM_QUAD (k 4) keep
    let s := s.putCoef Reg.ENS_HM_C2 (if model = 2 ∨ model = 3 then s.ens.hmC2 else 0) false
    let s := s.putCoef Reg.ENS_HM_C4 (if model = 3 then s.ens.hmC4 else 0) false
    let s := s.putCoef Reg.ENS_HM_DH (if model = 3 then s.ens.dH else 0) false
    let free := decide (model = 1) && !gap
    let s := s.setReg Reg.ENS_HM_L2E (min (2 ^ 48 - 1) (if free then 0 else s.ens.l2e))
    s.setReg Reg.ENS_HM_T0 (gtToRaw ((if free then s.ens.tFree else s.ens.tH) * fuSec))

/-- L2 at an update (R159, R169): `e` is the error on a time-carrying source in ACQUIRING or LOCKED, none otherwise. True in
the answer: L2 grows. -/
def State.l2Update (s : State) (l : List (Nat × Rat)) (sec b : Int) (e : Option Rat) : State × Bool :=
  match e with
  | some x =>
    let prev := if s.ens.grow then (s.l2Model (b * 1000000 * fuNs)).getD s.ens.l2 else s.ens.l2
    let errs := (x :: s.ens.errs).take 10
    let big : Nat := ((errs.foldl (fun a v => max a (absQ v)) 0) * 1000000000000).ceil.toNat
    let l2 := if errs.length = 10 then min prev big else prev
    let v := s.sigmaY2 l
    let hl : Rat := s.holdLearn
    let s := s.modEns (fun n => { n with errs := errs, l2 := l2, l2e := l2, grow := false, tH := sec, hmC2 := v,
                                         hmC4 := 2 * v / (hl * hl) })
    (s.boundIn (.model false l2), false)
  | none =>
    if s.timeSet = false then (if s.ens.grow ∨ s.bound.l2held ≠ 0 then
        (s.modEns (fun n => { n with grow := false, l2 := 0 })).boundIn (.model false 0) else s, false)
    else if s.ens.grow then (s, true)
    else ((s.modEns (fun n => { n with grow := true })).boundIn (.model true 0), true)

/-! ### Releases of widenings -/

/-- The present e_k counted for each widening held since its source became the traceability source, and the releases (R178). -/
def State.widenCount (s : State) (src : Nat) (time present : Bool) : State :=
  let on := decide (s.tsSt = 1 ∨ s.tsSt = 2) && time
  let w := s.bound.widen.map (fun w =>
    let w := if w.ref < 18 ∧ s.refOk w.ref = true then { w with returned := true } else w
    let w := if w.onSrc = src then w else { w with onSrc := src, count := 0 }
    if present && src != 0x1F then { w with count := w.count + 1 } else w)
  let s := s.modBound (fun x => { x with widen := w })
  if !on then s
  else (w.filter (fun w => decide (10 ≤ w.count) && decide (w.onSrc = src) && (decide (w.ref ≠ src) || w.returned))).foldl
    (fun s w => s.boundIn (.widenRel w.slot src)) s

/-! ### Steering -/

/-- RATE of R139 for a steering frequency, in units of 2^-64: the binary64 rate as RATECV converts it, ties to even (R139, R372). -/
def State.rateFor (s : State) (ys : Rat) : Int :=
  let m := s.mem 0
  let y := m.ye + m.de * (2 / 100 + s.ensTau / 2)
  (fpToInt (fpOfRat ((1 + ys) / (1 + y) - 1)) 64).1.toInt

/-- The code that the DAC holds: that of the last frame, else DAC_MID (R151). -/
def State.dacHeld (s : State) (bits : Nat) : Int :=
  match s.ens.loFrame with
  | some f => ((f % 2 ^ 20 / 2 ^ (20 - bits) : Nat) : Int)
  | none => s.param 0x013

/-- The external DAC of an update (R151, R152): u0, the code change, and the code written for the STEERAT. With STEER_TARGET back at
NUMERIC no code waits any more. -/
def State.dacUpdate (s : State) : State :=
  if s.param 0x011 = 0 then
    let s := s.modEns (fun e => { e with dacSent := false, dacMissed := 0, dacU0 := 0 })
    let s := if s.fld Reg.ENS_DAC_CODE Reg.ENS_DAC_CODE_PEND = 1 ∧ s.ens.loFrame.isSome then
        s.setFld Reg.ENS_DAC_CODE Reg.ENS_DAC_CODE_CODE (s.dacHeld s.dacBits).toNat else s
    s.setFld Reg.ENS_DAC_CODE Reg.ENS_DAC_CODE_PEND 0
  else
    let bits := s.dacBits
    let gain := freqQ (s.param 0x012)
    let u := (clampQ (-freqQ (s.vcSet 0).rate) (freqQ (s.param 0x014))).1
    let d : Int := if s.ens.dacSent then nearest (u / gain) else 0
    let want : Int := if s.ens.dacSent then s.dacHeld bits + d else s.param 0x013
    let top : Int := 2 ^ bits - 1
    let code := min top (max 0 want)
    let u0 : Rat := d * gain
    let s := s.modEns (fun e => { e with u0 := u0 - e.dacMissed, dacMissed := 0, dacU0 := u0
                                         dacPinned := if code = want then e.dacPinned else e.dacPinned + 1 })
    (s.setFld Reg.ENS_DAC_CODE Reg.ENS_DAC_CODE_CODE code.toNat).setFld Reg.ENS_DAC_CODE Reg.ENS_DAC_CODE_PEND 1

/-- The rate of VC1: that of VC0, or that of the second loop on the REDUNDANT reference (R124, R140). -/
def State.vc1Rate (s : State) (sec : Int) (rate : Int) : Int × State :=
  let m := s.paramN 0x10B
  if 18 ≤ m then (rate, s)
  else
    let n := tickOf (s.vcSet 0) (sec * fuSec)
    let e := ((s.track m).xAt sec).map (fun x => wrapSec (x + fuToPs (s.vcAt 1 n - s.vcAt 0 n)) / 1000000000000)
    let w := omega (s.fld Reg.ENS_TS Reg.ENS_TS_BWCODE)
    let r := loopStep (ratioQ (s.param 0x006)) w s.ensTau s.slewMax s.ens.integ1 e
    if s.loopOpen then (s.rateFor 0, s) else (s.rateFor r.1, s.modEns (fun v => { v with integ1 := r.2.1 }))

/-- The STEERATs of an update on VC0 and VC1 at boundary + 20 ms (R23, R139, R140). -/
def State.ensSteer (s : State) (b sec : Int) (ys : Rat) : State :=
  let target : Gt := (b + 20) * 1000000 * fuNs
  let rate := s.rateFor ys
  let s := s.dacUpdate.modEns (fun e => { e with ys := ys })
  match s.podIssue 0 0 0 target (ofSigned 64 rate) 0 with
  | (s, tag) =>
    let s := s.modEns (fun e => { e with steer := tag })
    let (r1, s) := s.vc1Rate sec rate
    (s.podIssue 0 0 1 target (ofSigned 64 r1) 0).1

/-- y_s outside ACQUIRING and LOCKED (R148, R157). -/
def State.holdSteer (s : State) (b : Int) : Rat × Bool :=
  if s.loopOpen then (0, false)
  else clampQ (-(s.ens.iH + s.ens.dH * ((b : Rat) / 1000 - s.ens.tI))) s.slewMax

/-- The loop of an update (R141, R148). -/
def State.ensLoop (s : State) (b : Int) (e : Option Rat) : State × Rat × Bool :=
  if s.tsSt = 1 ∨ s.tsSt = 2 then
    let w := omega (s.fld Reg.ENS_TS Reg.ENS_TS_BWCODE)
    let r := loopStep (ratioQ (s.param 0x006)) w s.ensTau s.slewMax s.ens.integ e
    (s.modEns (fun v => { v with integ := r.2.1 }), r.1, r.2.2)
  else
    let r := s.holdSteer b
    (s.modEns (fun v => { v with held := !s.loopOpen }), r.1, r.2)

/-- The reference whose labelled pulses make the free first step: the first that became AVAILABLE (R146). -/
def State.firstRef (s : State) : Option (Nat × Rat) :=
  let ok (m : Nat) : Bool := decide (8 ≤ m) && (decide (12 ≤ m) || s.todOn m) && s.refOk m
    && (match (s.track m).label with | some (n, _) => decide (s.vc0Sec - 2 ≤ n) | none => false)
  let l := (List.range 18).filter ok
  match l with
  | [] => none
  | a :: r =>
    let m := r.foldl (fun x m => if (s.track m).availAt < (s.track x).availAt then m else x) a
    match (s.track m).label, (s.track m).hist.head? with
    | some (n, lab), some h => some (m, ((lab - n : Int) : Rat) - h.2 / 1000000000000)
    | _, _ => none

/-- The free first step from a labelled reference (R146). -/
def State.firstStep (s : State) : State :=
  if s.firstDone 0 ∨ s.ens.steps ≠ [] then s
  else match s.firstRef with
    | some (m, d) => s.issueStep 0 m d
    | none => s

/-- The step of R168 at the first ACQUIRING update, or its refusal. -/
def State.returnStep (s : State) (entered : Bool) (e : Option Rat) : State :=
  match entered, e with
  | true, some x =>
    let lim : Rat := (s.paramN 0x016 : Rat) / 1000000000000
    if lim = 0 ∨ absQ x < lim ∨ s.ens.stepTried = true then s
    else
      let s := s.modEns (fun v => { v with stepTried := true })
      if s.stepRefused 0 then
        ((s.jStep 0 3 s.tkp.rawcnt (psToFu (-x * 1000000000000)) 0).incFld Reg.ENS_HOLD Reg.ENS_HOLD_SREFUSED 1).residentEvent 0
          0x03 0 (intLe 8 (x * 1000000000000).floor)
      else s.issueStep 1 0x1F (-x)
  | _, _ => s

/-! ### The update -/

/-- The fields of ENS_TS that follow the parameters, and ENS_BLIMIT (R142, R155). -/
def State.ensFields (s : State) (l : List (Nat × Rat)) : State :=
  let bw := s.paramN 0x005
  let c := bwCode bw s.ensIval
  let s := (s.setFld Reg.ENS_TS Reg.ENS_TS_TRACE (s.sourceNo l)).setFld Reg.ENS_TS Reg.ENS_TS_BWCODE c
  let s := (s.setFld Reg.ENS_TS Reg.ENS_TS_BWCLAMP (bit (decide (c < bw)))).setFld Reg.ENS_TS Reg.ENS_TS_LOOP (bit s.loopOpen)
  let s := s.setFld Reg.ENS_TS Reg.ENS_TS_DAC (s.paramN 0x011)
  s.setFld Reg.ENS_BLIMIT Reg.ENS_BLIMIT_VALUE (s.paramN 0x003)

/-- PWR_WARN is active (R150, R170). -/
def State.pwrWarn (s : State) : Bool := s.fld Reg.PWR_STATUS Reg.PWR_STATUS_WARN ≠ 0

/-- An update under PWR_WARN: FREEZE, no steering, no transition but to LOST; I_k and d_H are held, and a present e_k moves t_H (R156,
R170). -/
def State.ensFrozen (s : State) (sec : Int) (e : Option Rat) : State :=
  let s := if e.isSome ∧ (s.tsSt = 1 ∨ s.tsSt = 2) then s.modEns (fun v => { v with iH := v.integ, tI := sec }) else s
  (s.setFld Reg.ENS_HOLD Reg.ENS_HOLD_FREEZE 1).tsBound 0

/-- The states, the loop and the steering of an update that is not frozen; it clears FREEZE where Pod 0 did not run when the last
warning ended (R171). -/
def State.ensActive (s : State) (l : List (Nat × Rat)) (b sec : Int) (e : Option Rat) : State :=
  let s := s.setFld Reg.ENS_HOLD Reg.ENS_HOLD_FREEZE 0
  let stall := decide (s.fld Reg.ENS_ISL_STATUS Reg.ENS_ISL_STATUS_STALL = 1)
  let (s, entered) := if stall then (s, false) else s.tsBefore l b
  let (s, ys, clamped) := s.ensLoop b e
  let s := s.setFld Reg.ENS_HOLD Reg.ENS_HOLD_SLEWING (bit clamped)
  let s := if stall then s else (s.tsLock e clamped).tsBound 0
  let s := (s.learn b).firstStep
  let s := if e.isSome ∧ (s.tsSt = 1 ∨ s.tsSt = 2) then s.holdTerms sec (timeSource l) else s
  (s.returnStep entered e).ensSteer b sec ys

/-- The update of Pod 0 for the boundary `b` in ms (R136 to R171). -/
def State.ensUpdate (s : State) (b : Int) : State :=
  let sec := lastSec b
  let s := s.ensCompletions.memStatuses
  let s := s.memWeights.etUpdate
  let l := s.sources
  let s := (s.comboBuild l sec).buildOuts l
  let s := (s.comboTerms l).ensFields l
  let e := s.loopError l sec
  let s := match e with
    | some x => s.modEns (fun v => { v with lastE := some x, refMs := if timeSource l then some b else v.refMs })
    | none => s
  let s := if s.pwrWarn then s.ensFrozen sec e else s.ensActive l b sec e
  let time := timeSource l
  let onTime := (s.tsSt == 1 || s.tsSt == 2) && time
  let (s, grows) := s.l2Update l sec b (if onTime then e else none)
  let s := (s.hmWrite l grows).widenCount (s.sourceNo l) time e.isSome
  let s := s.keepClaim (s.paramN 0x018 * 1250000)
  let s := if s.ens.commitAt + 600 ≤ s.vc0Sec ∨ s.ens.commitDue = true then s.ensCommit else s
  (s.modBound (fun x => { x with ckpt := some b })).modEns (fun v => { v with updAt := some b })

/-- ENS_UPDATE: once after the EAU update of each interval (R23, R144). -/
def execEnsUpdate (t : Nat) (s : State) : Host.Outcome State Fault Refusal :=
  actAt t (fun s =>
    match s.ens.eauAt with
    | some b =>
      if s.runsResident 0 && s.tbRuns && decide (s.ens.updAt ≠ some b) && decide (b = s.ensBoundary) then s.ensUpdate b else s
    | none => s) s

/-! ### The steer watchdog -/

/-- The steer watchdog expires (R149). -/
def State.steerStall (s : State) : State :=
  let unset := decide (s.tsSt = 0) && decide (s.fld Reg.ENS_TS Reg.ENS_TS_CAUSE = 1)
  let s := (s.setFld Reg.ENS_ISL_STATUS Reg.ENS_ISL_STATUS_STALL 1).condOn 94
  let s := if unset then s
    else s.setTs (if s.fld Reg.ENS_TS Reg.ENS_TS_LEARNED = 1 then 3 else 0) 5 0x10
  let s := if s.timeSet then (s.modEns (fun e => { e with grow := true })).boundIn (.model true 0) else s
  s.twinRelease 1

/-- STEER_WATCHDOG_COUNT: at boundary + 30 ms of each interval (R149, R150). -/
def execSteerWatchdogCount (t : Nat) (s : State) : Host.Outcome State Fault Refusal :=
  actAt t (fun s =>
    let b := s.ensBoundary
    if !s.tbRuns || decide (s.nowMs < b + 30) || decide (s.ens.dogAt = some b) then s
    else
      let done := s.ens.doneInInterval
      let s := s.modEns (fun e => { e with dogAt := some b, doneInInterval := false })
      if done || s.pwrWarn then s
      else
        let s := s.incFld Reg.ENS_SWDOG Reg.ENS_SWDOG_COUNT 1
        let lim := min 64 (max 2 (s.fld Reg.ENS_SWDOG Reg.ENS_SWDOG_LIMIT))
        if lim ≤ s.fld Reg.ENS_SWDOG Reg.ENS_SWDOG_COUNT ∧ s.fld Reg.ENS_ISL_STATUS Reg.ENS_ISL_STATUS_STALL = 0 then s.steerStall
        else s) s

/-- STALL_BOUND_CHECK: once per VC0 second while STALL is 1 (R149). -/
def execStallBoundCheck (t : Nat) (s : State) : Host.Outcome State Fault Refusal :=
  actAt t (fun s =>
    if s.fld Reg.ENS_ISL_STATUS Reg.ENS_ISL_STATUS_STALL = 1 ∧ s.bound.stallAt ≠ some s.vc0Sec ∧ s.tbRuns = true then
      (s.modBound (fun x => { x with stallAt := some s.vc0Sec })).tsBound 0x10
    else s) s

/-! ### Messages -/

/-- Pod 0's resident program takes the message at the front of its mailbox where it has the type. -/
def State.mboxFront (s : State) (p type : Nat) : Option (MboxEntry × State) :=
  match (s.pod p).mbox with
  | e :: rest =>
    if s.runsResident p ∧ e.type = type then some (e, s.modPod p (fun q => { q with mbox := rest })) else none
  | [] => none

/-- SET_TIME: 0 OK, 1 LATE, 2 NO_PERMIT, 3 GTIME_RANGE (R154). An A more than 1,000 s ahead, which no timed action may
have, is answered with GTIME_RANGE (notes/assumptions/20). -/
def execSetTime (s : State) : Host.Outcome State Fault Refusal :=
  act (fun s =>
    match s.mboxFront 0 0x01 with
    | none => s
    | some (e, s') =>
      let raw := leNat (e.payload.take 16)
      let sec := toSigned 64 (leNat ((e.payload.drop 16).take 8))
      let answer (s : State) (st : Nat) : State := s.residentEvent 0 0x01 st []
      if sec * fuSec < s.vcNow 0 + fuSec / 10 then answer s' 1
      else if s.stepRefused 0 then answer (s'.jStep 0 3 s.tkp.rawcnt (gtOfRaw raw - s.vcNow 0) 0) 2
      else if !gtRawOk raw || decide (s.vcNow 0 + 1000 * fuSec < sec * fuSec) then answer s' 3
      else match s'.podIssue 1 0 0 (sec * fuSec) 0 (gtOfRaw raw) with
        | (s', some tag) =>
          let d : Rat := ((gtOfRaw raw - sec * fuSec : Int) : Rat) / 4294967296000000000
          answer (s'.modEns (fun v => { v with steps := v.steps ++ [⟨tag, 2, 0x1F, d, gtSec (gtOfRaw raw), !s.firstDone 0⟩] })) 0
        | (_, none) => s) s

/-- MEMBER_RESET: 0 OK, 1 EMPTY. The reset takes place at the next update, after the changes from the reference states (R136, R154). -/
def execMemberReset (s : State) : Host.Outcome State Fault Refusal :=
  act (fun s =>
    match s.mboxFront 0 0x02 with
    | none => s
    | some (e, s) =>
      let i := (e.payload.headD 0).toNat
      let answer (s : State) (st : Nat) : State := s.residentEvent 0 0x02 st []
      if 8 ≤ i ∨ s.memStat i < 2 then answer s 1
      else answer (s.modMem i (fun m => { m with resetDue := true })) 0) s

end Sys2Proof.Machine
end

