-- ==== Sys2Proof/Machine/Jrn.lean ====
section
/-! DEFINITION. The evidence journal: staging, the ring in DRAM, overwrite runs, CHAIN and LOSS records, and
attestations (R185 to R191, R196). -/

namespace Sys2Proof.Machine

/-- Changes the journal's own state. -/
def State.modJrn (s : State) (f : JrnState → JrnState) : State := { s with jrn := f s.jrn }

/-- The installed DRAM in bytes (R31, R414). -/
def State.dramSize (s : State) : Nat :=
  (s.fld Reg.BUS_DRAM Reg.BUS_DRAM_CH0_GIB + s.fld Reg.BUS_DRAM Reg.BUS_DRAM_CH1_GIB) * 2 ^ 30

/-- The first address of DRAM on the bus (R404). -/
abbrev dramBase : Nat := 0x1000000000

/-- The first address of the Placer's region (R411). -/
def State.placerBase (s : State) : Nat := s.fld Reg.BUS_DRAM Reg.BUS_DRAM_PLACER_BASE * 2 ^ 20

/-- Some bytes lie wholly in installed DRAM, and below the Placer's region (R196, R411). -/
def State.dramIn (s : State) (a n : Nat) : Bool := decide (dramBase ≤ a) && decide (a + n ≤ dramBase + s.dramSize)
def State.dramFree (s : State) (a n : Nat) : Bool := s.dramIn a n && decide (a + n ≤ s.placerBase)

/-- The channel of a DRAM address: both interleave at 4 KiB over twice the smaller size, and the rest of the larger
channel follows (R474, notes/assumptions/12). -/
def State.dramChan (s : State) (a : Nat) : Nat :=
  let c0 := s.fld Reg.BUS_DRAM Reg.BUS_DRAM_CH0_GIB
  let c1 := s.fld Reg.BUS_DRAM Reg.BUS_DRAM_CH1_GIB
  let o := a - dramBase
  if o < 2 * min c0 c1 * 2 ^ 30 then o / 4096 % 2 else if c1 ≤ c0 then 0 else 1

/-- Bytes move between the engine and DRAM in a class of R29: 0 journal, 1 grants, 2 ledger reads, 3 archive, 4 ledger
updates (R453). -/
def State.dramMoved (s : State) (a cls n : Nat) : State := s.countBy (872 + 5 * s.dramChan a + cls) n

/-- Writes bytes of DRAM for a class of R29. -/
def State.dramWrite (s : State) (a cls : Nat) (bs : List Byte) : State :=
  ({ s with dram := putBytes zeros s.dram a bs } : State).dramMoved a cls bs.length

/-- Reads bytes of DRAM for a class of R29. -/
def State.dramRead (s : State) (a cls n : Nat) : List Byte × State := (bytesAt zeros s.dram a n, s.dramMoved a cls n)

/-- 2^SIZE, SIZE used as 20 to 30 (R196). -/
def State.jrnSize (s : State) : Nat := 2 ^ min 30 (max 20 (s.fld Reg.JRN_CFG Reg.JRN_CFG_SIZE))

/-- The address of the ring. -/
def State.jrnBase (s : State) : Nat := s.fld Reg.JRN_BASE Reg.JRN_BASE_ADDR * 2 ^ 20

/-- DRAM takes accesses: it is out of self-refresh, in which it stays while the timebase is stopped (R189, R439). -/
def State.dramUp (s : State) : Bool := s.clk.up && !s.tbStopped

/-- EN of the journal. -/
def State.jrnEn (s : State) : Bool := s.fld Reg.JRN_CFG Reg.JRN_CFG_EN = 1

/-- A record of the JRN itself, with its alive value (R185). -/
def State.jrnOwn (s : State) (time : Gt) (type : Nat) (payload : List Byte) : JRec × State :=
  let a := tabGet 0 s.jrn.alive 0x16
  (⟨time, type, 0x16, a, payload⟩, s.modJrn (fun j => { j with alive := tabSet 0 j.alive 0x16 ((a + 1) % 256) }))

/-- The position of DSEQ `d` holds an unarchived record (R188). -/
def State.unarchived (s : State) (d : Nat) : Bool :=
  let n := s.jrnSize / 64
  let old := (d + 2 ^ 32 - n) % 2 ^ 32
  let late := (old + 2 ^ 32 - s.reg Reg.JRN_ACK) % 2 ^ 32
  decide (n ≤ s.jrn.sinceEn) && decide (1 ≤ late ∧ late < 2 ^ 31)

/-- The bound engine's records by TIME: those that a record of DSEQ `d` with this TIME supersedes leave (R192). -/
def dseqPut (l : List (Gt × Nat)) (time : Gt) (d : Nat) : List (Gt × Nat) := l.filter (fun x => decide (x.1 < time)) ++ [(time, d)]

/-- A record takes the next DSEQ and goes to its place in the ring; the run of overwrites it opens or continues; ERA
counts the wraps of DSEQ (R187, R188). The answer carries its 64 bytes. -/
def State.jrnPut (s : State) (r : JRec) : List Byte × State :=
  let d := s.jrn.next
  let n := s.jrnSize / 64
  let bs := jrecBytes d r
  let s := if s.unarchived d then
      let s := s.incFld Reg.JRN_LOST Reg.JRN_LOST_COUNT 1
      match s.jrn.run with
      | some (f, c) => s.modJrn (fun j => { j with run := some (f, c + 1) })
      | none =>
        ((s.modJrn (fun j => { j with run := some ((d + 2 ^ 32 - n) % 2 ^ 32, 1) })).setFld Reg.JRN_ISL_STATUS
          Reg.JRN_ISL_STATUS_OVERRUN 1).raise 99
    else s
  let s := s.dramWrite (s.jrnBase + d % n * 64) 0 bs
  let s := s.setReg Reg.JRN_WSEQ d
  let s := s.modJrn (fun j => { j with chain := j.chain ++ bs, span := j.span ++ bs
                                       spanFirst := if j.spanFirst.isNone then some (d, s.fld Reg.JRN_ERA Reg.JRN_ERA_ERA, r.time) else j.spanFirst })
  let s := if r.src = 0x10 ∧ 0x10 ≤ r.type ∧ r.type ≤ 0x1A then s.modBound (fun b => { b with dseqs := dseqPut b.dseqs r.time d }) else s
  let s := if d = 2 ^ 32 - 1 then s.setReg Reg.JRN_ERA ((s.reg Reg.JRN_ERA + 1) % 65536) else s
  (bs, (s.modJrn (fun j => { j with next := (d + 1) % 2 ^ 32, sinceEn := j.sinceEn + 1 })).snoop 4 0 r.src true r.alive)

/-- Bytes 0 to 63 of the 255 records before a CHAIN record, as far as this start has written them (R190). -/
def State.chainBytes (s : State) : List Byte := s.jrn.chain.drop (s.jrn.chain.length - 255 * 64)

/-- The CMAC and the status of a CHAIN record (R190). -/
def State.chainMac (s : State) : List Byte × Nat :=
  match s.keyFor (s.fld Reg.JRN_MAC Reg.JRN_MAC_SLOT) [3] with
  | .inr k => (Config.aesCmac k (s.jrn.prevMac ++ s.chainBytes), 0)
  | .inl _ => (List.replicate 16 0, 1)

/-- The CHAIN record that the next DSEQ calls for (R187, R190). -/
def State.jrnChain (s : State) : State :=
  if s.jrn.next % 256 = 255 then
    let slot := s.fld Reg.JRN_MAC Reg.JRN_MAC_SLOT
    let gen := if slot = 0 then 0 else s.keyGen slot
    let m := s.chainMac
    let s := if m.2 = 0 then s.macBlocks ((s.chainBytes.length + 31) / 16) else s
    let era := s.reg Reg.JRN_ERA
    let (r, s) := s.jrnOwn (s.vcNow 0) 0x0003 (padTo 16 m.1 ++ natLe 2 slot ++ natLe 4 gen ++ natLe 1 m.2)
    let s := (s.jrnPut r).2
    (s.modJrn (fun j => { j with chain := [], prevMac := padTo 16 m.1 })).mramAsk ridJrn
      (.nums [s.reg Reg.JRN_WSEQ, era]) []
  else s

/-- The LOSS record that closes an open run, once the next DSEQ falls on a position with no unarchived record (R188). -/
def State.jrnRunEnd (s : State) : State :=
  match s.jrn.run with
  | none => s
  | some (f, c) =>
    if s.unarchived s.jrn.next then s
    else
      let s := s.modJrn (fun j => { j with run := none })
      let (r, s) := s.jrnOwn (s.vcNow 0) 0x0002 (natLe 4 f ++ natLe 4 c ++ [1])
      ((s.jrnPut r).2).jrnChain

/-- A record is written after the records that come before it: CHAIN, the end of a run, CHAIN again (R188, R190). -/
def State.jrnWrite (s : State) (r : JRec) : List Byte × State := (s.jrnChain.jrnRunEnd).jrnPut r

/-- The next record due: START, which takes the first new DSEQ whatever CHAIN would stand there, then LOSS with cause 0 after records
were lost from staging, then the oldest staged (R187, R189). -/
def State.jrnNext (s : State) : State :=
  match s.jrn.start with
  | some r => ((s.modJrn (fun j => { j with start := none })).jrnPut r).2
  | none =>
    if 0 < s.jrn.stageLost then
      let n := s.jrn.stageLost
      let (r, s) := (s.modJrn (fun j => { j with stageLost := 0 })).jrnOwn (s.vcNow 0) 0x0002 (natLe 4 0 ++ natLe 4 n ++ [0])
      (s.jrnWrite r).2
    else match s.jrn.staging with
      | [] => s
      | r :: rest => ((s.modJrn (fun j => { j with staging := rest })).jrnWrite r).2

/-- A commit of DSEQ and ERA has not been made yet (R187). -/
def State.jrnUncommitted (s : State) : Bool := s.mram.queue.any (fun q => decide (q.rid = ridJrn))

/-- A record may leave staging: EN is 1, DRAM takes writes, and the DSEQ that a start would continue from is committed, so that no DSEQ
is used twice (R187, R189). -/
def State.jrnReady (s : State) : Bool := s.jrnEn && s.dramUp && !s.jrnUncommitted

/-- JOURNAL_RECORD_WRITE: a record leaves staging for the ring while it may and no attestation waits for its signature
(R187 to R189; notes/assumptions/13). -/
def execJournalRecordWrite (s : State) : Host.Outcome State Fault Refusal :=
  act (fun s => if s.jrnReady && s.jrn.att.isNone then s.jrnNext else s) s

/-- JOURNAL_APPEND: a record enters staging; bit 15 of TYPE is set for a Pod that runs no resident program (R189). -/
def execJournalAppend (src type : Nat) (payload : List Byte) (s : State) : Host.Outcome State Fault Refusal :=
  act (fun s =>
    let type := if src < 8 ∧ s.resident src = false then type % 2 ^ 16 ||| 0x8000 else type % 2 ^ 16
    s.journal (src % 256) type payload) s

/-- CFG_REJ of the JRN island. -/
def State.jrnRej (s : State) : State := s.setFld Reg.JRN_ISL_STATUS Reg.JRN_ISL_STATUS_CFG_REJ 1

/-- The effect of an accepted write of JRN_CFG (R196, R411). -/
def State.jrnCfgAct (s : State) (data : Nat) : State :=
  let size := data / 256 % 32
  if s.jrnEn then (if size ≠ s.fld Reg.JRN_CFG Reg.JRN_CFG_SIZE then s.jrnRej else s)
  else
    let s' := s.setFld Reg.JRN_CFG Reg.JRN_CFG_SIZE size
    if data % 2 = 0 then s'
    else if s'.dramFree s'.jrnBase s'.jrnSize then
      ((s'.setFld Reg.JRN_CFG Reg.JRN_CFG_EN 1).modJrn (fun j => { j with sinceEn := 0 })).setReg Reg.JRN_ACK
        ((s.jrn.next + 2 ^ 32 - 1) % 2 ^ 32)
    else s.jrnRej

/-- A write of JRN_CFG (R196). -/
def State.jrnCfgWrite (s : State) (data : Nat) : State := s.posted Reg.JRN_CFG (fun s => s.jrnCfgAct data)

/-- JRN_ENABLE (R188, R196). -/
def execJrnEnable (m : Master) (data : Nat) (s : State) : Host.Outcome State Fault Refusal :=
  act (fun s => s.regWrite m Reg.JRN_CFG (fun s => s.jrnCfgWrite data)) s

/-! ### Attestation -/

/-- PERIOD in s (R196). -/
def State.attPeriod (s : State) : Nat := min 3600 (max 1 (s.fld Reg.JRN_ATT Reg.JRN_ATT_PERIOD))

/-- NS and SECONDS of a record's time (R191). -/
def attTime (g : Gt) : List Byte := natLe 4 (gtNs g) ++ intLe 8 (gtSec g)

/-- The algorithm that byte 36 of ATT_0 names: by TYPE of a slot that is not EMPTY (R191). -/
def State.attAlg (s : State) (slot : Nat) : Nat :=
  if slot = 0 ∨ s.keySt slot = 0 then 0
  else
    let t := s.meta slot Reg.KEY_SLOT_META_TYPE
    if t = 4 then 1 else if t = 3 then 2 else 0

/-- The payloads of ATT_0 and ATT_1, and bytes 0 to 23 of ATT_2, of an attestation that closes now (R191). -/
def State.attData (s : State) : List Byte × List Byte × List Byte :=
  let slot := s.fld Reg.JRN_ATT Reg.JRN_ATT_SLOT
  let d := s.jrn.next
  let f := match s.jrn.spanFirst with
    | some (x, era, time) => natLe 4 x ++ natLe 4 ((d + 2 ^ 32 - 1) % 2 ^ 32) ++ natLe 2 era ++ attTime time
    | none => natLe 4 d ++ natLe 4 ((d + 2 ^ 32 - 1) % 2 ^ 32)
        ++ natLe 2 (s.reg Reg.JRN_ERA) ++ List.replicate 12 0
  let dig := padTo 48 (Config.sha384 s.jrn.span)
  (f ++ attTime (s.vcNow 0) ++ natLe 2 slot ++ natLe 1 (s.attAlg slot), dig.take 40,
   dig.drop 40 ++ natLe 6 s.bound.total ++ natLe 1 s.bound.stateByte ++ natLe 1 s.bound.trace ++ natLe 2 s.bound.flags
     ++ natLe 4 (if slot = 0 then 0 else s.keyGen slot) ++ natLe 2 s.calEpoch)

/-- ATT_0 to ATT_2 are written; the answer carries their bytes. ATT_0 takes the DSEQ that the close of the span left for it. -/
def State.attWrite (s : State) (time : Gt) (a0 a1 a2 : List Byte) : List Byte × State :=
  let (r0, s) := s.jrnOwn time 4 a0
  let x := s.jrnPut r0
  let (r1, s) := x.2.jrnOwn time 5 a1
  let y := s.jrnWrite r1
  let (r2, s) := y.2.jrnOwn time 6 a2
  let z := s.jrnWrite r2
  (x.1 ++ y.1 ++ z.1, z.2)

/-- The next span begins (R191). -/
def State.attNextSpan (s : State) : State := s.modJrn (fun j => { j with span := [], spanFirst := none, att := none })

/-- An attestation that carries no signature: status 1 NO_KEY, 2 ABORTED (R191). -/
def State.attFail (s : State) (time : Gt) (a0 a1 a2 : List Byte) (status : Nat) : State :=
  (((s.attWrite time a0 a1 (a2 ++ natLe 1 status)).2.setFld Reg.JRN_ISL_STATUS Reg.JRN_ISL_STATUS_ATT_FAIL 1).raise 100).attNextSpan

/-- ATTESTATION: at each VC0 second that is a whole multiple of PERIOD, once EN is 1; the records that come before ATT_0 are written
before the span closes (R188, R190, R191). -/
def execAttestation (t : Nat) (s : State) : Host.Outcome State Fault Refusal :=
  actAt t (fun s =>
    let sec := s.vc0Sec
    if !s.jrnReady || s.jrn.start.isSome || s.jrn.att.isSome || decide (s.jrn.attAt = some sec) || decide (sec % s.attPeriod ≠ 0) then s
    else
      let s := (s.modJrn (fun j => { j with attAt := some sec })).jrnChain.jrnRunEnd
      let d := s.attData
      let slot := s.fld Reg.JRN_ATT Reg.JRN_ATT_SLOT
      match s.keyFor slot [4] with
      | .inl _ => s.attFail (s.vcNow 0) d.1 d.2.1 d.2.2 1
      | .inr _ => (s.modJrn (fun j => { j with att := some ⟨slot, s.attAlg slot, d.1, d.2.1, d.2.2, s.vcNow 0, none, false⟩ })).sgnLoad) s

/-- ATT_SIG records, 32 bytes of the signature each (R191). -/
def State.attSigs (s : State) (sig : List Byte) : State :=
  let n := (sig.length + 31) / 32
  (List.range n).foldl (fun s i =>
    let (r, s) := s.jrnOwn (s.vcNow 0) 7 (natLe 1 i ++ natLe 1 n ++ padTo 32 (sig.drop (32 * i)))
    (s.jrnWrite r).2) s

/-- ATT_SIG: SGN answers for the attestation that it has loaded, also when its key has been invalidated since; one that a tamper alarm has
aborted ends so, and one whose key fails the check of R324 when SGN turns to it carries NO_KEY (R191, R333, R339). -/
def execAttSig (t : Nat) (s : State) : Host.Outcome State Fault Refusal :=
  actAt t (fun s =>
    match s.jrn.att with
    | none => s
    | some a =>
      if a.aborted then (s.attFail a.time a.att0 a.att1 a.att2 2).sgnLoad
      else match a.key with
        | some (type, k) =>
          let x := s.attWrite a.time a.att0 a.att1 (a.att2 ++ [0])
          let sig := padTo (if a.alg = 1 then 64 else 96) (Config.signWith type k x.1)
          (x.2.attSigs sig).attNextSpan.sgnLoad
        | none => if s.sgnBusy then s else (s.attFail a.time a.att0 a.att1 a.att2 1).sgnLoad) s

end Sys2Proof.Machine
end

