-- ==== Sys2Proof/Machine/Leap.lean ====
section
/-! DEFINITION. The leap-second table: UTC from TAI, the checks of an entry, and the host's commands (R75 to R77). -/

namespace Sys2Proof.Machine

/-- TAI_UTC in force at a TAI second (R76). -/
def taiUtc : List LeapEntry → Int → Int
  | [], _ => 37
  | b :: rest, sec => (rest.foldl (fun acc e => if e.eff ≤ sec then e.tai else acc) b.tai)

/-- The entry that takes effect next after a TAI second (R76). -/
def nextLeap (t : List LeapEntry) (sec : Int) : Option LeapEntry := (t.drop 1).find? (fun e => decide (sec < e.eff))

/-- TAI_UTC in force just before an entry. -/
def leapBefore (t : List LeapEntry) (e : LeapEntry) : Int := taiUtc t (e.eff - 1)

/-- A leap is pending at a TAI second: +1 or −1 from 00:00:00 UTC of the day that ends at EFFECTIVE, else 0 (R76). -/
def leapPending (t : List LeapEntry) (sec : Int) : Int :=
  match nextLeap t sec with
  | some e =>
    let d := e.tai - leapBefore t e
    let len := 86400 + d
    if e.eff - len ≤ sec then d else 0
  | none => 0

/-- The second is the inserted one, labelled 23:59:60 (R76). -/
def leapInserted (t : List LeapEntry) (sec : Int) : Bool :=
  match nextLeap t sec with
  | some e => decide (e.eff = sec + 1) && decide (e.tai = leapBefore t e + 1)
  | none => false

/-- The 16 bytes of an entry (R75). -/
def leapBytes (e : LeapEntry) : List Byte :=
  intLe 8 e.eff ++ intLe 2 e.tai ++ natLe 1 e.src ++ natLe 1 (if e.base then 1 else 0) ++ List.replicate 4 0

/-- The oldest entry merges into the base (R77). -/
def leapMerge : List LeapEntry → List LeapEntry
  | b :: e :: rest => { b with tai := e.tai } :: rest
  | t => t

/-- The neighbours of an entry differ from it by exactly 1 (R77). -/
def leapFits (t : List LeapEntry) (e : LeapEntry) : Bool :=
  let before := taiUtc t (e.eff - 1)
  decide ((e.eff - e.tai) % 86400 = 0) && decide ((e.tai - before).natAbs = 1)
    && (match (t.drop 1).find? (fun x => decide (e.eff < x.eff)) with
        | some x => decide ((x.tai - e.tai).natAbs = 1)
        | none => true)

/-- The table with an entry at its place. -/
def leapPut (t : List LeapEntry) (e : LeapEntry) : List LeapEntry :=
  match t with
  | [] => [e]
  | b :: rest => b :: (rest.filter (fun x => decide (x.eff < e.eff)) ++ e :: rest.filter (fun x => decide (e.eff < x.eff)))

/-- What becomes of an entry that is submitted (R77). -/
inductive LeapEnd where
  /-- Equal to one present. -/
  | same
  /-- Refused: 1 LEAP_INVALID, 2 LEAP_LATE, 3 LEAP_CONFLICT, 4 LEAP_FULL. -/
  | refused (status : Nat)
  /-- The new table. -/
  | table (t : List LeapEntry)
deriving DecidableEq, Repr

/-- The checks of LEAP_ADD at a VC0 time (R77). -/
def leapCheck (t : List LeapEntry) (now : Gt) (e : LeapEntry) : LeapEnd :=
  match (t.drop 1).find? (fun x => decide (x.eff = e.eff)) with
  | some x => if x.tai = e.tai then .same else .refused 3
  | none =>
    let passed := (t.drop 1).any (fun x => decide (e.eff < x.eff) && decide (x.eff * fuSec ≤ now))
    if !leapFits t e then .refused 1
    else if e.eff * fuSec < now + 60 * fuSec ∧ passed = false then .refused 2
    else if t.length < 64 then .table (leapPut t e)
    else match (t.drop 1).head? with
      | some o => if o.eff * fuSec < now then .table (leapPut (leapMerge t) e) else .refused 4
      | none => .refused 4

/-- Journals a change of the table (R77, R186): SOURCE 0x15 HIF, or 2 for Pod 2. An accepted change is journaled when it is
asked for, before its commit; what changes nothing is not (notes/assumptions/167). -/
def State.jLeap (s : State) (src : Nat) (e : LeapEntry) : State := s.journal src 0x0028 (leapBytes e)

/-- The table that a change starts from: the one that waits for its commit, or the one in force, so that no earlier change is
lost (R77; notes/assumptions/167). -/
def State.leapWork (s : State) : List LeapEntry :=
  match s.mramNext ridLeap with
  | some (.leap t) => t
  | _ => s.leapTable

/-- LEAP_ADD (R77). -/
def execLeapAdd (q : Nat) (eff tai : Int) (src : Nat) (s : State) : Host.Outcome State Fault Refusal :=
  act (fun s => s.hostCmd q 0x0200 (fun s =>
    let e : LeapEntry := ⟨eff, tai, src, false⟩
    match leapCheck s.leapWork (s.vcNow 0) e with
    | .same => s.respond q 0x0200 0 []
    | .refused 3 => (s.event 0x0005 0x15 (leapBytes e)).respond q 0x0200 3 []
    | .refused x => s.respond q 0x0200 x []
    | .table t => (s.jLeap 0x15 e).mramAsk ridLeap (.leap t) [(q, 0x0200, [])])) s

/-- LEAP_DELETE (R77). -/
def execLeapDelete (q : Nat) (eff : Int) (s : State) : Host.Outcome State Fault Refusal :=
  act (fun s => s.hostCmd q 0x0201 (fun s =>
    match (s.leapWork.drop 1).find? (fun e => decide (e.eff = eff)) with
    | none => s.respond q 0x0201 2 []
    | some e =>
      if eff * fuSec < s.vcNow 0 + 60 * fuSec then s.respond q 0x0201 1 []
      else (s.jLeap 0x15 e).mramAsk ridLeap
        (.leap (s.leapWork.take 1 ++ (s.leapWork.drop 1).filter (fun e => decide (e.eff ≠ eff)))) [(q, 0x0201, [])])) s

/-- LEAP_BASE: the entry after the base must differ from it by exactly 1 (R77). -/
def execLeapBase (q : Nat) (tai : Int) (s : State) : Host.Outcome State Fault Refusal :=
  act (fun s => s.hostCmd q 0x0202 (fun s =>
    let e : LeapEntry := ⟨0, tai, 1, true⟩
    match (s.leapWork.drop 1).head? with
    | some x =>
      if (x.tai - tai).natAbs = 1 then (s.jLeap 0x15 e).mramAsk ridLeap (.leap (e :: s.leapWork.drop 1)) [(q, 0x0202, [])]
      else s.respond q 0x0202 1 []
    | none => (s.jLeap 0x15 e).mramAsk ridLeap (.leap [e]) [(q, 0x0202, [])])) s

/-- LEAP_READ (R77). -/
def execLeapRead (q idx : Nat) (s : State) : Host.Outcome State Fault Refusal :=
  act (fun s => s.hostCmd q 0x0203 (fun s =>
    match s.leapTable[idx]? with
    | some e => s.respond q 0x0203 0 (leapBytes e)
    | none => s.respond q 0x0203 1 [])) s

end Sys2Proof.Machine
end

