-- ==== Sys2Proof/Machine/Net.lean ====
section
/-! DEFINITION. Frames: Ethernet tags, IP and UDP headers and their checksums, the PRP trailer, NTP extension fields, and
the times written into frames (R257, R269, R272, R298, R299, R301). Header layouts are those of the named standards
(notes/assumptions/21). -/

namespace Sys2Proof.Machine

/-- `n` bytes at an offset, most significant byte first. -/
def beAt (f : List Byte) (o n : Nat) : Nat := beNat ((f.drop o).take n)

/-- `n` bytes at an offset. -/
def sliceAt (f : List Byte) (o n : Nat) : List Byte := (f.drop o).take n

/-- The frame with bytes put at an offset. -/
def putAt (f : List Byte) (o : Nat) (bs : List Byte) : List Byte := f.take o ++ bs ++ f.drop (o + bs.length)

/-- What stands between the addresses and the payload: EtherType, offset of the payload, VLAN tags and priority (R257). -/
structure Eth where
  et   : Nat
  off  : Nat
  tags : Nat
  prio : Nat
deriving DecidableEq, Repr

/-- A VLAN tag's TPID (R257). -/
def isTag (t : Nat) : Bool := t == 0x8100 || t == 0x88A8

/-- Up to two VLAN tags are skipped; 3 tags: more than two (R257). -/
def ethOf (f : List Byte) : Eth :=
  let prio := beAt f 14 2 / 8192
  if !isTag (beAt f 12 2) then ⟨beAt f 12 2, 14, 0, 0⟩
  else if !isTag (beAt f 16 2) then ⟨beAt f 16 2, 18, 1, prio⟩
  else ⟨beAt f 20 2, 22, if isTag (beAt f 20 2) then 3 else 2, prio⟩

/-- The headers of a UDP frame: IPv6, the offset of the IP header, addresses (IPv4 as IPv4-mapped IPv6), ports, and the
offset and the length of the payload. -/
structure Udp where
  v6    : Bool
  ip    : Nat
  src   : List Byte
  dst   : List Byte
  sport : Nat
  dport : Nat
  off   : Nat
  len   : Nat
deriving DecidableEq, Repr

/-- An IPv4 address as IPv4-mapped IPv6 (R311, R322). -/
def mapped (a : List Byte) : List Byte := List.replicate 10 0 ++ [0xFF, 0xFF] ++ a

/-- The UDP header at an offset. -/
def udpAt (f : List Byte) (v6 : Bool) (ip : Nat) (src dst : List Byte) (u : Nat) : Option Udp :=
  let n := beAt f (u + 4) 2
  if u + 8 ≤ f.length ∧ 8 ≤ n ∧ u + n ≤ f.length then
    some ⟨v6, ip, src, dst, beAt f u 2, beAt f (u + 2) 2, u + 8, n - 8⟩
  else none

/-- The UDP headers of a frame; none for an IPv4 fragment, an IPv6 extension header before UDP, or another protocol (R257). -/
def udpOf (f : List Byte) (e : Eth) : Option Udp :=
  if e.et = 0x0800 then
    let ihl := beAt f e.off 1 % 16 * 4
    if beAt f e.off 1 / 16 = 4 ∧ 20 ≤ ihl ∧ beAt f (e.off + 6) 2 % 0x4000 = 0 ∧ beAt f (e.off + 9) 1 = 17 then
      udpAt f false e.off (mapped (sliceAt f (e.off + 12) 4)) (mapped (sliceAt f (e.off + 16) 4)) (e.off + ihl)
    else none
  else if e.et = 0x86DD then
    if beAt f e.off 1 / 16 = 6 ∧ beAt f (e.off + 6) 1 = 17 then
      udpAt f true e.off (sliceAt f (e.off + 8) 16) (sliceAt f (e.off + 24) 16) (e.off + 40)
    else none
  else none

/-- The sum of the 16-bit words of bytes, most significant byte first. -/
def sum16 : List Byte → Nat
  | [] => 0
  | [a] => a.toNat * 256
  | a :: b :: rest => a.toNat * 256 + b.toNat + sum16 rest

/-- The addresses of the pseudo header. -/
def Udp.ends (f : List Byte) (u : Udp) : List Byte :=
  if u.v6 then sliceAt f (u.ip + 8) 32 else sliceAt f (u.ip + 12) 8

/-- The sum over the pseudo header and the UDP datagram. -/
def Udp.sum (f : List Byte) (u : Udp) : Nat :=
  sum16 (u.ends f) + 17 + (u.len + 8) + sum16 (sliceAt f (u.off - 8) (u.len + 8))

/-- A non-zero UDP checksum fails (R257). -/
def Udp.bad (f : List Byte) (u : Udp) : Bool := decide (beAt f (u.off - 2) 2 ≠ 0) && decide (u.sum f % 65535 ≠ 0)

/-- The frame with its UDP checksum written (R298, R396). -/
def fillUdp (f : List Byte) : List Byte :=
  match udpOf f (ethOf f) with
  | none => f
  | some u =>
    let f := putAt f (u.off - 2) [0, 0]
    putAt f (u.off - 2) (natBe 2 (65535 - u.sum f % 65535))

/-- The frame with its IPv4 header checksum written (R298). -/
def fillIp (f : List Byte) (ip ihl : Nat) : List Byte :=
  let f := putAt f (ip + 10) [0, 0]
  putAt f (ip + 10) (natBe 2 ((65535 - sum16 (sliceAt f ip ihl) % 65535) % 65535))

/-- The address is IPv4 (R462). -/
def isV4 (a : List Byte) : Bool := a.take 12 == (mapped []).take 12

/-- The header of an IP packet without options and of a UDP datagram of `n` payload bytes, with checksums of zero. -/
def udpHeader (ttl dscp : Nat) (src dst : List Byte) (sport dport n : Nat) : List Byte :=
  (if isV4 dst then
    [0x45] ++ natBe 1 (dscp * 4) ++ natBe 2 (28 + n) ++ [0, 0, 0, 0] ++ natBe 1 ttl ++ [17, 0, 0] ++ src.drop 12 ++ dst.drop 12
  else natBe 2 (0x6000 + dscp * 64) ++ [0, 0] ++ natBe 2 (8 + n) ++ [17] ++ natBe 1 ttl ++ src ++ dst)
  ++ natBe 2 sport ++ natBe 2 dport ++ natBe 2 (8 + n) ++ [0, 0]

/-- A UDP frame with its IP and UDP checksums: the bytes before the EtherType, TTL and DSCP, addresses and ports (R298,
R462). -/
def udpFrame (front : List Byte) (ttl dscp : Nat) (src dst : List Byte) (sport dport : Nat) (payload : List Byte) : List Byte :=
  let v4 := isV4 dst
  let f := front ++ natBe 2 (if v4 then 0x0800 else 0x86DD) ++ udpHeader ttl dscp src dst sport dport payload.length ++ payload
  fillUdp (if v4 then fillIp f (front.length + 2) 20 else f)

/-- The PRP trailer of a frame: sequence number, LanId and LSDU size (R269, R271). -/
def prpOf (f : List Byte) : Option (Nat × Nat × Nat) :=
  let n := f.length
  if 20 ≤ n ∧ beAt f (n - 2) 2 = 0x88FB then
    some (beAt f (n - 6) 2, beAt f (n - 4) 2 / 4096, beAt f (n - 4) 2 % 4096)
  else none

/-- The trailer of a frame on a LAN: 0 LAN A, 1 LAN B; the LSDU size counts the payload and the trailer (R269). -/
def prpTrailer (f : List Byte) (seq lan : Nat) : List Byte :=
  natBe 2 seq ++ natBe 2 ((10 + lan) * 4096 + (f.length - (ethOf f).off + 6) % 4096) ++ natBe 2 0x88FB

/-- A time in PTP timestamp format: 48-bit seconds and 32-bit nanoseconds (R396). -/
def ptpTime (g : Gt) : List Byte := natBe 6 (ofSigned 48 (gtSec g)) ++ natBe 4 (gtNs g)

/-! ### PTP messages in the byte and bit order of IEEE 1588 (R8) -/

/-- A portIdentity: clockIdentity and portNumber. -/
def portIdBytes (clock port : Nat) : List Byte := natBe 8 clock ++ natBe 2 port

/-- tlvType, lengthField and valueField. -/
def tlvOf (type : Nat) (value : List Byte) : List Byte := natBe 2 type ++ natBe 2 value.length ++ value

/-- A TLV (PRESUMED from IEEE 1588-2019, notes/assumptions/172): the message type of a negotiation TLV stands in the upper half of its
octet; the flags of L1_SYNC stand from bit 0 up. -/
def ptpTlvBytes : PtpTlv → List Byte
  | .request type log dur => tlvOf 4 (natBe 1 (type * 16) ++ intBe 1 log ++ natBe 4 dur)
  | .grant type log dur => tlvOf 5 (natBe 1 (type * 16) ++ intBe 1 log ++ natBe 4 dur ++ [0] ++ natBe 1 Config.grantFlags)
  | .cancel type => tlvOf 6 (natBe 1 (type * 16) ++ [0])
  | .ack type => tlvOf 7 (natBe 1 (type * 16) ++ [0])
  | .org oui sub data => tlvOf 3 (natBe 3 oui ++ natBe 3 sub ++ data)
  | .l1Sync required reported => tlvOf 0x8001 (natBe 1 required ++ natBe 1 reported)
  | .other type data => tlvOf type data

/-- The AUTHENTICATION TLV up to its ICV: lengthField counts the ICV of 16 bytes (R291; PRESUMED, notes/assumptions/172). -/
def ptpAuthHead (a : PtpAuthTlv) : List Byte := natBe 2 0x8009 ++ natBe 2 22 ++ natBe 1 a.spp ++ natBe 1 a.ind ++ natBe 4 a.keyId

/-- The body of an Announce after its originTimestamp. -/
def ptpAnnBytes (a : PtpAnnounce) : List Byte :=
  intBe 2 a.utcOffset ++ [0] ++ natBe 1 a.priority1 ++ natBe 1 a.cls ++ natBe 1 a.accuracy ++ natBe 2 a.variance ++ natBe 1 a.priority2
    ++ natBe 8 a.gm ++ natBe 2 a.steps ++ natBe 1 a.timeSource

/-- The fields of a message after its header, by messageType. -/
def ptpBody (m : PtpMsg) : List Byte :=
  match m.type with
  | 2 => ptpTime m.time ++ List.replicate 10 0
  | 3 | 9 | 10 => ptpTime m.time ++ portIdBytes m.reqClock m.reqPort
  | 11 => ptpTime m.time ++ ptpAnnBytes (m.ann.getD ⟨0, 0, 0, 0, 0, 0, 0, 0, 0⟩)
  | 12 => portIdBytes m.reqClock m.reqPort
  | _ => ptpTime m.time

/-- controlField by messageType: 0 Sync, 1 Delay_Req, 2 Follow_Up, 3 Delay_Resp, 5 all others. -/
def ptpControl (type : Nat) : Nat := match type with | 0 => 0 | 1 => 1 | 8 => 2 | 9 => 3 | _ => 5

/-- A message up to its ICV, which comes last (R8, R291; PRESUMED from IEEE 1588-2019, notes/assumptions/172). -/
def ptpPlain (m : PtpMsg) : List Byte :=
  let tail := ptpBody m ++ (m.tlvs.map ptpTlvBytes).flatten
  let auth := match m.auth with
    | some a => ptpAuthHead a
    | none => []
  let len := 34 + tail.length + (if m.auth.isSome then 26 else 0)
  natBe 1 m.type ++ natBe 1 (m.minor * 16 + m.major) ++ natBe 2 len ++ natBe 1 m.domain ++ [0]
    ++ natBe 1 (2 * bit m.twoStep + 4 * bit m.unicast) ++ natBe 1 m.flags ++ intBe 8 m.corr ++ List.replicate 4 0
    ++ portIdBytes m.clock m.port ++ natBe 2 m.seq ++ natBe 1 (ptpControl m.type) ++ intBe 1 m.log ++ tail ++ auth

/-- A message as it stands on the wire. -/
def ptpBytes (m : PtpMsg) : List Byte :=
  ptpPlain m ++ (match m.auth with
    | some a => padTo 16 a.icv
    | none => [])

/-- A time in NTP timestamp format (R301). -/
def ntpTime (t : List LeapEntry) (g : Gt) : List Byte :=
  let u := gtSec g - taiUtc t (gtSec g)
  natBe 4 (ofSigned 32 (u + 2208988800)) ++ natBe 4 ((g % fuSec).toNat / 1000000000)

/-- An NTP extension field: type, offset in the payload, and length with its header (R299). -/
structure ExtField where
  type : Nat
  off  : Nat
  len  : Nat
deriving DecidableEq, Repr

/-- The extension fields of a UDP payload from an offset, and whether all are well formed (R299). -/
def extFields (b : List Byte) : Nat → Nat → List ExtField × Bool
  | 0, off => ([], decide (off = b.length))
  | n + 1, off =>
    if off = b.length then ([], true)
    else
      let len := beAt b (off + 2) 2
      if off + 16 ≤ b.length ∧ len % 4 = 0 ∧ 16 ≤ len ∧ off + len ≤ b.length then
        let (r, good) := extFields b n (off + len)
        (⟨beAt b off 2, off, len⟩ :: r, good)
      else ([], false)

/-- The extension fields of an NTP payload (R299). -/
def ntpFields (b : List Byte) : List ExtField × Bool := extFields b b.length 48

end Sys2Proof.Machine
end

