-- ==== Sys2Proof/Machine/MacOps.lean ====
section
/-! DEFINITION. The ports as the engine's blocks use them: speeds, timestamps, the transmit queues with their gates and
completions, the timestamp queue, ingress buffers, and frames handed to the host (R250 to R274). -/

namespace Sys2Proof.Machine

/-- A port. -/
def State.port (s : State) (p : Nat) : PortState := tabGet PortState.reset s.mac.port p

/-- Changes a port. -/
def State.modPort (s : State) (p : Nat) (f : PortState → PortState) : State :=
  { s with mac := { s.mac with port := tabMod PortState.reset s.mac.port p f } }

/-- EN of a port. -/
def State.portEn (s : State) (p : Nat) : Bool := s.fld (Reg.MAC_PORT_CFG p) Reg.MAC_PORT_CFG_EN = 1

/-- The link of a port is up. -/
def State.linkOn (s : State) (p : Nat) : Bool := s.fld (Reg.MAC_PORT_STATUS p) Reg.MAC_PORT_STATUS_LINK = 1

/-- A port may send (R260). -/
def State.portUp (s : State) (p : Nat) : Bool := s.portEn p && s.linkOn p

/-- MGMT in half duplex (R267, R268). -/
def State.halfDuplex (s : State) (p : Nat) : Bool :=
  p == 8 && decide (s.fld (Reg.MAC_PORT_CFG 8) Reg.MAC_PORT_CFG_DUPLEX = 1)

/-- The VC of HOST frames and of queue stamps. -/
def State.hvc (s : State) (p : Nat) : Nat := s.fld (Reg.MAC_PORT_CFG p) Reg.MAC_PORT_CFG_HVC

/-- MAX_FRAME (R258). -/
def State.maxFrame (s : State) (p : Nat) : Nat := min 9600 (max 1518 (s.fld (Reg.MAC_MAXFRAME p) Reg.MAC_MAXFRAME_LEN))

/-- A bit time in ps by SPEED (R250, R267). -/
def bitPs (speed : Nat) : Nat :=
  match speed with
  | 0 => 1000
  | 1 => 100
  | 2 => 40
  | 3 => 25
  | 4 => 20
  | 5 => 10
  | 8 => 100000
  | 9 => 10000
  | _ => 1000

/-- The bit time of a port in ps. -/
def State.portBit (s : State) (p : Nat) : Nat := bitPs (s.fld (Reg.MAC_PORT_CFG p) Reg.MAC_PORT_CFG_SPEED)

/-- MAC_TS_INT: transmit and receive latency in ps of the mode in force; MGMT has none (R252, R267). -/
def State.tsInt (s : State) (p : Nat) : Nat × Nat :=
  if p = 8 then (0, 0)
  else
    let a := Reg.MAC_PORT_CFG p
    Config.macLatency (s.fld a Reg.MAC_PORT_CFG_SPEED) (s.fld a Reg.MAC_PORT_CFG_ENC) (s.fld a Reg.MAC_PORT_CFG_FEC)

/-- The correction in ps from a capture at the PCS to the MDI (R252). -/
def State.tsCorr (s : State) (p : Nat) (rx : Bool) : Int :=
  let ext (f : Fld) : Int := toSigned 32 (s.fld (Reg.MAC_TS_EXT p) f)
  if rx then -((s.tsInt p).2 + ext Reg.MAC_TS_EXT_RX) else (s.tsInt p).1 + ext Reg.MAC_TS_EXT_TX

/-- The stamp of a frame captured at `k` ticks and `fine` / 65,536 tick (R252, R60, R68). -/
def State.stampAt (s : State) (p k fine : Nat) (rx : Bool) : Stamp :=
  let c := psToFu (s.tsCorr p rx)
  ⟨k, fine % 65536, (List.range 8).map (fun v => vcRead (s.vcSetAt v k) (k * 65536 + fine % 65536 : Nat) 65536 + c),
    (List.range 8).foldl (fun m v => if s.firstDone v then m else m + 2 ^ v) 0, !s.tbLocked⟩

/-- t_MDI on a virtual clock. -/
def Stamp.on (x : Stamp) (v : Nat) : Gt := x.times.getD v 0

/-- The flags TB_UNCERTAIN and VC_UNSET of a stamp on a virtual clock (R272, R397). -/
def Stamp.flags (x : Stamp) (v : Nat) : Nat := bit x.uncertain + 2 * getBits x.unset v 1

/-- The instant of a stamp in units of 800 ps / 65,536. -/
def Stamp.pos (x : Stamp) : Nat := x.tick * 65536 + x.fine

/-- A duration in ps in those units, rounded up. -/
def psToPos (ps : Nat) : Nat := (ps * 65536 + 799) / 800

/-- A duration in ps in ticks, rounded up. -/
def psToTicks (ps : Nat) : Nat := (ps + 799) / 800

/-! ### PRP pairs -/

/-- The port belongs to an enabled PRP pair (R269). -/
def State.prpOn (s : State) (p : Nat) : Bool :=
  decide (p < 8) && decide (s.fld (Reg.MAC_PRP_CFG (p / 2)) Reg.MAC_PRP_CFG_EN = 1)

/-- The even port of the pair of a port. -/
def evenPort (p : Nat) : Nat := p / 2 * 2

/-- The other port of the pair. -/
def prpPeer (p : Nat) : Nat := if p % 2 = 0 then p + 1 else p - 1

/-! ### The time-aware shaper -/

/-- The cycle of a set, clamped (R261). -/
def QbvSet.cyc (q : QbvSet) : Nat := min 1000000000 (max 1000 q.cycle)

/-- The entries of a cycle as (gates, end in ns from the base): entries of interval 0 skipped, cut at the cycle, the last held to
its end (R261). -/
def qbvEnds (cyc : Nat) : Nat → List (Nat × Nat) → List (Nat × Nat)
  | _, [] => []
  | at', [(g, i)] => if i = 0 ∨ cyc ≤ at' then [] else [(g, cyc)]
  | at', (g, i) :: rest =>
    if cyc ≤ at' then []
    else if i = 0 then qbvEnds cyc at' rest
    else (g, if rest.all (fun e => e.2 == 0) then cyc else min cyc (at' + i)) :: qbvEnds cyc (at' + i) rest

/-- The segments of the cycle of a set; all gates open where no entry has an interval. -/
def QbvSet.segs (q : QbvSet) : List (Nat × Nat) :=
  let l := qbvEnds q.cyc 0 q.gcl
  if l.isEmpty then [(0xFF, q.cyc)] else l

/-- A class's gate is open in a gate word. -/
def gateOpen (g tc : Nat) : Bool := decide (g / 2 ^ tc % 2 = 1)

/-- The ns for which the gate of a class stays open from `pos` ns into the cycle, over the given segments one after the other:
0 when it is closed there. -/
def openRun (tc pos : Nat) : Nat → List (Nat × Nat) → Nat
  | _, [] => 0
  | start, (g, e) :: rest =>
    if e ≤ pos then openRun tc pos e rest
    else if gateOpen g tc then e - max pos start + openRun tc pos e rest
    else 0

/-- The segments of two cycles in a row. -/
def QbvSet.twice (q : QbvSet) : List (Nat × Nat) := q.segs ++ q.segs.map (fun x => (x.1, x.2 + q.cyc))

/-- The ns for which a class stays open from an instant of the cycle; none: it never closes (R261, R263). -/
def QbvSet.openFor (q : QbvSet) (tc pos : Nat) : Option Nat :=
  if q.segs.all (fun x => gateOpen x.1 tc) then none else some (openRun tc pos 0 q.twice)

/-- The longest unbroken open window of a class, counting windows that join across the cycle's end; none: always open (R263). -/
def QbvSet.longest (q : QbvSet) (tc : Nat) : Option Nat :=
  if q.segs.all (fun x => gateOpen x.1 tc) then none
  else some ((0 :: q.segs.map (·.2)).foldl (fun m x => max m (openRun tc x 0 q.twice)) 0)

/-- The VC of base and launch times; VC0 on MGMT, which has no MAC_QBV_CTRL (R264, R267; DESIGN CHOICE, notes/assumptions/176). -/
def State.qbvVc (s : State) (p : Nat) : Nat := if p < 8 then s.fld (Reg.MAC_QBV_CTRL p) Reg.MAC_QBV_CTRL_VC else 0

/-- The VC time of a set's last cycle start (R261). -/
def QbvSet.start (q : QbvSet) (now : Gt) : Gt := now - (now - q.base) % (q.cyc * fuNs)

/-- A start of the pending set's cycle at least 1 ms after GO has come (R262). -/
def State.qbvDue (s : State) (p : Nat) (q : QbvSet) : Bool :=
  let v := s.qbvVc p
  let now := s.vcNow v
  decide (q.base ≤ now) && decide ((s.port p).goTick + 1250000 ≤ tickOf (s.vcSet v) (q.start now))

/-- The set that gates a port now: the pending one from its first cycle start on; none: every gate is open (R261, R262, R267). -/
def State.qbvNow (s : State) (p : Nat) : Option QbvSet :=
  if p < 8 ∧ s.fld (Reg.MAC_QBV_CTRL p) Reg.MAC_QBV_CTRL_EN = 1 then
    match (s.port p).pend with
    | some q => if s.qbvDue p q then some q else (s.port p).oper
    | none => (s.port p).oper
  else none

/-- OPER: an operating list is running, EN of the shaper being 1 (R261, R274). -/
def State.showOper (s : State) (p : Nat) : State :=
  s.setFld (Reg.MAC_QBV_STATUS p) Reg.MAC_QBV_STATUS_OPER
    (bit (decide (s.fld (Reg.MAC_QBV_CTRL p) Reg.MAC_QBV_CTRL_EN = 1) && (s.port p).oper.isSome))

/-- The wire time in ps of preamble, SFD and a frame (R263). -/
def State.wirePs (s : State) (p len : Nat) : Nat := (8 + len) * 8 * s.portBit p

/-- A frame of a class fits the gates from a VC time on (R263). -/
def State.gateFits (s : State) (p tc len : Nat) (g : Gt) : Bool :=
  match s.qbvNow p with
  | none => true
  | some q =>
    let pos := (g - q.base) % (q.cyc * fuNs)
    match q.openFor tc (pos / fuNs).toNat with
    | none => true
    | some n => decide (0 < n) && decide ((s.wirePs p len : Int) * fuNs ≤ ((n : Int) * fuNs - pos % fuNs) * 1000)

/-- No window of the class can hold the frame (R263). -/
def State.gateNever (s : State) (p tc len : Nat) : Bool :=
  match s.qbvNow p with
  | none => false
  | some q => match q.longest tc with
    | none => false
    | some n => decide (n * 1000 < s.wirePs p len)

/-! ### Completion -/

/-- A frame ends with a status: its owner is told and the counters of the status count (R260, R273). -/
def State.txEnd (s : State) (p : Nat) (x : TxItem) (status : Nat) : State :=
  let s := match status with
    | 1 => s.count (32 * p + 10)
    | 2 => s.count (32 * p + 11)
    | 4 => s.count (32 * p + 12)
    | 5 => s.count (32 * p + 13)
    | _ => s
  match x.owner with
  | .host q => s.respond q 0x0004 status (match x.twoStep with | some n => natLe 4 n | none => [])
  | .pod r tag => (s.modPod r (fun q => { q with netOut := q.netOut.filter (· ≠ tag) })).complete r 5 status tag
  | .engine => s

/-- The other port of a pair still holds a copy of a frame. -/
def State.copyLeft (s : State) (p : Nat) (x : TxItem) : Bool :=
  x.prp.isSome && ((s.port (prpPeer p)).tx.any (fun y => y.id == x.id))

/-- A frame leaves the queue of a port without being sent; it ends with the status unless a copy is left (R260, R270). -/
def State.txDrop (s : State) (p : Nat) (x : TxItem) (status : Nat) : State :=
  let s := s.modPort p (fun q => { q with tx := q.tx.filter (fun y => y.id ≠ x.id) })
  if s.copyLeft p x then s else s.txEnd p x status

/-- Every queued frame of a port ends with LINK_DOWN (R251, R260). -/
def State.txFlush (s : State) (p : Nat) : State := (s.port p).tx.foldl (fun s x => s.txDrop p x 5) s

/-- Decides LATE for the frames that have reached the head of their class (R264). -/
def State.settle (s : State) (p : Nat) : State :=
  let now := s.vcNow (s.qbvVc p)
  let drop := decide (p < 8) && decide (s.fld (Reg.MAC_QBV_CTRL p) Reg.MAC_QBV_CTRL_DROP_LATE = 1)
  ((s.port p).tx.foldl (fun (acc : State × Nat) x =>
    if gateOpen acc.2 x.tc then acc
    else match x.launch, x.late with
      | some l, none =>
        if l < now ∧ drop then (acc.1.txDrop p x 2, acc.2)
        else
          let st := if l < now then 3 else 0
          (acc.1.modPort p (fun q => { q with tx := q.tx.map (fun y => if y.id = x.id then { y with late := some st } else y) }),
            acc.2 + 2 ^ x.tc)
      | _, _ => (acc.1, acc.2 + 2 ^ x.tc)) (s, 0)).1

/-- A frame that is sent on both ports of a pair: every frame of the pair but PTP frames and the responses that carry the
trailer of a twin (R269, R351). -/
def State.dups (s : State) (p : Nat) (x : TxItem) : Bool :=
  s.prpOn p && (match x.body with
    | .ptp _ _ _ => false
    | _ => true)

/-- Queues a frame (R258, R260, R263, R264, R268, R269, R292). -/
def State.enqueue (s : State) (p : Nat) (x : TxItem) : State :=
  let icv : Bool := match x.body with
    | .ptp _ msg _ => msg.auth.isSome
    | _ => false
  let x := { x with id := s.mac.next, home := p, ready := if icv then s.tkp.rawcnt + 2 * ticksPerUs else 0 }
  let s := { s with mac := { s.mac with next := s.mac.next + 1 } }
  let dup := s.dups p x
  let e := evenPort p
  let x := if dup then { x with prp := some (s.port e).prpSeq, len := x.len + 6 } else x
  let s := if dup then s.modPort e (fun q => { q with prpSeq := (q.prpSeq + 1) % 65536 }) else s
  let ports := (if dup then [e, e + 1] else [p]).filter (fun r => s.portUp r)
  let fits := ports.filter (fun r => !s.gateNever r x.tc x.len)
  if ports.isEmpty then s.txEnd p x 5
  else if s.maxFrame p < x.len then s.txEnd p x 1
  else if (match x.launch with | some l => decide (s.vcNow (s.qbvVc p) + fuSec < l) | none => false) then s.txEnd p x 6
  else if fits.isEmpty then s.txEnd p x 4
  else if s.halfDuplex p && x.owner == .engine then s.count (32 * p + 26)
  else fits.foldl (fun s r => (s.modPort r (fun q => { q with tx := q.tx ++ [x] })).settle r) s

/-- Queues a frame that the engine has composed, of a kind of MAC_TC_MAP (R260). -/
def State.sendOwn (s : State) (p : Nat) (kind : Fld) (body : TxBody) (len : Nat) (due : Option (Gt × Gt)) : State :=
  s.enqueue p ⟨0, .engine, body, max 64 len, s.fld (Reg.MAC_TC_MAP p) kind, none, none, none, none, none, due, p, 0⟩

/-! ### The timestamp queue -/

/-- Shows COUNT of the timestamp queue (R272). -/
def State.showTsq (s : State) (p : Nat) : State :=
  s.setFld (Reg.MAC_TSQ_STATUS p) Reg.MAC_TSQ_STATUS_COUNT (s.port p).tsq.length

/-- A two-step stamp enters the queue, or is lost when the queue is full (R268, R272). -/
def State.tsqPut (s : State) (p qseq : Nat) (x : Stamp) (fail : Bool) : State :=
  let v := s.hvc p
  if (s.port p).tsq.length < 1024 ∧ (s.port p).tsqLost = none then
    (s.modPort p (fun q => { q with tsq := q.tsq ++
      [natLe 4 qseq ++ [1] ++ natLe 1 (x.flags v + 4 * bit fail) ++ natLe 1 v ++ [0] ++ gtBytes (x.on v)
        ++ natLe 6 x.tick ++ natLe 2 x.fine] })).showTsq p
  else
    ((s.modPort p (fun q => { q with tsqLost := match q.tsqLost with
      | none => some (1, qseq)
      | some (n, f) => some (n + 1, f) })).incFld (Reg.MAC_TSQ_STATUS p) Reg.MAC_TSQ_STATUS_LOST 1).count (32 * p + 18)

/-- Pops the head entry; the first that frees after a loss takes the OVERFLOW entry (R272). The answer is the 32 bytes read. -/
def State.tsqTake (s : State) (p : Nat) : List Byte × State :=
  match (s.port p).tsq with
  | [] => (List.replicate 32 0, s)
  | e :: rest =>
    let s := s.modPort p (fun q => { q with tsq := rest })
    let s := match (s.port p).tsqLost with
      | none => s
      | some (n, f) => s.modPort p (fun q => { q with
          tsq := q.tsq ++ [natLe 4 q.qseq ++ [2, 0] ++ natLe 1 (s.hvc p) ++ [0] ++ natLe 4 n ++ natLe 4 f ++ List.replicate 16 0]
          qseq := (q.qseq + 1) % 2 ^ 32
          tsqLost := none })
    (e, s.showTsq p)

/-! ### Receive -/

/-- A frame is handed to the host in the oldest posted buffer: class 0 HOST, 1 PRP_SUP, 2 NTP (R397). -/
def State.toHost (s : State) (p cls : Nat) (f : List Byte) (x : Stamp) : State :=
  match s.hif.bufs with
  | [] => s.count 589
  | b :: rest =>
    let v := s.hvc p
    let s := { s with hif := { s.hif with bufs := rest, mem := putBytes zeros s.hif.mem b f } }
    s.event 0x0001 0x18 (natLe 8 b ++ natLe 2 (f.length + 4) ++ natLe 1 p ++ natLe 1 cls ++ natLe 1 (x.flags v) ++ natLe 1 v ++ [0, 0]
      ++ gtBytes (x.on v) ++ natLe 6 x.tick ++ natLe 2 x.fine ++ List.replicate 8 0)

/-- The bytes of ingress buffer of a port, and of them those kept for PTP_EVENT (R259, R267). -/
def ingressSize (p : Nat) : Nat × Nat :=
  if p < 4 then (2097152, 32768) else if p < 8 then (524288, 32768) else (65536, 0)

/-- The bytes that wait in the ingress buffer, of a priority or of all (8). -/
def PortState.occupancy (q : PortState) (prio : Nat) : Nat :=
  (q.rx.filter (fun r => prio == 8 || r.prio == prio)).foldl (fun n r => n + r.bytes.length + 4) 0

/-- The bytes that wait in the unreserved part of the ingress buffer, or in the reserve (R259). -/
def PortState.held (q : PortState) (kept : Bool) : Nat :=
  (q.rx.filter (fun r => r.kept == kept)).foldl (fun n r => n + r.bytes.length + 4) 0

/-- The oldest waiting frame of a class (R257). -/
def State.rxFront (s : State) (p cls : Nat) : Option RxItem := (s.port p).rx.find? (fun r => r.cls == cls)

/-- The list without its first frame of a class. -/
def dropFirst (cls : Nat) : List RxItem → List RxItem
  | [] => []
  | r :: rest => if r.cls = cls then rest else r :: dropFirst cls rest

/-- Takes the oldest waiting frame of a class. -/
def State.rxTake (s : State) (p cls : Nat) : State := s.modPort p (fun q => { q with rx := dropFirst cls q.rx })

/-- MAC_FILT entry 0 of a port. -/
def State.ownMac (s : State) (p : Nat) : Nat := s.fld (Reg.MAC_FILT p 0) Reg.MAC_FILT_ADDR

/-- The NSE serves an address on a port (R298). -/
def State.nseServes (s : State) (p : Nat) (dst : List Byte) : Bool :=
  (List.range 16).any (fun k =>
    decide (s.fld (Reg.NSE_ADDR_CTRL k) Reg.NSE_ADDR_CTRL_EN = 1)
      && decide (getBits (s.fld (Reg.NSE_ADDR_CTRL k) Reg.NSE_ADDR_CTRL_PORTS) p 1 = 1)
      && decide (s.reg (Reg.NSE_ADDR k) = beNat dst))

/-- A PTP instance. -/
def State.inst (s : State) (i : Nat) : PtpInst := tabGet PtpInst.reset s.ptp.inst i

/-- The state of an instance: 0 DISABLED, 1 FAULTY, 2 LISTENING, 3 MASTER, 4 PASSIVE, 5 UNCALIBRATED, 6 SLAVE. -/
def State.instSt (s : State) (i : Nat) : Nat := s.fld (Reg.PTP_INST_STAT i) Reg.PTP_INST_STAT_STATE

/-- The running instances of a port with their configurations. -/
def State.instsOn (s : State) (p : Nat) : List (Nat × PtpCfg) :=
  (List.range 8).filterMap (fun i => match (s.inst i).cfg with
    | some c => if s.instSt i ≠ 0 ∧ c.port = p then some (i, c) else none
    | none => none)

/-- An IPv4 or IPv6 address in its 16-byte form. -/
def addr16 (a : List Byte) : List Byte := if a.length = 4 then mapped a else a

/-- The multicast addresses of PTP over UDP (R256). -/
def ptpGroups : List (List Byte) :=
  [mapped [224, 0, 1, 129], mapped [224, 0, 0, 107],
   [0xFF, 0x0E, 0, 0, 0, 0, 0, 0, 0, 0, 0, 0, 0, 0, 0x01, 0x81], [0xFF, 0x02, 0, 0, 0, 0, 0, 0, 0, 0, 0, 0, 0, 0, 0, 0x6B]]

/-- The PTP engine serves an address on a port (R257, R275). -/
def State.ptpServes (s : State) (p : Nat) (dst : List Byte) : Bool :=
  ptpGroups.contains dst || (s.instsOn p).any (fun x => decide (x.2.transport ≠ 0) && addr16 x.2.ipaddr == dst)

/-- SERVICE of MAC_PORT_STATUS: an instance or the NSE serves the port (R266). -/
def State.service (s : State) (p : Nat) : Bool :=
  !(s.instsOn p).isEmpty || (decide (s.fld Reg.NSE_CFG Reg.NSE_CFG_EN = 1)
    && (List.range 16).any (fun k => decide (s.fld (Reg.NSE_ADDR_CTRL k) Reg.NSE_ADDR_CTRL_EN = 1)
      && decide (getBits (s.fld (Reg.NSE_ADDR_CTRL k) Reg.NSE_ADDR_CTRL_PORTS) p 1 = 1)))

end Sys2Proof.Machine
end

