-- ==== Sys2Proof/Machine/PtpOps.lean ====
section
/-! DEFINITION. The PTP instances: configuration and profiles, port states, dataset fields from the timescale, capacity, and
the composition of messages (R275 to R287, R291 to R294). Message lengths and the comparisons of the two best master
algorithms are those of the named standards (notes/assumptions/22). -/

namespace Sys2Proof.Machine

/-! ### Configuration -/

/-- What a profile fixes: transports, modes and the ranges and defaults of the three log intervals (R278). The first of the
transports and of the modes is the default. -/
structure Profile where
  transports : List Nat
  modes   : List Nat
  domain  : Nat
  ann     : Int × Int × Int
  sync    : Int × Int × Int
  delay   : Int × Int × Int
deriving DecidableEq, Repr

/-- The profiles by code; ranges as (least, greatest, default) (R278). -/
def profiles : List Profile :=
  [⟨[0, 1, 2], [0, 1, 2], 0, (-3, 4, 1), (-7, 4, 0), (-7, 6, 0)⟩,
   ⟨[0, 1, 2], [0], 0, (-3, 4, 1), (-7, 4, 0), (-7, 6, 0)⟩,
   ⟨[0], [0], 24, (-3, -3, -3), (-4, -4, -4), (-4, -4, -4)⟩,
   ⟨[1, 2], [1], 44, (-3, 0, 0), (-7, 0, -4), (-7, 0, -4)⟩,
   ⟨[0, 1, 2], [0, 1], 0, (-3, 4, 0), (-7, 4, -3), (-7, 6, -3)⟩,
   ⟨[1, 2], [2], 0, (-3, 4, 0), (-7, 4, 0), (-7, 6, 0)⟩]

/-- A log interval of a configuration, within its range. -/
def logField (r : Int × Int × Int) (x : Option Int) : Option Int :=
  let v := x.getD r.2.2
  if r.1 ≤ v ∧ v ≤ r.2.1 then some v else none

/-- A field at most `hi`, with its default. -/
def natField (lo hi dflt : Nat) (x : Option Nat) : Option Nat :=
  let v := x.getD dflt
  if lo ≤ v ∧ v ≤ hi then some v else none

/-- A field that must be among some values. -/
def amongField (l : List Nat) (x : Option Nat) : Option Nat :=
  let v := x.getD (l.headD 0)
  if l.contains v then some v else none

/-- The configuration that the fields of PTP_CONFIG give; none: CFG_RANGE (R275, R277, R278). -/
def ptpResolve (a : PtpArgs) : Option PtpCfg := do
  let profile ← natField 0 5 0 a.profile
  let pr := profiles.getD profile ⟨[0], [0], 0, (0, 0, 0), (0, 0, 0), (0, 0, 0)⟩
  let itu := profile == 2 || profile == 3
  let role ← natField 0 1 0 a.role
  let version ← natField 0 1 0 a.version
  let domain ← natField 0 255 pr.domain a.domain
  let port ← natField 0 8 0 a.port
  let transport ← amongField pr.transports a.transport
  let ip := a.ipaddr.getD []
  let ipOk := transport == 0 || (ip.length == (if transport == 1 then 4 else 16) && !(ip.all (fun b => b == 0)))
  let vc ← natField 0 7 0 a.vc
  let ps ← natField 0 3 0 a.ps
  let mode ← amongField pr.modes a.mode
  let two ← natField 0 1 0 a.twoStep
  let la ← logField pr.ann a.logAnnounce
  let ls ← logField pr.sync a.logSync
  let ld ← logField pr.delay a.logDelay
  let ato ← natField 2 10 3 a.annTimeout
  let p1 ← natField (if itu then 128 else 0) (if itu then 128 else 255) 128 a.priority1
  let p2 ← natField (if itu then 128 else 0) (if itu then 128 else 255) 128 a.priority2
  let lp ← natField 1 255 128 a.localPriority
  let mo ← natField 0 1 1 a.masterOnly
  let md ← natField 0 1 0 a.macDest
  let gmd ← natField 10 1000 1000 a.grantMaxDur
  let grd ← natField 10 1000 300 a.grantReqDur
  let auth ← natField 0 2 0 a.auth
  let slotOk := match a.authSlot with
    | some x => decide (1 ≤ x ∧ x ≤ 4095)
    | none => true
  let spp ← natField 0 255 0 a.spp
  let bt ← natField 0 2 1 a.boundTlv
  let co ← natField 0 255 248 a.classOverride
  if ipOk && slotOk && !(version == 1 && auth != 0) then
    some ⟨role, profile, version, domain, port, transport, ip, vc, ps, mode, two == 1, la, ls, ld, ato, p1, p2, lp, mo == 1, md,
      gmd, grd, auth, a.authSlot, spp, bt, co⟩
  else none

/-- Changes an instance. -/
def State.modInst (s : State) (i : Nat) (f : PtpInst → PtpInst) : State :=
  { s with ptp := { s.ptp with inst := tabMod PtpInst.reset s.ptp.inst i f } }

/-- AUTH_SLOT of an instance. -/
def State.instAuthSlot (s : State) (i : Nat) : Option Nat :=
  match (s.inst i).cfg with
  | some c => if c.auth ≠ 0 then c.authSlot else none
  | none => none

/-- The use PTP_AUTH (R323). -/
abbrev ptpAuthUse : Nat := 2

/-- The VC in use: VC1 while REDUNDANT names the PS reference of the instance (R284). -/
def State.instVc (s : State) (c : PtpCfg) : Nat :=
  if c.role = 1 ∧ s.param 0x10B = 13 + (c.ps : Int) then 1 else c.vc

/-- The VC time of an instance now. -/
def State.instNow (s : State) (c : PtpCfg) : Gt := s.vcNow (s.instVc c)

/-- An interval of 2^log seconds (R282). -/
def logIval (log : Int) : Gt := if 0 ≤ log then fuSec * 2 ^ log.toNat else fuSec / 2 ^ (-log).toNat

/-- A message rate of 2^−log a second (R283). -/
def logRate (log : Int) : Rat := if 0 ≤ log then 1 / ((2 ^ log.toNat : Nat) : Rat) else ((2 ^ (-log).toNat : Nat) : Rat)

/-- CLOCK_ID (R296). -/
def State.clockId (s : State) : Nat :=
  match s.mramNums ridClockId [] with
  | [x] => x
  | _ => let a := s.ownMac 0
         a / 2 ^ 24 * 2 ^ 40 + 0xFFFE * 2 ^ 24 + a % 2 ^ 24

/-- portNumber of an instance: 1 more than its number, on engine 1 of a twin 9 more (R286, R352). -/
def State.portNo (s : State) (i : Nat) : Nat := if s.inTwin ∧ s.twinSide = 1 then i + 9 else i + 1

/-! ### Capacity -/

/-- The event rate that the multicast Sync stream of an instance commits (R283). -/
def syncStream (c : PtpCfg) : Rat := if c.role = 0 ∧ c.mode ≠ 1 then logRate c.logSync else 0

/-- The event rate that a grant commits: Sync (0) and Delay_Resp (9) (R283). -/
def grantRate (type : Nat) (log : Int) : Rat := if type = 0 ∨ type = 9 then logRate log else 0

/-- The committed event rate of a port, or of the engine (9) (R283). -/
def State.ptpRate (s : State) (port : Nat) : Rat :=
  let on := fun i => (match (s.inst i).cfg with
    | some c => s.instSt i != 0 && (port == 9 || c.port == port)
    | none => false : Bool)
  let streams := (List.range 8).foldl (fun r i => if on i then r + (match (s.inst i).cfg with | some c => syncStream c | none => 0) else r) (0 : Rat)
  s.ptp.grants.foldl (fun r g => if on g.inst then r + grantRate g.key.type g.log else r) streams

/-- The limit of a port in events/s (R283). -/
def State.portLimit (s : State) (p : Nat) : Rat := if p = 8 then 100000 else (100000000 : Rat) / (s.portBit p : Rat)

/-- A further rate on a port stays within the limits of R283. -/
def State.rateFits (s : State) (p : Nat) (r : Rat) : Bool :=
  decide (s.ptpRate p + r ≤ s.portLimit p) && decide (s.ptpRate 9 + r ≤ 48000000)

/-- Shows the committed rates, rounded up, and the grants held (R283, R297). -/
def State.showBudget (s : State) : State :=
  let s := s.setFld Reg.PTP_BUDGET Reg.PTP_BUDGET_RATE (s.ptpRate 9).ceil.toNat
  (List.range 8).foldl (fun s i => match (s.inst i).cfg with
    | some c => (s.setReg (Reg.PTP_INST_BUDGET i) (s.ptpRate c.port).ceil.toNat).setReg (Reg.PTP_INST_GRANTS i)
        (s.ptp.grants.filter (fun g => g.inst == i)).length
    | none => s) s

/-! ### Port states -/

/-- Why an instance must be FAULTY now: 1 LINK, 2 HALF_DUPLEX, 3 KEY; 0 it need not (R279). -/
def State.instFault (s : State) (c : PtpCfg) : Nat :=
  if !s.portUp c.port then 1
  else if s.halfDuplex c.port then 2
  else if c.auth ≠ 0 then
    (match c.authSlot with
     | none => 3
     | some k => match s.keyFor k [ptpAuthUse] with
       | .inl 1 => 3
       | .inl 3 => 3
       | _ => 0)
  else 0

/-- Sets STATE and CAUSE; FAULTY shows as the fault source of the instance; what leaves UNCALIBRATED and SLAVE loses its
upstream (R104, R279, R297, R416). -/
def State.setInst (s : State) (i st cause : Nat) : State :=
  let old := s.instSt i
  let a := Reg.PTP_INST_STAT i
  let s := (s.setFld a Reg.PTP_INST_STAT_STATE st).setFld a Reg.PTP_INST_STAT_CAUSE cause
  let s := if st = 1 then s.condOn (16 + i) else s.condOff (16 + i)
  let s := if 5 ≤ st then s else (s.setReg (Reg.PTP_INST_UP i) (resetVal (Reg.PTP_INST_UP i))).modInst i (fun x =>
    { x with sync := none, dreq := none, presp := none, link := none, offs := [], exchanges := 0 })
  match (s.inst i).cfg with
  | some c =>
    if c.role = 1 then
      (if st = 6 then s.modTrack (13 + c.ps) (fun r => { r with outFrom := none })
       else if old = 6 then s.modTrack (13 + c.ps) (fun r =>
         { r with outFrom := some s.vc0Sec, up := if 5 ≤ st then r.up else none })
       else s)
    else s
  | none => s

/-- A message goes to the transmit queue of its kind: event messages, all others general (R260, R281). -/
def State.ptpSend (s : State) (i : Nat) (c : PtpCfg) (msg : PtpMsg) (addr : List Byte) (due : Option (Gt × Gt)) : State :=
  let len := (ptpBytes msg).length
    + (match c.transport with | 0 => 18 | 1 => 46 | _ => 68)
  s.sendOwn c.port (if msg.type < 4 then Reg.MAC_TC_MAP_EVENT else Reg.MAC_TC_MAP_GENERAL) (.ptp i msg addr) len due

/-- The header of a message of an instance (R277, R286); a Signaling message goes to all ports unless its sender is answered. -/
def State.ptpBase (s : State) (i : Nat) (c : PtpCfg) (type seq : Nat) (log : Int) : PtpMsg where
  type := type
  major := 2
  minor := if c.version = 1 then 0 else 1
  domain := c.domain
  twoStep := c.twoStep && (type == 0 || type == 3)
  unicast := false
  flags := 0
  corr := 0
  clock := s.clockId
  port := s.portNo i
  seq := seq
  log := log
  time := 0
  reqClock := if type = 12 then 2 ^ 64 - 1 else 0
  reqPort := if type = 12 then 0xFFFF else 0
  ann := none
  tlvs := []
  auth := none

/-- The next sequence number of a message type (R281). -/
def State.ptpSeq (s : State) (i type : Nat) : Nat × State :=
  let n := (tabGet 0 (s.inst i).seqs type + 1) % 65536
  (n, s.modInst i (fun x => { x with seqs := tabSet 0 x.seqs type n }))

/-- A message whose key is gone: under OPTIONAL it goes bare, under REQUIRED it is not sent (R294). The answer: whether it is sent. -/
def State.ptpBare (s : State) (i : Nat) (c : PtpCfg) : Bool × State :=
  if c.auth = 1 then (true, (s.count (288 + 32 * i + 11)).setFld (Reg.PTP_INST_STAT i) Reg.PTP_INST_STAT_AUTHBARE 1)
  else (false, s.count (288 + 32 * i + 12))

/-- The AUTHENTICATION TLV of a message: none with AUTH OFF; an empty ICV that the MAC fills. With the key orphaned, under
OPTIONAL the message goes bare and under REQUIRED it is not sent (R291, R294). The answer: the TLV, whether the message is sent. -/
def State.ptpAuth (s : State) (i : Nat) (c : PtpCfg) : Option PtpAuthTlv × Bool × State :=
  let a := Reg.PTP_INST_STAT i
  if c.auth = 0 then (none, true, s)
  else match c.authSlot with
    | none => (none, false, s)
    | some k => match s.keyFor k [ptpAuthUse] with
      | .inr _ => (some ⟨c.spp, 0, k, []⟩, true, s.setFld a Reg.PTP_INST_STAT_AUTHBARE 0)
      | .inl _ => (none, s.ptpBare i c)

/-- Sends a message with its AUTHENTICATION TLV. -/
def State.ptpOut (s : State) (i : Nat) (c : PtpCfg) (msg : PtpMsg) (addr : List Byte) (due : Option (Gt × Gt)) : State :=
  let (auth, go, s) := s.ptpAuth i c
  if go then s.ptpSend i c { msg with auth := auth, unicast := !addr.isEmpty } addr due else s

/-- The number of the interval of `log` that a VC time lies in, counted from `phase` (R282). -/
def ivalNo (now : Gt) (log : Int) (phase : Gt) : Int := (now - phase) / logIval log

/-- The phase of an instance: i × 1 µs, for Announce 100 µs more (R282). -/
def instPhase (i type : Nat) : Gt := ((i : Int) * 1000 + (if type = 11 then 100000 else 0)) * fuNs

/-- A message of an interval is due that has not been served: its number (R282). -/
def State.ivalDue (s : State) (i type : Nat) (c : PtpCfg) (log : Int) : Option Int :=
  let k := ivalNo (s.instNow c) log (instPhase i type)
  match tabGet none (s.inst i).served type with
  | some d => if d < k then some k else none
  | none => some k

/-- Marks an interval served. -/
def State.serve (s : State) (i type : Nat) (k : Int) : State :=
  s.modInst i (fun x => { x with served := tabSet none x.served type (some k) })

/-- The request of a slave instance toward a master, at the default interval of its profile (R290). -/
def State.askGrant (s : State) (i : Nat) (c : PtpCfg) (addr : List Byte) (type : Nat) : State :=
  let pr := profiles.getD c.profile ⟨[0], [0], 0, (0, 0, 0), (0, 0, 0), (0, 0, 0)⟩
  let log := if type = 11 then pr.ann.2.2 else if type = 0 then pr.sync.2.2 else pr.delay.2.2
  let (n, s) := s.ptpSeq i 12
  let s := s.modInst i (fun x =>
    let old := (x.asks.find? (fun a => a.addr == addr && a.type == type)).map (·.dur)
    { x with asks := x.asks.filter (fun a => !(a.addr == addr && a.type == type)) ++ [⟨addr, type, 0, s.instNow c, old.getD 0⟩] })
  s.ptpOut i c { s.ptpBase i c 12 n 127 with tlvs := [.request type log c.grantReqDur] } addr none

/-- An instance leaves DISABLED or FAULTY (R279). -/
def State.instBegin (s : State) (i : Nat) (c : PtpCfg) : State :=
  let f := s.instFault c
  if f ≠ 0 then s.setInst i 1 f
  else
    let now := s.instNow c
    let s := s.modInst i (fun x => { x with listen := now, foreign := [], sel := none, follow := [], asks := [], served :=
      [(0, some (ivalNo now c.logSync (instPhase i 0))), (1, some (ivalNo now c.logDelay (instPhase i 1))),
       (11, some (ivalNo now c.logAnnounce (instPhase i 11)))] })
    let s := s.setInst i (if c.role = 0 ∧ c.masterOnly then 3 else 2) 0
    if c.role = 1 ∧ c.mode ≠ 0 then (s.inst i).masters.foldl (fun s a => s.askGrant i c a 11) s else s

/-- Reviews the causes of FAULTY of an instance (R279): a fault of the link, of half duplex or of the key slot begins or has
gone. A key slot orphaned while the instance runs is no such cause. -/
def State.review (s : State) (i : Nat) : State :=
  match (s.inst i).cfg with
  | none => s
  | some c =>
    let st := s.instSt i
    let s := s.setFld (Reg.PTP_INST_STAT i) Reg.PTP_INST_STAT_VC (s.instVc c)
    let f := s.instFault c
    if st = 0 then s
    else if st = 1 then (if f = 0 then s.instBegin i c else s.setInst i 1 f)
    else if f ≠ 0 then s.setInst i 1 f
    else s

/-- Reviews every instance of a port. -/
def State.reviewPort (s : State) (p : Nat) : State := (s.instsOn p).foldl (fun s x => s.review x.1) s

/-! ### Dataset fields -/

/-- The upper ends of clockAccuracy from 0x17 on, in ps (R287). -/
def accuracyEnds : List Nat :=
  [1, 2, 10, 25, 100, 250, 1000, 2500, 10000, 25000, 100000, 250000, 1000000, 2500000, 10000000, 25000000, 100000000,
   250000000, 1000000000, 2500000000, 10000000000, 25000000000, 100000000000, 250000000000, 1000000000000, 10000000000000]

/-- The upper end of a clockAccuracy in whole ps, rounded up: that of 0x18 is 2.5 ps; none for 0xFE, 0x31 and reserved values (R174,
R285, R287). -/
def accuracyEnd (a : Nat) : Option Nat :=
  if a < 0x17 then none else if a = 0x18 then some 3 else accuracyEnds[a - 0x17]?

/-- clockAccuracy of a bound in whole ps: the first value whose upper end is not below it (R287). The upper end of 0x18 is 2.5 ps. -/
def accuracyOf (b : Nat) : Nat :=
  match accuracyEnds.findIdx? (fun e => decide (b ≤ e)) with
  | some k => 0x17 + k
  | none => 0x31

/-- clockAccuracy at an emission point (R287). -/
def State.accuracyAt (s : State) (version point : Nat) : Nat :=
  if s.overLimit || !s.firstDone 0 then 0xFE
  else if version = 1 then max 0x20 (accuracyOf (s.boundAt point)) else accuracyOf (s.boundAt point)

/-- timeSource from the summary CLASS: 0 NONE, 1 GNSS, 2 PTP, 3 PPS, 4 TWIN, 5 FREQ, 6 ENSEMBLE, 7 HOST (R184, R286). -/
def timeSourceOf (cls : Nat) : Nat :=
  match cls with
  | 0 => 0xA0
  | 1 => 0x20
  | 2 => 0x40
  | 5 => 0x10
  | 7 => 0x60
  | _ => 0x90

/-- What a master instance announces now (R286, R287). -/
def State.announceOf (s : State) (c : PtpCfg) : PtpAnnounce × Nat :=
  let vc := s.instVc c
  let sec := gtSec (s.vcNow vc)
  let utc := taiUtc s.leapTable sec
  let valid := if s.firstDone vc then 4 else 0
  let p := leapPending s.leapTable sec
  let leap := if p = 1 then 1 else if p = -1 then 2 else 0
  if vc = 0 then
    let x := s.indication
    let cls := if c.profile = 2 ∨ c.profile = 3 then x.clsG else x.cls
    (⟨utc, c.priority1, c.priority2, cls, s.accuracyAt c.version c.port, if cls = 6 ∨ cls = 7 then 0x4E5D else 0xFFFF,
      s.clockId, 0, timeSourceOf s.onionClass⟩,
     leap + valid + 8 + 16 * bit x.timeTr + 32 * bit x.freqTr)
  else
    (⟨utc, c.priority1, c.priority2, c.classOverride, 0xFE, 0xFFFF, s.clockId, 0, 0xA0⟩, leap + valid + 8)

/-- The bound TLV of an instance (R286): present from a BOUND_TLV setting on, for VC0 only. -/
def State.boundTlvs (s : State) (c : PtpCfg) (least : Nat) : List PtpTlv :=
  if least ≤ c.boundTlv ∧ s.instVc c = 0 then [.org (s.fld Reg.PTP_ORG Reg.PTP_ORG_OUI) 1 (s.onionSummary c.port)] else []

/-- The L1_SYNC TLV of profile 4, with every flag FALSE (R278). -/
def l1Tlvs (c : PtpCfg) : List PtpTlv := if c.profile = 4 then [.l1Sync 0 0] else []

/-! ### Departure -/

/-- A time in a message and its sub-nanosecond remainder in units of 2^-16 ns (R281). -/
def msgTime (g : Gt) : Int × Int := (g / fuNs * fuNs, g % fuNs / 65536)

/-- A message as it departs at `g`: the time and the remainder in a Sync, the turnaround in a Pdelay_Resp (R281). In two-step
messages the time travels in the Follow_Up. -/
def ptpStamped (msg : PtpMsg) (g : Gt) : PtpMsg :=
  if msg.type = 0 ∧ msg.twoStep = false then { msg with time := (msgTime g).1, corr := msg.corr + (msgTime g).2 }
  else if msg.type = 3 ∧ msg.twoStep = false then { msg with corr := msg.corr + (g - msg.time) / 65536, time := 0 }
  else msg

/-- The ICV over a message with correctionField zero (R291). -/
def ptpIcv (key : List Byte) (msg : PtpMsg) : List Byte := Config.aesCmac key (ptpPlain { msg with corr := 0 })

/-- The dataset fields and the bound TLV of a message take the values in force at its departure. In two steps the Follow_Up carries the TLV in
place of the Sync (R286). -/
def State.ptpFresh (s : State) (c : PtpCfg) (msg : PtpMsg) : PtpMsg :=
  match msg.type with
  | 11 => let (a, flags) := s.announceOf c
          { msg with ann := some a, flags := flags, tlvs := s.boundTlvs c 1 ++ l1Tlvs c }
  | 0 => { msg with tlvs := if msg.twoStep then [] else s.boundTlvs c 2 }
  | 8 => { msg with tlvs := s.boundTlvs c 2 }
  | _ => msg

/-- What a message is when it departs at t_MDI `g`; none: its key has gone and nothing is sent (R286, R292, R294). -/
def State.ptpDepart (s : State) (i : Nat) (c : PtpCfg) (msg : PtpMsg) (g : Gt) : Option PtpMsg × State :=
  let m := ptpStamped (s.ptpFresh c msg) g
  match m.auth with
  | none => (some m, s)
  | some a => match s.keyFor a.keyId [ptpAuthUse] with
    | .inr key => (some { m with auth := some { a with icv := ptpIcv key m } }, s)
    | .inl _ =>
      let (go, s) := s.ptpBare i c
      (if go then some { m with auth := none } else none, s)

/-- The multicast addresses of PTP: true for the peer delay messages, and for every message of a G.8275.1 instance with MAC_DEST 1 on
Ethernet (R256, R275). -/
def ptpPeerAddr (c : PtpCfg) (type : Nat) : Bool :=
  type == 2 || type == 3 || type == 10 || (c.transport == 0 && c.profile == 2 && c.macDest == 1)

/-- The frame of a message without its FCS: an Ethernet frame of EtherType 0x88F7, or UDP on port 319 for event messages and 320 for the
others; an IPv6 datagram ends with two zero bytes (R256, R257; PRESUMED from IEEE 1588-2019, notes/assumptions/172). -/
def State.ptpFrame (s : State) (p : Nat) (c : PtpCfg) (msg : PtpMsg) (addr : List Byte) : List Byte :=
  let peer := ptpPeerAddr c msg.type
  let own := natBe 6 (s.ownMac p)
  let port := if msg.type < 4 then 319 else 320
  let udp (mc : Nat) (ip pad : List Byte) : List Byte :=
    udpFrame ((if addr.isEmpty then natBe 6 mc else padTo 6 (Config.peerMac addr)) ++ own) Config.ptpIp.1 Config.ptpIp.2 c.ipaddr
      (if addr.isEmpty then ip else addr) port port (ptpBytes msg ++ pad)
  match c.transport with
  | 0 => (if addr.isEmpty then natBe 6 (if peer then 0x0180C200000E else 0x011B19000000) else padTo 6 addr) ++ own ++ natBe 2 0x88F7
      ++ ptpBytes msg
  | 1 => udp (if peer then 0x01005E00006B else 0x01005E000181) (if peer then [224, 0, 0, 107] else [224, 0, 1, 129]) []
  | _ => udp (if peer then 0x33330000006B else 0x333300000181)
      (natBe 16 (if peer then 0xFF02000000000000000000000000006B else 0xFF0E0000000000000000000000000181)) [0, 0]

/-- The blocks that the ICV of a message takes (R291). -/
def State.authBlocks (s : State) (m : PtpMsg) : State :=
  if m.auth.isSome then s.macBlocks (((ptpPlain m).length + 15) / 16) else s

/-- What an instance notes of a departure (R281, R282, R284). -/
def State.ptpDeparted (s : State) (i : Nat) (orig msg : PtpMsg) (addr : List Byte) (g : Gt) (tick : Nat) (due : Option (Gt × Gt)) : State :=
  let s := match due with
    | some (d, ival) => if d + ival / 10 < g then s.count (288 + 32 * i + 3) else s
    | none => s
  s.modInst i (fun x =>
    let x := { x with sent := some msg }
    if (msg.type = 0 ∨ msg.type = 3) ∧ msg.twoStep then
      let f := { orig with type := if msg.type = 0 then 8 else 10, twoStep := false, auth := none }
      { x with follow := x.follow ++ [({ f with time := (msgTime g).1, corr := orig.corr + (msgTime g).2 }, addr, tick)] }
    else if msg.type = 1 ∨ msg.type = 2 then { x with dreq := some ⟨msg.seq, some g, none, 0⟩, presp := none }
    else x)

end Sys2Proof.Machine
end

