-- ==== Sys2Proof/Machine/Nse.lean ====
section
/-! DEFINITION. The time service and the Placer: identities, the ledger and the session cache, cookies, NTP and NTS requests
and the composition of responses, and Pod 4's supervisor (R298 to R322). Bytes of standard headers are laid out as the named
standards do (notes/assumptions/21). -/

namespace Sys2Proof.Machine

/-- Changes the service's own state. -/
def State.modNse (s : State) (f : NseState → NseState) : State := { s with nse := f s.nse }

/-- VC0 seconds as a count, 0 before TAI 0. -/
def State.nowSec (s : State) : Nat := s.vc0Sec.toNat

/-- ⌈a / 16⌉ (R314). -/
def blocks (a : Nat) : Nat := (a + 15) / 16

/-- Blocks that CL0 to CL5 take, shared out in rounds over the lanes that have not failed (R314, R416). -/
def State.laneBlocks (s : State) (n : Nat) : State :=
  let l := (List.range 6).filter (fun k => !s.flt.cond.contains (8 + k))
  (List.range l.length).foldl (fun s j => s.countBy (864 + l.getD j 0) ((n + l.length - 1 - j) / l.length)) s

/-! ### The ledger and the session cache -/

/-- The capacity of the ledger (R31, R322). -/
def State.ledgerCap (s : State) : Nat := s.reg Reg.PLC_LEDGER_CAP

/-- An identity is in the session cache. -/
def State.cached (s : State) (id : Nat) : Option LedgerRec := tabGet none s.nse.cache id

/-- The record of an identity with its pending state merged (R311). -/
def State.ledgerNow (s : State) (id : Nat) : LedgerRec :=
  match s.cached id with
  | some r => r
  | none => match s.nse.updq.find? (fun x => x.1 == id) with
    | some x => x.2
    | none => tabGet LedgerRec.reset s.nse.ledger id

/-- Shows the identities allocated and the cache entries in use (R322). -/
def State.showLedger (s : State) : State :=
  (s.setReg Reg.PLC_LEDGER (s.nse.ledger.filter (fun x => x.2.kind != 0)).length).setReg Reg.PLC_CACHE
    (s.nse.cache.filter (fun x => x.2.isSome)).length

/-- A placement event: 0 promotion, 1 eviction, 2 recycling, 3 update lost; every 2^SAMPLE-th goes into the trace (R318, R459). -/
def State.placeEvent (s : State) (id event rate : Nat) : State :=
  if s.fld Reg.PLC_TRACE Reg.PLC_TRACE_EN = 0 then s
  else if s.nse.trace + 1 < 2 ^ s.fld Reg.PLC_TRACE Reg.PLC_TRACE_SAMPLE then s.modNse (fun n => { n with trace := n.trace + 1 })
  else
    let g := s.vcNow 0
    (s.modNse (fun n => { n with trace := 0 })).telStage 0x0005 0x1B
      (natLe 4 id ++ natLe 1 event ++ [0, 0, 0] ++ natLe 4 rate ++ natLe 4 (gtNs g) ++ intLe 8 (gtSec g))

/-- Bytes of the ledger move on a DRAM channel, in a class of R29: 2 reads, 4 updates. Which channel is a free value. -/
def State.ledgerMoved (s : State) (cls : Nat) : State :=
  let (x, s) := s.fresh
  s.countBy (872 + cls + 5 * (x % 2)) 256

/-- A ledger update that cannot be written is lost (R29, R313, R416). -/
def State.ledgerLose (s : State) (id : Nat) (r : LedgerRec) : State :=
  let s := (s.count (544 + 20)).placeEvent id 3 r.rate
  if s.nse.lossAt = some s.vc0Sec then s else (s.modNse (fun n => { n with lossAt := some s.vc0Sec })).raise 124

/-- A ledger update enters the queue, where updates of one identity coalesce, or is lost (R313, R416). -/
def State.ledgerPost (s : State) (id : Nat) (r : LedgerRec) : State :=
  if s.nse.updq.any (fun x => x.1 == id) then
    s.modNse (fun n => { n with updq := n.updq.map (fun x => if x.1 = id then (id, r) else x) })
  else if s.nse.updq.length < 65536 then s.modNse (fun n => { n with updq := n.updq ++ [(id, r)] })
  else s.ledgerLose id r

/-- The cached identity of lowest RATE. -/
def lowest : Tab (Option LedgerRec) → Option (Nat × LedgerRec)
  | [] => none
  | (k, v) :: rest =>
    match v, lowest rest with
    | none, x => x
    | some r, none => some (k, r)
    | some r, some x => if r.rate ≤ x.2.rate then some (k, r) else some x

/-- An identity enters the cache with a record. -/
def State.promote (s : State) (id : Nat) (r : LedgerRec) : State :=
  ((s.modNse (fun n => { n with cache := tabSet none n.cache id (some r) })).count (544 + 17)).placeEvent id 0 r.rate

/-- The update of a request: merged into the cache entry, or into a promoted one, or queued (R312, R313). -/
def State.ledgerTouch (s : State) (id : Nat) (f : LedgerRec → LedgerRec) : State :=
  let r := f (s.ledgerNow id)
  (match s.cached id with
   | some _ => (s.modNse (fun n => { n with cache := tabSet none n.cache id (some r) })).count (544 + 15)
   | none =>
     let s := (s.count (544 + 16)).ledgerMoved 2
     if s.fld Reg.PLC_CACHE Reg.PLC_CACHE_OCC < 131072 then s.promote id r
     else match lowest s.nse.cache with
       | some (k, l) =>
         if l.rate < r.rate then
           (((s.modNse (fun n => { n with cache := tabSet none n.cache k none })).count (544 + 18)).placeEvent k 1 l.rate |>.ledgerPost k l).promote id r
         else s.ledgerPost id r
       | none => s.ledgerPost id r).showLedger

/-- LEDGER_UPDATE_WRITE: the oldest update is written, or is lost where no bandwidth is left for it; while DRAM takes no access, and at
the tick at which an archive write found no bandwidth, it waits (R29, R313). -/
def execLedgerUpdateWrite (s : State) : Host.Outcome State Fault Refusal :=
  act (fun s =>
    match s.nse.updq with
    | [] => s
    | (id, r) :: rest =>
      if !s.dramUp || decide (s.tel.shortAt = some s.tkp.rawcnt) then s
      else
        let (room, s) := s.dramTurn
        if !room then (s.modNse (fun n => { n with updq := rest })).ledgerLose id r
        else (s.modNse (fun n => { n with updq := rest, ledger := tabSet LedgerRec.reset n.ledger id r })).ledgerMoved 4) s

/-- The lowest identity that is not allocated, of the identities from `n` on. -/
def firstFree : Tab LedgerRec → Nat → Nat
  | [], n => n
  | (k, r) :: rest, n => if k = n ∧ r.kind ≠ 0 then firstFree rest (n + 1) else if k < n then firstFree rest n else n

/-- The allocated identity least recently served. -/
def State.leastServed (s : State) : Nat :=
  (s.nse.ledger.foldl (fun (best : Option (Nat × Nat)) x =>
    let l := (s.ledgerNow x.1).last
    if x.2.kind = 0 then best
    else match best with
      | some (_, m) => if l < m then some (x.1, l) else best
      | none => some (x.1, l)) none).elim 0 (·.1)

/-- Forgets what the cache and the update queue hold of an identity. -/
def State.ledgerForget (s : State) (id : Nat) : State :=
  s.modNse (fun n => { n with cache := tabSet none n.cache id none, updq := n.updq.filter (fun x => x.1 ≠ id) })

/-- Allocates an identity of a kind, or reuses one; none without a ledger (R310). -/
def State.allocate (s : State) (kind alg : Nat) (addr : List Byte) : Option (Nat × State) :=
  let free := firstFree s.nse.ledger 0
  let give (id : Nat) (s : State) : Option (Nat × State) :=
    let old := s.ledgerNow id
    let r : LedgerRec := { LedgerRec.reset with idgen := (old.idgen + 1) % 65536, kind := kind, alg := alg, first := s.nowSec, addr := addr }
    some (id, ((s.ledgerForget id).modNse (fun n => { n with ledger := tabSet LedgerRec.reset n.ledger id r })).showLedger)
  if free < s.ledgerCap then give free s
  else if s.ledgerCap = 0 then none
  else
    let id := s.leastServed
    give id ((s.count (544 + 19)).placeEvent id 2 (s.ledgerNow id).rate)

/-- The identity of a plain NTP client by its address (R310). -/
def State.ntpIdent (s : State) (addr : List Byte) : Option Nat :=
  (s.nse.ledger.find? (fun x => x.2.kind == 2 && x.2.addr == addr)).map (·.1)

/-- The 256 bytes of a record (R311). -/
def ledgerBytes (id : Nat) (r : LedgerRec) : List Byte :=
  padTo 256 (natLe 4 id ++ natLe 2 r.idgen ++ natLe 1 r.kind ++ natLe 1 r.alg ++ natLe 8 r.first ++ natLe 8 r.last ++ natLe 8 r.reqs
    ++ natLe 8 r.naks ++ natLe 8 r.shed ++ natLe 8 r.kod ++ natLe 8 r.mints ++ padTo 16 r.addr ++ natLe 2 r.uport ++ natLe 1 r.ingress
    ++ natLe 1 r.poll ++ natLe 4 r.rate)

/-- A record after a request (R311). -/
def served (now : Nat) (p alg : Nat) (u : Udp) (poll : Nat) (r : LedgerRec) : LedgerRec :=
  { r with alg := alg, last := now, reqs := r.reqs + 1, addr := u.src, uport := u.sport, ingress := p, poll := poll
           rate := Config.ledgerRate r.rate (now - r.last) }

/-! ### Cookie keys and cookies -/

/-- Writes the entries of NSE_CKEY. -/
def State.setCkeys (s : State) (l : List Nat) : State :=
  (List.range 4).foldl (fun s e => s.setReg (Reg.NSE_CKEY e) (match l[e]? with | some x => 2 ^ 31 + x | none => 0)) s

/-- The end of the last committed run of sealing counts of a slot (R305). -/
def State.sealEnd (s : State) (slot : Nat) : Nat :=
  match s.mramNums (ridSeal slot) [] with
  | [g, e] => if g = s.keyGen slot then e else 0
  | _ => 0

/-- The next sealing count of a slot: after a start it continues at the end of the last committed run (R305). -/
def State.sealNext (s : State) (slot : Nat) : Nat :=
  match tabGet none s.nse.seals slot with
  | some (g, n) => if g = s.keyGen slot then n else 0
  | none => s.sealEnd slot

/-- `n` counts of a slot lie in a committed run. -/
def State.sealReady (s : State) (slot n : Nat) : Bool := decide (s.sealNext slot + n ≤ s.sealEnd slot)

/-- The end of the next run is to be committed (R305). -/
def State.sealAsk (s : State) (slot : Nat) : State :=
  s.mramAsk (ridSeal slot) (.nums [s.keyGen slot, s.sealEnd slot + 2 ^ 32]) []

/-- The slot takes `n` counts; the answer is the first. -/
def State.sealTake (s : State) (slot n : Nat) : Nat × State :=
  let c := s.sealNext slot
  (c, s.modNse (fun x => { x with seals := tabSet none x.seals slot (some (s.keyGen slot, c + n)) }))

/-- The key length of an algorithm (R304). -/
def algLen (alg : Nat) : Nat := if alg = 17 then 64 else 32

/-- A cookie (R304). -/
def State.cookie (s : State) (slot count alg ident idgen : Nat) (c2s s2c : List Byte) : List Byte :=
  let side := if s.inTwin then s.twinSide else 0
  let nonce := natLe 12 (side * 2 ^ 95 + count % 2 ^ 95)
  let head := natLe 2 (0x1000 + slot) ++ natLe 2 (s.keyGen slot) ++ nonce
  let body := natLe 3 ident ++ natLe 1 alg ++ natLe 2 idgen ++ [0, 0] ++ c2s ++ s2c
  head ++ padTo (body.length + 16) (Config.gcmSeal (s.keySlot slot).key nonce head body)

/-- `n` cookies, the first at a sealing count. -/
def State.cookies (s : State) (slot first n alg ident idgen : Nat) (c2s s2c : List Byte) : List (List Byte) :=
  (List.range n).map (fun k => s.cookie slot (first + k) alg ident idgen c2s s2c)

/-- The blocks of opening or sealing a cookie (R314). -/
def cookieBlocks (alg : Nat) : Nat := blocks (8 + 2 * algLen alg) + 1

/-! ### Responses -/

/-- The reference identifier (R300). -/
def State.refId (s : State) : List Byte :=
  padTo 4 (if !s.firstDone 0 then ascii "INIT"
    else match s.onionClass with
      | 1 => ascii "GNSS"
      | 2 => ascii "PTP"
      | 3 => ascii "PPS"
      | 4 => ascii "TWIN"
      | 5 => ascii "FREQ"
      | 6 => ascii "ENS"
      | 7 => ascii "HOST"
      | _ => [])

/-- The leap indicator (R165). -/
def State.leapInd (s : State) : Nat :=
  if s.indication.li3 then 3
  else
    let p := leapPending s.leapTable s.vc0Sec
    if p = 1 then 1 else if p = -1 then 2 else 0

/-- The first bytes of an NTP payload: the request's header fields that a response copies. -/
def reqPayload (f : List Byte) : List Byte :=
  match udpOf f (ethOf f) with
  | some u => sliceAt f u.off u.len
  | none => []

/-- The 48-byte header of a response that departs from port `p` at `g` (R300). -/
def State.ntpHeader (s : State) (p : Nat) (r : NseReply) (g : Gt) : List Byte :=
  let b := reqPayload r.req
  let bare := match r.kind with
    | .kod => true
    | .nak _ => true
    | _ => false
  let poll := beAt b 2 1
  let vn := beAt b 0 1 / 8 % 8
  natBe 1 ((if bare then 3 else s.leapInd) * 64 + vn * 8 + 4)
    ++ natBe 1 (if bare then 0 else s.indication.stratum)
    ++ natBe 1 (if r.kind == .kod && (poll < 6 || 128 ≤ poll) then 6 else poll)
    ++ [0xE2, 0, 0, 0, 0]
    ++ natBe 4 (min (2 ^ 32 - 1) ((s.boundAt p * 65536 + 999999999999) / 1000000000000))
    ++ (match r.kind with
        | .kod => ascii "RATE"
        | .nak _ => ascii "NTSN"
        | _ => s.refId)
    ++ (match s.ens.refMs with
        | some ms => ntpTime s.leapTable (ms * 1000000 * fuNs)
        | none => List.replicate 8 0)
    ++ sliceAt b 40 8 ++ ntpTime s.leapTable (r.rx.on 0) ++ ntpTime s.leapTable g

/-- The bound extension field (R302). -/
def State.boundField (s : State) (p : Nat) : List Byte :=
  natBe 2 (s.fld Reg.NSE_CFG Reg.NSE_CFG_BFTYPE) ++ natBe 2 28 ++ s.onionSummary p ++ List.replicate 8 0

/-- An extension field with a body of a multiple of 4 bytes. -/
def extBytes (type : Nat) (body : List Byte) : List Byte := natBe 2 type ++ natBe 2 (4 + body.length) ++ body

/-- The bytes of the fresh cookie fields of a response. -/
def cookieFields (n alg : Nat) : Nat := n * (4 + 40 + 2 * algLen alg)

/-- The UDP payload of a response in bytes (R302, R303, R306). -/
def replyLen (k : NseKind) : Nat :=
  match k with
  | .nak uid => 76 + uid.length
  | .nts uid _ alg _ _ _ _ n _ _ _ => 76 + uid.length + 40 + cookieFields n alg
  | _ => 76

/-- A port carries the service of a twin (R351). -/
def State.twinService (s : State) (p : Nat) : Bool := s.inTwin && decide (getBits (s.fld Reg.TWN_CFG Reg.TWN_CFG_SVC_PORTS) p 1 = 1)

/-- The sequence number of the trailer that a response on a twin service port carries (R351). -/
def State.twinTrailer (s : State) (p : Nat) (req : List Byte) : Option Nat :=
  if s.twinService p then (prpOf req).map (·.1) else none

/-- The Ethernet, IP and UDP headers of a response with its payload; on a twin service port the source address TWN_SVC_MAC
and the trailer of the request (R298, R351). -/
def State.replyFrame (s : State) (p : Nat) (req : List Byte) (payload : List Byte) : List Byte :=
  let e := ethOf req
  match udpOf req e with
  | none => []
  | some u =>
    let smac := if s.twinService p then natBe 6 (s.fld Reg.TWN_SVC_MAC Reg.TWN_SVC_MAC_ADDR) else req.take 6
    let f := udpFrame (sliceAt req 6 6 ++ smac ++ sliceAt req 12 (e.off - 14)) (max 1 (s.fld Reg.NSE_CFG Reg.NSE_CFG_TTL))
      (s.fld Reg.NSE_CFG Reg.NSE_CFG_DSCP) u.dst u.src u.dport u.sport payload
    match s.twinTrailer p req with
    | some seq => let f := f ++ List.replicate (60 - f.length) 0
                  f ++ prpTrailer f seq s.twinSide
    | none => f

/-- The slot that seals fresh cookies: entry 0, or the slot that opened the request's cookie (R308). -/
def State.freshSlot (s : State) (opened : Nat) : Nat := s.sealSlot.getD opened

/-- Where the fresh cookies of a response are sealed as it departs: with the counts it took at step 7 while their slot still holds the same
generation of a usable key; else anew, under the slot that seals now (R305, R308). None while no committed run holds the counts
(DESIGN CHOICE, notes/assumptions/177). -/
def State.sealFor (s : State) (opened n slot gen first : Nat) : Option (Nat × Nat) × State :=
  let holds (k : Nat) : Bool := match s.keyFor k [cookieUse] with
    | .inl _ => false
    | .inr _ => true
  if holds slot && s.keyGen slot == gen then (some (slot, first), s)
  else
    let k := s.freshSlot opened
    if !holds k then (none, s)
    else if !s.sealReady k n then (none, s.sealAsk k)
    else
      let (c, s) := s.sealTake k n
      (some (k, c), s)

/-- A response as it departs from port `p` at `g`, or none when its keys have gone, or when the random bit generator
has stopped and gives no nonce (R300 to R306, R308, R331). -/
def State.nseDepart (s : State) (p : Nat) (r : NseReply) (g : Gt) : Option (List Byte) × State :=
  let head := s.ntpHeader p r g
  match r.kind with
  | .nak uid => (some (s.replyFrame p r.req (head ++ uid ++ s.boundField p)), s)
  | .nts uid opened alg ident idgen c2s s2c n slot gen first =>
    if s.key.rbgFail then (none, s.ckeyReview)
    else match s.ckeyReview.sealFor opened n slot gen first with
    | (none, s) => (none, s)
    | (some (slot, c), s) =>
      let (nonce, s) := State.random 16 s
      let plain := ((s.cookies slot c n alg ident idgen c2s s2c).map (extBytes 0x0204)).flatten
      let ad := head ++ uid ++ s.boundField p
      let ct := padTo (plain.length + 16) (Config.sivSeal s2c ad nonce plain)
      let s := s.laneBlocks (n * cookieBlocks alg + 2 + blocks ad.length + 2 * blocks plain.length)
      (some (s.replyFrame p r.req (ad ++ extBytes 0x0404 (natBe 2 16 ++ natBe 2 ct.length ++ nonce ++ ct))), s)
  | _ => (some (s.replyFrame p r.req (head ++ s.boundField p)), s)

/-- A response departs: DEADLINE_MISS counts one that is later than LIMIT after its capture (R315, R416). -/
def State.nseDeparted (s : State) (r : NseReply) (tick : Nat) : State :=
  let limit := min 10000 (max 10 (s.fld Reg.NSE_ADMIT Reg.NSE_ADMIT_LIMIT))
  if tick ≤ r.rx.tick + limit * 1250 then s
  else
    let s := s.count (544 + 13)
    if s.nse.missAt = some s.vc0Sec then s else (s.modNse (fun n => { n with missAt := some s.vc0Sec })).raise 125

/-- Queues a response on the port of its request (R298). -/
def State.nseReply (s : State) (p : Nat) (r : NseReply) : State :=
  let e := ethOf r.req
  let v6 := match udpOf r.req e with
    | some u => !isV4 u.dst
    | none => false
  s.sendOwn p Reg.MAC_TC_MAP_NTP (.nse r) (e.off + (if v6 then 48 else 28) + replyLen r.kind + 4
    + (if (s.twinTrailer p r.req).isSome then 6 else 0)) none

/-! ### Requests -/

/-- The bytes after the header are a legacy symmetric-key MAC (R299). -/
def legacyMac (b : List Byte) : Bool := (b.length == 68 || b.length == 72) && !(ntpFields b).2

/-- The count of a request, of the second and, when it is shed, of the counters (R315, R320). -/
def State.nseArrived (s : State) (p : Nat) (shed : Bool) : State :=
  let s := s.modNse (fun n => { n with received := n.received + 1, shed := n.shed + bit shed })
  if shed then (s.count (544 + 12)).count (32 * p + 27) else s

/-- KoD RATE for a shed plain NTP request, once in 64 s, and the update of its identity (R315, R316). -/
def State.nseKod (s : State) (p : Nat) (x : RxItem) (u : Udp) : State :=
  let now := s.nowSec
  let id := s.ntpIdent u.src
  let inCache := match id with
    | some k => (s.cached k).isSome
    | none => false
  let h := Config.kodHash (match id with | some k => k | none => 2 ^ 32 + beNat u.src) % 65536
  let last := match id, inCache with
    | some k, true => (s.ledgerNow k).kod
    | _, _ => tabGet 0 s.nse.kods h
  let send := decide (s.fld Reg.NSE_ADMIT Reg.NSE_ADMIT_KOD_EN = 1) && (decide (last = 0) || decide (last + 64 ≤ now))
  let s := match id with
    | some k => s.ledgerTouch k (fun r => { r with shed := r.shed + 1, kod := if send then now else r.kod })
    | none => s
  if !send then s
  else
    let s := if inCache then s else s.modNse (fun n => { n with kods := tabSet 0 n.kods h now })
    (s.count (544 + 14)).nseReply p ⟨x.bytes, x.stamp, .kod⟩

/-- Answers a plain NTP request: the identity of its source address, the ledger and the response (R299, R310). -/
def State.ntpServe (s : State) (p : Nat) (x : RxItem) (u : Udp) (b : List Byte) : State :=
  let s := match s.ntpIdent u.src with
    | some k => s.ledgerTouch k (served s.nowSec p 0 u (beAt b 2 1))
    | none => match s.allocate 2 0 u.src with
      | some (k, s) => s.ledgerTouch k (served s.nowSec p 0 u (beAt b 2 1))
      | none => s
  ((s.count 544).count (32 * p + 28)).nseReply p ⟨x.bytes, x.stamp, .ntp⟩

/-- The blocks that a request is predicted to need: opening, verification and both seals; none for plain NTP and for a request that step 1 of
R303 drops (R314). -/
def nseBlocks (cls : Nat) (b : List Byte) : Nat :=
  let l := (ntpFields b).1
  match l.filter (fun e => e.type == 0x0104), l.filter (fun e => e.type == 0x0204), l.getLast? with
  | [u], [c], some a =>
    if cls ≠ 2 ∨ u.len < 36 ∨ a.type ≠ 0x0404 then 0
    else
      let body := sliceAt b (a.off + 4) (a.len - 4)
      let plain := beAt body 2 2 - 16
      let fresh := 1 + min 7 (l.filter (fun e => e.type == 0x0304 && e.len == c.len)).length
      let open' := blocks (c.len - 36) + 1
      open' + (1 + blocks a.off + blocks (beAt body 0 2) + max 1 (blocks plain) + blocks plain)
        + fresh * open' + (1 + blocks (48 + u.len + 28) + 1 + 2 * blocks (fresh * c.len))
  | _, _, _ => 0

/-- The completion delay of a request from its capture in fs (R315): t_parse, t_compose and t_tx are the 40, 60 and 110 ns of
R317; the load of the lanes and of the composer is `w`, and the frames ahead take their wire time with preamble and gap. -/
def State.nseDelay (s : State) (p cls : Nat) (w : NseLoad) (x : RxItem) (b : List Byte) : Rat :=
  let since : Rat := ((s.tkp.rawcnt : Rat) - (x.stamp.tick : Rat) - (x.stamp.fine : Rat) / 65536) * 800000
  let lanes : Rat := (((w.blocks + nseBlocks cls b) * w.blockFs : Nat) : Rat) / 6
  let compose : Rat := (((w.waiting + 1) * 15625000 : Nat) : Rat)
  let tc := s.fld (Reg.MAC_TC_MAP p) Reg.MAC_TC_MAP_NTP
  let queued := (((s.port p).tx.filter (fun y => y.tc == tc)).map (fun y => (20 + y.len) * 8 * s.portBit p)).sum
  since + 210000000 + max lanes compose + ((queued * 1000 : Nat) : Rat)

/-- A request is shed: it would complete later than LIMIT after its capture (R315). -/
def State.nseSheds (s : State) (p cls : Nat) (w : NseLoad) (x : RxItem) (b : List Byte) : Bool :=
  decide (((min 10000 (max 10 (s.fld Reg.NSE_ADMIT Reg.NSE_ADMIT_LIMIT)) * 1000000000 : Nat) : Rat) < s.nseDelay p cls w x b)

/-- The rules of R299 before a class is served: passed to the host, malformed, shed; else the class. -/
def State.nseHandle (s : State) (p cls : Nat) (w : NseLoad) (shedNtp : Bool) (f : RxItem → Udp → List Byte → State → State) : State :=
  match s.rxFront p cls with
  | none => s
  | some x =>
    let whole := s
    let s := s.rxTake p cls
    let toHost := (s.count (544 + 2)).toHost p 2 x.bytes x.stamp
    if s.halfDuplex p || s.fld Reg.NSE_CFG Reg.NSE_CFG_EN == 0 then toHost
    else match udpOf x.bytes (ethOf x.bytes) with
      | none => toHost
      | some u =>
        let b := sliceAt x.bytes u.off u.len
        if legacyMac b then toHost
        else if !(ntpFields b).2 then s.count (544 + 3)
        else if whole.nseSheds p cls w x b then
          let s := s.nseArrived p true
          if shedNtp then s.nseKod p x u else s
        else f x u b whole

/-- NTP_REQUEST: the oldest plain NTP request of a port, at the load that the Placer sees (R299, R315). -/
def execNtpRequest (p : PortId) (w : NseLoad) (t : Nat) (s : State) : Host.Outcome State Fault Refusal :=
  actAt t (fun s => s.nseHandle p 3 w true (fun x u b s => ((s.rxTake p 3).nseArrived p false).ntpServe p x u b)) s

/-- What the steps of R303 find of an NTS request. -/
inductive NtsEnd where
  /-- Dropped, counted at an offset of R321, with the blocks spent. -/
  | drop (counter blocks : Nat)
  /-- A NAK, counted at an offset of R321, the UID field, the blocks spent, and the identity and generation when known. -/
  | nak (counter : Nat) (uid : List Byte) (blocks : Nat) (who : Option (Nat × Nat))
  /-- Served: placeholders ignored, blocks spent and the response. -/
  | serve (ignored blocks : Nat) (k : NseKind)
deriving DecidableEq, Repr

/-- The bytes of an extension field, and its body. -/
def fieldBytes (b : List Byte) (e : ExtField) : List Byte := sliceAt b e.off e.len
def fieldBody (b : List Byte) (e : ExtField) : List Byte := sliceAt b (e.off + 4) (e.len - 4)

/-- Steps 6 and 7 of R303: the authenticator under C2S, and the fresh cookies (R306), whose counts the service takes next. -/
def ntsAuth (b : List Byte) (l : List ExtField) (a : ExtField) (len spent slot : Nat) (uid pt : List Byte) : NtsEnd :=
  let alg := beAt pt 3 1
  let k := algLen alg
  let body := fieldBody b a
  let nl := beAt body 0 2
  let cl := beAt body 2 2
  let at' := 4 + (nl + 3) / 4 * 4
  let nonce := sliceAt body 4 nl
  let plain := cl - 16
  let cost := spent + 1 + blocks a.off + blocks nl + max 1 (blocks plain) + blocks plain
  if body.length < at' + cl ∨ cl < 16 then .drop 4 cost
  else match Config.sivOpen (sliceAt pt 8 k) (b.take a.off) nonce (sliceAt body at' cl) with
    | none => .drop 4 cost
    | some _ =>
      let ph := l.filter (fun e => e.type == 0x0304)
      let good := min 7 (ph.filter (fun e => e.len == len)).length
      .serve (ph.length - good) cost
        (.nts uid slot alg (leNat (pt.take 3)) (leNat (sliceAt pt 4 2)) (sliceAt pt 8 k) (sliceAt pt (8 + k) k) (1 + good) 0 0 0)

/-- The steps of R303 in order. -/
def State.ntsSteps (s : State) (b : List Byte) : NtsEnd :=
  let l := (ntpFields b).1
  match l.filter (fun e => e.type == 0x0104), l.filter (fun e => e.type == 0x0204), l.getLast? with
  | [u], [c], some a =>
    if u.len < 36 ∨ a.type ≠ 0x0404 then .drop 3 0
    else
      let uid := fieldBytes b u
      let ck := fieldBody b c
      let slot := leNat (ck.take 2) % 4096
      let open' := blocks (c.len - 36) + 1
      match s.keyFor slot [cookieUse] with
      | .inl _ => .nak 5 uid 0 none
      | .inr key =>
        if leNat (ck.take 2) / 4096 ≠ 1 ∨ slot ∉ s.ckeys ∨ leNat (sliceAt ck 2 2) ≠ s.keyGen slot % 65536 then .nak 5 uid 0 none
        else match Config.gcmOpen key (sliceAt ck 4 12) (ck.take 16) (ck.drop 16) with
          | none => .nak 6 uid open' none
          | some pt =>
            let alg := beAt pt 3 1
            let ident := leNat (pt.take 3)
            if alg ≠ 15 ∧ alg ≠ 17 then
              .nak 7 uid open' (if ident < s.ledgerCap then some (ident, leNat (sliceAt pt 4 2)) else none)
            else if s.ledgerCap ≤ ident then .nak 8 uid open' none
            else ntsAuth b l a c.len open' slot uid pt
  | _, _, _ => .drop 3 0

/-- The update of an NTS identity; a stale generation updates nothing (R310). The answer: the cookie was current. -/
def State.ntsTouch (s : State) (id gen : Nat) (f : LedgerRec → LedgerRec) : State × Bool :=
  let r := s.ledgerNow id
  if r.kind = 1 ∧ r.idgen = gen then (s.ledgerTouch id f, true) else (s, false)

/-- An NTS request after admission (R303, R306). While the run of sealing counts is not committed, the request waits. -/
def State.ntsServe (s : State) (p : Nat) (x : RxItem) (u : Udp) (b : List Byte) : State :=
  let taken := (s.rxTake p 2).nseArrived p false
  match s.ntsSteps b with
  | .drop k n => (taken.laneBlocks n).count (544 + k)
  | .nak k uid n who =>
    let s := (taken.laneBlocks n).count (544 + k)
    let s := match who with
      | some (id, gen) => (s.ntsTouch id gen (fun r => { r with naks := r.naks + 1 })).1
      | none => s
    s.nseReply p ⟨x.bytes, x.stamp, .nak uid⟩
  | .serve ign n k =>
    match k with
    | .nts uid opened alg ident idgen c2s s2c fresh _ _ _ =>
      let slot := s.freshSlot opened
      if !s.sealReady slot fresh then s.sealAsk slot
      else
        let (c, s) := (((taken.laneBlocks n).countBy (544 + 9) ign).count (544 + 1)).sealTake slot fresh
        let k := .nts uid opened alg ident idgen c2s s2c fresh slot (s.keyGen slot) c
        let y := s.ntsTouch ident idgen (served s.nowSec p alg u (beAt b 2 1))
        (if y.2 then y.1 else y.1.count (544 + 10)).nseReply p ⟨x.bytes, x.stamp, k⟩
    | _ => taken

/-- NTS_REQUEST: the oldest NTS request of a port, at the load that the Placer sees (R299, R303, R315). -/
def execNtsRequest (p : PortId) (w : NseLoad) (t : Nat) (s : State) : Host.Outcome State Fault Refusal :=
  actAt t (fun s => s.nseHandle p 2 w false (fun x u b s => s.ntsServe p x u b)) s

/-! ### Commands -/

/-- NTS_MINT: 1 ALG_UNSUPPORTED, 2 KEY_LEN, 3 COUNT_RANGE, 4 IDENT_UNKNOWN, 5 NO_KEY (R305, R309, R310). While the run of
sealing counts is not committed, the command waits. -/
def execNtsMint (q : Nat) (alg ident : Nat) (c2s s2c : List Byte) (count : Nat) (s : State) : Host.Outcome State Fault Refusal :=
  act (fun s => s.hostCmd q 0x0400 (fun s => s.resSpace q 0x0400 (6 + min 8 count * (40 + 2 * algLen alg)) (fun s =>
    if alg ≠ 15 ∧ alg ≠ 17 then s.respond q 0x0400 1 []
    else if c2s.length ≠ algLen alg ∨ s2c.length ≠ algLen alg then s.respond q 0x0400 2 []
    else if count = 0 ∨ 8 < count then s.respond q 0x0400 3 []
    else if ident ≠ 0xFFFFFFFF ∧ (s.ledgerCap ≤ ident ∨ (s.ledgerNow ident).kind ≠ 1) then s.respond q 0x0400 4 []
    else match s.sealSlot with
      | none => s.ckeyReview.respond q 0x0400 5 []
      | some slot =>
        if !s.sealReady slot count then s.sealAsk slot
        else
          let who := if ident = 0xFFFFFFFF then s.allocate 1 alg [] else some (ident, s)
          match who with
          | none => s.respond q 0x0400 4 []
          | some (id, s) =>
            let (c, s) := s.sealTake slot count
            let gen := (s.ledgerNow id).idgen
            let out := s.cookies slot c count alg id gen c2s s2c
            let s := ((s.laneBlocks (count * cookieBlocks alg)).countBy (544 + 11) count).ledgerTouch id
              (fun r => { r with mints := r.mints + count })
            s.respond q 0x0400 0 (natLe 4 id ++ natLe 2 gen ++ out.flatten)))) s

/-- The journal record of NTS_CKEY_SET and NTS_CKEY_DROP: the specification names it and gives no TYPE and no layout, which
are free values here (R319). -/
def State.jCkey (s : State) : State :=
  let (type, s) := s.fresh
  let (pl, s) := s.fresh
  s.journal 0x1A (type % 65536) (natLe 40 pl)

/-- NTS_CKEY_SET: 1 KEY_USE, 2 KEY_INVALID, 3 KEY_ORPHANED (R307, R308, R319). -/
def execNtsCkeySet (q : Nat) (slot : Nat) (s : State) : Host.Outcome State Fault Refusal :=
  act (fun s => s.hostCmd q 0x0401 (fun s =>
    match s.keyFor slot [cookieUse] with
    | .inl e => s.respond q 0x0401 (if e = 3 then 1 else if e = 2 then 3 else 2) []
    | .inr _ =>
      let s := s.setCkeys ((slot :: s.ckeys.filter (· ≠ slot)).take 4)
      let s := s.modNse (fun n => { n with ckeyAt := some s.tkp.rawcnt, ckeyDue := false })
      (s.condOff 101).jCkey.respond q 0x0401 0 [])) s

/-- NTS_CKEY_DROP: 1 NOT_FOUND, 2 KEY_CURRENT (R307, R319). -/
def execNtsCkeyDrop (q : Nat) (slot : Nat) (s : State) : Host.Outcome State Fault Refusal :=
  act (fun s => s.hostCmd q 0x0402 (fun s =>
    match s.ckeys with
    | [] => s.respond q 0x0402 1 []
    | k :: rest =>
      if k = slot then s.respond q 0x0402 2 []
      else if slot ∉ rest then s.respond q 0x0402 1 []
      else (s.setCkeys (k :: rest.filter (· ≠ slot))).jCkey.respond q 0x0402 0 [])) s

/-- NSE_LEDGER_READ: 1 IDENT_UNKNOWN (R311, R319). -/
def execNseLedgerRead (q : Nat) (ident : Nat) (s : State) : Host.Outcome State Fault Refusal :=
  act (fun s => s.hostCmd q 0x0403 (fun s => s.resSpace q 0x0403 256 (fun s =>
    let r := s.ledgerNow ident
    if s.ledgerCap ≤ ident ∨ r.kind = 0 then s.respond q 0x0403 1 []
    else (s.ledgerMoved 2).respond q 0x0403 0 (ledgerBytes ident r)))) s

/-- NSE_LEDGER_FREE: 1 IDENT_UNKNOWN (R310, R319). -/
def execNseLedgerFree (q : Nat) (ident : Nat) (s : State) : Host.Outcome State Fault Refusal :=
  act (fun s => s.hostCmd q 0x0404 (fun s =>
    let r := s.ledgerNow ident
    if s.ledgerCap ≤ ident ∨ r.kind = 0 then s.respond q 0x0404 1 []
    else
      (((s.ledgerForget ident).modNse (fun n => { n with ledger := tabSet LedgerRec.reset n.ledger ident { r with kind := 0 } })).showLedger).respond
        q 0x0404 0 [])) s

/-! ### Pod 4 -/

/-- CKEY_DUE: entry 0 has stood for CK_ROTATE ms (R320, R398). -/
def execCkeyDue (t : Nat) (s : State) : Host.Outcome State Fault Refusal :=
  actAt t (fun s =>
    match s.ckeys, s.nse.ckeyAt with
    | k :: _, some at' =>
      if s.runsResident 4 && !s.nse.ckeyDue && decide (at' + s.paramN 0x401 * 1250000 ≤ s.tkp.rawcnt) then
        (s.modNse (fun n => { n with ckeyDue := true })).residentEvent 4 0x01 0 (natLe 2 k)
      else s
    | _, _ => s) s

/-- SHED_HIGH: at each VC0 second Pod 4 compares the requests shed with SHED_ALARM of those received (R320, R398). -/
def execShedHigh (t : Nat) (s : State) : Host.Outcome State Fault Refusal :=
  actAt t (fun s =>
    let sec := s.vc0Sec
    if s.nse.secAt = some sec then s
    else
      let shed := s.nse.shed
      let recv := s.nse.received
      let s := s.modNse (fun n => { n with secAt := some sec, shed := 0, received := 0 })
      if s.runsResident 4 && decide (s.paramN 0x402 * recv < shed * 65536) then
        s.residentEvent 4 0x02 0 (natLe 4 shed ++ natLe 4 recv)
      else s) s

end Sys2Proof.Machine
end

