-- ==== Sys2Proof/Machine/Tel.lean ====
section
/-! DEFINITION. The telemetry stream: the intake of measurement records, the ring and the UDP destination, the archive
(R459 to R463). -/

namespace Sys2Proof.Machine

/-- Changes the telemetry stream. -/
def State.modTel (s : State) (f : TelState → TelState) : State := { s with tel := f s.tel }

/-! ### The archive -/

/-- 2^SIZE of the archive, SIZE used as 20 to 34, and its base (R463, R468). -/
def State.archSize (s : State) : Nat := 2 ^ min 34 (max 20 (s.fld Reg.TEL_ARCH_CFG Reg.TEL_ARCH_CFG_SIZE))
def State.archBase (s : State) : Nat := s.fld Reg.TEL_ARCH_BASE Reg.TEL_ARCH_BASE_ADDR * 2 ^ 20

/-- The TEL copies an entry into the archive, or counts a copy that cannot be written: DRAM takes no access, or the
classes before it have left it no bandwidth (R29, R463). -/
def State.archive (s : State) (dseq : Nat) (e : RingEntry) : State :=
  if s.fld Reg.TEL_ARCH_CFG Reg.TEL_ARCH_CFG_EN = 0 then s
  else
    let (room, s) := s.dramTurn
    if !room then (s.modTel (fun x => { x with shortAt := some s.tkp.rawcnt })).count 587
    else if !s.dramUp || !s.dramFree s.archBase s.archSize then s.count 587
    else
      let n := s.archSize / 64
      let i := s.tel.archIdx
      (s.dramWrite (s.archBase + i % n * 64) 3 (ringBytes n i dseq e)).modTel (fun x => { x with archIdx := x.archIdx + 1 })

/-! ### The TEL ring -/

/-- The next DSEQ of the TEL ring. -/
def State.telSeq (s : State) : Nat := tabGet 0 s.hif.dseq 3

/-- A record goes to the TEL ring after the DSEQs of the records lost before it, and what is sent goes to the archive
(R460, R461, R463). -/
def State.telRing (s : State) (r : TelRec) : State :=
  let s := Nat.repeat (fun s => s.ringLose 3) r.gap s
  let d := s.telSeq
  let t := s.ringPost 3 r.type r.src r.payload
  let t := match tabGet none s.hif.loss 3 with
    | some (f, n) =>
      if t.reg (Reg.HIF_RING_PI 3) = s.reg (Reg.HIF_RING_PI 3) then t
      else t.archive d ⟨s.lastHseq, 0xFFFF, 0x1C, natLe 4 f ++ natLe 4 n, 0, 1⟩
    | none => t
  if (tabGet none t.hif.loss 3).isSome then t
  else (s.ringEntries r.type r.src r.payload).foldl (fun s e => s.archive ((t.telSeq + 2 ^ 32 - 1) % 2 ^ 32) e) t

/-! ### The UDP destination -/

/-- An address register as 16 bytes in the order of the wire. -/
def ipBytes (v : Nat) : List Byte := natBe 16 v

/-- The open datagram is sent (R462). -/
def State.telSend (s : State) : State :=
  match s.tel.dgram with
  | none => s
  | some (recs, n, first, _) =>
    let p := s.fld Reg.TEL_UDP_CTRL Reg.TEL_UDP_CTRL_PORT
    let payload := natLe 2 0x4C54 ++ [1, 0] ++ natLe 2 n ++ [0, 0] ++ natLe 4 first ++ natLe 4 s.tel.dgseq ++ recs
    let f := udpFrame (natBe 6 (s.fld Reg.TEL_UDP_DMAC Reg.TEL_UDP_DMAC_ADDR) ++ natBe 6 (s.ownMac p)) 64 0 (ipBytes (s.reg Reg.TEL_UDP_SIP))
      (ipBytes (s.reg Reg.TEL_UDP_DIP)) (s.fld Reg.TEL_UDP_PORTS Reg.TEL_UDP_PORTS_SRC)
      (s.fld Reg.TEL_UDP_PORTS Reg.TEL_UDP_PORTS_DST) payload
    (s.modTel (fun x => { x with dgram := none, dgseq := (x.dgseq + 1) % 2 ^ 32 })).enqueue p
      ⟨0, .engine, .raw f, max 64 (f.length + 4), s.fld Reg.TEL_UDP_CTRL Reg.TEL_UDP_CTRL_TC, none, none, none, none, none, none, p, 0⟩

/-- MTU in force (R468). -/
def State.telMtu (s : State) : Nat := min 9000 (max 256 (s.fld Reg.TEL_UDP_CTRL Reg.TEL_UDP_CTRL_MTU))

/-- One record goes into the datagram, which closes first when the record would pass MTU or 100 µs have passed (R462). -/
def State.telUdpPut (s : State) (type src : Nat) (payload : List Byte) : State :=
  let d := s.tel.dseq
  let pad := List.replicate ((8 - payload.length % 8) % 8) (0 : Byte)
  let bs := natLe 2 type ++ natLe 2 payload.length ++ natLe 4 d ++ payload ++ pad
  let s := match s.tel.dgram with
    | some (recs, _, _, first) =>
      if s.telMtu < 16 + recs.length + bs.length ∨ first + 125000 ≤ s.tkp.rawcnt then s.telSend else s
    | none => s
  let s := s.modTel (fun x => { x with dseq := (d + 1) % 2 ^ 32, dgram := match x.dgram with
    | some (recs, n, first, t) => some (recs ++ bs, n + 1, first, t)
    | none => some (bs, 1, d, s.tkp.rawcnt) })
  (s.ringEntries type src payload).foldl (fun s e => s.archive d e) s

/-- A record goes to the datagram stream; a LOSS record precedes the first after a loss (R461, R462). -/
def State.telUdp (s : State) (r : TelRec) : State :=
  let s := if r.gap = 0 then s
    else
      let first := s.tel.dseq
      (s.modTel (fun x => { x with dseq := (x.dseq + r.gap) % 2 ^ 32 })).telUdpPut 0xFFFF 0x1C (natLe 4 first ++ natLe 4 r.gap)
  s.telUdpPut r.type r.src r.payload

/-! ### The rows -/

/-- TEL_DRAIN: the oldest staged record goes to its destination, 250 ns or more after the one before, and none while EN is 0: it would take a
DSEQ (DESIGN CHOICE, notes/assumptions/181: what is staged then waits for EN). (R460 to R463). -/
def execTelDrain (s : State) : Host.Outcome State Fault Refusal :=
  act (fun s =>
    let s := s.telIntake
    match s.fld Reg.TEL_CFG Reg.TEL_CFG_EN, s.tel.staging with
    | 0, _ => s
    | _, [] => s
    | _, r :: rest =>
      let s := s.at s.tel.next
      let s := s.modTel (fun x => { x with staging := rest, next := s.tkp.rawcnt + 313 })
      if s.fld Reg.TEL_CFG Reg.TEL_CFG_DEST = 0 then s.telRing r else s.telUdp r) s

/-- TEL_DATAGRAM_CLOSE: 100 µs after its first record (R462). -/
def execTelDatagramClose (t : Nat) (s : State) : Host.Outcome State Fault Refusal :=
  actAt t (fun s =>
    match s.tel.dgram with
    | some (_, _, _, first) => if first + 125000 ≤ s.tkp.rawcnt then s.telSend else s
    | none => s) s

end Sys2Proof.Machine
end

