-- ==== Sys2Proof/Machine/Pmc.lean ====
section
/-! DEFINITION. The performance counters: clears and windows (R450 to R458). -/

namespace Sys2Proof.Machine

/-- The first index and the number of the counters of a group (R450). -/
def pmcGroup (g : Nat) : Nat × Nat :=
  match g with
  | 0 => (0, 288)
  | 1 => (288, 256)
  | 2 => (544, 32)
  | 3 => (576, 32)
  | 4 => (608, 256)
  | 5 => (864, 18)
  | _ => (0, 0)

/-- The groups of a mask, ascending. -/
def pmcGroups (mask : Nat) : List Nat := (List.range 6).filter (fun g => mask / 2 ^ g % 2 = 1)

/-- A counter, live (R452). -/
def State.pmcCnt (s : State) (i : Nat) : Nat := s.fld (Reg.PMC_CNT i) Reg.PMC_CNT_COUNT

/-- Clears every counter of the groups of a mask (R454). -/
def State.pmcClear (s : State) (mask : Nat) : State :=
  (pmcGroups mask).foldl (fun s g =>
    (List.range (pmcGroup g).2).foldl (fun s i => s.setReg (Reg.PMC_CNT ((pmcGroup g).1 + i)) 0) s) s

/-- The effect of a write of PMC_CTRL: a clear is due (R454). -/
def State.pmcCtrlAct (s : State) (data : Nat) : State :=
  if data % 2 = 1 then
    { s with pmc := { s.pmc with clear := s.pmc.clear ++ [(data / 256 % 64, s.tkp.rawcnt)] } }
  else s

/-- PMC_CLEAR (R454). -/
def execPmcClear (m : Master) (data : Nat) (s : State) : Host.Outcome State Fault Refusal :=
  act (fun s => s.regWrite m Reg.PMC_CTRL (fun s => s.pmcCtrlAct data)) s


/-! ### Windows -/

/-- LEN in ms: 0 off (R467). -/
def State.pmcLen (s : State) : Nat := min 60000 (s.fld Reg.PMC_WIN Reg.PMC_WIN_LEN)

/-- Copies every counter into a bank of holding registers. -/
def State.pmcLatch (s : State) (bank : Nat → Nat) : State :=
  (List.range 882).foldl (fun s i => s.setReg (bank i) (s.pmcCnt i)) s

/-- The tally of a window: 0 RX_BYTES, 1 TX_BYTES, 2 RX_FRAMES, 3 TX_FRAMES (R457). -/
def State.tally (s : State) (p k : Nat) : Nat := tabGet 0 s.pmc.tally (4 * p + k)

/-- Adds to the tally of a window (R457). -/
def State.tallyBy (s : State) (p k n : Nat) : State :=
  { s with pmc := { s.pmc with tally := tabMod 0 s.pmc.tally (4 * p + k) (· + n) } }

/-- kbit/s of bytes in a window of some ns (R457). -/
def kbits (bytes ns : Nat) : Nat := bytes * 8 * 1000000 / ns

/-- The bandwidth figures of a window (R457). -/
def State.pmcFigures (s : State) (ns : Nat) : State :=
  (List.range 9).foldl (fun s p =>
    (s.setReg (Reg.PMC_BW p) (kbits (s.tally p 0) ns % 2 ^ 32 + 2 ^ 32 * (kbits (s.tally p 1) ns % 2 ^ 32))).setReg (Reg.PMC_BWF p)
      (s.tally p 2 % 2 ^ 32 + 2 ^ 32 * (s.tally p 3 % 2 ^ 32))) s

/-- The COUNTERS records of a group: up to five counters each (R459). -/
def State.counterRecs (s : State) (wseq g : Nat) : State :=
  let (first, n) := pmcGroup g
  (List.range ((n + 4) / 5)).foldl (fun s k =>
    let i := first + 5 * k
    let m := min 5 (n - 5 * k)
    s.telStage 0x0003 0x1C (padTo 48 (natLe 4 wseq ++ natLe 2 i ++ natLe 1 m ++ [0]
      ++ ((List.range m).map (fun j => natLe 8 (s.reg (Reg.PMC_WCNT (i + j))))).flatten))) s

/-- The COUNTERS and BW records of a window (R459). -/
def State.windowRecs (s : State) (wseq ns : Nat) : State :=
  let s := if s.fld Reg.TEL_CFG Reg.TEL_CFG_CNT = 1 then
      (pmcGroups (s.fld Reg.TEL_EXPORT Reg.TEL_EXPORT_GROUPS)).foldl (fun s g => s.counterRecs wseq g) s
    else s
  if s.fld Reg.TEL_CFG Reg.TEL_CFG_BW = 1 then
    (List.range 9).foldl (fun s p =>
      if s.portEn p then
        s.telStage 0x0004 0x1C (natLe 1 p ++ [0, 0, 0] ++ natLe 4 wseq ++ natLe 8 (s.reg (Reg.PMC_BW p)) ++ natLe 8 (s.reg (Reg.PMC_BWF p))
          ++ natLe 8 ns)
      else s) s
  else s

/-- A boundary is taken: the counters are latched and the figures of the window published (R456, R457). -/
def State.window (s : State) (b : Gt) (tick : Nat) : State :=
  let ns := (tick - s.pmc.tick) * 4 / 5
  let wseq := (s.reg Reg.PMC_WSEQ + 1) % 2 ^ 32
  let s := (s.pmcLatch Reg.PMC_WCNT).setReg Reg.PMC_WTIME (gtToRaw b)
  let s := (s.setReg Reg.PMC_WSEQ wseq).setReg Reg.PMC_WDUR ns
  (s.pmcFigures ns).windowRecs wseq ns

/-- The next boundary: the first multiple of LEN ms that VC0 reaches under its present parameter set after the one last taken and after
LEN last changed, and its tick; a step forward passes those before it (R456). -/
def State.windowNext (s : State) : Gt × Nat :=
  let len : Gt := s.pmcLen * 1000000 * fuNs
  let c := s.vcSet 0
  let from' := max (vcRead c s.pmc.lenAt 1) (vcRead c (s.reg (Reg.TKP_VC_EFF 0)) 1 - 1)
  let from' := match s.pmc.last with
    | some l => max l from'
    | none => from'
  let b := (from' / len + 1) * len
  (b, tickOf c b)

/-- A boundary has come and is not taken yet at a tick. -/
def State.windowDue (s : State) (tick : Nat) : Bool := decide (s.pmcLen ≠ 0) && decide (s.windowNext.2 ≤ tick)

/-- PMC_WINDOW_BOUNDARY: the next boundary, once VC0 has reached it (R456). The first after LEN leaves 0 publishes nothing. -/
def execPmcWindowBoundary (t : Nat) (s : State) : Host.Outcome State Fault Refusal :=
  actAt t (fun s =>
    if s.windowDue s.tkp.rawcnt then
      let (b, tick) := s.windowNext
      let s := if s.pmc.last.isSome then s.window b tick else s
      { s with pmc := { s.pmc with last := some b, tick := tick, tally := [] } }
    else s) s

/-! ### Clears -/

/-- PMC_CLEAR_APPLY: 1 µs after the write was accepted. It has no effect yet while a snapshot or a window boundary of that tick or before
has not latched the counters (R454, R455). -/
def execPmcClearApply (s : State) : Host.Outcome State Fault Refusal :=
  act (fun s =>
    match s.pmc.clear with
    | [] => s
    | (mask, tick) :: rest =>
      if s.windowDue (tick + 1250) || s.hif.snap.any (fun x => decide (x.1 ≤ tick + 1250)) then s
      else (({ s with pmc := { s.pmc with clear := rest } } : State).at (tick + 1250)).pmcClear mask) s

end Sys2Proof.Machine
end

