-- ==== Sys2Proof/Machine/Mac.lean ====
section
/-! DEFINITION. The ports: reception, filtering and classification, departure with its one-step times, the shaper, flow
control, PRP pairs, MGMT, the port configuration and the links (R250 to R274, R378, R415, R416). -/

namespace Sys2Proof.Machine

/-! ### Reception -/

/-- The fixed addresses of MAC_FILT_FIX by bit (R256). -/
def fixedAddrs : List Nat :=
  [0x011B19000000, 0x0180C200000E, 0x01005E000181, 0x01005E00006B, 0x333300000181, 0x33330000006B, 0x01005E000101,
   0x333300000101, 0x01154E000100]

/-- A port accepts a destination address (R256). -/
def State.filterPass (s : State) (p da : Nat) : Bool :=
  let fix := Reg.MAC_FILT_FIX p
  decide (s.fld fix Reg.MAC_FILT_FIX_PROMISC = 1) || decide (s.ownMac p = da)
    || (List.range 15).any (fun k => decide (s.fld (Reg.MAC_FILT p (k + 1)) Reg.MAC_FILT_VALID = 1)
      && decide (s.fld (Reg.MAC_FILT p (k + 1)) Reg.MAC_FILT_ADDR = da))
    || (List.range 9).any (fun k => decide (getBits (s.fld fix Reg.MAC_FILT_FIX_FIXED) k 1 = 1) && decide (fixedAddrs.getD k 0 = da))
    || (decide (s.fld fix Reg.MAC_FILT_FIX_BCAST = 1) && decide (da = 0xFFFFFFFFFFFF))

/-- A flow-control frame: its opcode (R266). -/
def flowOp (f : List Byte) : Option Nat :=
  if beAt f 0 6 = 0x0180C2000001 ∧ beAt f 12 2 = 0x8808 then
    (if beAt f 14 2 = 1 then some 1 else if beAt f 14 2 = 0x0101 then some 0x0101 else none)
  else none

/-- A received flow-control frame: counted, and honoured while RXHONOR is 1 (R266). -/
def State.flowRx (s : State) (p op : Nat) (f : List Byte) (k : Nat) : State :=
  let s := s.count (32 * p + (if op = 1 then 14 else 16))
  let till (quanta : Nat) : Nat := k + psToTicks (quanta * 512 * s.portBit p)
  let stop (t : Tab Nat) (c : Nat) : Tab Nat :=
    if op = 1 then tabSet 0 t c (till (beAt f 16 2))
    else if getBits (beAt f 16 2) c 1 = 1 then tabSet 0 t c (till (beAt f (18 + 2 * c) 2))
    else t
  if s.fld (Reg.MAC_FC p) Reg.MAC_FC_RXHONOR = 0 then s
  else s.modPort p (fun q => { q with paused := (List.range 8).foldl stop q.paused })

/-- The class of a frame: 0 PTP_EVENT, 1 PTP_GENERAL, 2 NTS, 3 NTP, 4 PRP_SUP, 5 HOST (R257, R298). -/
def State.classify (s : State) (p : Nat) (f : List Byte) : Nat :=
  let e := ethOf f
  let sup := if s.prpOn p && decide (beAt f 0 6 = 0x01154E000100) then 4 else 5
  if 2 < e.tags then 5
  else if e.et = 0x88F7 then (if beAt f e.off 1 % 16 < 4 then 0 else 1)
  else match udpOf f e with
    | none => sup
    | some u =>
      let b := beAt f u.off 1
      if u.dport = 319 ∧ b % 16 < 4 then (if s.ptpServes p u.dst then 0 else 5)
      else if u.dport = 320 ∧ 4 ≤ b % 16 then (if s.ptpServes p u.dst then 1 else 5)
      else if u.dport = 123 ∧ 48 ≤ u.len ∧ b % 8 = 3 ∧ (b / 8 % 8 = 3 ∨ b / 8 % 8 = 4) then
        (if !s.nseServes p u.dst then 5
         else if b / 8 % 8 = 4 ∧ (ntpFields (sliceAt f u.off u.len)).1.any (fun x => x.type == 0x0204) then 2 else 3)
      else sup

/-- A UDP frame of a service class whose non-zero checksum fails (R257). -/
def badCsum (cls : Nat) (f : List Byte) : Bool :=
  decide (cls < 4) && (match udpOf f (ethOf f) with
    | some u => u.bad f
    | none => false)

/-- FORGET of a pair in ticks. -/
def State.forgetTicks (s : State) (p : Nat) : Nat := s.fld (Reg.MAC_PRP_CFG (p / 2)) Reg.MAC_PRP_CFG_FORGET * 1250000

/-- The node table notes a frame: its source moves to the front, the least recently seen leaves a full table (R271). -/
def State.nodeNote (s : State) (p : Nat) (addr : List Byte) (seq size k : Nat) : State :=
  let e := evenPort p
  let nodes := (s.port e).nodes
  let life := s.forgetTicks p
  let old := match nodes.find? (fun n => n.addr == addr) with
    | some n => n.seen.filter (fun x => decide (k ≤ x.2.2.2 + life))
    | none => []
  let rest := nodes.filter (fun n => n.addr != addr)
  let full := decide (4096 ≤ rest.length)
  let s := if full then s.count (32 * e + 20) else s
  s.modPort e (fun q => { q with nodes := ⟨addr, (seq, size, p % 2, k) :: old⟩ :: (if full then rest.dropLast else rest) })

/-- What the duplicate discard of a pair makes of a frame: none, it is discarded (R271). -/
def State.prpRx (s : State) (p cls : Nat) (f : List Byte) (k : Nat) : Option State :=
  if !s.prpOn p || decide (cls < 2) then some s
  else match prpOf f with
    | none => some s
    | some (seq, lan, size) =>
      let e := evenPort p
      let addr := sliceAt f 6 6
      if lan = 10 + (1 - p % 2) then some (s.count (32 * e + 21))
      else
        let hit := (s.port e).nodes.any (fun n => n.addr == addr && n.seen.any (fun x =>
          decide (x.1 = seq ∧ x.2.1 = size ∧ x.2.2.1 ≠ p % 2 ∧ k ≤ x.2.2.2 + s.forgetTicks p)))
        if hit then none else some (s.nodeNote p addr seq size k)

/-- A service frame enters the ingress buffer, or finds it full: the unreserved part first, and a PTP_EVENT frame then the reserve (R259). -/
def State.buffer (s : State) (p cls : Nat) (f : List Byte) (x : Stamp) : State :=
  let (size, reserve) := ingressSize p
  let fits (kept : Bool) (room : Nat) : Bool := decide ((s.port p).held kept + f.length + 4 ≤ room)
  let put (kept : Bool) : State := s.modPort p (fun q => { q with rx := q.rx ++ [⟨cls, (ethOf f).prio, f, x, kept⟩] })
  if fits false (size - reserve) then put false
  else if cls = 0 ∧ fits true reserve = true then put true
  else s.count (32 * p + 7)

/-- An accepted frame (R257, R259, R271, R397). -/
def State.rxFrame (s : State) (p : Nat) (f : List Byte) (k fine : Nat) : State :=
  let n := f.length + 4
  let s := (((s.count (32 * p)).countBy (32 * p + 1) n).tallyBy p 0 n).tallyBy p 2 1
  let cls := s.classify p f
  if badCsum cls f then s.count (32 * p + 6)
  else match s.prpRx p cls f k with
    | none => s.count (32 * evenPort p + 19)
    | some s =>
      let x := s.stampAt p k fine true
      if cls < 4 then s.buffer p cls f x else s.toHost p (if cls = 4 then 1 else 0) f x

/-- FRAME_RECEIVE: a frame without its FCS, captured at `k` ticks and `fine` / 65,536 (R256 to R259). -/
def execFrameReceive (p : PortId) (frame : List Byte) (fcsOk : Bool) (k fine : Nat) (s : State) :
    Host.Outcome State Fault Refusal :=
  actAt k (fun s =>
    let op := flowOp frame
    if !s.portUp p then s
    else if !s.filterPass p (beAt frame 0 6) && op.isNone then s.count (32 * p + 5)
    else if !fcsOk then s.count (32 * p + 4)
    else if frame.length + 4 < 64 then s.count (32 * p + 2)
    else if s.maxFrame p < frame.length + 4 then s.count (32 * p + 3)
    else match op with
      | some op => s.flowRx p op frame k
      | none => s.rxFrame p frame k fine) s

/-! ### Departure -/

/-- The head of a class (R260). -/
def PortState.head (q : PortState) (tc : Nat) : Option TxItem := q.tx.find? (fun x => x.tc == tc)

/-- The VC time of launch and base times at an instant. -/
def State.launchNow (s : State) (p k fine : Nat) : Gt :=
  vcRead (s.vcSetAt (s.qbvVc p) k) (k * 65536 + fine % 65536 : Nat) 65536

/-- A port may start a frame at an instant (R263, R264, R266, R292). -/
def State.mayStart (s : State) (p : Nat) (x : TxItem) (k fine : Nat) : Bool :=
  let q := s.port p
  let g := s.launchNow p k fine
  let launched : Bool := match x.launch, x.late with
    | none, _ => true
    | some _, some 3 => true
    | some l, some _ => decide (l ≤ g)
    | some _, none => false
  s.portUp p && decide (q.busy ≤ k * 65536 + fine % 65536) && decide (tabGet 0 q.paused x.tc ≤ k) && decide (x.ready ≤ k) && launched
    && s.gateFits p x.tc x.len g

/-- The other port of a pair holds a copy that must leave with this one (R270). -/
def State.peerHolds (s : State) (p : Nat) (x : TxItem) : Bool := s.copyLeft p x && s.portUp (prpPeer p)

/-- The other port may start its copy. -/
def State.peerMay (s : State) (p : Nat) (x : TxItem) (k fine : Nat) : Bool :=
  match (s.port (prpPeer p)).head x.tc with
  | some y => y.id == x.id && s.mayStart (prpPeer p) y k fine
  | none => false

/-- The frame that leaves a port at an instant: of the highest class whose head may start (R260, R270). -/
def State.starter (s : State) (p k fine : Nat) (alone : Bool) : Option TxItem :=
  [7, 6, 5, 4, 3, 2, 1, 0].findSome? (fun tc => match (s.port p).head tc with
    | some x => if s.mayStart p x k fine && (if s.peerHolds p x then (if alone then !s.peerMay p x k fine else s.peerMay p x k fine)
        else !alone) then some x else none
    | none => none)

/-- What a frame is as it departs from a port with a stamp: its bytes, and the PTP message where it is one (R20, R298, R396). -/
def State.compose (s : State) (p : Nat) (x : TxItem) (st : Stamp) : Option (List Byte × Option PtpMsg) × State :=
  match x.body with
  | .raw b =>
    (some (match x.oneStep with
      | some o => fillUdp (putAt b o (ptpTime (st.on (s.hvc p))))
      | none => b, none), s)
  | .ptp i msg addr =>
    match (s.inst i).cfg with
    | none => (none, s)
    | some c =>
      match s.ptpDepart i c msg (st.on (s.instVc c)) with
      | (none, s) => (none, s)
      | (some m, s) => (some (s.ptpFrame p c m addr, some m), s.authBlocks m)
  | .nse r =>
    let y := s.nseDepart p r (st.on 0)
    (y.1.map (fun b => (b, none)), y.2)

/-- The frame without its FCS: padded, and with its PRP trailer (R258, R269). -/
def wireBytes (p : Nat) (x : TxItem) (b : List Byte) : List Byte :=
  let b := b ++ List.replicate (60 - b.length) 0
  match x.prp with
  | some seq => b ++ prpTrailer b seq (p % 2)
  | none => b

/-- A frame has departed from a port (R264, R272, R273). -/
def State.onWire (s : State) (p : Nat) (x : TxItem) (b : List Byte) (st : Stamp) : State :=
  let s := s.modPort p (fun q => { q with
    tx := q.tx.filter (fun y => y.id ≠ x.id), sent := some (wireBytes p x b, st), tries := 0
    busy := st.pos + psToPos ((20 + x.len) * 8 * s.portBit p) })
  let s := (((s.count (32 * p + 8)).countBy (32 * p + 9) x.len).tallyBy p 1 x.len).tallyBy p 3 1
  match x.twoStep with
  | some n => if x.home = p then s.tsqPut p n st false else s
  | none => s

/-- What the engine notes of a departure. -/
def State.departNote (s : State) (x : TxItem) (m : Option PtpMsg) (st : Stamp) : State :=
  match x.body, m with
  | .ptp i msg addr, some m =>
    (match (s.inst i).cfg with
     | some c => s.ptpDeparted i msg m addr (st.on (s.instVc c)) st.tick x.due
     | none => s)
  | .nse r, _ => s.nseDeparted r st.tick
  | _, _ => s

/-- A response of an NTS request is sealed once for both copies of a pair (R270). -/
def sealedOnce (x : TxItem) : Bool :=
  match x.body with
  | .nse ⟨_, _, .nts _ _ _ _ _ _ _ _ _ _ _⟩ => true
  | _ => false

/-- A frame leaves some ports at one instant: both copies carry the time of the first (R270). -/
def State.depart (s : State) (ports : List Nat) (x : TxItem) (k fine : Nat) : State :=
  match ports with
  | [] => s
  | p :: _ =>
    let st := s.stampAt p k fine false
    let y := s.compose p x st
    match y.1 with
    | none => ports.foldl (fun s r => s.modPort r (fun q => { q with tx := q.tx.filter (fun z => z.id ≠ x.id) })) y.2
    | some (b, m) =>
      let x := if m.isSome then { x with len := max 64 (b.length + 4) } else x
      let s := ports.foldl (fun (s : State) r =>
        let b' := if r = p ∨ sealedOnce x = true then b else match (s.compose r x st).1 with
          | some z => z.1
          | none => b
        s.onWire r x b' (s.stampAt r k fine false)) y.2
      let s := s.departNote x m st
      let s := if s.copyLeft p x then s else s.txEnd p x (x.late.getD 0)
      ports.foldl (fun s r => s.settle r) s

/-- FRAME_DEPART (R260, R264, R270). -/
def execFrameDepart (p : PortId) (k fine : Nat) (s : State) : Host.Outcome State Fault Refusal :=
  actAt k (fun s =>
    let s := s.settle p
    match s.starter p k fine false with
    | none => s
    | some x => s.depart (if s.peerHolds p x then [evenPort p, evenPort p + 1] else [p.val]) x k fine) s

/-- The frames that leave a port before one that waits there: those of higher classes, and those ahead of it in its class. -/
def PortState.ahead (q : PortState) (x : TxItem) : List TxItem :=
  q.tx.filter (fun y => decide (x.tc < y.tc)) ++ (q.tx.filter (fun y => y.tc == x.tc)).takeWhile (fun y => y.id != x.id)

/-- A port can start its copy within 20 µs of an instant: once the frame in flight, the frames ahead and a received pause have ended, and at that
moment or at a later start of a gate segment (R270; the rest of the queue is taken to leave without a gap, DESIGN CHOICE,
notes/assumptions/176). -/
def State.startsSoon (s : State) (p : Nat) (x : TxItem) (k fine : Nat) : Bool :=
  let q := s.port p
  let now := k * 65536 + fine % 65536
  let wire := ((q.ahead x).map (fun y => psToPos ((20 + y.len) * 8 * s.portBit p))).sum
  let first := max (max now q.busy) (tabGet 0 q.paused x.tc * 65536) + wire
  let room := now + psToPos 20000000
  let at' (pos : Nat) : Bool := decide (pos ≤ room) && s.gateFits p x.tc x.len (s.launchNow p (pos / 65536) (pos % 65536))
  at' first || (match s.qbvNow p with
    | none => false
    | some _ => (List.range 20001).any (fun n => decide (0 < n) && at' (first + psToPos (n * 1000))))

/-- PRP_TX_SKEW: the other port cannot start its copy within 20 µs: the port's copy departs alone, and the other is dropped (R270). -/
def execPrpTxSkew (p : PortId) (k fine : Nat) (s : State) : Host.Outcome State Fault Refusal :=
  actAt k (fun s =>
    let s := s.settle p
    match s.starter p k fine true with
    | none => s
    | some x =>
      if s.startsSoon (prpPeer p) x k fine then s else
      let s := (s.modPort (prpPeer p) (fun q => { q with tx := q.tx.filter (fun y => y.id ≠ x.id) })).count (32 * evenPort p + 22)
      s.depart [p.val] x k fine) s

/-! ### The port configuration and the links -/

/-- A port supports a mode (R250). -/
def modeOk (p speed enc fec : Nat) : Bool :=
  match speed with
  | 5 => decide (p < 4 ∧ enc ≤ 1 ∧ fec = 2)
  | 4 => decide (p < 4 ∧ ((enc = 0 ∧ (fec = 0 ∨ fec = 2)) ∨ (enc = 1 ∧ fec = 2)))
  | 3 => decide (p < 4 ∧ enc = 0 ∧ fec ≤ 1)
  | 2 => decide (p < 8 ∧ enc = 0 ∧ fec ≤ 2)
  | 1 => decide (p < 8 ∧ enc = 0 ∧ fec ≤ 1)
  | 0 => decide (4 ≤ p ∧ p < 8 ∧ enc = 0 ∧ fec = 0)
  | 8 => decide (p = 8 ∧ enc ≤ 1 ∧ fec ≤ 2)
  | 9 => decide (p = 8 ∧ enc ≤ 1 ∧ fec ≤ 2)
  | 10 => decide (p = 8 ∧ enc ≤ 1 ∧ fec ≤ 2)
  | _ => false

/-- CFG_REJ of a MAC island. -/
def State.macRej (s : State) (p : Nat) : State := s.setFld (Reg.MAC_ISL_STATUS p) Reg.MAC_ISL_STATUS_CFG_REJ 1

/-- The source of a port's link fault (R416). -/
def linkSrc (p : Nat) : Nat := if p = 8 then 52 else 44 + p

/-- The lanes of a port that its mode uses, as fault sources (R250, R416). -/
def State.laneSrcs (s : State) (p : Nat) : List Nat :=
  let a := Reg.MAC_PORT_CFG p
  let n := match s.fld a Reg.MAC_PORT_CFG_SPEED, s.fld a Reg.MAC_PORT_CFG_ENC with
    | 5, 0 => 4
    | 5, _ => 2
    | 4, 0 => 2
    | 3, _ => 4
    | _, _ => 1
  if p < 4 then (List.range n).map (fun k => 24 + 4 * p + k) else if p < 8 then [36 + p] else []

/-- The effect of a write of MAC_PORT_CFG (R251, R267, R272, R502). -/
def State.portCfg (s : State) (p data : Nat) : State :=
  let a := Reg.MAC_PORT_CFG p
  let get (f : Fld) : Nat := getBits data f.lo f.len
  let en := s.portEn p
  let kept := decide (get Reg.MAC_PORT_CFG_SPEED = s.fld a Reg.MAC_PORT_CFG_SPEED)
    && decide (get Reg.MAC_PORT_CFG_ENC = s.fld a Reg.MAC_PORT_CFG_ENC) && decide (get Reg.MAC_PORT_CFG_FEC = s.fld a Reg.MAC_PORT_CFG_FEC)
  let half := decide (p = 8) && decide (get Reg.MAC_PORT_CFG_DUPLEX = 1)
  if !modeOk p (get Reg.MAC_PORT_CFG_SPEED) (get Reg.MAC_PORT_CFG_ENC) (get Reg.MAC_PORT_CFG_FEC) || (en && !kept)
      || (half && decide (get Reg.MAC_PORT_CFG_SPEED = 10)) then s.macRej p
  else
    let s := [Reg.MAC_PORT_CFG_SPEED, Reg.MAC_PORT_CFG_ENC, Reg.MAC_PORT_CFG_FEC, Reg.MAC_PORT_CFG_HVC, Reg.MAC_PORT_CFG_EN].foldl
      (fun s f => s.setFld a f (get f)) s
    let s := s.setFld a Reg.MAC_PORT_CFG_DUPLEX (bit half)
    let s := if en && !s.portEn p then ((s.laneSrcs p).foldl (fun s c => s.condOff c) s).condOff (linkSrc p) |>.txFlush p
      else if !en && s.portEn p then s.setFld (Reg.MAC_TSQ_STATUS p) Reg.MAC_TSQ_STATUS_LOST 0
      else s
    s.reviewPort p

/-- PORT_CFG_WRITE (R251). -/
def execPortCfgWrite (m : Master) (p : PortId) (data : Nat) (s : State) : Host.Outcome State Fault Refusal :=
  act (fun s => s.regWrite m (Reg.MAC_PORT_CFG p) (fun s => s.posted (Reg.MAC_PORT_CFG p) (fun s => s.portCfg p data))) s

/-- The link of a port goes down (R260, R279, R416). -/
def State.linkLost (s : State) (p : Nat) : State :=
  if !s.linkOn p then s
  else
    let a := Reg.MAC_PORT_STATUS p
    let s := (s.setFld a Reg.MAC_PORT_STATUS_LINK 0).setFld a Reg.MAC_PORT_STATUS_ALIGNED 0
    let s := if s.portEn p then (s.condOn (linkSrc p)).txFlush p else s
    s.reviewPort p

/-- LINK_DOWN (R260, R279, R416). -/
def execLinkDown (p : PortId) (t : Nat) (s : State) : Host.Outcome State Fault Refusal := actAt t (fun s => s.linkLost p) s

/-- LINK_UP: the lanes of the port are deskewed and its link is up (R274, R279). -/
def execLinkUp (p : PortId) (t : Nat) (s : State) : Host.Outcome State Fault Refusal :=
  actAt t (fun s =>
    let a := Reg.MAC_PORT_STATUS p
    let s := (s.setFld a Reg.MAC_PORT_STATUS_LINK 1).setFld a Reg.MAC_PORT_STATUS_ALIGNED (if p.val = 8 then 0 else 1)
    let s := ((s.laneSrcs p).foldl (fun s c => s.condOff c) s).condOff (linkSrc p)
    s.reviewPort p) s

/-- SERDES_LOS: SD0 to SD19 at 0 to 19, TW0 and TW1 at 20 and 21 (R416). -/
def execSerdesLos (lane : Fin 22) (s : State) : Host.Outcome State Fault Refusal :=
  act (fun s =>
    if 20 ≤ lane.val then (if s.fld Reg.TWN_CFG Reg.TWN_CFG_EN = 1 then s.condOn (126 + (lane.val - 20)) else s)
    else
      let p := if lane.val < 16 then lane.val / 4 else lane.val - 12
      if s.portEn p && (s.laneSrcs p).contains (24 + lane.val) then s.condOn (24 + lane.val) else s) s

/-! ### The timestamp queue, the shaper and MDIO -/

/-- A master may read a register over the bus (R387, R404). -/
def mayRead (m a : Nat) : Bool :=
  let isl := a / 0x10000
  decide (m = 0 ∨ 2 ≤ m ∧ m ≤ 9 ∨ m = 11) || (decide (m = 1) && (mgmtWrites a || [0x4001, 0x4003, 0x4004, 0x4030, 0x4031, 0x4035, 0x4038].contains isl))

/-- A read of a register by a master: a bus error, or the effect of the read (R387, R408, R442). -/
def State.regRead (s : State) (m a : Nat) (f : State → State) : State :=
  if !mayRead m a then s.busError m a false 3 else if s.gated a then s.busError m a false 5 else f s

/-- TSQ_POP: the head entry goes into the holding copy (R79, R272). -/
def execTsqPop (m : Master) (p : PortId) (s : State) : Host.Outcome State Fault Refusal :=
  act (fun s =>
    let a := Reg.MAC_TSQ_ENTRY p
    s.regRead m a (fun s =>
      let y := s.tsqTake p
      let v := leNat y.1
      { y.2 with hif := { y.2.hif with hold := tabSet 0 y.2.hif.hold a v, lastRead := some (m, v % 2 ^ 32, 0) } })) s

/-- The effect of a write of MAC_QBV_CTRL (R261, R262, R502). -/
def State.qbvCtrl (s : State) (p data : Nat) : State :=
  let a := Reg.MAC_QBV_CTRL p
  let get (f : Fld) : Nat := getBits data f.lo f.len
  let pending := decide (s.fld (Reg.MAC_QBV_STATUS p) Reg.MAC_QBV_STATUS_PENDING = 1)
  if pending && decide (get Reg.MAC_QBV_CTRL_LEN ≠ s.fld a Reg.MAC_QBV_CTRL_LEN) then s.macRej p
  else
    let s := [Reg.MAC_QBV_CTRL_LEN, Reg.MAC_QBV_CTRL_VC, Reg.MAC_QBV_CTRL_DROP_LATE, Reg.MAC_QBV_CTRL_EN].foldl
      (fun s f => s.setFld a f (get f)) s
    let s := s.showOper p
    if get Reg.MAC_QBV_CTRL_GO = 0 then s
    else
      let n := min 1024 (max 1 (s.fld a Reg.MAC_QBV_CTRL_LEN))
      let set : QbvSet := ⟨(List.range n).map (fun e => (s.fld (Reg.MAC_GCL p e) Reg.MAC_GCL_GATES, s.reg (Reg.MAC_GCL p e) % 2 ^ 32)),
        gtOfRaw (s.reg (Reg.MAC_QBV_BASE p)), s.fld (Reg.MAC_QBV_CYCLE p) Reg.MAC_QBV_CYCLE_CYCLE⟩
      (s.modPort p (fun q => { q with pend := some set, goTick := s.tkp.rawcnt })).setFld (Reg.MAC_QBV_STATUS p)
        Reg.MAC_QBV_STATUS_PENDING 1

/-- QBV_GO (R262). -/
def execQbvGo (m : Master) (p : Fin 8) (data : Nat) (s : State) : Host.Outcome State Fault Refusal :=
  act (fun s => s.regWrite m (Reg.MAC_QBV_CTRL p) (fun s => s.posted (Reg.MAC_QBV_CTRL p) (fun s =>
    s.qbvCtrl p (setBits data 1 1 1)))) s

/-- QBV_LIST_SWITCH: a start of the pending set's cycle at least 1 ms after GO has come (R262). -/
def execQbvListSwitch (p : Fin 8) (t : Nat) (s : State) : Host.Outcome State Fault Refusal :=
  actAt t (fun s =>
    match (s.port p).pend with
    | none => s
    | some q =>
      if s.qbvDue p q then
        ((s.modPort p (fun x => { x with oper := some q, pend := none, entry := 0 })).setFld (Reg.MAC_QBV_STATUS p)
          Reg.MAC_QBV_STATUS_PENDING 0).showOper p
      else s) s

/-- The entry of a list that gates at a time in the cycle: its number in the list (R261). -/
def entryAt (pos : Nat) : Nat → Nat → List (Nat × Nat) → Nat
  | k, _, [] => k - 1
  | k, at', (_, i) :: rest => if pos < at' + i then k else entryAt pos (k + 1) (at' + i) rest

/-- QBV_ENTRY_ADVANCE (R261). -/
def execQbvEntryAdvance (p : Fin 8) (t : Nat) (s : State) : Host.Outcome State Fault Refusal :=
  actAt t (fun s =>
    match s.qbvNow p with
    | none => s
    | some q =>
      let now := s.vcNow (s.qbvVc p)
      s.modPort p (fun x => { x with entry := entryAt ((now - q.start now) / fuNs).toNat 0 0 q.gcl })) s

/-- The effect of an accepted write of MAC_MDIO: one frame, whose read data stand in DATA when it ends (R267, R415). -/
def State.mdioAct (s : State) (data phy : Nat) : State :=
  let op := getBits data 30 2
  let c45 := decide (getBits data 29 1 = 1)
  if !c45 && (op == 0 || op == 3) then s.macRej 8
  else
    let s := s.setReg Reg.MAC_MDIO (setBits (data % 2 ^ 32) 21 3 0)
    let read := if c45 then decide (2 ≤ op) else decide (op = 2)
    { s with mac := { s.mac with mdio := if read then some phy else none } }

/-- MDIO_FRAME (R267). -/
def execMdioFrame (m : Master) (data : Nat) (phy : BitVec 16) (s : State) : Host.Outcome State Fault Refusal :=
  act (fun s => s.regWrite m Reg.MAC_MDIO (fun s => s.posted Reg.MAC_MDIO (fun s => s.mdioAct data phy.toNat))) s

/-! ### Flow control -/

/-- The bytes of a pause frame (prio 8) or of a PFC frame of one priority (R265). -/
def flowFrame (sa prio quanta : Nat) : List Byte :=
  let f := natBe 6 0x0180C2000001 ++ natBe 6 sa ++ natBe 2 0x8808 ++
    (if prio = 8 then natBe 2 1 ++ natBe 2 quanta
     else natBe 2 0x0101 ++ natBe 2 (2 ^ prio) ++ ((List.range 8).map (fun k => natBe 2 (if k = prio then quanta else 0))).flatten)
  f ++ List.replicate (60 - f.length) 0

/-- Flow control works on a priority (8: the port) of a port now (R265, R266). -/
def State.flowOn (s : State) (p prio : Nat) : Bool :=
  let a := Reg.MAC_FC p
  s.portUp p && (!s.service p || decide (s.fld a Reg.MAC_FC_PAUSE_ON_SERVICE = 1))
    && (if prio = 8 then decide (s.fld a Reg.MAC_FC_MODE = 1)
        else decide (s.fld a Reg.MAC_FC_MODE = 2) && decide (getBits (s.fld a Reg.MAC_FC_PFC_EN) prio 1 = 1))

/-- A flow-control frame goes out after the frame in flight, or is refused in half duplex (R265, R268). It is counted by its own counter, not
among TX_FRAMES (DESIGN CHOICE, notes/assumptions/176). -/
def State.flowTx (s : State) (p prio quanta : Nat) : State :=
  if s.halfDuplex p then s.count (32 * p + 26)
  else
    let now := s.tkp.rawcnt * 65536
    let s := s.modPort p (fun q => { q with
      sent := some (flowFrame (s.ownMac p) prio quanta, s.stampAt p s.tkp.rawcnt 0 false)
      busy := max q.busy now + psToPos (84 * 8 * s.portBit p) })
    s.count (32 * p + (if prio = 8 then 15 else 17))

/-- QUANTA of a port. -/
def State.quanta (s : State) (p : Nat) : Nat := s.fld (Reg.MAC_FC p) Reg.MAC_FC_QUANTA

/-- A pause or PFC frame with QUANTA, and when it was sent. -/
def State.pauseSend (s : State) (p prio : Nat) : State :=
  (s.flowTx p prio (s.quanta p)).modPort p (fun q => { q with pausing := tabSet 0 q.pausing prio (s.tkp.rawcnt + 1) })

/-- PAUSE_HIGH: occupancy is above HIGH KiB (R265). -/
def execPauseHigh (p : PortId) (prio : Fin 9) (t : Nat) (s : State) : Host.Outcome State Fault Refusal :=
  actAt t (fun s =>
    if s.flowOn p prio && decide (tabGet 0 (s.port p).pausing prio = 0)
        && decide (s.fld (Reg.MAC_FC_WM p) Reg.MAC_FC_WM_HIGH * 1024 < (s.port p).occupancy prio) then s.pauseSend p prio
    else s) s

/-- PAUSE_REPEAT: QUANTA / 2 quanta after the last frame, occupancy is above LOW (R265). -/
def execPauseRepeat (p : PortId) (prio : Fin 9) (t : Nat) (s : State) : Host.Outcome State Fault Refusal :=
  actAt t (fun s =>
    let last := tabGet 0 (s.port p).pausing prio
    if s.flowOn p prio && decide (last ≠ 0)
        && decide (s.fld (Reg.MAC_FC_WM p) Reg.MAC_FC_WM_LOW * 1024 < (s.port p).occupancy prio)
        && decide (last - 1 + psToTicks (s.quanta p * 256 * s.portBit p) ≤ s.tkp.rawcnt) then s.pauseSend p prio
    else s) s

/-- PAUSE_LOW: occupancy has fallen to LOW or below (R265). -/
def execPauseLow (p : PortId) (prio : Fin 9) (t : Nat) (s : State) : Host.Outcome State Fault Refusal :=
  actAt t (fun s =>
    if decide (tabGet 0 (s.port p).pausing prio ≠ 0)
        && decide ((s.port p).occupancy prio ≤ s.fld (Reg.MAC_FC_WM p) Reg.MAC_FC_WM_LOW * 1024) then
      (if s.flowOn p prio then s.flowTx p prio 0 else s).modPort p (fun q => { q with pausing := tabSet 0 q.pausing prio 0 })
    else s) s

/-- PAUSE_EXPIRE: the classes whose quanta have run out resume (R266). -/
def execPauseExpire (p : PortId) (t : Nat) (s : State) : Host.Outcome State Fault Refusal :=
  actAt t (fun s => s.modPort p (fun q => { q with paused := q.paused.filter (fun x => decide (s.tkp.rawcnt < x.2)) })) s

/-! ### PRP supervision and collisions -/

/-- A supervision frame of a pair (R269). -/
def supFrame (sa seq : Nat) : List Byte :=
  let f := natBe 6 0x01154E000100 ++ natBe 6 sa ++ natBe 2 0x88FB ++ natBe 2 1 ++ natBe 2 seq ++ [20, 6] ++ natBe 6 sa ++ [0, 0]
  f ++ List.replicate (60 - f.length) 0

/-- PRP_SUPERVISION: LIFE ms after the last (R269). -/
def execPrpSupervision (pair : Fin 4) (t : Nat) (s : State) : Host.Outcome State Fault Refusal :=
  actAt t (fun s =>
    let e := 2 * pair.val
    let life := s.fld (Reg.MAC_PRP_CFG pair) Reg.MAC_PRP_CFG_LIFE * 1250000
    let last := (s.port e).supAt
    if s.prpOn e && decide (life ≠ 0) && decide (last = 0 ∨ last - 1 + life ≤ s.tkp.rawcnt) then
      let s := s.modPort e (fun q => { q with supAt := s.tkp.rawcnt + 1 })
      s.sendOwn e Reg.MAC_TC_MAP_GENERAL (.raw (supFrame (s.ownMac e) (s.port e).prpSeq)) 64 none
    else s) s

/-- COLLISION on MGMT: jam and back off for a free number of slots, or COLL_LATE after the slot time, or COLL_EXCESS at the
sixteenth attempt (R268). -/
def execCollision (late : Bool) (t : Nat) (s : State) : Host.Outcome State Fault Refusal :=
  actAt t (fun s =>
    let s := s.settle 8
    match if s.halfDuplex 8 then s.starter 8 t 0 false else none with
    | none => s
    | some x =>
      let tries := (s.port 8).tries + 1
      let st := s.stampAt 8 t 0 false
      let s := s.count (32 * 8 + 23)
      let bits (n : Nat) : Nat := st.pos + psToPos (n * s.portBit 8)
      let giveUp (s : State) (status counter : Nat) : State :=
        let s := (s.count counter).modPort 8 (fun q => { q with busy := bits 32, tries := 0 })
        let s := match x.twoStep with
          | some n => s.tsqPut 8 n st true
          | none => s
        (s.txDrop 8 x status).settle 8
      if late then giveUp s 8 (32 * 8 + 24)
      else if 16 ≤ tries then giveUp s 7 (32 * 8 + 25)
      else
        let (r, s) := s.fresh
        s.modPort 8 (fun q => { q with busy := bits (32 + r % 2 ^ min tries 10 * 512), tries := tries })) s

/-! ### Frames of the host and of Pods -/

/-- FRAME_TX: ARG_LEN for both stamps, for a field outside the frame, for a port or a class that does not exist, and for a
launch time that is no GTIME (R58; DESIGN CHOICE of the status, notes/assumptions/166); the
response comes with the completion; a command of the HIF family is never NOT_READY (R272, R395, R396). -/
def execFrameTx (q : Nat) (buf len port tc flags osOff launch : Nat) (s : State) : Host.Outcome State Fault Refusal :=
  act (fun s => if s.blocked q 0x0004 then s else
    let two := decide (flags % 2 = 1)
    let one := decide (flags / 4 % 2 = 1)
    if (two && one) || (one && decide (len < osOff + 14)) || decide (8 < port) || decide (7 < tc)
        || (decide (flags / 2 % 2 = 1) && !gtRawOk launch) then s.respond q 0x0004 0xFF02 []
    else
      let seq := (s.port port).qseq
      let s := if two then s.modPort port (fun p => { p with qseq := (seq + 1) % 2 ^ 32 }) else s
      s.enqueue port ⟨0, .host q, .raw (bytesAt zeros s.hif.mem buf (len - 4)), max 64 len, tc,
        if flags / 2 % 2 = 1 then some (gtOfRaw launch) else none, if two then some seq else none, if one then some osOff else none,
        none, none, none, port, 0⟩) s

/-- NETTX: ALIGN for a misaligned frame, BOUNDS outside the user region of the commons (R37, R378). -/
def execNettx (p : PodId) (rd ra rb : GReg) (s : State) : Host.Outcome State Fault Refusal :=
  fin p (fun s => s.needCap p 10 (fun s =>
    let a := ((s.pod p).rg ra).toNat
    let b := (s.pod p).rg rb
    let len := bitsOf b 0 14
    let port := bitsOf b 16 4
    let fault := if a % 8 ≠ 0 then some 3 else if a < 0x50000 ∨ 0x100000 < a + (len - 4) then some 4 else none
    s.unlessFault p fault (fun s =>
      if 16 ≤ (s.pod p).netOut.length ∨ (s.pod p).complRoom = false then s.finish p (fun q => { q with c := true })
      else
        let tag := (s.pod p).tag
        let s := s.finish p (fun q => { (q.wg rd (BitVec.ofNat 64 tag)) with
          c := false, tag := nextTag tag, reserved := q.reserved + 1, netOut := q.netOut ++ [tag] })
        let x : TxItem := ⟨0, .pod p tag, .raw (s.comRead a (len - 4)), max 64 len, bitsOf b 20 3, none, none, none, none, none, none, port, 0⟩
        if 8 < port then (s.modPod p (fun q => { q with netOut := q.netOut.filter (· ≠ tag) })).complete p 5 5 tag
        else s.enqueue port x))) s

end Sys2Proof.Machine
end

