-- ==== Sys2Proof/Machine/GnOps.lean ====
section
/-! DEFINITION. The named operations of the GNSS baseband: the sample ports and their stampers, the signals and the ports that serve them,
the tracking channels, and the satellites that a solution may use (R222 to R230, R237). -/

namespace Sys2Proof.Machine

/-- Changes the GNSS baseband. -/
def State.modGns (s : State) (f : GnsState → GnsState) : State := { s with gns := f s.gns }

/-- A tracking channel. -/
def State.gnChan (s : State) (c : Nat) : GnChan := tabGet GnChan.reset s.gns.chan c

/-- Changes a tracking channel. -/
def State.modGnChan (s : State) (c : Nat) (f : GnChan → GnChan) : State :=
  s.modGns (fun g => { g with chan := tabMod GnChan.reset g.chan c f })

/-- GNS_CH_STAT.STATE: 0 IDLE, 1 PULL_IN, 2 TRACK, 3 LOST (R229). -/
def State.gnCh (s : State) (c : Nat) : Nat := s.fld (Reg.GNS_CH_STAT c) Reg.GNS_CH_STAT_STATE

/-- A channel enters a state at the current tick. -/
def State.setGnCh (s : State) (c x : Nat) : State :=
  (s.modGnChan c (fun k => { k with since := s.tkp.rawcnt })).setFld (Reg.GNS_CH_STAT c) Reg.GNS_CH_STAT_STATE x

/-- The port of a channel. -/
def State.gnChPort (s : State) (c : Nat) : Nat := s.fld (Reg.GNS_CH_STAT c) Reg.GNS_CH_STAT_PORT

/-- The signal of a channel. -/
def State.gnChSig (s : State) (c : Nat) : Nat := s.fld (Reg.GNS_CH_STAT c) Reg.GNS_CH_STAT_SIG

/-- EN of a sample port. -/
def State.gnPort (s : State) (p : Nat) : Bool := s.fld (Reg.GNS_PORT_CTRL p) Reg.GNS_PORT_CTRL_EN = 1

/-- The GNS works: its clock runs and it is awake (R224, R243). -/
def State.gnAwake (s : State) : Bool := !s.gns.noClk && !s.gns.asleep

/-! ### Signals and the ports that serve them -/

/-- The constellation of a signal code: 0 GPS, 1 Galileo, 2 BeiDou, 3 GLONASS, 4 QZSS, 5 NavIC, 6 SBAS (R226). -/
def gnConst (sig : Nat) : Nat :=
  if sig < 4 then 0 else if sig < 8 then 1 else if sig < 12 then 2 else if sig < 14 then 3 else if sig < 18 then 4
  else if sig = 18 then 5 else 6

/-- The carrier and the width of a signal, in kHz (R226). -/
def gnBand : Nat → Nat × Nat
  | 0 => (1575420, 2046)
  | 1 => (1575420, 4092)
  | 2 => (1227600, 2046)
  | 3 => (1176450, 20460)
  | 4 => (1575420, 4092)
  | 5 => (1176450, 20460)
  | 6 => (1207140, 20460)
  | 7 => (1278750, 10230)
  | 8 => (1561098, 4092)
  | 9 => (1575420, 4092)
  | 10 => (1176450, 20460)
  | 11 => (1268520, 20460)
  | 12 => (1601719, 8338)
  | 13 => (1245781, 6709)
  | 14 => (1575420, 2046)
  | 15 => (1575420, 4092)
  | 16 => (1227600, 2046)
  | 17 => (1176450, 20460)
  | 18 => (1176450, 2046)
  | _ => (1575420, 2046)

/-- The chip rate of a signal in kHz. The spec uses f_chip and gives no table: these are the rates of the systems (PRESUMED,
notes/assumptions/174). -/
def gnChip (sig : Nat) : Nat :=
  if [3, 5, 6, 10, 11, 17].contains sig then 10230 else if sig = 7 then 5115 else if sig = 8 then 2046
  else if sig = 12 ∨ sig = 13 then 511 else 1023

/-- DECIM of a port as a divisor (R222). -/
def State.gnDecim (s : State) (p : Nat) : Nat := 2 ^ s.fld (Reg.GNS_PORT_CTRL p) Reg.GNS_PORT_CTRL_DECIM

/-- GNS_CLK_CFG.FREQ: the nominal frequency of GNSS_CLK in kHz (R222). -/
def State.gnFreq (s : State) : Nat := s.fld Reg.GNS_CLK_CFG Reg.GNS_CLK_CFG_FREQ

/-- A port serves a signal: it is enabled with a CENTER other than 0, and the signal's band lies within CENTER ± 0.4 × f_s. Frequencies
in mHz, multiplied by 10 × DECIM (R226, R249). -/
def State.gnServes (s : State) (p sig : Nat) : Bool :=
  let center : Int := s.fld (Reg.GNS_PORT_CENTER p) Reg.GNS_PORT_CENTER_CENTER
  let b := gnBand sig
  let off : Int := ((b.1 * 1000000 : Nat) : Int) - center
  s.gnPort p && decide (center ≠ 0) && decide (sig < 20)
    && decide ((off.natAbs * 2 + b.2 * 1000000) * 5 * s.gnDecim p ≤ 4 * (s.gnFreq * 1000000))

/-- The lowest-numbered port that serves a signal (R226). -/
def State.gnPortOf (s : State) (sig : Nat) : Option Nat := (List.range 4).find? (fun p => s.gnServes p sig)

/-- A signal is acquired and tracked on a port: its bit in SIG_EN is 1 and the port serves it (R226). -/
def State.gnHears (s : State) (p sig : Nat) : Bool := decide (getBits s.gns.sigEn sig 1 = 1) && s.gnServes p sig

/-- The least E–L spacing that Pod 2 sets for a signal on a port: f_chip / f_s chips, rounded up to 1/64 chip (R228). -/
def State.gnSpacing (s : State) (p sig : Nat) : Nat :=
  (64 * gnChip sig * s.gnDecim p + (max 1 s.gnFreq - 1)) / max 1 s.gnFreq

/-! ### Sample capture -/

/-- One component of a sample by FMT: 0 two's complement, 1 sign-magnitude (R222). -/
def gnNibble (fmt v : Nat) : Int :=
  if fmt = 0 then toSigned 4 (v % 16) else if v / 8 % 2 = 1 then -((v % 8 : Nat) : Int) else ((v % 8 : Nat) : Int)

/-- The complex sample that a port makes of a code, I + 16 × Q, by FMT, IQSWAP and INV. Spectral inversion is the sign of Q (R222;
DEDUCED, notes/assumptions/174). -/
def State.gnSample (s : State) (p code : Nat) : Int × Int :=
  let a := Reg.GNS_PORT_CTRL p
  let fmt := s.fld a Reg.GNS_PORT_CTRL_FMT
  let i := gnNibble fmt code
  let q := gnNibble fmt (code / 16)
  let x := if s.fld a Reg.GNS_PORT_CTRL_IQSWAP = 1 then (q, i) else (i, q)
  if s.fld a Reg.GNS_PORT_CTRL_INV = 1 then (x.1, -x.2) else x

/-- A sample counts as full scale: the magnitude of a component is 7 or more (R222; DESIGN CHOICE, notes/assumptions/174). -/
def fullScale (x : Int × Int) : Bool := decide (7 ≤ x.1.natAbs) || decide (7 ≤ x.2.natAbs)

/-- SAT: the share of full-scale samples in percent, rounded down (R222). -/
def State.gnSat (s : State) (p : Nat) (raw : List (Nat × Nat)) : Nat :=
  let all := (raw.map (·.2)).sum
  let full := ((raw.filter (fun x => fullScale (s.gnSample p x.1))).map (·.2)).sum
  full * 100 / max 1 all

/-- A capture of a port: one edge of GNSS_CLK in DECIM is a kept sample, and every 65,536th kept sample has a stamp (R222, R223). -/
def State.gnCapture (s : State) (p : Nat) (x : GnCapture) : State :=
  if s.gnPort p && s.gnAwake then
    let s := s.modGns (fun g => { g with port := tabMod GnPort.reset g.port p (fun y =>
      let n := (y.edges + x.edges) / s.gnDecim p / 65536
      { edges := y.edges + x.edges, stamp := some (n, x.tick, x.count), stamp' := some (n + 1, x.tick', x.count') }) })
    s.setFld (Reg.GNS_PORT_STATUS p) Reg.GNS_PORT_STATUS_SAT (s.gnSat p x.raw)
  else s

/-- The VC0 time of the kept sample of a port nearest the VC0 second `sec`: the positions of the two stamps about it, of the vernier design of
R83 with N1 and D at 1,000, and linear interpolation between them; none where they do not stand about it (R223, R230). -/
def State.gnTime (s : State) (p : Nat) (sec : Int) : Option Gt :=
  match (tabGet GnPort.reset s.gns.port p).stamp, (tabGet GnPort.reset s.gns.port p).stamp' with
  | some a, some b =>
    let c := s.vcSet 0
    let p0 := convPos a.2.1 a.2.2 1000 1000
    let p1 := convPos b.2.1 b.2.2 1000 1000
    let x0 := vcExact c p0
    let x1 := vcExact c p1
    let g : Rat := ((sec * fuSec : Int) : Rat)
    if x0 ≤ g ∧ g ≤ x1 ∧ x0 < x1 then
      let j := ((g - x0) * 65536 / (x1 - x0) + 1 / 2).floor
      some (vcExact c (p0 + (p1 - p0) * (j : Rat) / 65536)).floor
    else none
  | _, _ => none

/-- ACTIVE of every port: capturing (R249). -/
def State.gnActive (s : State) : State :=
  (List.range 4).foldl (fun s p =>
    s.setFld (Reg.GNS_PORT_STATUS p) Reg.GNS_PORT_STATUS_ACTIVE (bit (s.gnPort p && s.gnAwake))) s

/-- The effect of a write of GNS_PORT_CTRL, BUSY apart: EN going to 1 clears the count of discarded samples and starts the capture anew; a write
that keeps EN at 1 and changes another field is discarded (R249, R502). -/
def State.gnPortWrite (s : State) (p data : Nat) : State :=
  let a := Reg.GNS_PORT_CTRL p
  let v := setBits (data % 128) 3 1 0
  if s.gnPort p ∧ data % 2 = 1 then (if v = s.reg a then s else s.setFld Reg.GNS_ISL_STATUS Reg.GNS_ISL_STATUS_CFG_REJ 1)
  else
    let s := if data % 2 = 1 then
      (s.setReg (Reg.GNS_PORT_DROP p) 0).modGns (fun g => { g with port := tabErase g.port p }) else s
    (s.setReg a v).gnActive

/-! ### Latches -/

/-- The latch of one channel at the VC0 second `sec`: its observables while it is in TRACK on a port that serves its signal, with a stamped
sample and without a gap; else they are absent (R223, R225, R226, R230). -/
def State.latchGn (s : State) (obs : List GnObs) (sec : Int) (c : Nat) : State :=
  let port := s.gnChPort c
  let on := decide (s.gnCh c = 2) && s.gnHears port (s.gnChSig c) && decide (s.gns.gap / 2 ^ port % 2 = 0)
  let st := s.gnCh c
  match on, s.gnTime port sec, obs.find? (fun o => decide (o.chan = c)) with
  | true, some g, some o =>
    (s.modGnChan c (fun k => { k with obs := some o, time := some g, st := st })).setFld
      (Reg.GNS_CH_STAT c) Reg.GNS_CH_STAT_CN0 (min 255 (o.cn0 / 100))
  | _, _, _ => s.modGnChan c (fun k => { k with obs := none, time := none, st := st })

/-! ### The satellites of a solution -/

/-- The carriers, in kHz, of the signals of a satellite that count: in TRACK at the last latch on the lowest-numbered port that serves the
signal, with C/N0 above CN0_MASK (R226, R230). -/
def State.gnCarriers (s : State) (x : GnSat) : List Nat :=
  ((List.range 256).filter (fun c =>
    let sig := s.gnChSig c
    decide (gnConst sig = x.const) && decide (s.fld (Reg.GNS_CH_STAT c) Reg.GNS_CH_STAT_SV = x.sv)
      && decide ((s.gnChan c).st = 2) && decide (s.gnPortOf sig = some (s.gnChPort c))
      && (match (s.gnChan c).obs with
          | some o => decide (s.param 0x205 < (o.cn0 : Int))
          | none => false))).map (fun c => (gnBand (s.gnChSig c)).1)

/-- An ephemeris of a satellite has passed the EPH check and is not older than 4 h (R237, R241). -/
def State.gnEph (s : State) (x : GnSat) : Bool :=
  s.gns.kept.eph.any (fun e => decide (e.1 = x.const) && decide (e.2.1 = x.sv) && decide (s.vc0Sec - e.2.2 ≤ 14400))

/-- A solution uses a satellite: it ranges, stands above ELEV_MASK, has a signal that counts and an ephemeris, and no check has excluded it
(R226, R230, R237). -/
def State.gnUses (s : State) (x : GnSat) : Bool :=
  decide (x.const < 6) && decide (s.param 0x204 < x.elev) && s.gnEph x && !x.out && !(s.gnCarriers x).isEmpty

/-- The used satellites (R230). -/
def State.gnUsed (s : State) (sats : List GnSat) : List GnSat := sats.filter s.gnUses

/-- A used satellite has signals on two carriers (R230). -/
def State.gnDual (s : State) (used : List GnSat) : Bool := used.any (fun x => decide (2 ≤ (s.gnCarriers x).eraseDups.length))

/-- GNS_SOL.POS: 0 NONE, 1 SURVEYING, 2 HOLD_SURVEYED, 3 HOLD_FIXED (R236). -/
def State.gnPos (s : State) : Nat := s.fld Reg.GNS_SOL Reg.GNS_SOL_POS

/-- The unknowns of a solution: position unless held, the master's offset, one bias for each other constellation in use, and for GLONASS
one for each frequency channel (R230, R231). -/
def State.gnUnknowns (s : State) (used : List GnSat) : Nat :=
  (if 2 ≤ s.gnPos then 0 else 3) + 1
    + ((used.filter (fun x => decide (x.const ≠ 3) && decide ((x.const : Int) ≠ s.param 0x201))).map (·.const)).eraseDups.length
    + ((used.filter (fun x => decide (x.const = 3))).map (·.freq)).eraseDups.length

/-- The C/N0 values, in 0.01 dB-Hz, of the channels in TRACK on a signal at the last latch. -/
def State.gnCn0s (s : State) (sig : Nat) : List Int :=
  (List.range 256).filterMap (fun c =>
    if s.gnChSig c = sig ∧ (s.gnChan c).st = 2 then (s.gnChan c).obs.map (fun o => (o.cn0 : Int)) else none)

/-- On one signal with 8 or more satellites in TRACK the C/N0 standard deviation lies below CN0_SPREAD (R237). -/
def State.gnSpreadLow (s : State) : Bool :=
  (List.range 20).any (fun sig =>
    let l := s.gnCn0s sig
    let n : Int := l.length
    let var := n * (l.map (fun x => x * x)).sum - l.sum * l.sum
    decide (8 ≤ l.length) && decide (var < s.param 0x218 * s.param 0x218 * n * n))

/-- Pod 2 sweeps the probe of each TRACK channel from −2 to +2 chips in steps of 1/16 chip, one position per second; it starts anew after
the last (R228; DESIGN CHOICE, notes/assumptions/174). -/
def State.gnSweep (s : State) : State :=
  (List.range 256).foldl (fun s c =>
    if s.gnCh c = 2 then
      let x := toSigned 9 (s.fld (Reg.GNS_CH_CFG c) Reg.GNS_CH_CFG_PROBE)
      s.setFld (Reg.GNS_CH_CFG c) Reg.GNS_CH_CFG_PROBE (ofSigned 9 (if x + 4 ≤ 128 then x + 4 else -128))
    else s) s

/-- Pod 2 takes SIG_EN: a channel on a signal whose bit is 0 is no longer tracked (R226, R246). -/
def State.gnTakeSig (s : State) : State :=
  let s := s.modGns (fun g => { g with sigEn := s.paramN 0x203 })
  (List.range 256).foldl (fun s c =>
    if (s.gnCh c = 1 ∨ s.gnCh c = 2) ∧ getBits s.gns.sigEn (s.gnChSig c) 1 = 0 then s.setGnCh c 0 else s) s

end Sys2Proof.Machine
end

