-- ==== Sys2Proof/Machine/Gnss.lean ====
section
/-! DEFINITION. The GNSS baseband and the program of Pod 2: the sample ports, acquisition and tracking, the timing solution
with its checks and verdict, GN_PPS, sleep, kept data, CGGTTS lines, and the GCMD instructions (R222 to R249, R380). -/

namespace Sys2Proof.Machine

/-! ### Starts, sleep and kept data -/

/-- The start kind: 3 HOT, 2 WARM, 1 COLD (R241, R242). `vis` are the satellites above ELEV_MASK, constellation × 256 + number. -/
def State.gnKind (s : State) (vis : List Nat) : Nat :=
  let now := s.vc0Sec
  let k := s.gns.kept
  let held := k.pos.isSome || decide (s.param 0x206 = 1)
  let eph := (vis.filter (fun v => k.eph.any (fun e =>
    decide (e.1 * 256 + e.2.1 = v) && decide (now - e.2.2 ≤ 14400)))).length
  let alm := k.alm.any (fun a => match a.2 with | some t => decide (now - t ≤ 7776000) | none => false)
  if held && s.firstDone 0 && decide (s.bound.total ≤ 10 ^ 9) && decide (4 ≤ eph) then 3
  else if alm && (held || s.gns.last.isSome) && s.firstDone 0 && decide (s.bound.total ≤ 10 ^ 13) then 2
  else 1

/-- Pod 2 chooses a start kind: COLD where KEPT_CLEAR came before it (R242, R247). -/
def State.gnStart (s : State) (vis : List Nat) : State :=
  if s.runsResident 2 then
    (s.setFld Reg.GNS_SOL Reg.GNS_SOL_START (if s.gns.cold then 1 else s.gnKind vis)).modGns (fun g =>
      { g with cold := false, starting := false })
  else s

/-- Pod 2 asks for a commit of the kept data (R241). -/
def State.keptCommit (s : State) : State := s.mramAsk ridKept (.kept s.gns.kept) []

/-- A journal record of Pod 2 (R248). -/
def State.jGn (s : State) (type : Nat) (payload : List Byte) : State := s.journal 2 type payload

/-- GN_POS (R248). -/
def State.jPos (s : State) (st : Nat) (p : Int × Int × Int) : State :=
  s.jGn 0x0201 (natLe 1 st ++ intLe 8 p.1 ++ intLe 8 p.2.1 ++ intLe 8 p.2.2)

/-- The survey starts anew: the held position is dropped (R236). -/
def State.gnSurvey (s : State) : State :=
  let s := match s.gns.hold with
    | some p => (s.modGns (fun g => { g with hold := none, kept := { g.kept with pos := none } })).jPos 1 p |>.keptCommit
    | none => s
  (s.modGns (fun g => { g with surN := 0, surX := 0, surY := 0, surZ := 0, surQ := 0, posn := [] })).setFld
    Reg.GNS_SOL Reg.GNS_SOL_POS 1

/-- A position is held: state 2 or 3 (R236). -/
def State.gnHold (s : State) (st : Nat) (p : Int × Int × Int) : State :=
  let fresh := decide (s.gns.hold ≠ some p)
  let s := (s.modGns (fun g => { g with hold := some p, kept := { g.kept with pos := some p }, posn := [] })).setFld
    Reg.GNS_SOL Reg.GNS_SOL_POS st
  if fresh then (s.jPos st p).keptCommit else s

/-- The GNS goes to sleep: acquisition and tracking stop, capture is disabled (R243). -/
def State.gnSleep (s : State) : State :=
  let s := (List.range 256).foldl (fun s c => if s.gnCh c = 1 ∨ s.gnCh c = 2 then s.setGnCh c 3 else s) s
  ((s.modGns (fun g => { g with asleep := true, ppsf := none, cut := some (s.vc0Sec, s.tkp.rawcnt) })).setFld Reg.GNS_SOL Reg.GNS_SOL_SLEEP 1).gnActive

/-- The GNS wakes (R243). -/
def State.gnWake (s : State) : State :=
  ((s.modGns (fun g => { g with asleep := false })).setFld Reg.GNS_SOL Reg.GNS_SOL_SLEEP 0).gnActive

/-- The period boundary in force, in ms of VC0 (R243). -/
def State.slBoundary (s : State) : Int := s.nowMs / (max 1 s.gns.slPeriod : Nat) * (max 1 s.gns.slPeriod : Nat)

/-- SLEEP_MODE, SLEEP_PERIOD and SLEEP_ON take effect at a period boundary (R243). -/
def State.slTake (s : State) : State :=
  if s.gns.slAt = some s.slBoundary then s
  else
    let s := s.modGns (fun g => { g with slMode := s.paramN 0x21B, slPeriod := s.paramN 0x21C, slOn := s.paramN 0x21D })
    s.modGns (fun g => { g with slAt := some s.slBoundary })

/-- GNSS_SLEEP (R243). -/
def execGnssSleep (t : Nat) (s : State) : Host.Outcome State Fault Refusal :=
  actAt t (fun s =>
    if s.runsResident 2 = false ∨ s.gns.asleep = true then s
    else
      let s := s.slTake
      let on : Int := s.nowMs - s.slBoundary
      if s.gns.slMode = 1 ∧ (s.gns.slOn : Int) ≤ on ∧ s.fld Reg.ENS_TS Reg.ENS_TS_LEARNED = 1 then
        (s.gnSleep.keptCommit).jGn 0x0205 [0, 0]
      else s) s

/-- GNSS_WAKE (R243). -/
def execGnssWake (vis : List Nat) (t : Nat) (s : State) : Host.Outcome State Fault Refusal :=
  actAt t (fun s =>
    if s.runsResident 2 = false ∨ s.gns.asleep = false ∨ s.gns.slAt = some s.slBoundary then s
    else
      let s := s.slTake.gnWake
      let s := if s.gns.resurvey then (s.modGns (fun g => { g with resurvey := false })).gnSurvey else s
      let s := s.gnStart vis
      s.jGn 0x0205 [1, BitVec.ofNat 8 (s.fld Reg.GNS_SOL Reg.GNS_SOL_START)]) s

/-- KEPT_DATA_COMMIT (R241). -/
def execKeptDataCommit (t : Nat) (s : State) : Host.Outcome State Fault Refusal :=
  actAt t (fun s =>
    if s.runsResident 2 ∧ 600 ≤ s.vc0Sec - s.gns.keptAt then
      (s.modGns (fun g => { g with keptAt := s.vc0Sec })).keptCommit
    else s) s

/-! ### The sample ports -/

/-- GNSS_CLK_FAIL (R224). -/
def execGnssClkFail (s : State) : Host.Outcome State Fault Refusal :=
  act (fun s =>
    let s := (s.modGns (fun g => { g with noClk := true })).setFld Reg.GNS_ISL_STATUS Reg.GNS_ISL_STATUS_CLKFAIL 1
    let s := (List.range 4).foldl (fun s p => s.setFld (Reg.GNS_PORT_STATUS p) Reg.GNS_PORT_STATUS_NOCLK 1) s
    ((List.range 256).foldl (fun s c => s.setGnCh c 3) (s.condOn 97)).gnActive) s

/-- GNSS_CLK_RETURN (R224). -/
def execGnssClkReturn (vis : List Nat) (s : State) : Host.Outcome State Fault Refusal :=
  act (fun s =>
    if s.gns.noClk then
      let s := (s.modGns (fun g => { g with noClk := false })).condOff 97
      let s := (List.range 4).foldl (fun s p => s.setFld (Reg.GNS_PORT_STATUS p) Reg.GNS_PORT_STATUS_NOCLK 0) s
      if s.gns.asleep then s.gnActive else s.gnActive.gnStart vis
    else s) s

/-- SAMPLE_OVERFLOW (R225). -/
def execSampleOverflow (p : Fin 4) (stamps : Nat) (s : State) : Host.Outcome State Fault Refusal :=
  act (fun s =>
    if s.gnPort p && s.gnAwake then
      let s := s.incFld (Reg.GNS_PORT_DROP p) Reg.GNS_PORT_DROP_COUNT (stamps * 65536)
      let s := (s.setFld (Reg.GNS_PORT_STATUS p) Reg.GNS_PORT_STATUS_OVF 1).raise 98
      let s := s.modGns (fun g => { g with gap := g.gap ||| 2 ^ p.val })
      (List.range 256).foldl (fun s c =>
        if s.fld (Reg.GNS_CH_STAT c) Reg.GNS_CH_STAT_PORT = p.val ∧ (s.gnCh c = 1 ∨ s.gnCh c = 2) then s.setGnCh c 1 else s) s
    else s) s

/-! ### Acquisition and tracking -/

/-- A field of a descriptor. -/
def dField (d : List Byte) (off n : Nat) : Nat := leNat ((d.drop off).take n)

/-- A search may report a cell: its signal is acquired on its port, and the Doppler lies in its span (R226, R227). -/
def State.acqFinds (s : State) (r : AcqReq) (dop : Int) : Bool :=
  s.gnHears (dField r.desc 14 1) (dField r.desc 0 1)
    && decide ((dop - toSigned 32 (dField r.desc 2 4)).natAbs ≤ dField r.desc 6 2)

/-- ACQ_COMPLETE: a queued search ends with its best cell or NONE (R227, R380). -/
def execAcqComplete (found : AcqFound) (s : State) : Host.Outcome State Fault Refusal :=
  act (fun s =>
    match s.gns.acq[found.place.val]? with
    | some r =>
      if s.gnAwake then
        let s' := s.modGns (fun g => { g with acq := g.acq.eraseIdx found.place })
        match found.cell with
        | some c =>
          if s.acqFinds r c.1 then
            (s'.dmemWrite r.pod (r.addr + 16) (intLe 4 c.1 ++ natLe 4 c.2.1 ++ natLe 2 c.2.2)).complete r.pod 6 0 r.tag
          else s'.complete r.pod 6 1 r.tag
        | none => s'.complete r.pod 6 1 r.tag
      else s
    | none => s) s

/-- CHANNEL_TRACK: 200 ms of phase lock at least, within the 2 s of PULL_IN, on a signal that the port serves (R226, R229). -/
def execChannelTrack (at' : GnChanAt) (s : State) : Host.Outcome State Fault Refusal :=
  actAt at'.t (fun s =>
    let c := at'.chan
    let d := (s.gnChan c).since
    if s.gnCh c = 1 ∧ s.gnAwake = true ∧ s.gnHears (s.gnChPort c) (s.gnChSig c) = true ∧ d + 200000 * ticksPerUs ≤ s.tkp.rawcnt
      ∧ s.tkp.rawcnt ≤ d + 2000000 * ticksPerUs then s.setGnCh c 2 else s) s

/-- PULL_IN_TIMEOUT: 2 s after the entry into PULL_IN (R229). -/
def execPullInTimeout (c : Fin 256) (s : State) : Host.Outcome State Fault Refusal :=
  act (fun s =>
    if s.gnCh c = 1 ∧ s.gnAwake = true then (s.at ((s.gnChan c).since + 2000000 * ticksPerUs)).setGnCh c 3 else s) s

/-- CHANNEL_LOSS: C/N0 or the lock indicator has been low for 1 s, which began in TRACK (R229). -/
def execChannelLoss (at' : GnChanAt) (s : State) : Host.Outcome State Fault Refusal :=
  actAt at'.t (fun s =>
    let c := at'.chan
    if s.gnCh c = 2 ∧ s.gnAwake = true ∧ (s.gnChan c).since + 1000000 * ticksPerUs ≤ s.tkp.rawcnt then s.setGnCh c 3 else s) s

/-- OBS_LATCH (R222, R223, R230). -/
def execObsLatch (obs : List GnObs) (caps : List GnCapture) (t : Nat) (s : State) : Host.Outcome State Fault Refusal :=
  actAt t (fun s =>
    let sec := s.vc0Sec
    if s.gns.latchAt = some sec ∨ s.gnAwake = false then s
    else
      let s := caps.zipIdx.foldl (fun s x => s.gnCapture x.2 x.1) s
      let s := (List.range 256).foldl (fun s c => s.latchGn obs sec c) s
      let s := s.modGns (fun g => { g with gap := 0, latchAt := some sec })
      (List.range 8).foldl (fun s p => s.modPod p (fun q => { q with events := setBits q.events 5 1 1 })) s) s

/-! ### The timing solution -/

/-- GN time minus the master's system time in ps, for a solution of VC0 second `sec` (R231). -/
def State.gnOffset (s : State) (sol : GnSol) (sec : Int) : Int :=
  let ps : Int := 1000000000000
  let sys : Int := if s.param 0x201 = 2 then 33 * ps else 19 * ps
  if s.param 0x202 = 1 then sol.utc + taiUtc s.leapTable (sec - (sol.x - sys) / ps) * ps else sys

/-- A line through points by least squares: its value at 0 and its slope. -/
def fitLine (l : List (Rat × Rat)) : Rat × Rat :=
  let n : Rat := l.length
  if l.isEmpty then (0, 0)
  else
    let b := slope l
    ((l.map (·.2)).sum / n - b * ((l.map (·.1)).sum / n), b)

/-- Points of a history with seconds in a range, relative to a second. -/
def histSpan (l : List (Int × Rat)) (at0 lo hi : Int) : List (Rat × Rat) :=
  (l.filter (fun p => decide (lo < p.1) && decide (p.1 ≤ hi))).map (fun p => (((p.1 - at0 : Int) : Rat), p.2))

/-- xe0 at a VC0 second, from the last update of Pod 0 on (R138). -/
def State.xe0At (s : State) (sec : Int) : Rat :=
  let m := s.mem 0
  let dt : Rat := match s.ens.updAt with
    | some b => (sec : Rat) - (b : Rat) / 1000
    | none => 0
  m.xe + m.ye * dt + m.de * dt * dt / 2

/-- CTS_PHASE and CTS_FREQ (R238). -/
def State.ctsChecks (s : State) (sec : Int) : Bool × Bool :=
  let good := (s.gns.gs.filter (fun p => p.2.2)).map (fun p => (p.1, p.2.1))
  let past := histSpan good sec (sec - 3700) (sec - 100)
  if s.fld Reg.ENS_TS Reg.ENS_TS_LEARNED = 1 ∧ 3600 ≤ past.length then
    let f := fitLine past
    let all := s.gns.gs.map (fun p => (p.1, p.2.1))
    let near := histSpan all sec (sec - 10) sec
    let dev := (near.map (fun p => p.2 - (f.1 + f.2 * p.1))).sum / (near.length : Rat)
    let fast := histSpan all sec (sec - 100) sec
    (!near.isEmpty && decide ((s.param 0x216 : Rat) < absQ dev),
      decide (2 ≤ fast.length) && decide (freqQ (s.param 0x217) * 1000000000000 < absQ (slope fast - f.2)))
  else (false, false)

/-- The constellations solved separately disagree and no majority agrees within CONST_LIMIT; and some one of them stands outside a
majority (R237). -/
def constCheck (l : List Int) (lim : Int) : Bool × Bool :=
  let near (x : Int) : Nat := (l.filter (fun y => decide (x ≤ y) && decide (y ≤ x + lim))).length
  let best := (l.map near).foldl max 0
  (decide (best < l.length) && decide (best * 2 ≤ l.length), decide (best < l.length) && decide (l.length < best * 2))

/-- A new ephemeris passes the EPH check (R237). -/
def ephOk (e : GnEph) : Bool :=
  if e.prev then decide (e.pos ≤ 100000 ∧ e.clk ≤ 30000) else decide (e.pos ≤ 10000000 ∧ e.clk ≤ 1000000)

/-- What Pod 2 learns from the navigation data at a GN second: ephemerides, almanacs, ionosphere and UTC parameters (R237,
R241). -/
def State.gnData (s : State) (sol : GnSol) (tai : Int) : State :=
  let s := (sol.ephs.filter (fun e => !ephOk e)).foldl (fun s e =>
    s.jGn 0x0203 (natLe 1 e.sig ++ natLe 1 e.sv ++ natLe 8 e.pos ++ natLe 4 e.clk)) s
  s.modGns (fun g =>
    let put (l : List (Nat × Nat × Int)) (e : GnEph) : List (Nat × Nat × Int) :=
      l.filter (fun x => decide (x.1 ≠ gnConst e.sig) || decide (x.2.1 ≠ e.sv)) ++ [(gnConst e.sig, e.sv, e.toe)]
    { g with kept := { g.kept with
      eph := (sol.ephs.filter ephOk).foldl put g.kept.eph
      alm := sol.alms.foldl (fun t c => tabSet none t c (some tai)) g.kept.alm
      iono := if sol.iono then some tai else g.kept.iono } })

/-- LEAP_ADD of an announced leap with SOURCE GNSS, once for each announcement (R77, R235). -/
def State.gnLeap (s : State) (sol : GnSol) : State :=
  match sol.leap with
  | none => s
  | some l =>
    if s.gns.leaps.contains l then s
    else
      let s := s.modGns (fun g => { g with leaps := g.leaps ++ [l] })
      let e : LeapEntry := ⟨l.1, l.2 + (if s.param 0x201 = 2 then 33 else 19), 2, false⟩
      match leapCheck s.leapWork (s.vcNow 0) e with
      | .same => s
      | .refused x =>
        let s := if x = 3 then s.event 0x0005 2 (leapBytes e) else s
        s.jGn 0x0204 (intLe 8 e.eff ++ intLe 2 e.tai ++ natLe 1 x)
      | .table t => (s.jLeap 2 e).mramAsk ridLeap (.leap t) []

/-- A change of ANT_DELAY or of a PORT_DELAY takes effect: it is journaled, and the histories move with it (R232). -/
def State.gnCal (s : State) (sol : GnSol) : State :=
  let ant := s.param 0x20E
  let s := if ant = s.gns.ant then s else s.jGn 0x0202 (natLe 1 0 ++ intLe 8 s.gns.ant ++ intLe 8 ant)
  let s := (List.range 4).foldl (fun s p =>
    let old := tabGet 0 s.gns.portD p
    let new := s.param (0x210 + p)
    if old = new then s
    else (s.jGn 0x0202 (natLe 1 (p + 1) ++ intLe 8 old ++ intLe 8 new)).modGns (fun g => { g with portD := tabSet 0 g.portD p new })) s
  let dx : Rat := ((s.gns.ant - ant + sol.portShift : Int) : Rat)
  s.modGns (fun g => { g with
    ant := ant, xs := g.xs.map (fun p => (p.1, p.2 + dx)), gs := g.gs.map (fun p => (p.1, p.2.1 - dx, p.2.2)) })

/-- The square of the distance of two positions in mm. -/
def dist2 (a b : Int × Int × Int) : Int :=
  (a.1 - b.1) ^ 2 + (a.2.1 - b.2.1) ^ 2 + (a.2.2 - b.2.2) ^ 2

/-- POS_MODE at a solution: a changed mode sets the held position or restarts the survey, and the first solution after a
start takes a kept position (R236). -/
def State.gnMode (s : State) : State :=
  let m := s.paramN 0x206
  let old := s.gns.mode
  let s := s.modGns (fun g => { g with mode := m + 1 })
  if m = 1 then s.gnHold 3 (s.param 0x20B, s.param 0x20C, s.param 0x20D)
  else if old = 0 then match s.gns.kept.pos with
    | some p => s.gnHold 2 p
    | none => s.gnSurvey
  else if old = m + 1 then s else s.gnSurvey

/-- The mean of the positions of 60 s stands more than POS_MOVE from the held one (R236). -/
def State.gnMoved (s : State) : Bool :=
  match s.gns.hold with
  | some h =>
    let l := s.gns.posn.map (·.2)
    let n : Int := 60
    let sum (f : Int × Int × Int → Int) : Int := (l.map f).sum
    decide (l.length = 60)
      && decide ((s.param 0x209 * n) ^ 2 < dist2 (sum (·.1), sum (·.2.1), sum (·.2.2)) (n * h.1, n * h.2.1, n * h.2.2))
  | none => false

/-- The position of a solution; in a HOLD state with 6 or more used satellites it enters the mean over 60 s (R236). -/
def State.gnWatch (s : State) (sol : GnSol) (sec : Int) : State :=
  match sol.pos with
  | some p =>
    let s := s.modGns (fun g => { g with last := some p })
    if 2 ≤ s.gnPos ∧ 6 ≤ (s.gnUsed sol.sats).length then s.modGns (fun g => { g with
      posn := (sec, p) :: g.posn.filter (fun x => decide (sec - 60 < x.1) && decide (x.1 < sec)) })
    else s
  | none => s

/-- The survey at a GOOD second (R236). -/
def State.gnAverage (s : State) (p : Int × Int × Int) : State :=
  let s := s.modGns (fun g => { g with
    surN := g.surN + 1, surX := g.surX + p.1, surY := g.surY + p.2.1, surZ := g.surZ + p.2.2, surQ := g.surQ + dist2 p (0, 0, 0) })
  let g := s.gns
  let n : Int := g.surN
  let dev : Int := n * g.surQ - dist2 (g.surX, g.surY, g.surZ) (0, 0, 0)
  if s.param 0x207 ≤ n * 1000 ∧ 2 ≤ n ∧ dev < s.param 0x208 ^ 2 * n * n * (n - 1) then
    s.gnHold 2 (nearest ((g.surX : Rat) / n), nearest ((g.surY : Rat) / n), nearest ((g.surZ : Rat) / n))
  else s

/-- The causes of R237 that hold at a solution, by bit, and what they need of the state: NOSAT to EXCLUDED. -/
structure GnCauses where
  nosat  : Bool
  noinput : Bool
  sleep  : Bool
  resid  : Bool
  const  : Bool
  position : Bool
  phase  : Bool
  freq   : Bool
  flat   : Bool
  peak   : Bool
  label  : Bool
  single : Bool
  sat    : Bool
  excluded : Bool
deriving DecidableEq, Repr

/-- The cause bits as a number (R237). -/
def GnCauses.word (c : GnCauses) : Nat :=
  ([c.nosat, c.noinput, c.sleep, c.resid, c.const, c.position, c.phase, c.freq, c.flat, c.peak, c.label, c.single, c.sat,
    c.excluded].zipIdx.map (fun x => bit x.1 * 2 ^ x.2)).sum

/-- A cause that leads to SPOOF_SUSPECT or INCONSISTENT holds or is held (R239). -/
def State.gnHeld (s : State) (sec : Int) (b : Nat) : Bool :=
  let h := tabGet 0 s.gns.held b
  decide (h ≠ 0) && (decide (h - 1 = sec) || decide ((sec - (h - 1)) * 1000 < s.param 0x21A))

/-- The verdict: 0 GOOD, 1 NO_FIX, 2 INCONSISTENT, 3 SPOOF_SUSPECT (R239). -/
def State.gnVerdictOf (s : State) (sec : Int) (cause : Nat) : Nat :=
  if cause % 8 ≠ 0 then 1
  else if [6, 7, 8, 9, 10].any (s.gnHeld sec) then 3
  else if [3, 4, 5].any (s.gnHeld sec) then 2
  else 0

/-- Pod 2 sends Pod 1 the GN_VERDICT entry of the second (R240). -/
def State.gnSend (s : State) (verdict cause : Nat) (label : Int) (vcsec : Int) (used : Nat) : State :=
  if s.mboxFull 1 then s.modGns (fun g => { g with vLost := g.vLost + 1 })
  else s.mboxPost 1 2 0x20 (natLe 1 verdict ++ natLe 1 (min 255 used) ++ natLe 2 cause
    ++ natLe 4 (s.reg Reg.GNS_SIGMA) ++ intLe 8 label ++ intLe 4 vcsec
    ++ natLe 1 s.gnPos ++ natLe 1 (s.fld Reg.GNS_SOL Reg.GNS_SOL_START) ++ [0, 0])

/-- The split of the prediction of x for S + 1, in ps: W and F (R234). -/
def splitX (x : Rat) : Int × Int :=
  let v := nearest x
  let ps : Int := 1000000000000
  let w := (v + ps / 2) / ps
  (w, v - w * ps)

/-- A solution of VC0 second `sec`: x_GN, the clock frequency, F for the next GN_PPS, and σ_T; the answer holds the label of
that pulse (R230 to R234). -/
def State.gnSolve (s : State) (sol : GnSol) (sec : Int) : State × Int :=
  let x : Rat := ((sol.x - s.gns.ant - s.gnOffset sol sec : Int) : Rat)
  let xs := (sec, x) :: s.gns.xs.filter (fun p => decide (sec - 10 ≤ p.1) && decide (p.1 < sec))
  let y := if xs.length < 2 then s.gns.kept.freq else slope (xs.map (fun p => (((p.1 - sec : Int) : Rat), p.2)))
  let f := splitX (x + y)
  let sigma := max sol.sd (if s.gnDual (s.gnUsed sol.sats) then 1500 else 4000)
  let s := s.modGns (fun g => { g with
    xs := xs, fixAt := some sec, ppsf := some (f.2, sec + 1, s.tkp.rawcnt), kept := { g.kept with freq := y } })
  (s.setReg Reg.GNS_SIGMA (min (2 ^ 32 - 1) sigma), sec + 1 - f.1)

/-- g of the second enters the history with its verdict (R238). -/
def State.gnPush (s : State) (sec : Int) (g : Rat) (good : Bool) : State :=
  s.modGns (fun n => { n with gs := (sec, g, good) :: n.gs.filter (fun p => decide (sec - 3700 ≤ p.1) && decide (p.1 < sec)) })

/-- The causes at a solution (R237); `label` is that of the next pulse where there is a solution. -/
def State.gnCauses (s : State) (sol : GnSol) (sec : Int) (solved : Bool) (label : Int) : GnCauses :=
  let cts := s.ctsChecks sec
  let con := constCheck sol.cons (s.param 0x215)
  let peaks := (sol.peaks.filter (fun (p : Nat) => decide (s.param 0x219 < (p : Int)))).length
  let asleep := s.gns.asleep
  let on := solved && !asleep
  let used := s.gnUsed sol.sats
  { nosat := decide (used.length < s.gnUnknowns used)
      || (match s.gns.fixAt with | some f => decide (3 ≤ sec - f) | none => true)
    noinput := s.gns.noClk || !(List.range 4).any s.gnPort
    sleep := asleep
    resid := on && decide (s.param 0x214 < (sol.resid : Int))
    const := on && con.1
    position := s.gnMoved
    phase := on && cts.1
    freq := on && cts.2
    flat := (match s.gns.flat with | some f => decide (60 ≤ sec - f) | none => false)
    peak := on && decide (2 ≤ peaks)
    label := on && s.firstDone 0 && decide (label ≠ sec + 1)
    single := !s.gnDual used
    sat := (List.range 4).any (fun p => s.gnPort p && decide (10 < s.fld (Reg.GNS_PORT_STATUS p) Reg.GNS_PORT_STATUS_SAT))
    excluded := on && (sol.sats.any (·.out) || con.2 || decide (peaks = 1) || sol.ephs.any (fun e => !ephOk e)) }

/-- CN0_FLAT's start (R237). -/
def State.gnFlat (s : State) (sec : Int) : State :=
  let flat := s.gnSpreadLow
  s.modGns (fun g => { g with flat := if flat && !g.asleep then some (g.flat.getD sec) else none })

/-- Pod 2 has a solution of the second: the equations have one, the second's observables are latched, and there are as many used satellites as
unknowns (R230, R237). -/
def State.gnSolves (s : State) (sol : GnSol) (sec : Int) : Bool :=
  let used := s.gnUsed sol.sats
  sol.solved && s.gnAwake && decide (s.gns.latchAt = some sec) && decide (s.gnUnknowns used ≤ used.length)

/-- GN_TIMING_SOLUTION: what Pod 2 does for a VC0 second, within 400 ms (R230 to R240). -/
def execGnTimingSolution (sol : GnSol) (t : Nat) (s : State) : Host.Outcome State Fault Refusal :=
  actAt t (fun s =>
    let sec := s.vc0Sec
    if s.runsResident 2 = false ∨ s.gns.solAt = some sec ∨ sec * fuSec + 400000000 * fuNs < s.vcNow 0 then s
    else
      let s := s.modGns (fun g => { g with solAt := some sec })
      let s := if s.gns.starting then
        s.gnStart ((sol.sats.filter (fun x => decide (s.param 0x204 < x.elev))).map (fun x => x.const * 256 + x.sv)) else s
      let s := (((s.slTake.gnTakeSig.gnSweep).gnMode).gnCal sol).gnFlat sec
      let used := s.gnUsed sol.sats
      let solved := s.gnSolves sol sec
      let r : State × Int := if solved then s.gnSolve sol sec else let f := s.fresh; (f.2, toSigned 64 f.1)
      let s := r.1
      let label := r.2
      let s := if solved then (s.gnWatch sol sec).gnData sol (label - 1) |>.gnLeap sol else s
      let g : Rat := (s.loOffset sec + s.xe0At sec) * 1000000000000 - (match s.gns.xs with | p :: _ => p.2 | [] => 0)
      let s := if solved then s.gnPush sec g false else s
      let c := s.gnCauses sol sec solved label
      let w := c.word
      let s := s.modGns (fun n => { n with
        held := (List.range 8).foldl (fun t k => if w / 2 ^ (k + 3) % 2 = 1 then tabSet 0 t (k + 3) (sec + 1) else t) n.held })
      let v := s.gnVerdictOf sec w
      let s := if solved then s.gnPush sec g (v = 0) else s
      let s := if c.position && decide (s.param 0x20A = 1) && decide (s.param 0x206 = 0) then s.gnSurvey
        else if c.position then s.modGns (fun n => { n with kept := { n.kept with pos := none } }) else s
      let s := match sol.pos, solved && decide (v = 0) && decide (s.gnPos = 1) with
        | some p, true => s.gnAverage p
        | _, _ => s
      let old := s.fld Reg.GNS_SOL Reg.GNS_SOL_VERDICT
      let s := if old = v then s
        else s.jGn 0x0200 (natLe 1 old ++ natLe 1 v ++ natLe 2 w ++ natLe 4 (s.reg Reg.GNS_SIGMA))
      let s := ((s.setFld Reg.GNS_SOL Reg.GNS_SOL_VERDICT v).setFld Reg.GNS_SOL Reg.GNS_SOL_FIX (bit solved)).setReg Reg.GNS_CAUSE w
      let s := if solved then s.setFld Reg.GNS_SOL Reg.GNS_SOL_NSAT (min 255 used.length) else s
      s.gnSend v w label (sec + 1) used.length) s

/-- GN_VERDICT: Pod 1 takes the entry from its mailbox: the verdict, and the label of the pulse of VCSEC (R110, R111,
R240). -/
def execGnVerdict (s : State) : Host.Outcome State Fault Refusal :=
  act (fun s =>
    match s.mboxFront 1 0x20 with
    | none => s
    | some (e, s) =>
      let label := toSigned 64 (leNat ((e.payload.drop 8).take 8))
      let now := s.vc0Sec
      let sec := now + toSigned 32 (ofSigned 32 (((leNat ((e.payload.drop 16).take 4) : Nat) : Int) - now))
      let s := { s with ref := { s.ref with gnVerdict := (e.payload.headD 0).toNat % 4, gnLabel := some label } }
      s.modTrack 12 (fun r =>
        if r.lastPulse = some sec then { r with label := some (sec, label) }
        else { r with labels := (sec, label) :: r.labels.take 1 })) s

/-- GN_PPS at VC0 second `sec`: emitted at `sec` + F where F was written for it 1 ms or more before, else counted (R234). -/
def execGnPps (sec : Int) (s : State) : Host.Outcome State Fault Refusal :=
  act (fun s =>
    let miss (s : State) : State :=
      (s.modGns (fun g => { g with ppsAt := some sec, ppsf := none })).incFld Reg.GNS_PPS_MISS Reg.GNS_PPS_MISS_COUNT 1
    if s.gns.ppsAt = some sec ∨ s.gns.asleep = true ∨ s.tbRuns = false then s
    else match s.gns.ppsf with
      | some (f, n, tick) =>
        let g : Gt := sec * fuSec + psToFu f
        if n = sec then
          let s := s.at (tickOf (s.vcSet 0) g)
          if s.vcAt 0 tick + fuSec / 1000 ≤ g then
            s.modGns (fun x => { x with ppsAt := some sec, ppsf := none, pulses := g :: x.pulses.take 1 })
          else miss s
        else if sec * fuSec + fuSec / 2 ≤ s.vcNow 0 ∧ n < sec then miss s else s
      | none => if sec * fuSec + fuSec / 2 ≤ s.vcNow 0 then miss s else s) s

/-! ### CGGTTS, messages -/

/-- The line fragments of R398: 42 characters each. -/
def lineParts (fuel : Nat) (l : List Byte) : List (List Byte) :=
  match fuel with
  | 0 => [l]
  | n + 1 => if l.length ≤ 42 then [l] else l.take 42 :: lineParts n (l.drop 42)

/-- A track of the CGGTTS schedule begins at a TAI second: at a whole UTC minute of the day that lies a whole multiple of 16 minutes after
00:02:00 of MJD 50722, advanced by 4 minutes for each day since (R244). -/
def cggStart (t : List LeapEntry) (sec : Int) : Bool :=
  let c := sec - taiUtc t sec
  let mjd := c / 86400 + 40587
  decide (c % 60 = 0) && decide ((c % 86400 / 60 - 2 + 4 * (mjd - 50722)) % 16 = 0)

/-- How long the track that began at `start` has lasted when it ends now: 780 s at its end, less where a step of VC0 or sleep has ended it; none
where it does not end within the last 10 s (R244, R245). -/
def State.cggSpan (s : State) (start : Int) : Option Int :=
  match s.gns.cut with
  | some (sec, tick) =>
    if start ≤ sec ∧ sec < start + 780 then
      (if s.tkp.rawcnt ≤ tick + 10000000 * ticksPerUs then some (sec - start) else none)
    else if start + 780 ≤ s.vc0Sec ∧ s.vc0Sec ≤ start + 790 then some 780 else none
  | none => if start + 780 ≤ s.vc0Sec ∧ s.vc0Sec ≤ start + 790 then some 780 else none

/-- CGGTTS_TRACK_END: a track ends, with a line for each satellite (R244, R245, R398). -/
def execCggttsTrackEnd (track : CggTrack) (s : State) : Host.Outcome State Fault Refusal :=
  actAt track.t (fun s =>
    let start := track.start
    let k := s.paramN 0x21F
    if s.runsResident 2 = false ∨ s.param 0x21E = 0 ∨ cggStart s.leapTable start = false ∨ s.gns.track = some start then s
    else match s.cggSpan start with
      | none => s
      | some span =>
        let s := s.modGns (fun g => { g with track := some start })
        if s.fld (Reg.SYN_PPS_CTRL k) Reg.SYN_PPS_CTRL_EN = 0 ∨ s.fld (Reg.SYN_PPS_CTRL k) Reg.SYN_PPS_CTRL_MODE ≠ 0 then
          s.modGns (fun g => { g with cggSkip := g.cggSkip + 1 })
        else
          (track.lines.filter (fun l => decide (390 ≤ l.secs) && decide ((l.secs : Int) ≤ span) && decide (l.const < 3)
              && decide (getBits (s.paramN 0x21E) l.const 1 = 1))).foldl (fun s l =>
            let parts := lineParts l.line.length l.line
            parts.zipIdx.foldl (fun s p => s.residentEvent 2 0x10 0
              (natLe 1 p.2 ++ natLe 1 (parts.length - 1) ++ padTo 42 p.1)) s) s) s

/-- RESURVEY: 0 OK, 1 FIXED (R247); during sleep it takes effect at the wake (R243). -/
def execResurvey (s : State) : Host.Outcome State Fault Refusal :=
  act (fun s =>
    match s.mboxFront 2 0x01 with
    | none => s
    | some (_, s) =>
      if s.param 0x206 = 1 then s.residentEvent 2 0x01 1 []
      else if s.gns.asleep then (s.modGns (fun g => { g with resurvey := true })).residentEvent 2 0x01 0 []
      else s.gnSurvey.residentEvent 2 0x01 0 []) s

/-- KEPT_CLEAR (R247). -/
def execKeptClear (s : State) : Host.Outcome State Fault Refusal :=
  act (fun s =>
    match s.mboxFront 2 0x02 with
    | none => s
    | some (_, s) => ((s.modGns (fun g => { g with kept := GnKept.reset, cold := true })).keptCommit).residentEvent 2 0x02 0 []) s

/-! ### The front-end SPI -/

/-- The effect of a write of GNS_FESPI_CTRL, BUSY apart (R249). -/
def State.fespiWrite (s : State) (data : Nat) (rx : Option Nat) : State :=
  let go := s.fld Reg.GNS_FESPI_CTRL Reg.GNS_FESPI_CTRL_GO
  let on := getBits data 8 1
  let s := s.setReg Reg.GNS_FESPI_CTRL (setBits (setBits (data % 512) 5 1 0) 8 1 (if go = 1 then 1 else on))
  if on = 0 then s
  else
    let n := max 7 (data % 32) + 1
    s.modGns (fun g => { g with
      spi := some (getBits data 6 2, n, s.reg Reg.GNS_FESPI_DATA / 2 ^ (32 - n)), spiRx := rx })

/-- The frame ends: GO reads 0 and DATA holds the frame received (R249). -/
def State.fespiDone (s : State) : State :=
  if s.fld Reg.GNS_FESPI_CTRL Reg.GNS_FESPI_CTRL_GO = 1 then
    let s := s.setFld Reg.GNS_FESPI_CTRL Reg.GNS_FESPI_CTRL_GO 0
    match s.gns.spiRx with
    | some v => (s.setReg Reg.GNS_FESPI_DATA (v % 2 ^ 32)).modGns (fun g => { g with spiRx := none })
    | none => s
  else s

/-- FESPI_GO (R249). -/
def execFespiGo (m : Master) (data : Nat) (rx : BitVec 32) (s : State) : Host.Outcome State Fault Refusal :=
  act (fun s => s.regWrite m Reg.GNS_FESPI_CTRL (fun s =>
    s.posted Reg.GNS_FESPI_CTRL (fun s => s.fespiWrite data (some rx.toNat)))) s

/-! ### GCMD -/

/-- A GCMD instruction: capability, the descriptor's alignment and bounds, and the command with its descriptor; the answer
none: refused, C := 1 and nothing else changes (R380). -/
def State.gcmd (s : State) (p : Nat) (ra : GReg) (f : State → Nat → List Byte → Option State) : State :=
  s.needCap p 7 (fun s =>
    let a := ((s.pod p).rg ra).toNat
    s.unlessFault p (dmemFault a 8 32) (fun s =>
      match f s a (s.dmemRead p a 32) with
      | some s' => s'.finish p (fun q => { q with c := false })
      | none => s.finish p (fun q => { q with c := true })))

/-- GCMD ACQ (R227, R380). -/
def execGcmdAcq (p : PodId) (rd ra : GReg) (s : State) : Host.Outcome State Fault Refusal :=
  fin p (fun s => s.gcmd p ra (fun s a d =>
    let ok := decide (dField d 0 1 < 20) && decide (1 ≤ dField d 12 1 ∧ dField d 12 1 ≤ 20)
      && decide (1 ≤ dField d 13 1 ∧ dField d 13 1 ≤ 64) && decide (dField d 14 1 < 4)
    if !ok || decide (8 ≤ s.gns.acq.length) || !(s.pod p).complRoom then none
    else
      let tag := (s.pod p).tag
      let s := s.modPod p (fun q => { q.wg rd (BitVec.ofNat 64 tag) with tag := nextTag tag, reserved := q.reserved + 1 })
      some (s.modGns (fun g => { g with acq := g.acq ++ [⟨p, tag, a, d⟩] })))) s

/-- GCMD CHAN (R228, R229, R380). -/
def execGcmdChan (p : PodId) (rd ra : GReg) (s : State) : Host.Outcome State Fault Refusal :=
  fin p (fun s => s.gcmd p ra (fun s _ d =>
    let c := dField d 0 1
    let st := dField d 1 1
    let probe := toSigned 16 (dField d 6 2)
    let ok := decide (st < 2) && decide (dField d 2 1 < 20) && decide (dField d 4 1 < 4)
      && decide (1 ≤ dField d 5 1 ∧ dField d 5 1 ≤ 64) && decide (-128 ≤ probe ∧ probe ≤ 128)
    if !ok || (decide (st = 1) && !(decide (s.gnCh c = 0) || decide (s.gnCh c = 3))) then none
    else
      let a := Reg.GNS_CH_STAT c
      let spacing := if s.runsResident p then max (dField d 5 1) (min 64 (s.gnSpacing (dField d 4 1) (dField d 2 1))) else dField d 5 1
      let s := ((s.setGnCh c st).setFld a Reg.GNS_CH_STAT_SIG (dField d 2 1)).setFld a
        Reg.GNS_CH_STAT_SV (dField d 3 1)
      let s := s.setFld a Reg.GNS_CH_STAT_PORT (dField d 4 1)
      let s := (s.setFld (Reg.GNS_CH_CFG c) Reg.GNS_CH_CFG_SPACING spacing).setFld (Reg.GNS_CH_CFG c)
        Reg.GNS_CH_CFG_PROBE (ofSigned 9 probe)
      let s := s.modGnChan c (fun k => { k with doppler := toSigned 32 (dField d 8 4), code := dField d 12 4 })
      some (s.modPod p (fun q => q.wg rd 0)))) s

/-- GCMD PPSF (R234, R380). -/
def execGcmdPpsf (p : PodId) (rd ra : GReg) (s : State) : Host.Outcome State Fault Refusal :=
  fin p (fun s => s.gcmd p ra (fun s _ d =>
    let f := toSigned 64 (dField d 0 8)
    if -500000000000 ≤ f ∧ f ≤ 499999999999 then
      some ((s.modGns (fun g => { g with ppsf := some (f, toSigned 64 (dField d 8 8), s.tkp.rawcnt) })).modPod p (fun q => q.wg rd 0))
    else none)) s

/-- GCMD SLEEP (R243, R380). -/
def execGcmdSleep (p : PodId) (rd ra : GReg) (s : State) : Host.Outcome State Fault Refusal :=
  fin p (fun s => s.gcmd p ra (fun s _ d =>
    let e := dField d 0 1
    if e = 1 then some ((if s.gns.asleep then s else s.gnSleep).modPod p (fun q => q.wg rd 0))
    else if e = 0 then some ((if s.gns.asleep then s.gnWake else s).modPod p (fun q => q.wg rd 0))
    else none)) s

/-- The bytes of the observables of a channel; where they are absent, which the descriptor does not say how to show, they are free values
(R225, R380; notes/assumptions/174). -/
def State.obsBytes (s : State) (o : Option GnObs) : List Byte × State :=
  match o with
  | some o => (intLe 8 o.code ++ intLe 8 o.carrier ++ intLe 4 o.doppler ++ natLe 1 (min 255 (o.cn0 / 100)), s)
  | none => let (x, s) := s.fresh; (natLe 21 x, s)

/-- GCMD OBS (R230, R371, R380). -/
def execGcmdObs (p : PodId) (rd ra : GReg) (s : State) : Host.Outcome State Fault Refusal :=
  fin p (fun s => s.gcmd p ra (fun s a d =>
    let k := s.gnChan (dField d 0 1)
    let (b, s) := s.obsBytes k.obs
    let s := s.dmemWrite p (a + 8) (b ++ natLe 1 k.st)
    some (s.modPod p (fun q => { q.wg rd 0 with events := setBits q.events 5 1 0 })))) s

end Sys2Proof.Machine
end

