-- ==== Sys2Proof/Machine/Key.lean ====
section
/-! DEFINITION. The key commands, the signing engine, the tamper alarms and KCMAC (R325 to R340, R379). -/

namespace Sys2Proof.Machine

/-- The order of the statuses of R326: those of the column, then those the text adds (R395). -/
structure KeySt where
  /-- SIG_REQUIRED; BAD_SIG follows it. -/
  sig : Nat
  /-- KEY_LOCKED, 0 for a command that a LOCKED vault answers. -/
  locked : Nat
  /-- KEY_ZEROED. -/
  zeroed : Nat
deriving DecidableEq, Repr

/-- The 80 bytes that a signature of signed administration covers (R335). -/
def State.adminBytes (s : State) (args : List Byte) : List Byte :=
  ascii "LETHAR-KEYADMIN1" ++ natLe 16 (s.reg Reg.KEY_CHAL) ++ Config.sha384 args

/-- The signature of a command verifies under the IMAGE_VERIFY slot that it names (R335). -/
def State.authOk (s : State) (a : KeyAuth) : Bool :=
  s.keyUsable a.slot && decide (s.meta a.slot Reg.KEY_SLOT_META_USE = 6)
    && Config.sigOk (s.meta a.slot Reg.KEY_SLOT_META_TYPE) (s.keySlot a.slot).pub (s.adminBytes a.args) a.sig

/-- A key command: refused in a ZEROED or LOCKED vault, then for its signature, else its effect (R326, R335). -/
def State.keyCmd (s : State) (q op : Nat) (st : KeySt) (auth : Option KeyAuth) (signed : Bool) (f : State → State) : State :=
  s.hostCmd q op (fun s =>
    if s.vault = 3 then s.respond q op st.zeroed []
    else if s.vault ≠ 1 ∧ st.locked ≠ 0 then s.respond q op st.locked []
    else if signed && decide (s.fld Reg.KEY_STATUS Reg.KEY_STATUS_SIGNED_ADMIN = 1) && s.verifySlot then
      match auth with
      | none => s.respond q op st.sig []
      | some a =>
        let ok := s.authOk a
        let s := s.setFld Reg.KEY_CHAL Reg.KEY_CHAL_COUNT (s.fld Reg.KEY_CHAL Reg.KEY_CHAL_COUNT + 1)
        if ok then f s else s.respond q op (st.sig + 1) []
    else f s)

/-- Why a key may not be placed: the status by the column of KEY_WRITE, in this order (R323, R325, R327); none when it may. -/
def State.placeFail (s : State) (slot parent kind use type : Nat) : Option Nat :=
  if 4096 ≤ slot then some 1
  else if slot ≤ 1 ∨ kind = 0 then some 2
  else if 7 ≤ use ∨ (kind = 1 ∧ use ≠ 0) ∨ (kind = 2 ∧ use = 0) ∨ 3 ≤ kind then some 3
  else if 7 ≤ type ∨ !(useTypes use).contains type then some 4
  else if 4096 ≤ parent ∨ s.keySt parent ≠ 1 ∨ 1 < s.meta parent Reg.KEY_SLOT_META_KIND then some 5
  else if !s.keyUsable parent then some 6
  else if (if kind = 1 then 3 else 4) < s.keyDepth 6 parent + 1 then some 7
  else if s.keySt slot = 1 ∧ (s.meta slot Reg.KEY_SLOT_META_KIND ≠ kind ∨ s.meta slot Reg.KEY_SLOT_META_PARENT ≠ parent
      ∨ s.meta slot Reg.KEY_SLOT_META_USE ≠ use ∨ s.meta slot Reg.KEY_SLOT_META_TYPE ≠ type) then some 8
  else if s.keyGen slot = 0xFFFFFFFF then some 9
  else none

/-- Places a key, journals it and asks for the commit that completes the command: method 0 write, 1 generate,
2 derive (R327, R340). -/
def State.placeAndCommit (s : State) (q op slot parent kind use type method : Nat) (key : List Byte) : State :=
  let before := s
  let s := s.placeKey slot parent kind use type key
  let ks := s.keySlot slot
  let s := s.jKey 0x0030 (natLe 2 slot ++ natLe 1 kind ++ natLe 1 use ++ natLe 1 type ++ natLe 1 method
    ++ natLe 2 parent ++ natLe 4 ks.pgen ++ natLe 4 (s.keyGen slot) ++ natLe 4 ks.kcv)
  (s.verifyLost before).ckeyReview.huskAsk slot [(q, op, [])]

/-- KEY_WRITE: the key bytes must have the length of the type, and a public key must be a valid point (R327). -/
def execKeyWrite (q slot parent kind use type : Nat) (key : List Byte) (auth : Option KeyAuth) (s : State) :
    Host.Outcome State Fault Refusal :=
  act (fun s => s.keyCmd q 0x0500 ⟨10, 12, 13⟩ auth true (fun s =>
    match s.placeFail slot parent kind use type with
    | some x => s.respond q 0x0500 x []
    | none =>
      if key.length ≠ keyLen type then s.respond q 0x0500 0xFF02 []
      else if (type = 5 ∨ type = 6) ∧ Config.pointOk type key = false then s.respond q 0x0500 4 []
      else s.placeAndCommit q 0x0500 slot parent kind use type 0 key)) s

/-- KEY_GENERATE (R327, R331). -/
def execKeyGenerate (q slot parent kind use type : Nat) (auth : Option KeyAuth) (s : State) :
    Host.Outcome State Fault Refusal :=
  act (fun s => s.keyCmd q 0x0501 ⟨10, 13, 14⟩ auth true (fun s =>
    match s.placeFail slot parent kind use type with
    | some x => s.respond q 0x0501 x []
    | none =>
      if type = 5 ∨ type = 6 then s.respond q 0x0501 4 []
      else if s.key.rbgFail then s.respond q 0x0501 12 []
      else
        let (k, s) := State.random (keyLen type) s
        s.placeAndCommit q 0x0501 slot parent kind use type 1 k)) s

/-- KEY_DERIVE: a leaf under a Sprout (R327). -/
def execKeyDerive (q slot parent use type : Nat) (label : List Byte) (auth : Option KeyAuth) (s : State) :
    Host.Outcome State Fault Refusal :=
  act (fun s => s.keyCmd q 0x0502 ⟨10, 12, 13⟩ auth true (fun s =>
    match s.placeFail slot parent 2 use type with
    | some x => s.respond q 0x0502 x []
    | none =>
      if type ≠ 1 ∧ type ≠ 2 then s.respond q 0x0502 4 []
      else if s.meta parent Reg.KEY_SLOT_META_KIND ≠ 1 then s.respond q 0x0502 5 []
      else if label.length = 0 ∨ 32 < label.length then s.respond q 0x0502 0xFF02 []
      else s.placeAndCommit q 0x0502 slot parent 2 use type 2
        (Config.hkdf (s.keySlot parent).key (label ++ natLe 1 use ++ natLe 1 type) (keyLen type)))) s

/-- The slots that a change of one slot has orphaned (R325, R333). -/
def orphaned (before after : State) (slot : Nat) : Nat :=
  (before.slotsInUse.filter (fun k => decide (k ≠ slot) && before.keyUsable k && !after.keyUsable k)).length

/-- KEY_INVALIDATE: GEN is bumped, the key erased, the Husk committed INVALID (R325, R333). -/
def execKeyInvalidate (q slot : Nat) (auth : Option KeyAuth) (s : State) : Host.Outcome State Fault Refusal :=
  act (fun s => s.keyCmd q 0x0503 ⟨4, 7, 8⟩ auth true (fun s =>
    if 4096 ≤ slot then s.respond q 0x0503 1 []
    else if slot ≤ 1 then s.respond q 0x0503 2 []
    else if s.keySt slot ≠ 1 then s.respond q 0x0503 3 []
    else if s.keyGen slot = 0xFFFFFFFF then s.respond q 0x0503 6 []
    else
      let before := s
      let g := s.keyGen slot
      let s := ((s.setFld (Reg.KEY_SLOT_META slot) Reg.KEY_SLOT_META_GEN (g + 1)).setFld (Reg.KEY_SLOT_META slot)
        Reg.KEY_SLOT_META_STATE 2).modSlot slot (fun k => { k with key := [], pub := [] })
      let s := s.jKey 0x0031 (natLe 2 slot ++ natLe 4 g ++ natLe 4 (g + 1) ++ natLe 2 (orphaned before s slot))
      (s.verifyLost before).ckeyReview.huskAsk slot [(q, 0x0503, [])])) s

/-- KEY_FREE (R333). -/
def execKeyFree (q slot : Nat) (auth : Option KeyAuth) (s : State) : Host.Outcome State Fault Refusal :=
  act (fun s => s.keyCmd q 0x0504 ⟨4, 6, 7⟩ auth true (fun s =>
    if 4096 ≤ slot then s.respond q 0x0504 1 []
    else if slot ≤ 1 then s.respond q 0x0504 2 []
    else if s.keyFound slot = 1 then s.respond q 0x0504 3 []
    else
      let s := (s.setReg (Reg.KEY_SLOT_META slot) (metaWord (s.keyGen slot) 0 0 0 0 0)).modSlot slot (fun _ => ⟨[], [], 0, 0⟩)
      (s.jKey 0x0032 (natLe 2 slot ++ natLe 4 (s.keyGen slot))).huskAsk slot [(q, 0x0504, [])])) s

/-- KEY_READ: the metadata word with the state as found, PGEN and KCV (R326, R340). -/
def execKeyRead (q : Nat) (slot : Fin 4096) (s : State) : Host.Outcome State Fault Refusal :=
  act (fun s => s.keyCmd q 0x0505 ⟨0, 0, 1⟩ none false (fun s =>
    let w := setBits (s.reg (Reg.KEY_SLOT_META slot)) 16 2 (s.keyFound slot)
    s.respond q 0x0505 0 (natLe 8 w ++ natLe 4 (s.keySlot slot).pgen ++ natLe 4 (s.keySlot slot).kcv))) s

/-- The length of the public key of a type, 0 for a secret (R323). -/
def pubLen : Nat → Nat
  | 3 => 97
  | 4 => 32
  | 5 => 97
  | 6 => 32
  | _ => 0

/-- KEY_PUBKEY: 1 KEY_USE for a secret, 2 KEY_ORPHANED, 3 KEY_INVALID, 4 KEY_ZEROED (R324, R326). -/
def execKeyPubkey (q : Nat) (slot : Fin 4096) (s : State) : Host.Outcome State Fault Refusal :=
  act (fun s => s.keyCmd q 0x0506 ⟨0, 0, 4⟩ none false (fun s => s.resSpace q 0x0506 (pubLen (s.meta slot Reg.KEY_SLOT_META_TYPE)) (fun s =>
    if s.keySt slot ≠ 1 then s.respond q 0x0506 3 []
    else if !s.keyUsable slot then s.respond q 0x0506 2 []
    else if s.meta slot Reg.KEY_SLOT_META_TYPE < 3 then s.respond q 0x0506 1 []
    else s.respond q 0x0506 0 (s.keySlot slot).pub))) s

/-- KEY_SIGN: the request joins the queue of 16 (R332). -/
def execKeySign (q : Nat) (slot : Fin 4096) (digest : List Byte) (s : State) : Host.Outcome State Fault Refusal :=
  act (fun s => s.hostCmd q 0x0507 (fun s => s.resSpace q 0x0507 (if s.meta slot Reg.KEY_SLOT_META_TYPE = 4 then 64 else 96) (fun s =>
    match s.keyFor slot [4] with
    | .inl e => s.respond q 0x0507 (signFail e) []
    | .inr _ =>
      if digest.length ≠ 48 then s.respond q 0x0507 0xFF02 []
      else if 16 ≤ s.key.sgn.length then s.respond q 0x0507 5 []
      else ({ s with key := { s.key with sgn := s.key.sgn ++ [⟨q, slot, digest, none⟩] } } : State).sgnLoad))) s

/-- SGN_SIGN_COMPLETE: the request that SGN has loaded ends with its signature, also when its key has been invalidated since (R332, R333). -/
def execSgnSignComplete (s : State) : Host.Outcome State Fault Refusal :=
  act (fun s =>
    match s.key.sgn with
    | [] => s
    | r :: rest =>
      match r.key with
      | none => s
      | some (type, k) =>
        (({ s with key := { s.key with sgn := rest } } : State).respond r.hseq 0x0507 0
          (Config.signWith type k (ascii "LETHAR-HOSTSIGN1" ++ r.digest))).sgnLoad) s

/-- KEY_UNLOCK (R334). -/
def execKeyUnlock (q : Nat) (pins : Fin 32) (auth : Option KeyAuth) (s : State) : Host.Outcome State Fault Refusal :=
  act (fun s => s.keyCmd q 0x0508 ⟨3, 0, 5⟩ auth true (fun s =>
    let s := s.setPins pins
    if s.vault ≠ 2 then s.respond q 0x0508 1 []
    else if s.tamperActive then s.respond q 0x0508 2 []
    else
      let s := (s.setFld Reg.KEY_TAMP_STAT Reg.KEY_TAMP_STAT_LATCH_B 0).unwrapAll
      let s := s.jKey 0x0039 (natLe 2 (match auth with
        | some a => if s.fld Reg.KEY_STATUS Reg.KEY_STATUS_SIGNED_ADMIN = 1 ∧ s.verifySlot = true then a.slot else 0
        | none => 0))
      (s.setVault 1 0).respond q 0x0508 0 [])) s

/-- KEY_TAMPER_CFG (R337). -/
def execKeyTamperCfg (q input cls level filt : Nat) (pins : Fin 32) (auth : Option KeyAuth) (s : State) :
    Host.Outcome State Fault Refusal :=
  act (fun s => s.keyCmd q 0x0509 ⟨3, 5, 6⟩ auth true (fun s =>
    if 5 ≤ input ∨ 3 ≤ cls ∨ 2 ≤ level ∨ 256 ≤ filt then s.respond q 0x0509 1 []
    else
      let lvl := pins.val / 2 ^ input % 2
      let on := if input = 4 then decide (lvl = 1) != s.key.meshOut else decide (lvl = level)
      if cls ≠ 0 ∧ on = true then s.respond q 0x0509 2 []
      else
        let old := s.fld (Reg.KEY_TAMP_CFG input) Reg.KEY_TAMP_CFG_CLASS
        let s := (s.setReg (Reg.KEY_TAMP_CFG input) (filt * 256 + cls * 16 + level)).setPins pins
        let s := { s with key := { s.key with runs := s.key.runs.set input 0 } }
        let s := s.jKey 0x0035 (natLe 1 input ++ natLe 1 old ++ natLe 1 cls ++ natLe 1 level ++ natLe 1 filt)
        (s.mramAsk ridTamper (.nums ((List.range 5).map (fun n => s.reg (Reg.KEY_TAMP_CFG n)))) []).respond q 0x0509 0 [])) s

/-- KEY_POLICY: completes after the commit (R335, R336). -/
def execKeyPolicy (q : Nat) (signed kalock : Bool) (auth : Option KeyAuth) (s : State) : Host.Outcome State Fault Refusal :=
  act (fun s => s.keyCmd q 0x050A ⟨2, 4, 5⟩ auth true (fun s =>
    if signed && !s.verifySlot then s.respond q 0x050A 1 []
    else
      let s := (s.setFld Reg.KEY_STATUS Reg.KEY_STATUS_SIGNED_ADMIN (bit signed)).setFld Reg.KEY_STATUS
        Reg.KEY_STATUS_KALOCK (bit kalock)
      let s := s.jKey 0x0038 (natLe 1 (bit signed) ++ natLe 1 (bit kalock) ++ [0])
      s.mramAsk ridPolicy (.nums [bit signed, bit kalock]) [(q, 0x050A, [])])) s

/-- KEY_ENROLLED (R330). -/
def execKeyEnrolled (q : Nat) (s : State) : Host.Outcome State Fault Refusal :=
  act (fun s => s.keyCmd q 0x050B ⟨0, 2, 3⟩ none false (fun s =>
    if s.fld Reg.KEY_STATUS Reg.KEY_STATUS_ROOT_NEW = 0 then s.respond q 0x050B 1 []
    else
      let s := ({ s with key := { s.key with rootNew := false } } : State).setFld Reg.KEY_STATUS Reg.KEY_STATUS_ROOT_NEW 0
      (s.jKey 0x0036 (natLe 4 s.key.rcount ++ [1])).respond q 0x050B 0 [])) s

/-- RBG_HEALTH_FAIL (R331). -/
def execRbgHealthFail (s : State) : Host.Outcome State Fault Refusal :=
  act (fun s => ({ s with key := { s.key with rbgFail := true } } : State).condOn 103) s

/-! ### Tamper alarms -/

/-- An alarm enters the log of 16 entries; a full log overwrites entry 15 (R338). LOGCNT has no encoding of 16: its
value is then free. -/
def State.tamperLog (s : State) (e : TamperEntry) : State :=
  let (log, ovf) := if s.key.log.length < 16 then (s.key.log ++ [e], false) else (s.key.log.take 15 ++ [e], true)
  let s := { s with key := { s.key with log := log } }
  let s := if ovf then s.setFld Reg.KEY_TAMP_STAT Reg.KEY_TAMP_STAT_LOG_OVF 1 else s
  let (n, s) := if log.length < 16 then (log.length, s) else s.fresh
  let s := s.setFld Reg.KEY_TAMP_STAT Reg.KEY_TAMP_STAT_LOGCNT n
  let m := s.fld Reg.KEY_TAMP_STAT Reg.KEY_TAMP_STAT_ALARMED
  s.setFld Reg.KEY_TAMP_STAT Reg.KEY_TAMP_STAT_ALARMED (m ||| 2 ^ e.input)

/-- Lanes and SGN are flushed: KEY_SIGN ends, an attestation in progress is aborted, and a frame whose ICV a lane is computing is not sent
(R338, R339). -/
def State.abortSgn (s : State) (status : Nat) : State :=
  let reqs := s.key.sgn
  let s := { s with key := { s.key with sgn := [] },
                    jrn := { s.jrn with att := s.jrn.att.map (fun (a : AttPend) => { a with key := none, aborted := true }) } }
  let s := reqs.foldl (fun s r => s.respond r.hseq 0x0507 status []) s
  let now := s.tkp.rawcnt
  let cut := (((List.range 9).map (fun p => (s.port p).tx.filter (fun (x : TxItem) => decide (now < x.ready)))).flatten.map (·.id)).eraseDups
  (List.range 9).foldl (fun s p => s.modPort p (fun q => { q with tx := q.tx.filter (fun (x : TxItem) => !decide (now < x.ready)) }))
    (s.countBy 590 cut.length)

/-- The record TAMPER of an alarm that is written at once (R340). -/
def State.jTamper (s : State) (e : TamperEntry) : State :=
  s.jKey 0x0034 (natLe 1 e.input ++ natLe 1 e.cls ++ natLe 6 e.ka ++ natLe 1 (bit e.railsUp) ++ List.replicate 6 0
    ++ natLe 1 (s.fld Reg.KEY_TAMP_STAT Reg.KEY_TAMP_STAT_LOG_OVF))

/-- An alarm of an input latches: the log, and the reaction of its class at this moment (R338). -/
def State.tamperLatch (s : State) (input : Nat) : State :=
  let cls := s.fld (Reg.KEY_TAMP_CFG input) Reg.KEY_TAMP_CFG_CLASS
  let e : TamperEntry := ⟨input, cls, s.reg Reg.KEY_KA_TIME, s.clk.up⟩
  let s := s.tamperLog e
  let started := decide (s.fld Reg.PWR_BOOT Reg.PWR_BOOT_STAGE = 4)
  if cls = 1 then
    let s := ({ s with key := { s.key with root := none } } : State)
    if s.clk.up then
      let s := (((s.clearStore.abortSgn 6).eraseHusks.raise 105).setVault 3 2).ckeyReview
      if started then s.jTamper e else { s with clk := { s.clk with tamper := true } }
    else s
  else
    let s := s.setFld Reg.KEY_TAMP_STAT Reg.KEY_TAMP_STAT_LATCH_B 1
    if s.clk.up then
      if started then
        let s := if s.vault = 1 ∨ s.vault = 2 then (s.clearStore.abortSgn 4).raise 104 else s
        (if s.vault = 1 then (s.setVault 2 1).ckeyReview else s).jTamper e
      else { s with clk := { s.clk with tamper := true } }
    else s

/-- The samples that alarm on an input: FILT, 0 used as 1, for the mesh at least 2 (R337, R341). -/
def State.tamperNeed (s : State) (input : Nat) : Nat :=
  max (if input = 4 then 2 else 1) (s.fld (Reg.KEY_TAMP_CFG input) Reg.KEY_TAMP_CFG_FILT)

/-- One period of the keep-alive oscillator: the counter counts, the inputs are sampled, MESH_OUT takes its next bit, and each armed input latches
an alarm at its last consecutive sample (R337). -/
def State.tamperSample (s : State) (pins : Nat) : State :=
  let s := (s.setReg Reg.KEY_KA_TIME ((s.reg Reg.KEY_KA_TIME + 1) % 2 ^ 48)).setPins pins
  let act := s.fld Reg.KEY_TAMP_STAT Reg.KEY_TAMP_STAT_ACTIVE
  let runs := (List.range 5).map (fun n => if act / 2 ^ n % 2 = 1 then s.key.runs.getD n 0 + 1 else 0)
  let s := { s with key := { s.key with runs := runs, meshOut := decide (s.key.mesh / 2 ^ 30 % 2 = 1), mesh := lfsrNext s.key.mesh } }
  (List.range 5).foldl (fun s n =>
    let cls := s.fld (Reg.KEY_TAMP_CFG n) Reg.KEY_TAMP_CFG_CLASS
    if (cls = 1 ∨ cls = 2) ∧ runs.getD n 0 = s.tamperNeed n then s.tamperLatch n else s) s

/-- The periods that the environment does not show up to the one before the count `ka`: they find no input active (DESIGN CHOICE,
notes/assumptions/178), and the mesh runs on. -/
def State.tamperSkip (s : State) (ka : Nat) : State :=
  let n := ka - 1 - s.reg Reg.KEY_KA_TIME
  if n = 0 then s
  else
    let m := Nat.repeat lfsrNext (n - 1) s.key.mesh
    ({ s with key := { s.key with runs := List.replicate 5 0, meshOut := decide (m / 2 ^ 30 % 2 = 1), mesh := lfsrNext m } } : State).setReg
      Reg.KEY_KA_TIME (ka - 1)

/-- TAMPER_ALARM: consecutive samples of TAMPER0 to TAMPER3 and, at bit 4, of MESH_IN; the first is taken at the count `ka` of the
keep-alive counter, or at its next count (R337, R338). -/
def execTamperAlarm (ka : Nat) (samples : List (Fin 32)) (s : State) : Host.Outcome State Fault Refusal :=
  act (fun s => samples.foldl (fun s x => s.tamperSample x.val) (s.tamperSkip (ka % 2 ^ 48))) s

/-! ### KCMAC -/

/-- KCMAC: rd and the register after it take the 16 bytes, or rd a status and the next 0 (R379). -/
def execKcmac (p : PodId) (rd ra rb : GReg) (s : State) : Host.Outcome State Fault Refusal :=
  fin p (fun s => s.needCap p 9 (fun s =>
    let q := s.pod p
    let slot := bitsOf (q.rg ra) 0 12
    let len := bitsOf (q.rg ra) 16 12
    let a := (q.rg rb).toNat
    let put (lo hi : Nat) (v : Bool) (s : State) : State :=
      s.finish p (fun q => { (q.wg rd (BitVec.ofNat 64 lo)).wg (rd.val + 1) (BitVec.ofNat 64 hi) with v := v })
    if rd.val = 0 ∨ rd.val = 31 then s.podFault p 1
    else if 0x10000 < a + len then s.podFault p 4
    else if len = 0 then put 7 0 true s
    else match s.keyFor slot [2, 3] with
      | .inl e => put e 0 true s
      | .inr k =>
        let m := Config.aesCmac k (s.dmemRead p a len)
        (put (leNat (m.take 8)) (leNat (m.drop 8)) false s).macBlocks ((len + 15) / 16))) s

end Sys2Proof.Machine
end

