-- ==== Sys2Proof/Machine/Twn.lean ====
section
/-! DEFINITION. The twin: frames and heartbeat words, paths and the twin state, TWIN_LOCK, and the handover (R342 to R357). -/

namespace Sys2Proof.Machine

/-! ### What the engine says -/

/-- The engine holds a C3 fault or has begun a reset: its health report is FAILING (R346). -/
def State.failing (s : State) : Bool := s.flt.fatalLow || !s.clk.up

/-- The VC0 bound is at or below BOUND_LIMIT (R344). -/
def State.boundFlag (s : State) : Bool := s.firstDone 0 && !s.overLimit

/-- What this engine's heartbeat says (R344, R345). -/
def State.peerReport (s : State) : PeerSays := ⟨s.twinSide, s.twinAuth, s.failing, s.reg Reg.ENS_TS, s.boundFlag⟩

/-- VC0 seconds of the most recent PPSOUT7 pulse, 0 before the first (R344). -/
def State.ppsSecond (s : State) : Int :=
  match (s.outp 15).last with
  | some (e, _) => (s.vcAt 0 (e / 800).toNat + fuSec / 2) / fuSec
  | none => 0

/-- The use TWIN_LINK (R323). -/
abbrev twinLinkUse : Nat := 5

/-- The key of the twin link is usable: the slot of TWN_LINK_SLOT, of use TWIN_LINK (R344, R346). -/
def State.linkKey (s : State) : Bool :=
  let slot := s.fld Reg.TWN_LINK_SLOT Reg.TWN_LINK_SLOT_SLOT
  decide (slot ≠ 0) && (match s.keyFor slot [twinLinkUse] with | .inr _ => true | .inl _ => false)

/-- The start count is committed before the first frame of a start (R344): the answer is true once it is. -/
def State.startReady (s : State) : State × Bool :=
  if s.twn.starts = 0 then
    let n := ((s.mramNums ridTwin [0]).headD 0 + 1) % 2 ^ 32
    ((s.modTwn (fun t => { t with starts := n + 1 })).mramAsk ridTwin (.nums [n]) [], false)
  else (s, decide (s.mramNums ridTwin [0] = [s.twn.starts - 1]))

/-- A frame goes out on both lanes, sealed with the next frame count (R344); the check units see it (R464). -/
def State.sendFrame (s : State) (msg : TwinMsg) : State :=
  if s.inTwin && s.linkKey then
    let (s, ready) := s.startReady
    if ready then
      let n := s.twn.frames
      let (b, s) := s.fresh
      ((s.macBlocks b).modTwn (fun t => { t with frames := (n + 1) % 2 ^ 63, txFrame := some ⟨s.twinSide, t.starts - 1, n, msg⟩ })).snoop 2 0 0
        true n
    else s
  else s

/-- A periodic sending of kind `k`: not before its period in ticks has passed since the last (R344, R345). -/
def State.twinPace (s : State) (k period : Nat) (f : State → State) : State :=
  let last := tabGet 0 s.twn.sent k
  if last ≠ 0 ∧ s.tkp.rawcnt + 1 < last + period then s
  else f (s.modTwn (fun t => { t with sent := tabSet 0 t.sent k (s.tkp.rawcnt + 1) }))

/-- TWIN_HEARTBEAT_TX, every 1 ms (R344). -/
def execTwinHeartbeatTx (t : Nat) (s : State) : Host.Outcome State Fault Refusal :=
  actAt t (fun s => s.twinPace 0 1250000 (fun s => s.sendFrame (.heartbeat s.peerReport s.ppsSecond (s.firstDone 0)))) s

/-- TWIN_BOUND_TX, once in each 10 ms span of VC0 (R344). -/
def execTwinBoundTx (t : Nat) (s : State) : Host.Outcome State Fault Refusal :=
  actAt t (fun s =>
    let span := s.vcNow 0 / (fuSec / 100)
    if s.twn.boundSpan = some span then s
    else (s.modTwn (fun t => { t with boundSpan := some span })).sendFrame (.bound (s.onionBytes 31))) s

/-! ### CHECK -/

/-- The slot and KCV of each entry of NSE_CKEY (R354). -/
def State.ckeyChecks (s : State) : List (Option (Nat × Nat)) :=
  (List.range 4).map (fun i =>
    if s.fld (Reg.NSE_CKEY i) Reg.NSE_CKEY_VALID = 1 then
      let k := s.fld (Reg.NSE_CKEY i) Reg.NSE_CKEY_SLOT
      some (k, (s.keySlot k).kcv)
    else none)

/-- The KCV of the AUTH_SLOT of each running PTP instance (R354). -/
def State.authChecks (s : State) : List (Option Nat) :=
  (List.range 8).map (fun i =>
    if s.fld (Reg.PTP_INST_STAT i) Reg.PTP_INST_STAT_STATE = 0 then none
    else (s.instAuthSlot i).map (fun k => (s.keySlot k).kcv))

/-- TWIN_CHECK_TX, every 1 s (R344, R354). -/
def execTwinCheckTx (t : Nat) (s : State) : Host.Outcome State Fault Refusal :=
  actAt t (fun s => s.twinPace 2 1250000000 (fun s => s.sendFrame (.check s.clockId s.ckeyChecks s.authChecks))) s

/-! ### The twin state -/

/-- HB_TIMEOUT in ticks (R346, R357). -/
def State.hbTicks (s : State) : Nat := min 1000 (max 3 (s.fld Reg.TWN_CFG Reg.TWN_CFG_HB_TIMEOUT)) * 1250000

/-- LINKPATH and HBPATH. -/
def State.linkPath (s : State) : Bool := s.fld Reg.TWN_STATUS Reg.TWN_STATUS_LINKPATH = 1
def State.hbPath (s : State) : Bool := s.fld Reg.TWN_STATUS Reg.TWN_STATUS_HBPATH = 1

/-- A path that is present reports FAILING, or the own SIDE. -/
def State.peerAny (s : State) (f : PeerSays → Bool) : Bool :=
  let on (present : Bool) (x : Option PeerSays) : Bool := present && (match x with | some y => f y | none => false)
  on s.linkPath s.twn.link || on s.hbPath s.twn.hb

/-- The twin enters a state with a cause: 0 NONE, 1 LINK, 2 HEARTBEAT, 3 PEER_FAILING, 4 SIDE, 5 HOST; the faults of the
state and the release of the line follow (R346, R348, R356, R357). -/
def State.setTwin (s : State) (st cause : Nat) : State :=
  let old := s.twinState
  if old = st then s
  else
    let a := Reg.TWN_STATUS
    let s := ((s.setFld a Reg.TWN_STATUS_STATE st).setFld a Reg.TWN_STATUS_CAUSE cause).journal 0x17 0x0040
      (natLe 1 old ++ natLe 1 st ++ natLe 1 cause)
    let s := if st = 1 then s.condOn 106 else s.condOff 106
    let s := if st = 3 then s.condOn 107 else s.condOff 107
    if st < 2 then s.twinRelease 1 else s

/-- The twin state by the first rule that applies (R346); a return from ALONE has its own event. -/
def State.twinEval (s : State) (cause : Nat) : State :=
  let s :=
    if !s.inTwin then s.setTwin 0 cause
    else if s.twinState = 1 then s
    else if s.peerAny (fun x => decide (x.side % 2 = s.twinSide)) then s.setTwin 1 4
    else if s.peerAny (fun x => x.failing) then s.setTwin 3 3
    else if !s.linkPath && !s.hbPath then s.setTwin 3 cause
    else if s.twinState = 3 then s
    else s.setTwin 2 cause
  let s := if s.twinState = 2 && s.linkPath != s.hbPath then s.condOn 108 else s.condOff 108
  let good := s.linkPath && s.hbPath && !s.peerAny (fun x => x.failing)
  s.modTwn (fun t => { t with bothFrom := if good then (if t.bothFrom.isNone then some s.tkp.rawcnt else t.bothFrom) else none })

/-- A path comes back or is lost: 0 link, 1 heartbeat (R356). -/
def State.setPath (s : State) (path : Nat) (on : Bool) : State :=
  let f := if path = 0 then Reg.TWN_STATUS_LINKPATH else Reg.TWN_STATUS_HBPATH
  if decide (s.fld Reg.TWN_STATUS f = 1) = on then s
  else (s.setFld Reg.TWN_STATUS f (bit on)).journal 0x17 0x0042 (natLe 1 path ++ natLe 1 (bit on))

/-- The answer of TWN_HANDOVER and its journal record (R350, R356). -/
def State.handoverEnd (s : State) (q status : Nat) : State :=
  (s.journal 0x17 0x0045 (natLe 1 status)).respond q 0x0600 status []

/-- A valid heartbeat on a path: what the peer says, TWN_PEER, the end of a handover, and the twin state (R346, R350, R357). -/
def State.heartbeat (s : State) (path alive : Nat) (x : PeerSays) : State :=
  let now := s.tkp.rawcnt
  let s := s.modTwn (fun t => if path = 0 then { t with link := some x, linkAt := some now } else { t with hb := some x, hbAt := some now })
  let s := s.setReg Reg.TWN_PEER (alive % 256 * 256 + x.ts % 8 * 16 + bit x.bound * 8 + x.auth % 4 * 2 + bit x.failing)
  let s := (s.setPath path true).twinEval (path + 1)
  match s.twn.handover with
  | some (q, at') =>
    if x.auth = 1 ∧ now < at' + 1250000000 then
      let s := s.modTwn (fun t => { t with handover := none })
      ({ s with ens := { s.ens with yieldTo := some (now + s.paramN 0x018 * 1250000) } } : State).handoverEnd q 0
    else s
  | none => s

/-- The label of the peer's last pulse: the first HEARTBEAT from 2 ms to 500 ms after it (R110). -/
def State.twinLabel (s : State) (second : Int) (firstDone : Bool) : State :=
  let r := s.track 17
  match r.lastPulse, r.hist with
  | some n, (_, x) :: _ =>
    let age := s.vcNow 0 - (n * fuSec + psToFu x)
    if s.twn.labelled = some n ∨ age < 2000000 * fuNs ∨ 500000000 * fuNs < age then s
    else
      let s := s.modTwn (fun t => { t with labelled := some n })
      if firstDone then s.modTrack 17 (fun r => { r with label := some (n, second) }) else s
  | _, _ => s

/-- What differs between the own check values and the peer's: item, own value and peer's value (R354, R356). -/
def State.checkDiffer (s : State) (clock : Nat) (ckey : List (Option (Nat × Nat))) (auth : List (Option Nat)) :
    List (Nat × Nat × Nat) :=
  let kcv (x : Option (Nat × Nat)) : Nat := match x with | some y => y.2 | none => 0
  (if clock = s.clockId then [] else [(0, s.clockId % 2 ^ 32, clock % 2 ^ 32)])
    ++ (List.range 4).filterMap (fun k =>
      let own := (s.ckeyChecks.getD k none)
      let peer := (ckey.getD k none)
      if own = peer then none else some (1 + k, kcv own, kcv peer))
    ++ (List.range 8).filterMap (fun i =>
      match s.authChecks.getD i none, auth.getD i none with
      | some own, some peer => if own = peer then none else some (5 + i, own, peer)
      | _, _ => none)

/-- A CHECK frame: each new difference is journaled, and TWN_KEY_MISMATCH lasts while there is one (R354, R356). -/
def State.checkRx (s : State) (clock : Nat) (ckey : List (Option (Nat × Nat))) (auth : List (Option Nat)) : State :=
  let now := s.checkDiffer clock ckey auth
  let old := s.twn.differ
  let s := s.modTwn (fun t => { t with differ := now })
  let s := now.foldl (fun s x => if old.contains x then s
    else s.journal 0x17 0x0044 (natLe 1 x.1 ++ natLe 4 x.2.1 ++ natLe 4 x.2.2)) s
  if now = [] then s.condOff 111 else s.condOn 111

/-- The frame is the second lane's copy of one that was taken, or an older one (R344). -/
def State.staleFrame (s : State) (f : TwinFrame) : Bool :=
  match s.twn.rxLast with
  | some (a, b) => decide (f.start < a) || (decide (f.start = a) && decide (f.count ≤ b))
  | none => false

/-- TWIN_FRAME_RX (R344, R346, R354). -/
def execTwinFrameRx (frame : TwinFrame) (authentic crcOk : Bool) (t : Nat) (s : State) : Host.Outcome State Fault Refusal :=
  actAt t (fun s =>
    if !s.inTwin || !s.linkKey then s
    else if !authentic then s.incFld Reg.TWN_CNT Reg.TWN_CNT_AUTH_FAIL 1
    else if s.staleFrame frame then s
    else
      let (b, s) := s.fresh
      let s := ((s.macBlocks b).modTwn (fun t => { t with rxLast := some (frame.start, frame.count) })).snoop 3 0 0 crcOk frame.count
      match frame.msg with
      | .heartbeat x second fd => (s.twinLabel second fd).heartbeat 0 frame.count x
      | .bound o => s.modTwn (fun t => { t with peerBound := some (leNat (o.take 6)) })
      | .check c k a => s.checkRx c k a
      | .handover => s) s

/-! ### The heartbeat pins -/

/-- The word on TWIN_HB_TX (R345). -/
def hbWord (x : PeerSays) (alive : Nat) : Nat :=
  let v := 0xA5 * 2 ^ 16 + x.side % 2 * 2 ^ 15 + x.auth % 4 * 2 ^ 13 + bit x.failing * 2 ^ 12 + x.ts % 8 * 2 ^ 9 + bit x.bound * 2 ^ 8 + alive % 256
  v * 256 + crc8 (natBe 3 v)

/-- HB_WORD_TX, every 1 ms (R345). -/
def execHbWordTx (t : Nat) (s : State) : Host.Outcome State Fault Refusal :=
  actAt t (fun s =>
    if s.inTwin then s.twinPace 3 1250000 (fun s => s.modTwn (fun t => { t with txWord := hbWord s.peerReport t.txAlive, txAlive := (t.txAlive + 1) % 256 })) else s) s

/-- HB_WORD_RX: a bad CRC or an alive counter equal to the one before discards the word (R345). -/
def execHbWordRx (word t : Nat) (s : State) : Host.Outcome State Fault Refusal :=
  actAt t (fun s =>
    let w := word % 2 ^ 32
    let alive := getBits w 8 8
    if !s.inTwin || decide (getBits w 24 8 ≠ 0xA5) || decide (crc8 (natBe 3 (w / 256)) ≠ w % 256)
        || decide (s.twn.hbAlive = some alive) then s
    else
      (s.modTwn (fun t => { t with hbAlive := some alive })).heartbeat 1 alive
        ⟨getBits w 23 1, getBits w 21 2, decide (getBits w 20 1 = 1), getBits w 17 3, decide (getBits w 16 1 = 1)⟩) s

/-- PATH_TIMEOUT: no valid heartbeat for HB_TIMEOUT; without its key the link path is lost at once (R346). -/
def execPathTimeout (t : Nat) (s : State) : Host.Outcome State Fault Refusal :=
  actAt t (fun s =>
    let silent (present : Bool) (at' : Option Nat) : Bool := present && decide (at'.getD 0 + s.hbTicks ≤ s.tkp.rawcnt)
    let lostL := silent s.linkPath s.twn.linkAt || (s.linkPath && !s.linkKey)
    let lostH := silent s.hbPath s.twn.hbAt
    let s := if lostL then (s.setPath 0 false).twinEval 1 else s
    if lostH then (s.setPath 1 false).twinEval 2 else s) s

/-- TWIN_REPAIR: both paths have been present for 1 s with no FAILING report (R346). -/
def execTwinRepair (t : Nat) (s : State) : Host.Outcome State Fault Refusal :=
  actAt t (fun s =>
    match s.twn.bothFrom with
    | some b => if s.twinState = 3 ∧ b + 1250000000 ≤ s.tkp.rawcnt then s.setTwin 2 0 else s
    | none => s) s

/-! ### TWIN_LOCK -/

/-- TWIN_LOCK_CLAIM: the line has been high without a break for the claim delay, 20 µs, and 20 µs more on engine 1 (R347). -/
def execTwinLockClaim (line : LineHigh) (s : State) : Host.Outcome State Fault Refusal :=
  actAt line.t (fun s =>
    if s.twn.claim && !s.twn.pull && s.mayClaim && decide (25000 * (1 + s.twinSide) ≤ line.high) then (s.modTwn (fun t => { t with pull := true })).setAuth 3 0 else s) s

/-- A sample of the line in the engine's own window: a conflict, or the confirmation (R347). -/
def State.lockSample (s : State) (low : Bool) : State :=
  if low then
    let s := (s.setFld Reg.TWN_STATUS Reg.TWN_STATUS_CONFLICT 1).incFld Reg.TWN_CNT Reg.TWN_CNT_LOCK_CONFLICT 1 |>.raise 109
    if s.twinSide = 1 then (s.modTwn (fun t => { t with pull := false })).setAuth 2 2 else s
  else if s.twinAuth = 3 then s.setAuth 1 0 else s

/-- TWIN_LOCK_CHECK: each engine samples the line once per VC0 millisecond, 1.5 µs into its own window of 2 µs, which begins with the
millisecond on engine 0 and 500 µs into it on engine 1. A claiming or holding engine finds a conflict or its confirmation; for
another, AUTH shows the level (R347, R357). -/
def execTwinLockCheck (low : Bool) (t : Nat) (s : State) : Host.Outcome State Fault Refusal :=
  actAt t (fun s =>
    let d := s.vcNow 0 - (1500 + 500000 * (s.twinSide : Int)) * fuNs
    let ms := d / (fuSec / 1000)
    if 500 * fuNs < d % (fuSec / 1000) ∨ s.twn.lockMs = some ms then s
    else
      let s := (s.modTwn (fun t => { t with lockMs := some ms })).setFld Reg.TWN_STATUS Reg.TWN_STATUS_LOCK_IN (bit (!low))
      if s.twn.pull then s.lockSample low else s.setAuth (if low then 2 else 0) (if low then 0 else 1)) s

/-! ### The handover -/

/-- TWN_HANDOVER: 1 NOT_HOLDER, 2 PEER_UNAVAILABLE; else it completes later (R350). -/
def execTwnHandover (q : Nat) (s : State) : Host.Outcome State Fault Refusal :=
  act (fun s => s.hostCmd q 0x0600 (fun s =>
    let fit := match s.peerSays with
      | some x => peerFit x
      | none => false
    if !s.holder then s.handoverEnd q 1
    else if s.twinState ≠ 2 ∨ fit = false then s.handoverEnd q 2
    else
      let s := ((s.sendFrame .handover).twinRelease 3).setFld Reg.TWN_STATUS Reg.TWN_STATUS_YIELD 1
      s.modTwn (fun t => { t with handover := some (q, s.tkp.rawcnt) }))) s

/-- HANDOVER_TIMEOUT: the peer has not reported HOLDER within 1 s; 3 REFUSED_BACK (R350). -/
def execHandoverTimeout (t : Nat) (s : State) : Host.Outcome State Fault Refusal :=
  actAt t (fun s =>
    match s.twn.handover with
    | some (q, at') =>
      if at' + 1250000000 ≤ s.tkp.rawcnt then
        let s := (s.modTwn (fun t => { t with handover := none })).setFld Reg.TWN_STATUS Reg.TWN_STATUS_YIELD 0
        (if s.mayClaim then s.modTwn (fun t => { t with claim := true }) else s).handoverEnd q 3
      else s
    | none => s) s

/-- YIELD_HOLD_END (R349, R350). -/
def execYieldHoldEnd (t : Nat) (s : State) : Host.Outcome State Fault Refusal :=
  actAt t (fun s =>
    match s.ens.yieldTo with
    | some x =>
      if x ≤ s.tkp.rawcnt then
        ({ s with ens := { s.ens with yieldTo := none } } : State).setFld Reg.TWN_STATUS Reg.TWN_STATUS_YIELD 0
      else s
    | none => s) s

/-! ### Configuration -/

/-- CFG_REJ of the island. -/
def State.twnRej (s : State) : State := s.setFld Reg.TWN_ISL_STATUS Reg.TWN_ISL_STATUS_CFG_REJ 1

/-- The effect of a write of TWN_CFG (R346, R351, R357, R502). EN going to 1 starts with no path present; EN going to 0 ends
DETACHED. -/
def State.twnCfg (s : State) (data : Nat) : State :=
  let a := Reg.TWN_CFG
  let on := s.inTwin
  let side := getBits data 1 1
  let svc := getBits data 8 8
  let s' := s.setReg a (setBits (data % 2 ^ 32) 2 6 0)
  if on && (side != s.twinSide || svc != s.fld a Reg.TWN_CFG_SVC_PORTS) then s.twnRej
  else if !on && data % 2 == 1 && (List.range 8).any (fun p => decide (getBits svc p 1 = 1) && s.prpOn p) then s.twnRej
  else if on = decide (data % 2 = 1) then s'
  else
    let s := s'.setReg Reg.TWN_STATUS (setBits (setBits (s.reg Reg.TWN_STATUS) 8 2 0) 11 1 0)
    let s := s.modTwn (fun t => { t with linkAt := none, hbAt := none, link := none, hb := none, peerBound := none, hbAlive := none
                                         rxLast := none, bothFrom := none, differ := [], sent := [], boundSpan := none })
    let s := (((s.condOff 111).condOff 126).condOff 127)
    let s := if on then s else s.setReg Reg.TWN_CNT 0
    s.twinEval 5

end Sys2Proof.Machine
end

