-- ==== Sys2Proof/Machine/Pwr.lean ====
section
/-! DEFINITION. Rails, reset classes, the start sequence, MRAM commits, the thermal monitor and the scrub of the
triplicated registers (R179, R402, R428 to R437, R443 to R448). -/

namespace Sys2Proof.Machine

/-! ### What a reset keeps -/

/-- The register at `a` keeps its value through a reset of class 1 POWER, 2 SYS or 3 WARM: the keep-alive island's in every
class; SYS, TKP, TDC, ENS, SYN, PWR and CLK, the PCIe link and the DRAM training in class WARM (R431, R447, R480). -/
def keepReg (cls a : Nat) : Bool :=
  decide (a = Reg.PWR_RSTCAUSE) || decide (Reg.KEY_TAMP_CFG 0 ≤ a ∧ a ≤ Reg.KEY_TAMP_CFG 4) || decide (a = Reg.KEY_TAMP_STAT)
    || decide (a = Reg.KEY_KA_TIME)
    || (decide (cls = 3) && ([0x4000, 0x4001, 0x4002, 0x4004, 0x4005, 0x4033, 0x4034].contains (a / 0x10000)
      || decide (a = Reg.HIF_LINK) || decide (a = Reg.BUS_DRAM)))

/-- The fault conditions that last through a reset: the temperature; in class WARM also those of the synthesizers, the PCIe
link, the rails, the clocks and the TDC's DLL (R447, R505). -/
def State.keepCond (s : State) (cls : Nat) : List Nat :=
  s.flt.cond.filter (fun n => decide (n = 82)
    || (decide (cls = 3) && (decide (53 ≤ n ∧ n ≤ 60) || [79, 80, 83, 84, 85, 90].contains n)))

/-- The TDC through a WARM reset: SEQ and skew values stay, enables, claims and queues do not (R447). -/
def State.tdcWarm (s : State) : State :=
  let s := (List.range 32).foldl (fun s c => if s.chanEn c || decide ((s.chan c).owner ≠ 0) then s.releaseChan c else s) s
  { s with tdc := { s.tdc with chan := s.tdc.chan.map (fun x => (x.1, { x.2 with fifo := [] }))
                               qPod1 := [], qEau := [], qTel := [], qOwn := [] } }

/-- The engine with everything reset that a class resets (R447). The PTP engine's grants go with its instances, also those whose records lie in
DRAM, which a WARM reset keeps (DESIGN CHOICE, notes/assumptions/171). -/
def State.resetAll (s : State) (cls : Nat) : State :=
  let warm := decide (cls = 3)
  let keep (l : Tab Nat) : Tab Nat := l.filter (fun x => keepReg cls x.1)
  let r := State.reset
  let clk : ClkState := if warm then { s.clk with starting := true, tamper := false, test := false }
    else { r.clk with kaValid := s.clk.kaValid, temp := s.clk.temp }
  { r with
    regs := keep s.regs, upset1 := keep s.upset1, upset2 := keep s.upset2
    tkp := if warm then s.tkp else r.tkp, tdc := if warm then s.tdc else r.tdc
    bound := if warm then s.bound else r.bound, syn := if warm then s.syn else r.syn
    dram := if warm then s.dram else r.dram
    nse := { r.nse with ledger := if warm then s.nse.ledger else [] }
    clk := clk, mram := ⟨s.mram.pairs, [], false⟩, key := { s.key with slots := [], rbgFail := false, sgn := [] }
    flt := { r.flt with cond := s.keepCond cls, errLow := decide (cls ≠ 1) && (s.flt.fatalLow || s.flt.raised.any (fun n => decide (n = 105 ∨ n = 121)))
                      }
    hif := { r.hif with mem := s.hif.mem, gpio := s.hif.gpio, hold := keep s.hif.hold, staged := keep s.hif.staged }
    flash := s.flash, tap := s.tap, free := s.free, pending := s.pending }

/-- A reset of class 1 POWER, 2 SYS or 3 WARM by a trigger: PWR_RSTCAUSE names it, the vault goes SEALED unless it stays
ZEROED, C3 pending sources, and FATAL_N and ERR_N with them, end with POWER alone, and a start sequence waits (R334, R423, R447, R448). -/
def State.resetClass (s : State) (cls trig : Nat) : State :=
  let s := if cls = 3 then ((List.range 8).foldl (fun s p => s.cancelAll p) s).tdcWarm else s
  let old := s
  let s := (s.resetAll cls).setReg Reg.PWR_RSTCAUSE (trig * 16 + cls)
  let s := s.setReg Reg.PWR_BOOT 0
  let s := if cls = 1 then s
    else ([105, 121].foldl (fun s n => if old.fltPend n || old.flt.raised.contains n then s.setPend n true else s) s).fltPins
  let s := if cls = 3 then s.setFld Reg.SYS_SNAP Reg.SYS_SNAP_GO 0
    else
      let s := s.setFld Reg.CLK_STATUS Reg.CLK_STATUS_LO_STOPPED (old.fld Reg.CLK_STATUS Reg.CLK_STATUS_LO_STOPPED)
      let s := s.setFld Reg.CLK_TRIM Reg.CLK_TRIM_SLOW (old.fld Reg.CLK_TRIM Reg.CLK_TRIM_SLOW)
      let s := if cls = 2 then s.setFld Reg.CLK_TRIM Reg.CLK_TRIM_FAST (old.fld Reg.CLK_TRIM Reg.CLK_TRIM_FAST) else s
      if tempOut s.clk.temp then s.boundIn (.l3 2 true) else s
  if old.vault = 3 ∧ cls ≠ 1 then
    (s.setFld Reg.KEY_STATUS Reg.KEY_STATUS_VAULT 3).setFld Reg.KEY_STATUS Reg.KEY_STATUS_CAUSE 2
  else if old.vault = 0 then s
  else s.jKey 0x0033 (natLe 1 old.vault ++ [0, 4])

/-! ### The triggers -/

/-- POWER_ON (R429, R446). -/
def execPowerOn (s : State) : Host.Outcome State Fault Refusal := act (fun s => s.resetClass 1 0) s
/-- VDD_RESET (R433). -/
def execVddReset (s : State) : Host.Outcome State Fault Refusal := act (fun s => s.resetClass 1 1) s
/-- VDDA_RESET: the timebase stops with the SYS-class reset (R433). -/
def execVddaReset (s : State) : Host.Outcome State Fault Refusal := act (fun s => s.resetClass 2 2) s
/-- RESET_N (R446). -/
def execResetN (s : State) : Host.Outcome State Fault Refusal := act (fun s => s.resetClass 2 3) s

/-- PWRGOOD_FALL: no further MRAM record is started (R430). -/
def execPwrgoodFall (s : State) : Host.Outcome State Fault Refusal :=
  act (fun s =>
    if s.clk.up then
      let s := s.mramDefer
      ({ s with clk := { s.clk with pgFell := true } } : State).setFld Reg.PWR_STATUS Reg.PWR_STATUS_PWRGOOD 0
    else s) s

/-- PWRGOOD_RESET: 150 µs after the fall (R430). -/
def execPwrgoodReset (s : State) : Host.Outcome State Fault Refusal :=
  act (fun s => if s.clk.pgFell then s.resetClass 2 4 else s) s

/-- PWR_RESET: KEY 0x5752 with GO from HOST or SPIM resets; a wrong KEY or another master sets CFG_REJ (R446, R448). -/
def State.pwrResetAct (s : State) (m data : Nat) : State :=
  let key := data / 65536 % 65536
  if m ≤ 1 ∧ key = 0x5752 then (if data % 2 = 1 then s.resetClass 3 5 else s)
  else s.setFld Reg.PWR_ISL_STATUS Reg.PWR_ISL_STATUS_CFG_REJ 1

/-- PWR_RESET (R446). -/
def execPwrReset (m : Master) (data : Nat) (s : State) : Host.Outcome State Fault Refusal :=
  act (fun s => s.pwrResetAct m data) s

/-- PERST: the PCIe controller is reset and EN of all rings cleared; a read or a write burst of HOST that it cuts short is
completed by its gasket (R386, R409, R416). -/
def execPerst (burst : Bool) (s : State) : Host.Outcome State Fault Refusal :=
  act (fun s =>
    let s := (List.range 4).foldl (fun s r => s.setFld (Reg.HIF_RING_CFG r) Reg.HIF_RING_CFG_EN 0) s
    let s := ((s.setReg Reg.HIF_LINK 0).setReg Reg.PWR_RSTCAUSE 0x64).condOn 79
    if burst then (s.setFld Reg.BUS_ISL_STATUS Reg.BUS_ISL_STATUS_MABORT 1).raise 76 else s) s

/-- KA_RESET: the keep-alive island alone (R431). -/
def execKaReset (s : State) : Host.Outcome State Fault Refusal :=
  act (fun s =>
    let s := ({ s with clk := { s.clk with kaValid := false }, key := { s.key with log := [], runs := List.replicate 5 0 } } : State)
    let s := (s.setReg Reg.PWR_RSTCAUSE 0).setReg Reg.KEY_KA_TIME 0
    let s := (List.range 5).foldl (fun s n => s.setReg (Reg.KEY_TAMP_CFG n) (resetVal (Reg.KEY_TAMP_CFG n))) s
    let s := (s.setReg Reg.KEY_TAMP_STAT 0).setPins s.key.pins
    let s := s.setFld Reg.CLK_STATUS Reg.CLK_STATUS_LO_STOPPED 1
    let s := s.setFld Reg.CLK_TRIM Reg.CLK_TRIM_SLOW 2048
    if s.clk.up then s.setFld Reg.PWR_STATUS Reg.PWR_STATUS_KA_LOST 1 else s) s

/-! ### Rails -/

/-- The field of PWR_DIPCNT of a rail: 0 VDD, 1 VDDA, 2 VKA. -/
def dipFld (rail : Nat) : Fld := ⟨8 * rail, 8⟩

/-- An edge of a warning shows to every Pod as event POWER (R371). -/
def State.powerEvent (s : State) : State :=
  (List.range 8).foldl (fun s p => s.modPod p (fun q => { q with events := setBits q.events 7 1 1 })) s

/-- A rail is under warning. -/
def State.railWarned (s : State) (rail : Nat) : Bool := getBits (s.reg Reg.PWR_STATUS) rail 1 = 1

/-- RAIL_WARNING (R432). -/
def execRailWarning (rail : Fin 3) (t : Nat) (s : State) : Host.Outcome State Fault Refusal :=
  actAt t (fun s =>
    if !s.clk.up || s.railWarned rail then s
    else
      let first := !s.pwrWarn
      let s := (if s.pwrWarn then s.raise 80 else s.condOn 80).mramDefer
      let s := s.setReg Reg.PWR_STATUS (setBits (s.reg Reg.PWR_STATUS) rail 1 1)
      let s := (s.incFld Reg.PWR_DIPCNT (dipFld rail) 1).powerEvent
      let s := if first then s.journal 0 0x0022 [0] else s
      if rail.val = 1 then (s.modBound (fun b => { b with vdipEnd := none })).boundIn (.l3 1 true) else s) s

/-- RAIL_WARNING_END: deferred records start; Pod 0 clears FREEZE with the last warning; the VDDA term lasts 10 s more
(R171, R179, R432). -/
def execRailWarningEnd (rail : Fin 3) (t : Nat) (s : State) : Host.Outcome State Fault Refusal :=
  actAt t (fun s =>
    if !s.railWarned rail then s
    else
      let s := (s.setReg Reg.PWR_STATUS (setBits (s.reg Reg.PWR_STATUS) rail 1 0)).powerEvent
      let s := if s.pwrWarn then s else s.journal 0 0x0022 [1]
      let s := if rail.val = 1 then s.modBound (fun b => { b with vdipEnd := some (s.vcNow 0 + 10 * fuSec) }) else s
      if s.pwrWarn then s
      else
        let s := s.condOff 80
        if s.runsResident 0 then s.setFld Reg.ENS_HOLD Reg.ENS_HOLD_FREEZE 0 else s) s

/-- THERM_RANGE (R179). -/
def execThermRange (temp : Int) (t : Nat) (s : State) : Host.Outcome State Fault Refusal :=
  actAt t (fun s => if tempOut temp then ((s.setTemp temp).condOn 82).boundIn (.l3 2 true) else s) s

/-- THERM_RANGE_END (R179). -/
def execThermRangeEnd (temp : Int) (t : Nat) (s : State) : Host.Outcome State Fault Refusal :=
  actAt t (fun s => if tempOut temp then s else ((s.setTemp temp).condOff 82).boundIn (.l3 2 false)) s

/-! ### MRAM -/

/-- The first record that waits is written and its commands complete, or it reads back wrong and waits for another try
(R436, R437). -/
def State.mramStep (s : State) (good : Bool) : State :=
  match s.mram.queue with
  | [] => s
  | r :: rest =>
    let p := s.mramPair r.rid
    let put (s : State) (p : MramPair) (q : List MramReq) : State :=
      { s with mram := ⟨tabSet ⟨none, none⟩ s.mram.pairs r.rid p, q, false⟩ }
    if good then
      let p := p.write r.val
      let seq := match p.inForce with | some x => x.1 | none => 0
      let s := (put s p rest).snoop 5 0 r.rid true (seq % 256) (some (seq % 256))
      r.resp.foldl (fun s x => s.respond x.1 x.2.1 0 x.2.2) s
    else (put s p.spoil (r :: rest)).raise 119

/-- MRAM_COMMIT (R436, R437). -/
def execMramCommit (good : Bool) (s : State) : Host.Outcome State Fault Refusal :=
  act (fun s => if s.mramStarted then s.mramStep good else s) s

/-! ### The start sequence -/

/-- Boot ends with a status that only a reset leaves (R445). -/
def State.bootHalt (s : State) (status : Nat) : State :=
  ({ s with clk := { s.clk with starting := false } } : State).setFld Reg.PWR_BOOT Reg.PWR_BOOT_STATUS status

/-- A checkpoint is passed (R445). -/
def State.passed (s : State) (cp : Nat) : State := s.setFld Reg.PWR_BOOT Reg.PWR_BOOT_STAGE cp

/-- The kind of a start: 0 cold, 1 warm start, 2 warm reset (R443). -/
def State.startKind (s : State) : Nat :=
  if !s.clk.kaValid then 0 else if s.fld Reg.PWR_RSTCAUSE Reg.PWR_RSTCAUSE_CLASS = 3 then 2 else 1

/-- Reset is released: the straps are sampled, and a reset by a monitor is reported (R429, R433, R449, R477). -/
def State.bootRelease (s : State) (gpio : Nat) : State :=
  let trig := s.fld Reg.PWR_RSTCAUSE Reg.PWR_RSTCAUSE_TRIGGER
  let s := if !s.clk.up && (decide (trig = 1) || decide (trig = 2)) then s.raise 81 else s
  let s := { s with clk := { s.clk with up := true, kind := s.startKind }, hif := { s.hif with gpio := gpio } }
  (s.setFld Reg.CLK_CFG Reg.CLK_CFG_LOFREQ gpio).setFld Reg.SYS_REMAP Reg.SYS_REMAP_SWAP 0

/-- The TBP has locked: RAWCNT counts from 0, and the skew calibration of every channel begins (R59, R100). -/
def State.bootLock (s : State) : State :=
  let s := { s with tkp := { s.tkp with rawcnt := 0 }, clk := { s.clk with counts := true } }
  let s := s.setFld Reg.CLK_STATUS Reg.CLK_STATUS_TBP 2
  { s with tdc := { s.tdc with skewRun := true, skewChans := 2 ^ 32 - 1 } }

/-- The record START and the first DSEQ of the start (R187). -/
def State.bootJournal (s : State) : State :=
  let (last, new, era, none') : Nat × Nat × Nat × Nat := match s.mramNums ridJrn [] with
    | [d, e] => (d, (d + 257) % 2 ^ 32, (e + (d + 257) / 2 ^ 32) % 65536, 0)
    | _ => (0, 0, 0, 1)
  let s := (s.setReg Reg.JRN_ERA era).modJrn (fun j => { j with next := new })
  let (r, s) := s.jrnOwn (s.vcNow 0) 0x0001 (natLe 2 s.clk.kind ++ natLe 4 last ++ natLe 4 new ++ natLe 2 era ++ natLe 1 none')
  (s.modJrn (fun j => { j with start := some r })).mramAsk ridJrn (.nums [new, era]) []

/-- The tamper log goes to the journal and is cleared (R338, R340). -/
def State.bootTamperLog (s : State) : State :=
  let ka := s.reg Reg.KEY_KA_TIME
  let ovf := s.fld Reg.KEY_TAMP_STAT Reg.KEY_TAMP_STAT_LOG_OVF
  let s := s.key.log.foldl (fun s e => s.jKey 0x0034 (natLe 1 e.input ++ natLe 1 e.cls ++ natLe 6 e.ka
    ++ natLe 1 (bit e.railsUp) ++ natLe 6 ka ++ natLe 1 ovf)) s
  let s := { s with key := { s.key with log := [] } }
  let s := s.setFld Reg.KEY_TAMP_STAT Reg.KEY_TAMP_STAT_LOGCNT 0
  (s.setFld Reg.KEY_TAMP_STAT Reg.KEY_TAMP_STAT_LOG_OVF 0).setFld Reg.KEY_TAMP_STAT Reg.KEY_TAMP_STAT_ALARMED 0

/-- CP1: the keep-alive state, the tamper configuration from MRAM when it is invalid, and the tamper log (R337, R338). -/
def State.bootCp1 (s : State) : State :=
  let s := s.kaNow.bootJournal
  let s := match s.clk.kaValid, s.mramNums ridTamper [] with
    | false, [a, b, c, d, e] => ([(0, a), (1, b), (2, c), (3, d), (4, e)].foldl (fun (s : State) (x : Nat × Nat) =>
        s.setReg (Reg.KEY_TAMP_CFG x.1) x.2) s).setPins s.key.pins
    | _, _ => s
  s.bootTamperLog

/-- The policy record, and the root read or generated (R330, R336). -/
def State.bootRoot (s : State) : State :=
  let s := match s.mramNums ridPolicy [0, 0] with
    | [a, b] => (s.setFld Reg.KEY_STATUS Reg.KEY_STATUS_SIGNED_ADMIN a).setFld Reg.KEY_STATUS Reg.KEY_STATUS_KALOCK b
    | _ => s
  let s := if s.key.root.isNone then s.newRoot else s.setReg (Reg.KEY_SLOT_META 0) (metaWord 0 0 1 0 0 0)
  let s := s.setFld Reg.KEY_STATUS Reg.KEY_STATUS_RCOUNT s.key.rcount
  (s.setFld Reg.KEY_STATUS Reg.KEY_STATUS_ROOT_NEW (bit s.key.rootNew)).passed 2

/-- DRAM is trained in full, or by the stored training where its verification passes, and zeroed, and the Placer's region is laid out (R31, R411, R474). -/
def State.bootDram (s : State) (verified : Bool) (c0 c1 gpio : Nat) : State :=
  let gen := gpio / 4 % 2
  let code := gpio / 8 % 8
  let code := if code ≤ (if gen = 0 then 4 else 3) then code else 0
  let total := (c0 + c1) * 2 ^ 30
  let cap := min 16777216 (total / 2 / 256)
  let base := (dramBase + total - (cap * 256 + 2 ^ 26)) / 2 ^ 20
  let s := { s with dram := [] }
  let s := s.setReg Reg.BUS_DRAM (gen * 2 ^ 63 + code * 2 ^ 60 + c0 * 2 ^ 54 + c1 * 2 ^ 48 + base * 2 ^ 20)
  if s.clk.kind = 0 ∨ verified = false ∨ s.mramRec ridTraining = none then s.mramAsk ridTraining (.nums [c0, c1]) [] else s

/-- PLC_LEDGER_CAP follows the installed DRAM (R31). -/
def State.bootLedger (s : State) : State := s.setReg Reg.PLC_LEDGER_CAP (min 16777216 (s.dramSize / 2 / 256))

/-- CP4: the vault's state (R334). -/
def State.bootVault (s : State) : State :=
  if s.fld Reg.KEY_TAMP_STAT Reg.KEY_TAMP_STAT_LATCH_B = 1 then s.clearStore.setVault 2 1
  else if s.clk.kind = 0 ∧ s.fld Reg.KEY_STATUS Reg.KEY_STATUS_KALOCK = 1 then s.clearStore.setVault 2 3
  else s.setVault 1 0

/-- Pod 0 restores its committed state, or clears it in a cold start; the holdover model of a warm reset is the one in the
ENS_HM registers (R145, R147, R447). -/
def State.bootEns (s : State) : State :=
  let s := if s.clk.kind = 0 then { s with mram := { s.mram with pairs := tabErase s.mram.pairs ridEns } } else s
  match s.mramRec ridEns with
  | some (.ens v) =>
    let t0 := gtSec (gtOfRaw (s.reg Reg.ENS_HM_T0))
    let l2 := if s.bound.grow then s.reg Reg.ENS_HM_L2E else s.bound.l2held
    let s := s.modEns (fun e => { e with
      mem := v.mem, integ := v.integ, integ1 := v.integ1, everLocked := v.everLocked, iH := v.integ
      dH := fpToRat (s.word Reg.ENS_HM_DH), tH := t0, tI := t0, tFree := t0, l2 := l2, l2e := l2, grow := s.bound.grow
      hmC2 := fpToRat (s.word Reg.ENS_HM_C2), hmC4 := fpToRat (s.word Reg.ENS_HM_C4), commitAt := s.vc0Sec })
    let s := (s.setReg Reg.ENS_LEARN v.learn).setFld Reg.ENS_TS Reg.ENS_TS_LEARNED (bit v.learned)
    let s := (List.range 8).foldl (fun s i => s.setReg (Reg.ENS_MEM_STAT i) (v.stat.getD i 0)) s
    if s.firstDone 0 then s.setTs (if v.learned then 3 else 0) 2 else s.setTs 0 1
  | _ => if s.firstDone 0 then s.setTs 0 2 else s.setTs 0 1

/-- The resident set is loaded and started, and its programs restore what MRAM keeps for them (R51, R181, R241, R444). -/
def State.bootResident (s : State) (vis : List Nat) : State :=
  let s := (List.range 5).foldl (fun s p =>
    let s := s.podResident p
    match (s.pod p).image with
    | some i => s.podRun p i
    | none => s) s
  let s := s.setFld Reg.ONION_STAT Reg.ONION_STAT_CAL_EPOCH ((s.mramNums ridCalEpoch [0]).headD 0)
  let s := match s.mramRec ridKept with
    | some (.kept k) => s.modGns (fun g => { g with kept := k })
    | _ => s
  let s := (s.bootEns).gnStart vis
  (s.modBound (fun b => { b with l4 := [] })).l4Journal (s.vcNow 0)

/-- CP4 and what follows it, the seed of the mesh among it (R330, R335, R337, R410, R431, R444). -/
def State.bootCp4 (s : State) (vis : List Nat) : State :=
  let s := s.bootVault
  let (n, s) := State.random 12 s
  let (m, s) := s.fresh
  let s := { s with key := { s.key with mesh := max 1 (m % 2 ^ 31) } }
  let s := (s.setReg Reg.KEY_CHAL (leNat n * 2 ^ 32)).setFld Reg.SYS_REMAP Reg.SYS_REMAP_SWAP 1
  let s := { s with clk := { s.clk with kaValid := true, starting := false } }
  let s := s.setFld Reg.CLK_STATUS Reg.CLK_STATUS_LO_STOPPED 0
  ((s.passed 4).setFld Reg.PWR_BOOT Reg.PWR_BOOT_STATUS 1).bootResident vis

/-- The rest of a start once CP3 is passed: DRAM, unless a warm reset keeps it, and CP4 (R31, R444). -/
def State.bootLate (s : State) (env : BootEnv) : State :=
  let c0 := min 16 env.dram0
  let c1 := min 16 env.dram1
  if s.clk.kind = 2 then s.bootLedger.bootCp4 env.vis
  else if !env.train then s.bootHalt 8
  else if c0 + c1 < 4 then s.bootHalt 9
  else (s.bootDram env.verified c0 c1 env.gpio).bootLedger.bootCp4 env.vis

/-- A slot of MRAM, A or B of a pair, whose CRC fails at this start: it is not committed. A Husk without another committed slot stays as one
that cannot be read (R329, R435). -/
def State.mramBad (s : State) (x : Nat × Bool) : State :=
  let p := s.mramPair x.1
  let bad (v w : Option (Nat × MramVal)) : Option (Nat × MramVal) := match v, w with
    | some (n, .husk h), none => some (n, .husk { h with good := false })
    | _, _ => none
  let q : MramPair := if x.2 then { p with a := bad p.a p.b } else { p with b := bad p.b p.a }
  { s with mram := { s.mram with pairs := tabSet ⟨none, none⟩ s.mram.pairs x.1 q } }

/-- From the TBP's lock on: the checkpoints CP1 to CP4. A tamper alarm of the start, or a class A alarm since the last power
cycle of VDD, halts at CP1 (R331, R338, R443 to R445). -/
def State.bootOn (s : State) (env : BootEnv) : State :=
  let s := (env.bad.foldl State.mramBad s).bootCp1
  if s.clk.tamper || decide (s.vault = 3) then s.bootHalt 7
  else
    let s := s.passed 1
    if !env.mram then s.bootHalt 5
    else if s.key.root.isNone && !env.rbg then
      (({ s with key := { s.key with rbgFail := true } } : State).condOn 103).bootHalt 6
    else (s.bootRoot.unwrapAll.passed 3).bootLate env

/-- The VC parameters, RAWCNT and the TDC's counts, calibrations and skew flags as a start that stops the timebase leaves them: also a
WARM reset does, where the keep-alive state has become invalid (R59, R68, R89, R98, R99, R443). -/
def State.tkpStart (s : State) : State :=
  { s with tkp := State.reset.tkp, tdc := State.reset.tdc, regs := s.regs.filter (fun x => decide (x.1 / 0x10000 ≠ 0x4001))
           upset1 := s.upset1.filter (fun x => decide (x.1 / 0x10000 ≠ 0x4001))
           upset2 := s.upset2.filter (fun x => decide (x.1 / 0x10000 ≠ 0x4001)) }

/-- START_SEQUENCE: the start that waits runs until it halts, waits for LO or the TBP, or passes CP4 (R443 to R445). -/
def State.startSequence (s : State) (env : BootEnv) : State :=
  let s := s.bootRelease env.gpio
  if s.clk.tamper then s.bootHalt 7
  else if !env.rom then s.bootHalt 2
  else if s.clk.kind = 2 then s.bootOn env
  else
    let count := decide (s.clk.kind = 0) || decide (s.fld Reg.CLK_STATUS Reg.CLK_STATUS_LO_STOPPED = 1)
    let s := s.tkpStart
    if count && !env.lo then
      (s.setFld Reg.CLK_STATUS Reg.CLK_STATUS_TBP 0).setFld Reg.PWR_BOOT Reg.PWR_BOOT_STATUS 3
    else if !env.tbp then
      (s.setFld Reg.CLK_STATUS Reg.CLK_STATUS_TBP 1).setFld Reg.PWR_BOOT Reg.PWR_BOOT_STATUS 4
    else (s.setFld Reg.PWR_BOOT Reg.PWR_BOOT_STATUS 0).bootLock.bootOn env

/-- START_SEQUENCE: reset is released. TEST_MODE high at that moment holds every main-rail island in reset until the next release, and nothing
starts (R443, R444, R478). -/
def execStartSequence (env : BootEnv) (s : State) : Host.Outcome State Fault Refusal :=
  act (fun s =>
    if !s.clk.starting then s
    else if env.test then { s with clk := { s.clk with starting := false, up := false, test := true } }
    else s.startSequence env) s

/-! ### The scrub of triplicated registers -/

/-- The triplicated bits of a register and the source of its island's vote (R402). -/
def triplicated (a : Nat) : Option (Nat × Nat) :=
  let isl := a / 0x10000
  if isl = 0x4001 then
    if a = Reg.TKP_STEP_PERMIT then some (0xFF, 71)
    else
      let o := a % 0x80
      if a < Reg.TKP_VC_OFFSET 0 ∨ Reg.TKP_VC_OFFSET 8 ≤ a then none
      else if o = 0x30 then some (2 ^ 128 - 1, 71) else if o = 0x40 then some (2 ^ 64 - 1, 71)
      else if o = 0x48 then some (2 ^ 40 - 1, 71) else none
  else if Reg.REF_STATE 0 ≤ a ∧ a < Reg.REF_STATE 18 ∧ a % 16 = 0 then some (0x1FF03F07, 72)
  else if Reg.FLT_CLASS 0 ≤ a ∧ a < Reg.FLT_CLASS 160 ∧ a % 4 = 0 then some (3, 73)
  else if Reg.KEY_SLOT_META 0 ≤ a ∧ a < Reg.KEY_SLOT_META 4096 ∧ a % 8 = 0 then some (0xFFFFFFFFFFF33770, 74)
  else if a = Reg.SYS_REMAP then some (1, 70)
  else if a = Reg.TWN_STATUS then some (0x30, 75)
  else none

/-- Bits of the second and of the third copy are upset (R402). -/
def State.upset (s : State) (x : Nat × Nat × Nat) : State :=
  match triplicated x.1 with
  | some (mask, _) =>
    { s with upset1 := tabSet 0 s.upset1 x.1 (tabGet 0 s.upset1 x.1 ^^^ (x.2.1 &&& mask))
             upset2 := tabSet 0 s.upset2 x.1 (tabGet 0 s.upset2 x.1 ^^^ (x.2.2 &&& mask)) }
  | none => s

/-- A mismatch is corrected in all three copies and raises the island's source (R402). -/
def State.scrub (s : State) (a : Nat) : State :=
  if tabGet 0 s.upset1 a = 0 ∧ tabGet 0 s.upset2 a = 0 then s
  else
    let v := s.reg a
    let s := s.setReg a v
    match triplicated a with
    | some (_, src) => s.raise src
    | none => s

/-- VOTE_SCRUB: `upsets` are the bits by which the second and the third copy of a register have come to differ (R402). -/
def execVoteScrub (upsets : List (Nat × Nat × Nat)) (s : State) : Host.Outcome State Fault Refusal :=
  act (fun s =>
    let s := upsets.foldl State.upset s
    ((s.upset1.map (·.1)) ++ (s.upset2.map (·.1))).foldl State.scrub s) s

end Sys2Proof.Machine
end

