-- ==== Sys2Proof/Machine/Clk.lean ====
section
/-! DEFINITION. The internal clocks: oscillator trim, the clock sources and the timebase PLL, clock switching, clock
gating, and the end of a posted write (R10, R79, R210, R438 to R442, R449). -/

namespace Sys2Proof.Machine

/-- Sets CLK_STATUS.TBP: 1 ACQUIRE, 2 LOCKED, 3 UNLOCKED, 4 HOLD, 5 STOPPED (R440). -/
def State.setTbp (s : State) (x : Nat) : State := s.setFld Reg.CLK_STATUS Reg.CLK_STATUS_TBP x

/-- CLK_STATUS.TBP. -/
def State.tbp (s : State) : Nat := s.fld Reg.CLK_STATUS Reg.CLK_STATUS_TBP

/-! ### Oscillators -/

/-- A trim code after a measurement: one step toward nominal within its range, a positive error taking it down (R438). -/
def trimCode (code top : Nat) (err : Int) : Nat :=
  if 0 < err then code - 1 else if err < 0 then min top (code + 1) else code

/-- A code stands at an end of its range with the error above one step (R438). -/
def trimEnd (code top step : Nat) (err : Int) : Bool :=
  (decide (code = 0) || decide (code = top)) && decide (step < err.natAbs)

/-- The 16 bits of an error in ppm. -/
def ppm16 (x : Int) : Nat := ofSigned 16 (max (-32768) (min 32767 x))

/-- OSC_TRIM: the errors measured over 32,768 slow periods, in ppm (R438). -/
def execOscTrim (slow fast : Int) (s : State) : Host.Outcome State Fault Refusal :=
  act (fun s =>
    if !s.tbLocked then s
    else
      let a := trimCode (s.fld Reg.CLK_TRIM Reg.CLK_TRIM_SLOW) 4095 slow
      let b := trimCode (s.fld Reg.CLK_TRIM Reg.CLK_TRIM_FAST) 1023 fast
      let s := (s.setFld Reg.CLK_TRIM Reg.CLK_TRIM_SLOW a).setFld Reg.CLK_TRIM Reg.CLK_TRIM_FAST b
      let s := (s.setFld Reg.CLK_TRIM Reg.CLK_TRIM_SLOW_ERR (ppm16 slow)).setFld Reg.CLK_TRIM Reg.CLK_TRIM_FAST_ERR (ppm16 fast)
      if trimEnd a 4095 25 slow || trimEnd b 1023 100 fast then s.condOn 88 else s.condOff 88) s

/-! ### LO_IN and the timebase -/

/-- LO_FAIL (R431, R439, R440). -/
def execLoFail (stop : LoStop) (s : State) : Host.Outcome State Fault Refusal :=
  actAt stop.t (fun s =>
    let s := if stop.stopped then s.setFld Reg.CLK_STATUS Reg.CLK_STATUS_LO_STOPPED 1 else s
    if !s.clk.counts then s
    else
      let s := s.condOn 84
      if 1 ≤ s.tbp ∧ s.tbp ≤ 3 then (s.setTbp 4).boundIn (.l3 0 true) else s) s

/-- LO_RETURN (R439, R440). -/
def execLoReturn (t : Nat) (s : State) : Host.Outcome State Fault Refusal :=
  actAt t (fun s => if s.clk.counts && !s.tbStopped then (if s.tbp = 4 then s.setTbp 1 else s).condOff 84 else s) s

/-- TBP_LOCK (R440). -/
def execTbpLock (t : Nat) (s : State) : Host.Outcome State Fault Refusal :=
  actAt t (fun s =>
    if s.clk.counts && (decide (s.tbp = 1) || decide (s.tbp = 3)) then
      (((s.setTbp 2).condOff 83).tbRelease).boundIn (.l3 0 false)
    else s) s

/-- TBP_UNLOCK (R179, R440). -/
def execTbpUnlock (t : Nat) (s : State) : Host.Outcome State Fault Refusal :=
  actAt t (fun s =>
    if s.tbLocked then
      ((((s.setTbp 3).setFld Reg.CLK_STATUS Reg.CLK_STATUS_TB_LOL 1).condOn 83)).boundIn (.l3 0 true)
    else s) s

/-- TIMEBASE_FAIL (R210, R348, R439, R440). -/
def execTimebaseFail (t : Nat) (s : State) : Host.Outcome State Fault Refusal :=
  actAt t (fun s => if s.tbRuns then (((s.setTbp 5).condOn 84).synQuiesce).twinRelease 1 else s) s

/-- TIMEBASE_RETURN: `outage` in whole ticks (R59, R210, R440). -/
def execTimebaseReturn (outage : Nat) (s : State) : Host.Outcome State Fault Refusal :=
  act (fun s =>
    if s.tbStopped then
      let s := { s with tkp := { s.tkp with rawcnt := s.tkp.rawcnt + outage } }
      let s := ((s.setTbp 2).condOff 84).condOff 83
      let s := s.boundIn (.widenAdd 0x20 0x1F ((outage + 4) / 5) 3 ((outage : Rat) * 4 / 5000000000))
      (s.synResume.tbRelease).boundIn (.l3 0 false)
    else s) s

/-- The ports whose lanes a SerDes reference clocks (R250). -/
def sdrefPorts (n : Nat) : List Nat := if n = 0 then [0, 1] else [2, 3, 4, 5, 6, 7]

/-- SDREF_FAIL: the lanes of the group are quiesced, their ports and twin lanes lose link (R416, R439). -/
def execSdrefFail (n : Fin 2) (s : State) : Host.Outcome State Fault Refusal :=
  act (fun s =>
    let again := decide (getBits (s.reg Reg.CLK_STATUS) (3 + n.val) 1 = 1) && s.flt.cond.contains 85
    let s := s.setReg Reg.CLK_STATUS (setBits (s.reg Reg.CLK_STATUS) (3 + n.val) 1 0)
    let s := if again then s.raise 85 else s.condOn 85
    let s := (sdrefPorts n).foldl (fun s p =>
      (if s.portEn p then (s.laneSrcs p).foldl (fun s c => s.condOn c) s else s).linkLost p) s
    if n.val = 1 ∧ s.fld Reg.TWN_CFG Reg.TWN_CFG_EN = 1 then (s.condOn 126).condOn 127 else s) s

/-- SDREF_RETURN: the reference is counted in; the lanes relock, and LINK_UP follows for each port (R439). -/
def execSdrefReturn (n : Fin 2) (s : State) : Host.Outcome State Fault Refusal :=
  act (fun s =>
    let s := s.setReg Reg.CLK_STATUS (setBits (s.reg Reg.CLK_STATUS) (3 + n.val) 1 1)
    let s := if s.fld Reg.CLK_STATUS Reg.CLK_STATUS_SDREF_OK = 3 then s.condOff 85 else s
    if n.val = 1 then (s.condOff 126).condOff 127 else s) s

/-! ### Clock switching -/

/-- The source that BOOTCLK is to run from: 1 the timebase, 0 the fast oscillator (R441). -/
def State.bootclkDue (s : State) : Option Nat :=
  let tb := s.fld Reg.CLK_STATUS Reg.CLK_STATUS_BOOTCLK_TB
  if s.tbLocked && s.clk.counts && decide (tb = 0) then some 1 else if s.tbStopped && decide (tb = 1) then some 0 else none

/-- BOOTCLK_SWITCH (R441). -/
def execBootclkSwitch (s : State) : Host.Outcome State Fault Refusal :=
  act (fun s => match s.bootclkDue with
    | some x => s.setFld Reg.CLK_STATUS Reg.CLK_STATUS_BOOTCLK_TB x
    | none => s) s

/-- SWITCH_FORCED (R441). -/
def execSwitchForced (s : State) : Host.Outcome State Fault Refusal :=
  act (fun s => match s.bootclkDue with
    | some x => ((s.setFld Reg.CLK_STATUS Reg.CLK_STATUS_BOOTCLK_TB x).setFld Reg.CLK_STATUS
        Reg.CLK_STATUS_SWITCH_FORCED 1).raise 87
    | none => s) s

/-! ### Clock gating -/

/-- The block of a domain of CLK_GATE is enabled (R442). -/
def State.domainOn (s : State) (d : Nat) : Bool :=
  if d < 8 then s.portEn d
  else if d = 8 then s.fld Reg.TWN_CFG Reg.TWN_CFG_EN = 1
  else if d = 9 then decide (s.fld Reg.BUS_DRAM Reg.BUS_DRAM_CH1_GIB ≠ 0)
  else if 12 ≤ d ∧ d < 16 then s.fld (Reg.SYN_CTRL (d - 12)) Reg.SYN_CTRL_EN = 1
  else if d = 16 then (List.range 4).any s.gnPort
  else true

/-- The domains that CLK_GATE maps (R449). -/
def gateDomains : List Nat := [0, 1, 2, 3, 4, 5, 6, 7, 8, 9, 12, 13, 14, 15, 16]

/-- Bit `d` of CLK_GATE and of CLK_GATE_STATUS. -/
def State.setGate (s : State) (d x : Nat) : State :=
  (s.setReg Reg.CLK_GATE (setBits (s.reg Reg.CLK_GATE) d 1 x)).setReg Reg.CLK_GATE_STATUS
    (setBits (s.reg Reg.CLK_GATE_STATUS) d 1 x)

/-- The domains in QUIESCE, and those restarting. -/
def State.setQuiesce (s : State) (d x : Nat) : State :=
  { s with clk := { s.clk with quiesce := setBits s.clk.quiesce d 1 x, quiesceAt := tabSet 0 s.clk.quiesceAt d (if x = 0 then 0 else s.tkp.rawcnt) } }
def State.setReopen (s : State) (d x : Nat) : State := { s with clk := { s.clk with reopen := setBits s.clk.reopen d 1 x } }

/-- The request of one domain: QUIESCE, or the restart of its clocks; a domain still in QUIESCE is open at once (R442). -/
def State.gateAsk (s : State) (d want : Nat) : State :=
  if getBits (s.reg Reg.CLK_GATE) d 1 = want then s
  else if want = 1 then ((s.setGate d 1).setQuiesce d 1).setReopen d 0
  else if getBits s.clk.quiesce d 1 = 1 then (s.setGate d 0).setQuiesce d 0
  else (s.setGate d 0).setReopen d 1

/-- The effect of an accepted write of CLK_GATE: it is discarded whole with CFG_REJ where it would gate a domain whose block is enabled
(R442, R502). -/
def State.gateAct (s : State) (data : Nat) : State :=
  if gateDomains.any (fun d => decide (data / 2 ^ d % 2 = 1) && decide (getBits (s.reg Reg.CLK_GATE) d 1 = 0) && s.domainOn d) then
    s.setFld Reg.CLK_ISL_STATUS Reg.CLK_ISL_STATUS_CFG_REJ 1
  else gateDomains.foldl (fun s d => s.gateAsk d (data / 2 ^ d % 2)) s

/-- A write of CLK_GATE (R442). -/
def State.gateWrite (s : State) (data : Nat) : State := s.posted Reg.CLK_GATE (fun s => s.gateAct data)

/-- CLK_GATE_REQUEST (R442). -/
def execClkGateRequest (m : Master) (data : Nat) (s : State) : Host.Outcome State Fault Refusal :=
  act (fun s => s.regWrite m Reg.CLK_GATE (fun s => s.gateWrite data)) s

/-- A domain is in QUIESCE, and the tick at which its 2 µs end. -/
def State.quiet (s : State) (d : Nat) : Bool := getBits s.clk.quiesce d 1 = 1
def State.quietEnd (s : State) (d : Nat) : Nat := tabGet 0 s.clk.quiesceAt d + 2 * ticksPerUs

/-- The gate stays open (R442). -/
def State.gateStays (s : State) (d : Nat) : State := ((s.setGate d 0).setQuiesce d 0).raise 86

/-- GATE_IDLE: the clocks stop, and the domain is GATED, when that comes within 2 µs (R442). -/
def execGateIdle (d : Fin 17) (s : State) : Host.Outcome State Fault Refusal :=
  act (fun s => if s.quiet d then (if s.tkp.rawcnt ≤ s.quietEnd d then s.setQuiesce d 0 else s.gateStays d) else s) s

/-- QUIESCE_TIMEOUT (R442). -/
def execQuiesceTimeout (d : Fin 17) (s : State) : Host.Outcome State Fault Refusal :=
  act (fun s => if s.quiet d then (s.at (s.quietEnd d)).gateStays d else s) s

/-- GATE_OPEN: the PLLs have relocked (R442). -/
def execGateOpen (d : Fin 17) (s : State) : Host.Outcome State Fault Refusal := act (fun s => s.setReopen d 0) s

/-! ### The end of a posted write -/

/-- What the end of a posted write leaves in its island, besides BUSY (R79, R195, R249, R415). -/
def State.postedEnd (s : State) (isl : Nat) : State :=
  if isl = 0x4001 then s.setFld Reg.TKP_LATCH_CTRL Reg.TKP_LATCH_CTRL_GO 0
  else if isl = 0x4004 then s.onionLatchDone
  else if isl = 0x4006 then s.fespiDone
  else if isl = Reg.MAC_MDIO / 0x10000 then
    match s.mac.mdio with
    | some v => ({ s with mac := { s.mac with mdio := none } } : State).setFld Reg.MAC_MDIO Reg.MAC_MDIO_DATA v
    | none => s
  else s

/-- BUSY of an island stays until RESULT of an operation is valid (R79, R221). -/
def State.opUnderWay (s : State) (isl : Nat) : Bool :=
  (decide (isl = 0x4001) && s.tkp.hostOp.isSome)
    || (decide (isl = 0x4005) && (List.range 4).any (fun n => (s.synth n).op.isSome))

/-- POSTED_WRITE_COMPLETE: the island of an address accepts writes again (R10, R79). -/
def execPostedWriteComplete (addr : Nat) (s : State) : Host.Outcome State Fault Refusal :=
  act (fun s =>
    if s.islBusy addr && !s.opUnderWay (addr / 0x10000) then (s.busyDone addr).postedEnd (addr / 0x10000) else s) s

end Sys2Proof.Machine
end

