-- ==== Sys2Proof/Machine/Hif.lean ====
section
/-! DEFINITION. The host interface: rings and their indices, the HIF commands, snapshots, the host watchdog, the PCIe link,
bus timeouts and memory errors (R384 to R416). -/

namespace Sys2Proof.Machine

/-- CFG_REJ of the HIF island. -/
def State.hifRej (s : State) : State := s.setFld Reg.HIF_ISL_STATUS Reg.HIF_ISL_STATUS_CFG_REJ 1

/-! ### Rings -/

/-- A ring gains room: lost records are reported, held responses written, CMD entries read (R391, R394, R412). -/
def State.ringFreed (s : State) (r : Nat) : State :=
  if r = 1 then (s.heldWrite s.hif.held.length).cmdRead
  else if r = 0 then s.cmdRead
  else s.ringFlush r

/-- The effect of a write of HIF_RING_CFG, BUSY apart (R389, R502). -/
def State.ringCfgWrite (s : State) (r data : Nat) : State :=
  let a := Reg.HIF_RING_CFG r
  let size := getBits data 8 5
  if s.ringEn r then
    if size ≠ s.fld a Reg.HIF_RING_CFG_SIZE then s.hifRej else s.setFld a Reg.HIF_RING_CFG_EN (data % 2)
  else
    let s := (s.setFld a Reg.HIF_RING_CFG_SIZE size).setFld a Reg.HIF_RING_CFG_EN (data % 2)
    if data % 2 = 1 then (((s.setReg (Reg.HIF_RING_PI r) 0).setReg (Reg.HIF_RING_CI r) 0)).ringFreed r else s

/-- HIF_RING_ENABLE (R389). -/
def execHifRingEnable (m : Master) (r : Fin 4) (data : Nat) (s : State) : Host.Outcome State Fault Refusal :=
  act (fun s => s.regWrite m (Reg.HIF_RING_CFG r) (fun s =>
    s.posted (Reg.HIF_RING_CFG r) (fun s => s.ringCfgWrite r data))) s

/-- The first words of the configuration space: Device ID and Vendor ID, whose number is not given (a free value), Revision ID, and the
BARs that are not implemented (R384). -/
def pcieConfig (off : Nat) (w : Nat) : Nat :=
  if off = 0 then 0x9400 * 2 ^ 16 + Config.pcieVendor % 2 ^ 16
  else if off = 8 then setBits w 0 8 0xB2
  else if off = 0x20 ∨ off = 0x24 then 0
  else w

/-- The address that an offset in BAR0 or in BAR2 maps to, none beyond the BAR (R384). -/
def barAddr (bar off : Nat) : Option Nat :=
  if bar = 0 ∧ off < 2 ^ 23 then some (0x40000000 + off)
  else if bar = 2 ∧ off < 2 ^ 35 then some (0x1000000000 + off)
  else none

/-- The effect of a write of the producer index of CMD (R389). -/
def State.ringPiWrite (s : State) (data : Nat) : State :=
  let pi := data % 2 ^ 32
  if s.ringSize 0 < (pi + 2 ^ 32 - s.reg (Reg.HIF_RING_CI 0)) % 2 ^ 32 then s.hifRej
  else (s.setReg (Reg.HIF_RING_PI 0) pi).cmdRead

/-- HIF_RING_PI_WRITE, with the entries that the host's memory does not answer for (R389, R394). -/
def execHifRingPiWrite (m : Master) (pi : CmdPi) (s : State) : Host.Outcome State Fault Refusal :=
  act (fun s => ({ s with hif := { s.hif with argErr := pi.argErr, resErr := pi.resErr } } : State).regWrite m (Reg.HIF_RING_PI 0)
    (fun s => s.ringPiWrite pi.data)) s

/-- The effect of a write of the consumer index of RSP, EVT or TEL; that of CMD is read-only (R389). -/
def State.ringCiWrite (s : State) (r data : Nat) : State :=
  let ci := data % 2 ^ 32
  if r = 0 then s
  else if s.ringSize r < (s.reg (Reg.HIF_RING_PI r) + 2 ^ 32 - ci) % 2 ^ 32 then s.hifRej
  else (s.setReg (Reg.HIF_RING_CI r) ci).ringFreed r

/-- HIF_RING_CI_WRITE (R389). -/
def execHifRingCiWrite (m : Master) (r : Fin 4) (data : Nat) (s : State) : Host.Outcome State Fault Refusal :=
  act (fun s => s.regWrite m (Reg.HIF_RING_CI r) (fun s => s.ringCiWrite r data)) s

/-! ### The commands of the HIF family -/

/-- HIF_NOP: up to 32 bytes of arguments, echoed (R396). -/
def execHifNop (q : Nat) (args : List Byte) (s : State) : Host.Outcome State Fault Refusal :=
  act (fun s =>
    if s.blocked q 0x0001 then s
    else if 32 < args.length then s.respond q 0x0001 0xFF02 [] else s.respond q 0x0001 0 args) s

/-- A snapshot is requested: its instant is the first tick at least 2 µs ahead, or with the timebase stopped the tick last
counted; a request during a snapshot joins it (R403). -/
def State.snapAsk (s : State) (qs : List Nat) : State :=
  let snap := match s.hif.snap with
    | some (t, l) => (t, l ++ qs)
    | none => (if s.tbRuns then s.tkp.rawcnt + 2500 else s.tkp.rawcnt, qs)
  ({ s with hif := { s.hif with snap := some snap } } : State).setFld Reg.SYS_SNAP Reg.SYS_SNAP_GO 1

/-- SNAPSHOT (R396, R403). -/
def execSnapshot (q : Nat) (s : State) : Host.Outcome State Fault Refusal :=
  act (fun s =>
    let joined : Bool := match s.hif.snap with
      | some (_, l) => l.contains q
      | none => false
    if s.blocked q 0x0002 || joined then s else s.snapAsk [q]) s

/-- The effect of a write of SYS_SNAP, BUSY apart (R403). -/
def State.sysSnapWrite (s : State) (data : Nat) : State := if getBits data 8 1 = 1 then s.snapAsk [] else s

/-- SYS_SNAP_GO (R403). -/
def execSysSnapGo (m : Master) (data : Nat) (s : State) : Host.Outcome State Fault Refusal :=
  act (fun s => s.regWrite m Reg.SYS_SNAP (fun s => s.posted Reg.SYS_SNAP (fun s => s.sysSnapWrite data))) s

/-- The copies of the TDC statistics: LOST, EXTRA and SEQ of each channel, at 4c, 4c + 1 and 4c + 2 (R103). -/
def State.tdcStats (s : State) : Tab Nat :=
  (List.range 32).foldl (fun t c =>
    tabSet 0 (tabSet 0 (tabSet 0 t (4 * c) (s.reg (Reg.TDC_CH_LOST c)))
      (4 * c + 1) (s.fld (Reg.TDC_CH_STATUS c) Reg.TDC_CH_STATUS_EXTRA)) (4 * c + 2) (s.chan c).seq) []

/-- SNAPSHOT_TAKE (R403, R455). -/
def execSnapshotTake (s : State) : Host.Outcome State Fault Refusal :=
  act (fun s =>
    match s.hif.snap with
    | none => s
    | some (t, qs) =>
      let s := (s.at t).latchVcs 0xFF
      let s := s.pmcLatch Reg.PMC_SNAP
      let s := { s with hif := { s.hif with snapTdc := s.tdcStats, snapLedger := (s.reg Reg.PLC_CACHE, s.reg Reg.PLC_LEDGER), snap := none } }
      let seq := (s.fld Reg.SYS_SNAP Reg.SYS_SNAP_SEQ + 1) % 65536
      let s := (s.setReg Reg.SYS_SNAP (seq * 65536)).setReg Reg.SYS_SNAP_TIME (gtToRaw (s.vcNow 0))
      qs.foldl (fun s q => s.respond q 0x0002 0 (natLe 4 seq ++ gtBytes (s.vcNow 0))) s) s

/-- RXBUF_POST: 1 POOL_FULL (R396). -/
def execRxbufPost (q : Nat) (a0 a1 a2 a3 : Nat) (s : State) : Host.Outcome State Fault Refusal :=
  act (fun s =>
    if s.blocked q 0x0003 then s
    else
      let l := [a0, a1, a2, a3].filter (· ≠ 0)
      if 4096 < s.hif.bufs.length + l.length then s.respond q 0x0003 1 []
      else ({ s with hif := { s.hif with bufs := s.hif.bufs ++ l } } : State).respond q 0x0003 0 []) s

/-! ### The host watchdog -/

/-- The effect of a write of HIF_HWDOG, BUSY apart: a KICK restarts the count, which begins when TIMEOUT leaves 0, and a KICK clears
HOSTLOST (R413). -/
def State.hwdogWrite (s : State) (data : Nat) : State :=
  let tmo := getBits data 16 16
  let kick := decide (data % 2 = 1)
  let s := if kick || decide (s.fld Reg.HIF_HWDOG Reg.HIF_HWDOG_TIMEOUT = 0) then
    { s with hif := { s.hif with kickTick := s.tkp.rawcnt } } else s
  let s := s.setFld Reg.HIF_HWDOG Reg.HIF_HWDOG_TIMEOUT tmo
  if kick then (s.setFld Reg.HIF_ISL_STATUS Reg.HIF_ISL_STATUS_HOSTLOST 0).condOff 78 else s

/-- HWDOG_KICK (R413). -/
def execHwdogKick (m : Master) (data : Nat) (s : State) : Host.Outcome State Fault Refusal :=
  act (fun s => s.regWrite m Reg.HIF_HWDOG (fun s => s.posted Reg.HIF_HWDOG (fun s => s.hwdogWrite data))) s

/-- HOST_WATCHDOG_EXPIRE (R413). -/
def execHostWatchdogExpire (s : State) : Host.Outcome State Fault Refusal :=
  act (fun s =>
    let tmo := s.fld Reg.HIF_HWDOG Reg.HIF_HWDOG_TIMEOUT
    if tmo = 0 ∨ s.fld Reg.HIF_ISL_STATUS Reg.HIF_ISL_STATUS_HOSTLOST = 1 then s
    else ((s.at (s.hif.kickTick + tmo * 1250000)).setFld Reg.HIF_ISL_STATUS Reg.HIF_ISL_STATUS_HOSTLOST 1).condOn 78) s

/-! ### The PCIe link -/

/-- PCIE_LINK_DOWN (R416). -/
def execPcieLinkDown (s : State) : Host.Outcome State Fault Refusal :=
  act (fun s => (s.setReg Reg.HIF_LINK 0).condOn 79) s

/-- PCIE_LINK_UP: Gen3 to Gen5 at x1, x2, x4 or x8 (R384). -/
def execPcieLinkUp (speed width : Nat) (s : State) : Host.Outcome State Fault Refusal :=
  act (fun s =>
    if 3 ≤ speed ∧ speed ≤ 5 ∧ [1, 2, 4, 8].contains width = true then
      ((s.setFld Reg.HIF_LINK Reg.HIF_LINK_SPEED speed).setFld Reg.HIF_LINK Reg.HIF_LINK_WIDTH width).condOff 79
    else s) s

/-- PCIE_AER_ERROR (R416). -/
def execPcieAerError (uncorr : Bool) (s : State) : Host.Outcome State Fault Refusal :=
  act (fun s => s.raise (if uncorr then 123 else 122)) s

/-! ### Errors of the matrix and of the memories -/

/-- A bus error answered to a master; a Pod whose instruction made the access faults with BUS (R367, R408). -/
def State.masterError (s : State) (m addr : Nat) (wr : Bool) (cause : Nat) : State :=
  let s := s.busError m addr wr cause
  if 2 ≤ m ∧ m ≤ 9 ∧ s.podRuns (m - 2) = true then s.podFault (m - 2) 6 else s

/-- GASKET_TIMEOUT: the gasket of a Pod completes the access toward its target as for a master reset in a burst (R367, R409). -/
def execGasketTimeout (m : Master) (addr : Nat) (wr : Bool) (s : State) : Host.Outcome State Fault Refusal :=
  act (fun s =>
    let s := (s.masterError m addr wr 6).raise 77
    if 2 ≤ m.val ∧ m.val ≤ 9 then (s.setFld Reg.BUS_ISL_STATUS Reg.BUS_ISL_STATUS_MABORT 1).raise 76 else s) s

/-- SYS_REMAP_WRITE: DMA1 before CP4 only (R410). -/
def execSysRemapWrite (m : Master) (data : Nat) (s : State) : Host.Outcome State Fault Refusal :=
  act (fun s =>
    if m.val = 11 ∧ s.fld Reg.PWR_BOOT Reg.PWR_BOOT_STAGE < 4 then s.setReg Reg.SYS_REMAP (data % 2)
    else s.busError m Reg.SYS_REMAP true 3) s

/-- ECC_ERROR in DRAM channel 0 or 1, on-chip SRAM (2) or MRAM (3): corrected, or the access ends in a bus error (R408,
R416). MRAM has no uncorrectable source: its records have their CRC. -/
def execEccError (mem : Fin 4) (uncorr : Bool) (m : Master) (addr : Nat) (wr : Bool) (s : State) :
    Host.Outcome State Fault Refusal :=
  act (fun s =>
    match mem.val, uncorr with
    | 2, true => (s.masterError m addr wr 8).raise 117
    | 2, false => s.raise 116
    | 3, true => s
    | 3, false => s.raise 118
    | k, true => (s.masterError m addr wr 8).raise (114 + k)
    | k, false => s.raise (112 + k)) s

end Sys2Proof.Machine
end

