-- ==== Sys2Proof/Machine/Tod.lean ====
section
/-! DEFINITION. Time of day on the wire: UTC from TAI and back, the Lethar message, the NMEA 0183 sentences and the
IRIG-B frame (R76, R108, R127, R216 to R220). -/

namespace Sys2Proof.Machine

/-! ### The calendar -/

/-- A date and a time of day of UTC; the second is 60 in an inserted leap second. -/
structure Utc where
  year  : Int
  month : Nat
  day   : Nat
  hour  : Nat
  min   : Nat
  sec   : Nat
deriving DecidableEq, Repr

/-- A leap year of the Gregorian calendar. -/
def leapYear (y : Int) : Bool := (decide (y % 4 = 0) && decide (y % 100 ≠ 0)) || decide (y % 400 = 0)

/-- The days of a month. -/
def monthDays (y : Int) (m : Nat) : Nat :=
  if m = 2 then (if leapYear y then 29 else 28) else if m = 4 ∨ m = 6 ∨ m = 9 ∨ m = 11 then 30 else 31

/-- Days from 1970-01-01 to a date. -/
def daysOf (y : Int) (m d : Nat) : Int :=
  let y' := y - 1
  365 * (y - 1970) + (y' / 4 - y' / 100 + y' / 400 - 477)
    + (((List.range (m - 1)).map (fun k => (monthDays y (k + 1) : Int))).sum) + (d : Int) - 1

/-- The month and the day of a day of the year, counted from 0. -/
def monthOf (y : Int) : Nat → Nat → Nat → Nat × Nat
  | 0, m, d => (m, d + 1)
  | fuel + 1, m, d => if d < monthDays y m then (m, d + 1) else monthOf y fuel (m + 1) (d - monthDays y m)

/-- The year of a day, counted from 1970-01-01. -/
def yearOf (days : Int) : Int :=
  let y := 1970 + days * 400 / 146097
  if days < daysOf y 1 1 then y - 1 else if daysOf (y + 1) 1 1 ≤ days then y + 1 else y

/-- A count of UTC days and seconds of the day as a date and a time. -/
def civil (days : Int) (sec : Nat) : Utc :=
  let y := yearOf days
  let md := monthOf y 12 1 (days - daysOf y 1 1).toNat
  ⟨y, md.1, md.2, sec / 3600, sec / 60 % 60, sec % 60⟩

/-- The UTC label of a TAI second (R76). -/
def utcOf (t : List LeapEntry) (tai : Int) : Utc :=
  if leapInserted t tai then
    let u := civil ((tai - 1 - taiUtc t (tai - 1)) / 86400) 86399
    { u with sec := 60 }
  else
    let c := tai - taiUtc t tai
    civil (c / 86400) (c % 86400).toNat

/-- The TAI second that a UTC label names, none where the table holds no such second (R76, R108). -/
def taiOf (t : List LeapEntry) (u : Utc) : Option Int :=
  let c := daysOf u.year u.month u.day * 86400 + ((u.hour * 3600 + u.min * 60 + u.sec : Nat) : Int)
  let offs := t.map (fun e => e.tai)
  if u.sec = 60 then
    (offs.map (fun o => c + o)).find? (fun x => leapInserted t x && decide (utcOf t x = u))
  else (offs.map (fun o => c + o)).find? (fun x => decide (taiUtc t x = x - c) && !leapInserted t x)

/-- The fields of a label lie in their ranges (R108). -/
def utcOk (u : Utc) : Bool :=
  decide (1 ≤ u.month ∧ u.month ≤ 12) && decide (1 ≤ u.day ∧ u.day ≤ monthDays u.year u.month)
    && decide (u.hour ≤ 23) && decide (u.min ≤ 59) && decide (u.sec ≤ 60)

/-! ### Messages -/

/-- The Lethar ToD message for a second whose pulse falls at `pulse`, with the summary of the span that contains the pulse (R219). -/
def State.todLethar (s : State) (sec : Int) (pulse : Gt) (pps msgSeq : Nat) : List Byte :=
  let t := s.leapTable
  let p := leapPending t sec
  let body := [0x4C, 0xD7, 1, 48] ++ intLe 8 sec ++ intLe 2 (taiUtc t sec)
    ++ natLe 1 (bit (decide (0 < p)) + 2 * bit (decide (p < 0)) + 4 * bit (leapInserted t sec)) ++ natLe 1 (pps % 8)
    ++ (s.onionFor pulse).onionSummary (9 + pps) ++ natLe 4 msgSeq ++ List.replicate 8 0
  body ++ natLe 4 (crc32c body)

/-- An ASCII digit. -/
def digit (n : Nat) : Byte := BitVec.ofNat 8 (0x30 + n % 10)

/-- A number as decimal digits. -/
def digits : Nat → Nat → List Byte
  | 0, _ => []
  | k + 1, n => digits k (n / 10) ++ [digit n]

/-- An upper-case hexadecimal digit. -/
def hexDigit (n : Nat) : Byte := if n % 16 < 10 then digit (n % 16) else BitVec.ofNat 8 (0x37 + n % 16)

/-- The NMEA checksum: exclusive or of the characters. -/
def nmeaSum (bs : List Byte) : Nat := bs.foldl (fun c b => c ^^^ b.toNat) 0

/-- The bytes of an ASCII text. -/
def text (t : String) : List Byte := t.toList.map (fun c => BitVec.ofNat 8 c.toNat)

/-- A sentence with its delimiters and checksum. -/
def nmeaWrap (body : List Byte) : List Byte :=
  [0x24] ++ body ++ [0x2A, hexDigit (nmeaSum body / 16), hexDigit (nmeaSum body)] ++ [0x0D, 0x0A]

/-- hhmmss.00 of a label. -/
def nmeaTime (u : Utc) : List Byte := digits 2 u.hour ++ digits 2 u.min ++ digits 2 u.sec ++ text ".00"

/-- A ZDA sentence (R220). -/
def nmeaZda (talker : List Byte) (u : Utc) : List Byte :=
  nmeaWrap (talker ++ text "ZDA," ++ nmeaTime u ++ text "," ++ digits 2 u.day ++ text "," ++ digits 2 u.month ++ text ","
    ++ digits 4 u.year.toNat ++ text ",00,00")

/-- An RMC sentence without a mode indicator (R220). -/
def nmeaRmc (talker : List Byte) (u : Utc) (valid : Bool) : List Byte :=
  nmeaWrap (talker ++ text "RMC," ++ nmeaTime u ++ (if valid then text ",A" else text ",V") ++ text ",,,,,,,"
    ++ digits 2 u.day ++ digits 2 u.month ++ digits 2 (u.year % 100).toNat ++ text ",,")

/-- What a received message is: a valid label, a message to be discarded and counted, or another sentence, which is
ignored without counting (R108, R127). -/
inductive TodRead where
  | label (tai : Int)
  | bad
  | other
deriving DecidableEq, Repr

/-- The fields of a sentence between commas. -/
def splitComma (bs : List Byte) : List (List Byte) :=
  bs.foldr (fun b acc => if b = 0x2C then [] :: acc else match acc with | f :: r => (b :: f) :: r | [] => [[b]]) [[]]

/-- A number of decimal digits, none where another character stands. -/
def number (bs : List Byte) : Option Nat :=
  if bs ≠ [] ∧ bs.all (fun b => decide (0x30 ≤ b.toNat ∧ b.toNat ≤ 0x39)) then
    some (bs.foldl (fun n b => n * 10 + (b.toNat - 0x30)) 0)
  else none

/-- The value of a hexadecimal digit, 16 for another character. -/
def hexVal (b : Byte) : Nat :=
  let n := b.toNat
  if 0x30 ≤ n ∧ n ≤ 0x39 then n - 0x30 else if 0x41 ≤ n ∧ n ≤ 0x46 then n - 0x37 else if 0x61 ≤ n ∧ n ≤ 0x66 then n - 0x57 else 16

/-- The body of a sentence whose delimiters and checksum are right. -/
def nmeaBody (msg : List Byte) : Option (List Byte) :=
  match msg with
  | 0x24 :: rest =>
    let body := rest.takeWhile (fun b => b ≠ 0x2A)
    match rest.drop body.length with
    | [0x2A, h, l, 0x0D, 0x0A] => if hexVal h * 16 + hexVal l = nmeaSum body then some body else none
    | _ => none
  | _ => none

/-- A label from a time field hhmmss with any fraction, and a date. -/
def nmeaLabel (t : List LeapEntry) (time : List Byte) (day month : Option Nat) (year : Option Int) : TodRead :=
  match number (time.take 2), number ((time.drop 2).take 2), number ((time.drop 4).take 2), day, month, year with
  | some h, some m, some sec, some d, some mo, some y =>
    let u : Utc := ⟨y, mo, d, h, m, sec⟩
    if utcOk u && (decide (time.length = 6) || (time.drop 6).head? == some 0x2E) then
      (match taiOf t u with | some x => .label x | none => .bad)
    else .bad
  | _, _, _, _, _, _ => .bad

/-- The type of a sentence: the address field after a talker identifier of two letters; empty for any other address (R127). -/
def nmeaType (address : List Byte) : List Byte :=
  if address.length = 5 ∧ (address.take 2).all (fun b => decide (0x41 ≤ b.toNat ∧ b.toNat ≤ 0x5A)) then address.drop 2 else []

/-- A ZDA or RMC sentence (R108, R127). RMC carries two digits of the year: 2000 to 2099 (notes/assumptions/14). -/
def readNmea (t : List LeapEntry) (rmc : Bool) (msg : List Byte) : TodRead :=
  match nmeaBody msg with
  | none => .bad
  | some body =>
    let f := splitComma body
    let g (k : Nat) : List Byte := f.getD k []
    if nmeaType (g 0) ≠ text (if rmc then "RMC" else "ZDA") then .other
    else if rmc then
      let date := g 9
      if g 2 ≠ text "A" ∨ date.length ≠ 6 then .bad
      else nmeaLabel t (g 1) (number (date.take 2)) (number ((date.drop 2).take 2))
        ((number (date.drop 4)).map (fun y => (2000 + y : Nat)))
    else nmeaLabel t (g 1) (number (g 2)) (number (g 3)) ((number (g 4)).map (fun y => (y : Int)))

/-- A Lethar message: its SYNC, VERSION, LENGTH and CRC (R108, R219). -/
def readLethar (msg : List Byte) : TodRead :=
  if msg.length = 48 ∧ msg.take 4 = [0x4C, 0xD7, 1, 48] ∧ leNat (msg.drop 44) = crc32c (msg.take 44) then
    .label (toSigned 64 (leNat ((msg.drop 4).take 8)))
  else .bad

/-- A received message in a format of REF_TOD_CFG.FMT. -/
def readTod (t : List LeapEntry) (fmt : Nat) (msg : List Byte) : TodRead :=
  if fmt = 0 then readLethar msg else readNmea t (decide (fmt = 2)) msg

/-! ### IRIG-B -/

/-- The bits of a number from its lowest, as IRIG-B sends them. -/
def irigBits (n v : Nat) : List Byte := (List.range n).map (fun k => BitVec.ofNat 8 (v / 2 ^ k % 2))

/-- Two decimal digits with an index bit of 0 between them; `n` bits of the tens. -/
def irigBcd (n v : Nat) : List Byte := irigBits 4 (v % 10) ++ [0] ++ irigBits n (v / 10)

/-- The 100 bits of a frame: 0, 1, or 2 for a position marker (R216). `year`, `cf` and `sbs` are none where the coded
expression carries none; `cf` is the 18 bits from position 60 on. -/
def irigFrame (u : Utc) (doy : Nat) (year : Option Nat) (cf : List Byte) (sbs : Option Nat) : List Byte :=
  let mark : List Byte := [2]
  let sec := irigBcd 3 u.sec
  let p5 := match year with
    | some y => irigBcd 4 y
    | none => List.replicate 9 0
  let sb := sbs.getD 0
  mark ++ sec ++ mark ++ irigBcd 3 u.min ++ [0] ++ mark ++ irigBcd 2 u.hour ++ [0, 0] ++ mark ++ irigBcd 4 (doy % 100)
    ++ mark ++ irigBits 2 (doy / 100) ++ List.replicate 7 0 ++ mark ++ p5 ++ mark ++ cf.take 9 ++ mark
    ++ (cf.drop 9).take 9 ++ mark ++ irigBits 9 sb ++ mark ++ irigBits 8 (sb / 512) ++ [0] ++ mark

/-- Time quality and continuous time quality from a bound in ps (R217). -/
def irigQuality (bound : Nat) (bad : Bool) : Nat × Nat :=
  if bad then (0xF, 7)
  else if bound ≤ 1000 then (1, 1)
  else if bound ≤ 10000 then (2, 1)
  else if bound ≤ 100000 then (3, 1)
  else if bound ≤ 1000000 then (4, 2)
  else if bound ≤ 10000000 then (5, 3)
  else if bound ≤ 100000000 then (6, 4)
  else if bound ≤ 1000000000 then (7, 5)
  else if bound ≤ 10000000000 then (8, 6)
  else if bound ≤ 100000000000 then (9, 7)
  else if bound ≤ 1000000000000 then (0xA, 7)
  else if bound ≤ 10000000000000 then (0xB, 7)
  else (0xF, 7)

end Sys2Proof.Machine
end

