-- ==== Sys2Proof/Machine/Ref.lean ====
section
/-! DEFINITION. The qualification program of Pod 1: records, the evaluation of each VC0 second, disputes, selection and
its build-out; the REF island's heartbeat; and ToD reception (R104 to R127, R353). -/

namespace Sys2Proof.Machine

/-- QUAL_RECORD: Pod 1's resident program takes the oldest record of its queue (R106, R107). -/
def execQualRecord (s : State) : Host.Outcome State Fault Refusal :=
  act (fun s =>
    match s.tdc.qPod1, s.runsResident 1 with
    | r :: rest, true =>
      let s := { s with tdc := { s.tdc with qPod1 := rest } }
      match s.refOfChan r.chan with
      | some (m, second) => (s.refRecord m second r).reArm r.chan
      | none => s
    | _, _ => s) s

/-! ### States -/

/-- A reference takes a state and a cause: REF_STATE, REF_CNT.SUSPECTS, and the journal (R112, R126). -/
def State.setRef (s : State) (m st cause : Nat) : State :=
  let old := s.refSt m
  let same := decide (old = st) && decide (s.fld (Reg.REF_STATE m) Reg.REF_STATE_CAUSE = cause)
  if same then s
  else
    let s := (s.setFld (Reg.REF_STATE m) Reg.REF_STATE_STATE st).setFld (Reg.REF_STATE m) Reg.REF_STATE_CAUSE cause
    let s := if st = 4 ∧ old ≠ 4 then s.incFld (Reg.REF_CNT m) Reg.REF_CNT_SUSPECTS 1 else s
    s.journal 1 0x0025 (natLe 1 m ++ natLe 1 old ++ natLe 1 st ++ natLe 1 cause)

/-- The qualification timer starts at 0 (R112). -/
def RefTrack.timer (r : RefTrack) (sec : Int) : RefTrack := { r with qualFrom := sec, medOk := false, burst := false, rejAt := [] }

/-- Qualification begins anew for an enabled reference: the timer starts, and the phase values stay, since a test uses all
the data available (R112, R116; notes/assumptions/16). -/
def RefTrack.again (r : RefTrack) (sec : Int) : RefTrack := { r.timer sec with qualSince := sec, restart := false }

/-- A reference leaves DISABLED with no phase history (notes/assumptions/16). -/
def RefTrack.begin (r : RefTrack) (sec : Int) : RefTrack :=
  { r.timer sec with hist := [], accSum := 0, accN := 0, missed := 0, thin := false, qualSince := sec, restart := false
                     cleanFrom := none, presentFrom := none, okShort := sec, okMed := sec, okLong := sec, okTdev := sec
                     yMed := none, medAt := none, testedAt := none, noLabel := 0 }

/-- A reference leaves DISABLED with a channel, or stays without one (R105, R112). -/
def State.refEnable (s : State) (m : Nat) (sec : Int) : State :=
  match (s.refChans m).find? (fun c => s.chanFree c && (m != 17 || s.chanFree 14)) with
  | none => s.setRef m 0 0x0E
  | some c =>
    let s := (s.setReg (Reg.REF_CNT m) 0).modTrack m (fun r => { RefTrack.reset.begin sec with outFrom := r.outFrom, up := r.up })
    let s := s.setFld (Reg.REF_STATE m) Reg.REF_STATE_CHAN c
    (s.setRef m 1 0).refChannels m c

/-- The REFIN mean of the second that has ended, labelled with the second that begins (R106). -/
def State.closeMean (s : State) (m : Nat) (sec : Int) : State :=
  s.modTrack m (fun r =>
    let thin := decide (2 * r.accN < r.accN + r.missed)
    let r' := if isPulse m then r else if r.accN = 0 then r else r.push sec (r.accSum / r.accN)
    { r' with thin := !isPulse m && thin, accSum := 0, accN := 0, missed := 0 })

/-- The widenings that Pod 1 reports for the breaches of a reference that was SELECTED (R117). -/
def State.reportWiden (s : State) (m : Nat) (l : List Breach) : State :=
  l.foldl (fun s b => s.boundIn (.widenAdd b.cause m b.value.ceil.toNat 1 b.span)) s

/-- An AVAILABLE or SELECTED reference goes to SUSPECT (R112, R117). -/
def State.toSuspect (s : State) (m : Nat) (sec : Int) (cause : Nat) (l : List Breach) : State :=
  let was := s.refSt m
  let s := if was = 3 then s.reportWiden m l else s
  (s.modTrack m (fun r => { r with suspectAt := sec, cleanFrom := none, burst := false })).setRef m 4 cause

/-- The transitions of R112 of an enabled reference, once its tests are done: `bs` are its breaches. A clean run of a SUSPECT
reference ends with a breach alone (R113); where the rule asks that every second be clean, an unclean second starts the count anew. -/
def State.refMove (s : State) (m : Nat) (sec : Int) (bs : List Breach) : State :=
  let r := s.track m
  let los := s.refLos m sec
  let hold := s.param 0x102
  let clean := s.refPresent m sec && bs.isEmpty
  let run := bs.isEmpty && (clean || s.refSt m == 4)
  let s := s.modTrack m (fun r => { r with
    cleanFrom := if !run then none else if clean && r.cleanFrom.isNone then some sec else r.cleanFrom
    presentFrom := if s.refPresent m sec then some (r.presentFrom.getD sec) else none
    cleanX := if clean then r.hist.head? else r.cleanX
    qualFrom := if clean then r.qualFrom else sec })
  let cause := if los then 1 else match bs with | b :: _ => b.cause | [] => 0
  let bad := los || !bs.isEmpty
  let r' := s.track m
  let run : Int := match r'.cleanFrom with | some c => sec - c | none => -1
  match s.refSt m with
  | 1 =>
    if !bad && decide (s.param 0x101 ≤ sec - r'.qualFrom) && r'.medOk then
      (s.modTrack m (fun r => { r with availAt := sec })).setRef m 2 0
    else if 10 * s.param 0x101 ≤ sec - r.qualSince then s.setRef m 5 0x0C
    else if bad then (s.modTrack m (fun r => r.timer sec)).setRef m 1 cause
    else s
  | 4 =>
    if los then s.setRef m 5 1
    else if bad then
      (if r.cleanFrom.isSome ∧ hold ≤ sec - r.suspectAt then s.setRef m 5 cause
       else if hold ≤ sec - r.suspectAt then s.setRef m 5 (s.fld (Reg.REF_STATE m) Reg.REF_STATE_CAUSE)
       else s.modTrack m (fun r => { r with burst := false }))
    else if 3 * hold ≤ run then (s.modTrack m (fun r => { r with availAt := sec })).setRef m 2 0
    else if run < 0 ∧ hold ≤ sec - r.suspectAt then s.setRef m 5 (s.fld (Reg.REF_STATE m) Reg.REF_STATE_CAUSE)
    else s
  | 5 =>
    let los' := decide (s.fld (Reg.REF_STATE m) Reg.REF_STATE_CAUSE = 1)
    let back := if los' then (match r'.presentFrom with | some p => decide (10 ≤ sec - p) | none => false)
      else decide (hold ≤ run)
    if back then (s.modTrack m (fun r => r.again sec)).setRef m 1 0 else s.modTrack m (fun r => { r with burst := false })
  | _ =>
    if los then (if s.refSt m = 3 then s.reportWiden m bs else s).setRef m 5 1
    else if bad then s.toSuspect m sec cause bs
    else s

/-- An enabled reference whose channels Pod 1's stop has released gets them back once no other Pod claims them (R82, R104, R115). -/
def State.refKeep (s : State) (m : Nat) : State :=
  let c := s.refChan m
  let free (c : Nat) : Bool := (s.chan c).owner == 0 || (s.chan c).owner == 2
  let lost := decide ((s.chan c).owner = 0) || (m == 17 && decide ((s.chan 14).owner = 0))
  if lost && free c && (m != 17 || free 14) then s.refChannels m c else s

/-- One reference at one VC0 second: its rank, its channel, its tests and its transition (R112, R116, R118). While TW is enabled,
the REFIN and the PPSIN that carry the peer's signals stand as with rank 0xFF (R105; DESIGN CHOICE of the cause HOST for one that was
enabled before, notes/assumptions/169). -/
def State.refEval (s : State) (m : Nat) (sec : Int) : State :=
  let rank := if s.peerInput m then 0xFF else s.paramN (0x120 + m)
  let s := s.setFld (Reg.REF_STATE m) Reg.REF_STATE_RANK (rank % 16)
  if rank = 0xFF then
    if s.refSt m = 0 ∧ (s.track m).restart = false then s
    else ((s.refRelease m).modTrack m (fun r => { r with restart := false })).setRef m 0 0x0F
  else if s.refSt m = 0 then s.refEnable m sec
  else
    let s := (s.refKeep m).closeMean m sec
    if (s.track m).restart then
      let c := s.refChan m
      ((s.modTrack m (fun r => r.again sec)).setRef m 1 0).refChannels m c
    else
      let t := s.refTests m sec
      let s := s.modTrack m (fun _ => t.2)
      s.refMove m sec (t.1 ++ (s.refInputs m sec).map (fun c => t.2.inputBreach sec c))

/-! ### Disputes -/

/-- The medium statistic of a reference, where it was evaluated at VC0 second `t` (R116, R121). -/
def State.yMedAt (s : State) (m : Nat) (t : Option Int) : Option Rat :=
  let r := s.track m
  if r.medAt.isSome ∧ r.medAt = t then r.yMed else none

/-- The frequency of an arbiter against VC0 over the medium window: a reference (0 to 17) or member i at 18 + i (R121). -/
def State.arbiterY (s : State) (z : Nat) (t : Option Int) : Option Rat :=
  if z < 18 then s.yMedAt z t
  else
    let i := z - 18
    let rate := freqQ (s.vcSet 0).rate
    if i = 0 then some rate else some (rate - (tabGet Member.reset s.ens.mem i).zy)

/-- The arbiters of a dispute of the medium evaluation at second `t`: the other AVAILABLE or SELECTED references, and the members that
neither party feeds (R121). A reference that an earlier pair of the evaluation has put in SUSPECT is none (DESIGN CHOICE,
notes/assumptions/169). -/
def State.arbiters (s : State) (a b : Nat) (t : Option Int) : List Nat :=
  ((List.range 18).filter (fun z => decide (z ≠ a ∧ z ≠ b) && s.refOk z && (s.yMedAt z t).isSome))
    ++ (((List.range 8).filter (fun i =>
      let src := s.fld (Reg.ENS_MEM_STAT i) Reg.ENS_MEM_STAT_SRC
      decide (2 ≤ s.fld (Reg.ENS_MEM_STAT i) Reg.ENS_MEM_STAT_STATUS) && decide (src ≠ a ∧ src ≠ b))).map (· + 18))

/-- A set of arbiters as a mask. -/
def maskOf (l : List Nat) : Nat := l.foldl (fun x z => x ||| 2 ^ z) 0

/-- The arbiters that vote for a party of frequency `y` (R121). -/
def State.votes (s : State) (l : List Nat) (y : Rat) (t : Option Int) : List Nat :=
  l.filter (fun z => match s.arbiterY z t with | some v => decide (absQ (y - v) ≤ freqQ (s.param 0x103)) | none => false)

/-- A party that loses a dispute goes to SUSPECT with cause DISPUTE (R117, R121). -/
def State.loseDispute (s : State) (m : Nat) (sec : Int) : State :=
  if s.refOk m then s.toSuspect m sec 6 [(s.track m).inputBreach sec 6] else s

/-- The agreement test of two references of equal rank (R116, R121). -/
def State.judge (s : State) (a b : Nat) (sec : Int) : State :=
  let t := some sec
  match s.yMedAt a t, s.yMedAt b t with
  | some ya, some yb =>
    if absQ (ya - yb) ≤ freqQ (s.param 0x103) then s
    else
      let l := s.arbiters a b t
      let va := s.votes l ya t
      let vb := s.votes l yb t
      let s := s.journal 1 0x0027 (natLe 1 a ++ natLe 1 b ++ natLe 8 (fpOfRat ya).toNat ++ natLe 8 (fpOfRat yb).toNat
        ++ natLe 4 (maskOf l) ++ natLe 4 (maskOf va) ++ natLe 4 (maskOf vb))
      if vb.length < va.length then s.loseDispute b sec
      else if va.length < vb.length then s.loseDispute a sec
      else (s.loseDispute a sec).loseDispute b sec
  | _, _ => s

/-- The disputes of an evaluation, every 10 s: each pair of qualified references of equal rank (R121). -/
def State.disputes (s : State) (sec : Int) : State :=
  if sec % 10 ≠ 0 then s
  else
    let q := (List.range 18).filter (fun m => s.refOk m && decide (10 ≤ (s.track m).span))
    let rank (m : Nat) := s.fld (Reg.REF_STATE m) Reg.REF_STATE_RANK
    let pairs := q.flatMap (fun a => (q.filter (fun b => decide (a < b) && decide (rank a = rank b))).map (fun b => (a, b)))
    pairs.foldl (fun s p => s.judge p.1 p.2 sec) s

/-! ### Selection -/

/-- The references that R118 chooses among: an engine of a twin with authority never selects TW (R119). -/
def State.candidates (s : State) : List Nat :=
  (List.range 18).filter (fun m => s.refOk m && !(s.inTwin && s.holder && m == 17))

/-- A comes before B among references of one rank: smaller L0 + L1, then longer AVAILABLE, then the lower number (R118). -/
def State.before (s : State) (a b : Nat) : Bool :=
  let k (m : Nat) := (s.track m).l0 + (s.track m).l1
  decide (k a < k b) || (decide (k a = k b) && (decide ((s.track a).availAt < (s.track b).availAt)
    || (decide ((s.track a).availAt = (s.track b).availAt) && decide (a < b))))

/-- The first of a list under R118. -/
def State.best (s : State) : List Nat → Option Nat
  | [] => none
  | a :: l => some (l.foldl (fun x m => if s.before m x then m else x) a)

/-- The reference that is to be SELECTED (R118 to R120); `cur` is the one SELECTED before. R119 goes before R120: the engine without
authority marks TW SELECTED in ENSEMBLE too (DESIGN CHOICE, notes/assumptions/169). -/
def State.choose (s : State) (cur : Option Nat) : Option Nat :=
  let c := s.candidates
  let rank (m : Nat) := s.fld (Reg.REF_STATE m) Reg.REF_STATE_RANK
  if s.param 0x108 = 1 then (if s.inTwin && !s.holder && s.refOk 17 then some 17 else none)
  else if s.inTwin && !s.holder && s.refOk 17 then some 17
  else match c with
    | [] => none
    | a :: l =>
      let r := l.foldl (fun x m => min x (rank m)) (rank a)
      let top := s.best (c.filter (fun m => rank m = r))
      match cur with
      | some x => if c.contains x ∧ (rank x = r ∨ s.param 0x109 = 0) then some x else top
      | none => top

/-- The build-out B_O of reference `b` in ps when selection moves to it from `a` (R122, R123). From the combination it
keeps the loop error (R120); from no reference, a time-carrying one takes 0 and a REFIN its own phase
(notes/assumptions/17). -/
def State.buildOutFor (s : State) (a : Option Nat) (b : Nat) (sec : Int) : Rat :=
  let newest : Rat := match (s.track b).hist.head? with | some h => h.2 | none => 0
  match a with
  | none =>
    if s.fld Reg.REF_SEL Reg.REF_SEL_MODE = 1 ∧ s.ref.combo ≠ [] then newest - (s.ens.lastE.getD 0) * 1000000000000
    else if carriesTime b then 0 else newest
  | some a =>
    let r := s.track a
    let from' (n : Int) (x : Rat) : Rat := ((s.track b).xAt n).getD newest - (x - tabGet 0 s.ref.buildOut a)
    if s.refOk a then
      match r.hist.find? (fun h => ((s.track b).xAt h.1).isSome) with
      | some h => from' h.1 h.2
      | none => newest
    else match r.cleanX with
      | some (n, x) => if sec - 10 ≤ n then from' n x else newest
      | none => newest

/-- A signed phase in whole ps, away from 0. -/
def psOut (x : Rat) : Int := if x < 0 then x.floor else x.ceil

/-- Selection moves (R122): states, REF_SEL, the journal, the build-out, and the terms that the bound engine takes. -/
def State.select (s : State) (cur new : Option Nat) (sec : Int) : State :=
  if cur = new then s
  else
    let bo := match new with | some b => s.buildOutFor cur b sec | none => 0
    let s := match cur with | some a => if s.refSt a = 3 then s.setRef a 2 0 else s | none => s
    let s := match new with | some b => s.setRef b 3 0 | none => s
    let s := { s with ref := { s.ref with buildOut := match new with | some b => tabSet 0 [] b bo | none => s.ref.buildOut } }
    let s := s.journal 1 0x0026 (natLe 1 (cur.getD 0x1F) ++ natLe 1 (new.getD 0x1F) ++ intLe 8 (psOut bo))
    match new with
    | some b => ({ s with ref := { s.ref with boFresh := true } } : State).boundIn
        (.buildOut (if carriesTime b then psOut bo else 0) b)
    | none => s

/-- REF_SEL as the states stand (R126). -/
def State.publishSel (s : State) : State :=
  let cur := (List.range 18).find? (fun m => decide (s.refSt m = 3))
  (s.setFld Reg.REF_SEL Reg.REF_SEL_TRACE (cur.getD 0x1F)).setFld Reg.REF_SEL Reg.REF_SEL_MODE (s.paramN 0x108)

/-- The terms that Pod 1 reports for every AVAILABLE or SELECTED reference; the source's reach the bound engine (R176, R177). -/
def State.reportTerms (s : State) : State :=
  let s := (List.range 18).foldl (fun s m =>
    if s.refOk m then
      let a := s.refL0 m
      let b := s.refL1 m
      s.modTrack m (fun r => { r with l0 := a.1, l1 := b.1, lflags := a.2 + b.2 })
    else s) s
  s

/-- The SELECTED reference's terms reach the bound engine. -/
def State.sourceTerms (s : State) : State :=
  match (List.range 18).find? (fun m => decide (s.refSt m = 3)) with
  | some m => let r := s.track m; s.boundIn (.src r.l0 r.l1 r.lflags m)
  | none => s

/-- A write of REF_HB: STALL clears (R115). -/
def State.refBeat (s : State) : State :=
  (({ s with ref := { s.ref with hbTick := s.tkp.rawcnt } } : State).setFld Reg.REF_ISL_STATUS Reg.REF_ISL_STATUS_STALL 0).condOff 92

/-! ### The twin -/

/-- A disagreement of the twin is judged once, when it begins (R353): the parties, their votes, the verdict. -/
def State.twinJudge (s : State) (sec : Int) (x : Rat) (cur : Option Nat) : State :=
  let other := if s.holder then cur else s.best ((List.range 17).filter (fun m => s.refOk m))
  let y := ((s.track 17).yMed).getD 0
  let verdict : Nat := match other with
    | none => 0
    | some b =>
      let t := (s.track 17).medAt
      match s.yMedAt 17 t, s.yMedAt b t with
      | some yt, some yb =>
        let l := s.arbiters 17 b t
        let vt := (s.votes l yt t).length
        let vb := (s.votes l yb t).length
        if l.isEmpty then 0 else if vt < vb then 1 else if vb < vt then 2 else 0
      | _, _ => 0
  let s := (s.journal 0x17 0x0043 (intLe 8 (psOut x) ++ natLe 8 (fpOfRat y).toNat ++ natLe 1 verdict)).condOn 110
  if verdict = 1 ∧ s.holder = false then s.loseDispute 17 sec
  else if verdict = 2 ∧ s.holder = true then (match other with | some b => s.loseDispute b sec | none => s)
  else s

/-- The test of TW while PAIRED: |x_TW| above TWIN_PHASE in 3 consecutive seconds, or the medium test beyond AGREE_LIMIT
(R353). -/
def State.twinTest (s : State) (sec : Int) (cur : Option Nat) : State :=
  let r := s.track 17
  match r.hist, decide (s.twinState = 2) && s.inTwin && decide (1 ≤ s.refSt 17) with
  | (n, x) :: _, true =>
    let beyond := if sec - 1 ≤ n ∧ (s.param 0x10D : Rat) < absQ x then s.ref.twOver + 1 else 0
    let apart := match r.yMed with | some y => decide (freqQ (s.param 0x103) < absQ y) | none => false
    let dis := decide (3 ≤ beyond) || apart
    let was := s.ref.twDis
    let s := { s with ref := { s.ref with twOver := beyond, twDis := dis } }
    if dis && !was then s.twinJudge sec x cur else if !dis && was then s.condOff 110 else s
  | _, _ => ({ s with ref := { s.ref with twOver := 0, twDis := false } } : State).condOff 110

/-! ### The evaluation -/

/-- The evaluation of a VC0 second (R112). -/
def State.refEvaluate (s : State) (sec : Int) : State :=
  let cur := (List.range 18).find? (fun m => decide (s.refSt m = 3))
  let s := (List.range 18).foldl (fun s m => s.refEval m sec) s
  let s := { s with ref := { s.ref with biased := [], evalAt := some sec } }
  let before := s
  let s := s.disputes sec
  let s := s.twinTest sec cur
  let lost := !before.candidates.isEmpty && s.candidates.isEmpty
  let s := { s with ref := { s.ref with dispute := if s.candidates.isEmpty then s.ref.dispute || lost else false } }
  let s := s.reportTerms
  let s := s.select cur (s.choose cur) sec
  (s.sourceTerms.publishSel).refBeat

/-- REF_EVALUATION: once for each VC0 second (R112). -/
def execRefEvaluation (t : Nat) (s : State) : Host.Outcome State Fault Refusal :=
  actAt t (fun s =>
    if s.runsResident 1 && s.tbRuns && decide (s.ref.evalAt ≠ some s.vc0Sec) then s.refEvaluate s.vc0Sec else s) s

/-- REF_QUAL_STALL: 3 s without a write of REF_HB (R115). -/
def execRefQualStall (t : Nat) (s : State) : Host.Outcome State Fault Refusal :=
  actAt t (fun s =>
    if s.ref.hbTick + 3750000000 ≤ s.tkp.rawcnt ∧ s.fld Reg.REF_ISL_STATUS Reg.REF_ISL_STATUS_STALL = 0 then
      let s := (List.range 18).foldl (fun s m =>
        if s.refOk m then
          ((s.setFld (Reg.REF_STATE m) Reg.REF_STATE_STATE 4).setFld (Reg.REF_STATE m) Reg.REF_STATE_CAUSE 0x0D).modTrack m
            (fun r => { r with suspectAt := s.vc0Sec, cleanFrom := none })
        else s) s
      ((s.setFld Reg.REF_SEL Reg.REF_SEL_TRACE 0x1F).setFld Reg.REF_ISL_STATUS Reg.REF_ISL_STATUS_STALL 1).condOn 92
    else s) s

/-! ### ToD reception -/

/-- The effect of a write that leaves `v` in REF_TOD_CFG: EN going to 1 clears the counters, the next label is a first label, and no
pulse is without one yet; the configuration is in force at once while reception is off, else from the next message boundary (R108,
R109, R126, R127). -/
def State.todCfgAct (s : State) (n v : Nat) : State :=
  let a := Reg.REF_TOD_CFG n
  let old := s.reg a
  let s := s.setReg a v
  let s := if old % 2 = 0 ∧ v % 2 = 1 then
      (({ s with ref := { s.ref with todLast := tabSet none s.ref.todLast n none } } : State).setReg (Reg.REF_TOD_CNT n) 0).modTrack (8 + n)
        (fun r => { r with noLabel := 0, label := none, labels := [] })
    else s
  if s.todCfg n % 2 = 0 then s.todBoundary n else s

/-- The pulse before the present VC0 time by the expectation of PPSINn, as its VC0 second, and the time since it. Without an
expectation the pulses are taken at the VC0 seconds (R108; DESIGN CHOICE, notes/assumptions/169). -/
def State.todPulse (s : State) (n : Nat) : Int × Gt :=
  let d := s.vcNow 0 - psToFu (((s.track (8 + n)).expect).getD 0)
  (d / fuSec, d % fuSec)

/-- A valid label reaches Pod 1: it labels the pulse that follows its slot, or the one before where Pod 1 has accepted that (R108,
R109). -/
def State.todLabel (s : State) (n : Nat) (precedes : Bool) (tai : Int) : State :=
  let p := (s.todPulse n).1
  s.modTrack (8 + n) (fun r =>
    if precedes then (if r.lastPulse = some p then { r with label := some (p, tai), noLabel := 0 } else r)
    else { r with labels := (p + 1, tai) :: r.labels.take 1 })

/-- The message ends within its slot: from 10 ms after a pulse to 10 ms before the next (R108). -/
def State.todSlot (s : State) (n : Nat) : Bool :=
  let f := (s.todPulse n).2
  decide (fuSec / 100 ≤ f) && decide (f ≤ fuSec - fuSec / 100)

/-- TOD_MESSAGE_RX: a complete message has arrived; `frameErr` is a framing or parity error (R108, R127). -/
def execTodMessageRx (n : Fin 4) (msg : List Byte) (frameErr : Bool) (t : Nat) (s : State) : Host.Outcome State Fault Refusal :=
  actAt t (fun s =>
    let cfg := s.todCfg n
    if cfg % 2 = 0 then s
    else
      let rej (s : State) : State := s.incFld (Reg.REF_TOD_CNT n) Reg.REF_TOD_CNT_REJ 1
      let s := if frameErr then rej s
        else match readTod s.leapTable (cfg / 16 % 4) msg with
          | .other => s
          | .bad => rej s
          | .label tai =>
            let follows := match tabGet none s.ref.todLast n with | some l => decide (tai = l + 1) | none => true
            if follows && s.todSlot n then
              let s := s.incFld (Reg.REF_TOD_CNT n) Reg.REF_TOD_CNT_ACC 1
              ({ s with ref := { s.ref with todLast := tabSet none s.ref.todLast n (some tai) } } : State).todLabel n
                (decide (cfg / 256 % 2 = 1)) tai
            else rej s
      s.todBoundary n) s

end Sys2Proof.Machine
end

