-- ==== Sys2Proof/Machine/Syn.lean ====
section
/-! DEFINITION. The commands and events of the synthesizers and of their clock outputs (R197 to R210, R221), and
the execution of SYNAT (R374). -/

namespace Sys2Proof.Machine

/-- RESULT of the last host operation on a synthesizer. -/
def State.synResult (s : State) (n x : Nat) : State := s.setFld (Reg.SYN_STATUS n) Reg.SYN_STATUS_RESULT x

/-- A write of SYN_CTRL that is accepted: BMIDX, FOLLOW and EN take their values, EN moves the synthesizer, and a
nonzero OP starts an operation (R201, R203, R221). A reserved OP completes with INVALID_OP, and any OP while EN is 0
with OFF. -/
def State.synCtrlAct (s : State) (n data : Nat) : State :=
  let a := Reg.SYN_CTRL n
  let was := s.fld a Reg.SYN_CTRL_EN
  let fol := s.fld a Reg.SYN_CTRL_FOLLOW
  let s := s.setReg a (setBits (setBits (setBits (setBits 0 20 4 (data / 2 ^ 20)) 16 1 (data / 2 ^ 16)) 8 1 (data / 2 ^ 8)) 0 4 data)
  let en := s.fld a Reg.SYN_CTRL_EN
  let s := if was = 0 ∧ en = 1 then s.relock n 1 (s.reg (Reg.SYN_FREQ n)) else if was = 1 ∧ en = 0 then s.synOff n else s
  let s := if fol = s.fld a Reg.SYN_CTRL_FOLLOW then s
    else s.modSynth n (fun y => { y with ratePend := some (s.vcSet 0).rate })
  let op := data % 16
  if op = 0 then s
  else if 6 ≤ op then s.synResult n 5
  else if en = 0 then s.synResult n 6
  else s.modSynth n (fun y => { y with op := some ⟨op, data / 2 ^ 20 % 16, s.tkp.rawcnt⟩ })

/-- A write of SYN_CTRL (R10, R221). -/
def State.synCtrlWrite (s : State) (n data : Nat) : State := s.posted (Reg.SYN_CTRL n) (fun s => s.synCtrlAct n data)

/-- A write of SYN_CTRL with an operation and a band-memory index, the other fields as they stand. -/
def synCtrlOp (m : Master) (n : SynId) (op : Nat) (idx : Option Nat) (s : State) : Host.Outcome State Fault Refusal :=
  act (fun s => s.regWrite m (Reg.SYN_CTRL n) (fun s =>
    let w := setBits (s.reg (Reg.SYN_CTRL n)) 0 4 op
    s.synCtrlWrite n (match idx with | some k => setBits w 20 4 k | none => w))) s

/-- SYN_ENABLE (R201). -/
def execSynEnable (m : Master) (n : SynId) (data : Nat) (s : State) : Host.Outcome State Fault Refusal :=
  act (fun s => s.regWrite m (Reg.SYN_CTRL n) (fun s => s.synCtrlWrite n data)) s

/-- SEARCH (R203). -/
def execSearch (m : Master) (n : SynId) (s : State) : Host.Outcome State Fault Refusal := synCtrlOp m n 1 none s
/-- HOP (R204). -/
def execHop (m : Master) (n : SynId) (idx : Fin 16) (s : State) : Host.Outcome State Fault Refusal := synCtrlOp m n 2 (some idx) s
/-- STORE (R204). -/
def execStore (m : Master) (n : SynId) (idx : Fin 16) (s : State) : Host.Outcome State Fault Refusal := synCtrlOp m n 3 (some idx) s
/-- CLEAR (R204). -/
def execClear (m : Master) (n : SynId) (idx : Fin 16) (s : State) : Host.Outcome State Fault Refusal := synCtrlOp m n 4 (some idx) s
/-- RELOCK (R203). -/
def execRelock (m : Master) (n : SynId) (s : State) : Host.Outcome State Fault Refusal := synCtrlOp m n 5 none s
/-- SYN_INVALID_OP: an OP of 6 to 15 (R221). -/
def execSynInvalidOp (m : Master) (n : SynId) (op : Nat) (s : State) : Host.Outcome State Fault Refusal :=
  synCtrlOp m n (6 + op % 10) none s

/-- A SYNAT on a synthesizer is due by tick `n`: it goes before a host operation of that tick (R203). -/
def State.synatWaits (s : State) (syn n : Nat) : Bool :=
  (List.range 8).any (fun p => (s.pod p).acts.any (fun a =>
    a.arrived && decide (a.kind = 4) && decide (a.op ≤ 3) && decide (a.index / 16 % 8 = 0) && decide (a.index % 8 = syn)
      && decide (s.actTick a ≤ n)))

/-- SYN_HOST_OP_APPLY: at the first tick at least 1 µs after acceptance, after a SYNAT due by that tick (R203). -/
def execSynHostOpApply (n : SynId) (temp : Int) (s : State) : Host.Outcome State Fault Refusal :=
  act (fun s =>
    match (s.synth n).op with
    | none => s
    | some h =>
      if s.tbStopped || s.synatWaits n (h.tick + ticksPerUs) then s
      else
        let s := ((s.at (h.tick + ticksPerUs)).setTemp temp).modSynth n (fun y => { y with op := none })
        let r := s.synOp n h.op h.idx (s.reg (Reg.SYN_FREQ n))
        (r.2.synResult n r.1).busyDone Reg.SYN_ISL_STATUS) s

/-- SYN_RATE_UPDATE: the next modulator update takes the rate passed by the TKP where FOLLOW is 0 (R22, R198); the modulator has run with the
old one up to here. -/
def execSynRateUpdate (n : SynId) (t : Nat) (s : State) : Host.Outcome State Fault Refusal :=
  actAt t (fun s =>
    match (s.synth n).ratePend with
    | none => s
    | some r => (s.modSynth n (fun _ => { s.modulated n with
        ratePend := none, rate := if s.fld (Reg.SYN_CTRL n) Reg.SYN_CTRL_FOLLOW = 0 then r else 0 })).onOuts n State.showOut) s

/-- What the entry to LOCKED does to a clock output: a mute ends, a hold since a timebase failure ends, and after
a relock the output realigns (R206, R207, R210). -/
def lockOut (relocked : Bool) (s : State) (j : Nat) : State :=
  let s := s.modOut j (fun o => { o with muted := false, tbHold := false })
  let s := if s.outLive j && s.shortPeriod j then s.clamped j else s
  if relocked && s.outEn j then s.realignEvent j else s

/-- The lock window is met: the phase error, whose greatest size in ps is `err`, has stayed within ±100 ps for 5 µs since the state was
entered, and its timeout has not come first (R201). -/
def State.lockMet (s : State) (n err : Nat) : Bool :=
  let st := s.synSt n
  let y := s.synth n
  (st == 1 || st == 2 || st == 4) && decide (err ≤ 100) && decide (y.since + 5 * ticksPerUs ≤ s.tkp.rawcnt)
    && (st == 4 || decide (s.tkp.rawcnt ≤ y.since + (if st = 1 then 4000 else 25) * ticksPerUs))

/-- SYN_LOCK: the lock window is met; from SEARCH the band is the one found (R201). The window is met where the greatest
phase error of the last 5 µs is small enough. -/
def execSynLock (n : SynId) (found : LockFound) (t : Nat) (s : State) : Host.Outcome State Fault Refusal :=
  actAt t (fun s =>
    let st := s.synSt n
    if s.tbStopped || !s.lockMet n found.err then s
    else
      let s := if st = 1 then s.setFld (Reg.SYN_STATUS n) Reg.SYN_STATUS_BAND found.band.toNat else s
      (s.setSynSt n 3).onOuts n (lockOut (st != 4))) s

/-- SYN_LOCK_LOST: the phase error has exceeded ±1 ns for 1 µs (R201, R202). -/
def execSynLockLost (n : SynId) (loss : LockLoss) (s : State) : Host.Outcome State Fault Refusal :=
  actAt loss.t (fun s =>
    if s.synSt n = 3 ∧ 1000 < loss.err then (s.setSynSt n 4).setFld (Reg.SYN_STATUS n) Reg.SYN_STATUS_LOL 1 else s) s

/-- A timed transition of a synthesizer, a number of µs after the entry to its state. -/
def synAfter (n : SynId) (st us : Nat) (f : State → State) (s : State) : Host.Outcome State Fault Refusal :=
  act (fun s =>
    if s.synSt n = st ∧ s.tbStopped = false then f (s.at ((s.synth n).since + us * ticksPerUs)) else s) s

/-- SEARCH_TIMEOUT: 4 ms without lock (R201). -/
def execSearchTimeout (n : SynId) (s : State) : Host.Outcome State Fault Refusal :=
  synAfter n 1 4000 (fun s => s.setSynSt n 5) s

/-- NOLOCK_RETRY: 100 ms in NOLOCK (R201). -/
def execNolockRetry (n : SynId) (s : State) : Host.Outcome State Fault Refusal :=
  synAfter n 5 100000 (fun s => s.relock n 1 (s.synth n).ratio) s

/-- ACQUIRE_TIMEOUT: 25 µs without lock (R201). -/
def execAcquireTimeout (n : SynId) (s : State) : Host.Outcome State Fault Refusal :=
  synAfter n 2 25 (fun s =>
    (s.relock n 1 (s.synth n).ratio).setFld (Reg.SYN_STATUS n) Reg.SYN_STATUS_HOPMISS 1) s

/-- LOOP_NARROW: one half-octave toward CLEAN_BW every 20 µs (R200). -/
def execLoopNarrow (n : SynId) (s : State) : Host.Outcome State Fault Refusal :=
  synAfter n 3 20 (fun s =>
    let c := min 24 (s.reg (Reg.SYN_LOOP n) % 32)
    let k := (s.synth n).code
    let k' := if c < k then k - 1 else if k < c then k + 1 else k
    (s.modSynth n (fun y => { y with code := k', since := s.tkp.rawcnt })).setFld (Reg.SYN_STATUS n)
      Reg.SYN_STATUS_SETTLED (bit (decide (k' = c)))) s

/-- The alignment offset of ALIGN for an output, HOLD and NOSRC: 0 for CTS; for PPSINm the newest x_m, but the last one
of a clean second from FAILED until the reference is AVAILABLE again, and the last one used while it is DISABLED (R164,
R207, R211). -/
def State.alignOf (s : State) (o align : Nat) : Gt × Bool × Bool :=
  if 1 ≤ align ∧ align ≤ 4 then
    let r := tabGet RefTrack.reset s.ref.track (7 + align)
    let held := (s.outp o).xA.getD 0
    let newest (x : Option (Int × Rat)) : Gt := match x with | some (_, v) => psToFu v | none => held
    match s.fld (Reg.REF_STATE (7 + align)) Reg.REF_STATE_STATE with
    | 0 => (held, true, true)
    | 1 => if r.cleanX.isSome then (newest r.cleanX, true, false) else (newest r.hist.head?, false, false)
    | 5 => (newest r.cleanX, true, false)
    | _ => (newest r.hist.head?, false, false)
  else (0, false, false)

/-- CLKOUT_REALIGN: at the first alignment instant at least 1 ms after the event; the output lengthens one cycle, so that a rising edge falls
on the instant (R207). -/
def execClkoutRealign (j : Fin 8) (sec : Int) (s : State) : Host.Outcome State Fault Refusal :=
  act (fun s =>
    let x := s.alignOf j (s.fld (Reg.SYN_OUT_CTRL j) Reg.SYN_OUT_CTRL_ALIGN)
    let inst := sec * fuSec + x.1
    match (s.outp j).realign with
    | none => s
    | some ev =>
      if ev + fuSec / 1000 ≤ inst ∧ inst < ev + fuSec / 1000 + fuSec ∧ s.outLive j
          ∧ s.synSt (j / 2) = 3 ∧ s.fld (Reg.SYN_OUT_STATUS j) Reg.SYN_OUT_STATUS_ALIGN_NA = 0 then
        (((s.at (tickOf (s.vcSet 0) inst)).modOut j (fun o => { o with
          realign := none, edge := some inst, xA := if s.fld (Reg.SYN_OUT_CTRL j) Reg.SYN_OUT_CTRL_ALIGN = 0 then o.xA else some x.1 })).setFld
          (Reg.SYN_OUT_STATUS j) Reg.SYN_OUT_STATUS_ALIGNED 1).setFld (Reg.SYN_OUT_STATUS j) Reg.SYN_OUT_STATUS_NOSRC
            (bit x.2.2)
      else s) s

/-- The fields of SYN_OUT_CTRL that a write stores: ALIGN keeps its value for a reserved encoding, SAFE for 3 (R12). -/
def State.outCtrlAct (s : State) (j data : Nat) : State :=
  let a := Reg.SYN_OUT_CTRL j
  let old := s.reg a
  let was := s.outEn j
  let v := setBits (setBits (setBits (setBits 0 12 2 (data / 2 ^ 12)) 2 2 (data / 4)) 0 1 data) 8 4
    (if data / 256 % 16 ≤ 4 then data / 256 else old / 256)
  let v := setBits v 4 2 (if data / 16 % 4 = 3 then old / 16 else data / 16)
  let s := s.setReg a v
  let s := if !was && s.outEn j then s.outOn j else if was && !s.outEn j then s.outOff j else s.showOut j
  if data / 2 ^ 14 % 2 = 1 then s.modOut j (fun o => { o with realign := some (s.vcNow 0) }) else s

/-- A write of SYN_OUT_CTRL (R10). -/
def State.outCtrlWrite (s : State) (j data : Nat) : State := s.posted (Reg.SYN_OUT_CTRL j) (fun s => s.outCtrlAct j data)

/-- ALIGNGO: a write of SYN_OUT_CTRL with ALIGNGO (R207). -/
def execAligngo (m : Master) (j : Fin 8) (data : Nat) (s : State) : Host.Outcome State Fault Refusal :=
  act (fun s => s.regWrite m (Reg.SYN_OUT_CTRL j) (fun s => s.outCtrlWrite j (setBits data 14 1 1))) s

/-- A write sets CFG_REJ of an island (R502): the field lies at bit 2 of the island's status register. -/
def State.cfgRej (s : State) (isl : Nat) : State := s.setReg isl (setBits (s.reg isl) 2 1 1)

/-- The settings of a pulse output as its registers stand (R211, R215). -/
def State.ppsCfg (s : State) (k : Nat) : PpsCfg where
  width := s.reg (Reg.SYN_PPS_WIDTH k)
  offset := toSigned 40 (s.reg (Reg.SYN_PPS_OFFSET k))
  align := s.fld (Reg.SYN_PPS_CTRL k) Reg.SYN_PPS_CTRL_ALIGN
  pol := s.fld (Reg.SYN_PPS_CTRL k) Reg.SYN_PPS_CTRL_POL

/-- A write of WIDTH, OFFSET, ALIGN or POL while EN is 1 holds for pulses at least 2 ms later; the settings before
it hold until then (R215). -/
def State.ppsRecord (s : State) (k : Nat) (old : PpsCfg) : State :=
  if s.outEn (8 + k) ∧ s.ppsCfg k ≠ old then
    s.modOut (8 + k) (fun o => { o with
      cfgs := (s.tkp.rawcnt + 2500000, s.ppsCfg k) :: (if o.cfgs = [] then [(0, old)] else o.cfgs) })
  else s

/-- A write of SYN_PPS_CTRL: MODE is locked while EN is 1, unless the write itself leaves it (R215, R502). -/
def State.ppsCtrlAct (s : State) (k data : Nat) : State :=
  let a := Reg.SYN_PPS_CTRL k
  let old := s.reg a
  let was := s.outEn (8 + k)
  let mode := if data / 2 % 4 = 3 then old / 2 % 4 else data / 2 % 4
  if was ∧ mode ≠ old / 2 % 4 then s.cfgRej Reg.SYN_ISL_STATUS
  else
    let cfg := s.ppsCfg k
    let v := setBits (setBits (setBits 0 6 1 (data / 64)) 1 2 mode) 0 1 data
    let v := setBits v 8 4 (if data / 256 % 16 ≤ 4 then data / 256 else old / 256)
    let v := setBits v 4 2 (if data / 16 % 4 = 3 then old / 16 else data / 16)
    let s := (s.setReg a v).ppsRecord k cfg
    if !was && s.outEn (8 + k) then s.outOn (8 + k) else if was && !s.outEn (8 + k) then s.outOff (8 + k) else s

/-- A write of SYN_IRIG_CTRL. -/
def State.irigCtrlAct (s : State) (n data : Nat) : State :=
  let a := Reg.SYN_IRIG_CTRL n
  let was := s.outEn (16 + n)
  let v := setBits (data % 64) 6 2 (if data / 64 % 4 = 3 then s.reg a / 64 else data / 64)
  let s := s.setReg a v
  if !was && s.outEn (16 + n) then s.outOn (16 + n) else if was && !s.outEn (16 + n) then s.outOff (16 + n) else s

/-- A write of SYN_TOD_CTRL: FMT keeps its value for 3, SAFE for 3; while EN is 1 it holds from the next message
boundary (R220, R221). -/
def State.todCtrlAct (s : State) (n data : Nat) : State :=
  let a := Reg.SYN_TOD_CTRL n
  let old := s.reg a
  let was := s.outEn (18 + n)
  let v := setBits (setBits (setBits 0 16 16 (data / 2 ^ 16)) 8 7 (data / 256)) 0 1 data
  let v := setBits v 4 2 (if data / 16 % 4 = 3 then old / 16 else data / 16)
  let v := setBits v 1 2 (if data / 2 % 4 = 3 then old / 2 else data / 2)
  let s := s.setReg a v
  if !was && s.outEn (18 + n) then s.outOn (18 + n) else if was && !s.outEn (18 + n) then s.outOff (18 + n) else s

/-- The control register of an output, and the effect of a write of it. -/
def outCtrlReg (o : Nat) : Nat :=
  if o < 8 then Reg.SYN_OUT_CTRL o else if o < 16 then Reg.SYN_PPS_CTRL (o - 8)
  else if o < 18 then Reg.SYN_IRIG_CTRL (o - 16) else Reg.SYN_TOD_CTRL (o - 18)

/-- The effect of a write of an output's control register. -/
def State.outAct (s : State) (o data : Nat) : State :=
  if o < 8 then s.outCtrlAct o data else if o < 16 then s.ppsCtrlAct (o - 8) data
  else if o < 18 then s.irigCtrlAct (o - 16) data else s.todCtrlAct (o - 18) data

/-- OUTPUT_ENABLE: a write of an output's control register (R209). -/
def execOutputEnable (m : Master) (o : Fin 22) (data : Nat) (s : State) : Host.Outcome State Fault Refusal :=
  act (fun s => s.regWrite m (outCtrlReg o) (fun s => s.posted (outCtrlReg o) (fun s => s.outAct o data))) s

/-- The output number of a SYNAT target: 1 CLKOUT, 2 PPSOUT, 3 IRIGOUT, 4 TODOUT; none where it names none (R374). -/
def synatOut (target idx : Nat) : Option Nat :=
  if target = 1 then some idx
  else if target = 2 then some (8 + idx)
  else if target = 3 ∧ idx < 2 then some (16 + idx)
  else if target = 4 ∧ idx < 4 then some (18 + idx)
  else none

/-- SYNAT_EXECUTE: the operation of its table, or TOO_SOON for a target that does not accept it (R374). -/
def execSynatExecute (p : PodId) (id : Nat) (temp : Int) (s : State) : Host.Outcome State Fault Refusal :=
  execAction p id 4 (fun a n s =>
    let s := s.setTemp temp
    let idx := a.index % 8
    let tgt := a.index / 16 % 8
    if a.op ≤ 3 then
      if tgt = 0 ∧ idx < 4 then
        let op := if a.op = 0 then 1 else if a.op = 1 then 2 else if a.op = 2 then 5 else 3
        let r := s.synOp idx op (a.val % 16) (a.val % 2 ^ 52)
        let displaced := match (s.synth idx).op with | some h => decide (h.tick + ticksPerUs = n) | none => false
        if r.1 = 1 then
          (if displaced then
            ((r.2.modSynth idx (fun y => { y with op := none })).synResult idx 7).busyDone Reg.SYN_ISL_STATUS
          else r.2, 0)
        else (s, 2)
      else (s, 2)
    else match synatOut tgt idx with
      | none => (s, 2)
      | some o => (if a.op = 4 then s.outForce o else s.outRelease o, 0)) s

end Sys2Proof.Machine
end

