-- ==== Sys2Proof/Machine/Bus.lean ====
section
/-! DEFINITION. The bus matrix: the address map, the checks of an access, and what a write or a read of any register does
(R10 to R12, R58, R79, R387, R399 to R414, R502). -/

namespace Sys2Proof.Machine

/-! ### The address map -/

/-- The targets that have a place in the address map (R399, R404). -/
inductive Target where
  | brom | work | sram | mram | reg | dram
deriving DecidableEq, Repr

/-- The target of an access of `n` bytes and the offset in it, none where no region lies at the address (R399). -/
def State.target (s : State) (a n : Nat) : Option (Target × Nat) :=
  let low : Target × Target := if s.fld Reg.SYS_REMAP Reg.SYS_REMAP_SWAP = 0 then (.brom, .work) else (.work, .brom)
  if a + n ≤ 0x40000 then some (low.1, a)
  else if 0x40000 ≤ a ∧ a + n ≤ 0x80000 then some (low.2, a - 0x40000)
  else if 0x10000000 ≤ a ∧ a + n ≤ 0x13000000 then some (.sram, a - 0x10000000)
  else if 0x20000000 ≤ a ∧ a + n ≤ 0x20800000 then some (.mram, a - 0x20000000)
  else if (rowsAt a).isEmpty = false then some (.reg, a)
  else if s.dramIn a n then some (.dram, a)
  else none

/-- What the matrix allows a master (R404). -/
def allows (m : Nat) (t : Target) (wr : Bool) : Bool :=
  let pod := decide (2 ≤ m ∧ m ≤ 9)
  match t with
  | .brom => !wr && (pod || decide (m = 11))
  | .work => decide (11 ≤ m)
  | .sram => decide (11 ≤ m)
  | .mram => decide (m = 11 ∨ m = 14)
  | .reg => decide (m ≤ 1 ∨ m = 11) || (pod && !wr)
  | .dram => pod || [0, 10, 11, 13, 14].contains m

/-- Two ranges of bytes share a byte. -/
def overlap (a n b k : Nat) : Bool := decide (a < b + k) && decide (b < a + n)

/-- HOST and the Pods may not reach the Placer's region, nor write the journal ring or the telemetry archive (R411). -/
def State.dramDenied (s : State) (m a n : Nat) (wr : Bool) : Bool :=
  decide (m = 0 ∨ 2 ≤ m ∧ m ≤ 9) && (decide (s.placerBase < a + n)
    || (wr && s.jrnEn && overlap a n s.jrnBase s.jrnSize)
    || (wr && decide (s.fld Reg.TEL_ARCH_CFG Reg.TEL_ARCH_CFG_EN = 1) && overlap a n s.archBase s.archSize))

/-! ### The checks of an access -/

/-- The Pod, the offset and true for DMEM of an address in the memories of a Pod window (R35). -/
def podMemAt (a : Nat) : Option (Nat × Nat × Bool) :=
  let o := (a - 0x40400000) % 0x40000
  if 0x40400000 ≤ a ∧ a < 0x40600000 ∧ o < 0x20000 then
    some ((a - 0x40400000) / 0x40000, o % 0x10000, decide (0x10000 ≤ o))
  else none

/-- The addresses of the 32-bit words of an access. -/
def accWords (a size : Nat) : List Nat := if size = 8 then [a, a + 4] else [a]

/-- The cause that ends a write of one register word, 0 for none (R404, R405, R408, R410). -/
def State.wordWrCause (s : State) (m a : Nat) : Nat :=
  match regAt a with
  | none => 2
  | some (_, b) =>
    let late := decide (b = Reg.SYS_REMAP) && !(decide (m = 11) && decide (s.fld Reg.PWR_BOOT Reg.PWR_BOOT_STAGE < 4))
    let permit := decide (b = Reg.TKP_STEP_PERMIT) && decide (1 < m)
    if !mayWrite m b || late || permit then 3 else if s.gated b then 5 else 0

/-- The cause that ends a read of one register word, 0 for none. -/
def State.wordRdCause (s : State) (m a : Nat) : Nat :=
  match regAt a with
  | none => 2
  | some (_, b) => if !mayRead m b then 3 else if s.gated b then 5 else 0

/-- The first cause of a list that is one. -/
def firstCause (l : List Nat) : Nat := (l.find? (fun c => decide (c ≠ 0))).getD 0

/-- The cause that ends an access to REG after the matrix has let it pass (R35, R400, R408). -/
def State.regCause (s : State) (m a size : Nat) (wr : Bool) : Nat :=
  if !(size == 4 || size == 8) || a % size ≠ 0 then 4
  else match podMemAt a with
    | some (p, _, _) =>
      if wr && !mayWrite m a then 3 else if wr && decide (s.podSt p ≠ 0) then 7 else 0
    | none => firstCause ((accWords a size).map (fun x => if wr then s.wordWrCause m x else s.wordRdCause m x))

/-- The cause that ends an access, 0 for none (R404, R408, R411). SPIM reaches its view of the registers alone (R387). -/
def State.busCause (s : State) (m a size : Nat) (wr : Bool) : Nat :=
  match s.target a size with
  | none => if m = 1 then 3 else 1
  | some (t, _) =>
    if !allows m t wr || (decide (m = 1) && !mayRead 1 a) then 3
    else match t with
      | .reg => s.regCause m a size wr
      | .dram => if s.dramDenied m a size wr then 3 else 0
      | _ => 0

/-! ### Writes of fields -/

/-- A register with a posted field (R10). -/
def RegRow.posts (r : RegRow) : Bool := r.fields.any (fun f => decide (f.acc = .rwp))

/-- A write of bits [off + len - 1 : off] of a register reaches one of its posted fields. -/
def RegRow.postsIn (r : RegRow) (off len : Nat) : Bool :=
  r.fields.any (fun f => decide (f.acc = .rwp) && overlap f.lo f.len off len)

/-- The fields of a register after a write of `d`, of which the bits written 1 are `ones`: read-only fields stay, W1C bits
clear, reserved encodings keep the old value (R10 to R12). -/
def RegRow.merge (r : RegRow) (old d ones : Nat) : Nat :=
  r.fields.foldl (fun v f =>
    let x := getBits d f.lo f.len
    match f.acc with
    | .ro => v
    | .wo => v
    | .w1c => setBits v f.lo f.len (getBits old f.lo f.len &&& (2 ^ f.len - 1 - getBits ones f.lo f.len))
    | _ => if f.rsvLo ≤ x ∧ x ≤ f.rsvHi then v else setBits v f.lo f.len x) old

/-- What the words written so far of a multi-word register hold: the register itself before the first (R79). -/
def State.stagedVal (s : State) (b : Nat) : Nat :=
  match tabGet 0 s.hif.staged b with
  | 0 => s.reg b
  | v + 1 => v

/-- Sets or clears what a multi-word register has staged. -/
def State.setStaged (s : State) (b : Nat) (v : Option Nat) : State :=
  { s with hif := { s.hif with staged := tabSet 0 s.hif.staged b (match v with | some x => x + 1 | none => 0) } }

/-- The registers whose words are themselves staging words: TKP_VC_SOFF, TKP_VC_SRATE and TKP_VC_INC's SINC (R79). -/
def selfStaging (b : Nat) : Bool :=
  decide (Reg.TKP_VC_SOFF 0 ≤ b ∧ b < Reg.TKP_VC_SOFF 8) && decide (0x10 ≤ b % 0x80 ∧ b % 0x80 < 0x30)

/-- The number of a register in a row of `n` from `base` on, `step` bytes apart. -/
def nth (b base step n : Nat) : Option Nat :=
  if base ≤ b ∧ (b - base) % step = 0 ∧ (b - base) / step < n then some ((b - base) / step) else none

/-! ### Writes that are turned away -/

/-- The channel, its register's offset, and true where the register configures it (R82, R102, R103). -/
def chanOf (b : Nat) : Option (Nat × Nat) :=
  if Reg.TDC_CH_CTRL 0 ≤ b ∧ b < Reg.TDC_CH_CTRL 32 then
    let o := (b - Reg.TDC_CH_CTRL 0) % 0x40
    if [0, 4, 0x10, 0x20, 0x24, 0x28, 0x2C, 0x30, 0x38].contains o then some ((b - Reg.TDC_CH_CTRL 0) / 0x40, o) else none
  else none

/-- A write of a register of the SYN island is turned away (R58, R215). -/
def State.synRejects (s : State) (b : Nat) (v : Nat) (badNs : Bool) : Bool :=
  match nth b (Reg.SYN_PPS_PER 0) 0x40 8, nth b (Reg.SYN_PPS_START 0) 0x40 8, nth b (Reg.SYN_PPS_FRAME 0) 0x40 8 with
  | some k, _, _ => s.outEn (8 + k) && decide (v ≠ s.reg b)
  | _, some k, _ => badNs || (s.outEn (8 + k) && decide (v ≠ s.reg b))
  | _, _, some k => s.outEn (8 + k) && decide (v ≠ s.reg b)
  | _, _, _ => false

/-- FREQ of GNS_CLK_CFG as it is stored (R249). -/
def gnsFreq (v : Nat) : Nat := min 163680 (max 16368 v)

/-- A write of a register of the GNS island is turned away (R249). -/
def State.gnsRejects (s : State) (b v : Nat) : Bool :=
  if b = Reg.GNS_CLK_CFG then (List.range 4).any (fun p => s.gnPort p) && decide (gnsFreq v ≠ s.reg b)
  else match nth b (Reg.GNS_PORT_CENTER 0) 0x40 4 with
    | some p => s.gnPort p && decide (v ≠ s.reg b)
    | none => false

/-- Two ports differ in mode (R269). -/
def State.modesDiffer (s : State) (p q : Nat) : Bool :=
  [Reg.MAC_PORT_CFG_SPEED, Reg.MAC_PORT_CFG_ENC, Reg.MAC_PORT_CFG_FEC].any (fun f =>
    decide (s.fld (Reg.MAC_PORT_CFG p) f ≠ s.fld (Reg.MAC_PORT_CFG q) f))

/-- A write of a register of a MAC island is turned away (R58, R262, R266, R269). -/
def State.macRejects (s : State) (b v : Nat) (badNs : Bool) : Bool :=
  let p := (b - 0x40100000) / 0x10000
  let o := b % 0x10000
  let pending := decide (s.fld (Reg.MAC_QBV_STATUS p) Reg.MAC_QBV_STATUS_PENDING = 1)
  if o = 0x44 then decide (getBits v 16 16 ≤ getBits v 0 16)
  else if o = 0x310 then badNs || (pending && decide (v ≠ s.reg b))
  else if o = 0x320 ∨ 0x4000 ≤ o then pending && decide (v ≠ s.reg b)
  else if o = 0x500 then decide (v % 2 = 1) && decide (s.reg b % 2 = 0) && s.modesDiffer p (p + 1)
  else false

/-- A 128-bit address is IPv4-mapped (R462). -/
def mapped4 (v : Nat) : Bool := decide (v / 2 ^ 32 = 0xFFFF)

/-- The archive of a configuration may be enabled: installed DRAM outside the Placer's region and the journal ring (R463). -/
def State.archOk (s : State) : Bool :=
  s.dramFree s.archBase s.archSize && !(s.jrnEn && overlap s.archBase s.archSize s.jrnBase s.jrnSize)

/-- A write of a register of the TEL island is turned away (R460, R462, R463). -/
def State.telRejects (s : State) (b v : Nat) : Bool :=
  if b = Reg.TEL_CFG then
    let was := decide (s.reg b % 2 = 1)
    (was && decide (getBits v 1 1 ≠ s.fld b Reg.TEL_CFG_DEST))
      || (!was && decide (v % 2 = 1) && decide (getBits v 1 1 = 1) && (mapped4 (s.reg Reg.TEL_UDP_SIP) != mapped4 (s.reg Reg.TEL_UDP_DIP)))
  else if b = Reg.TEL_ARCH_CFG then decide (v % 2 = 1) && decide (s.reg b % 2 = 0) && !(s.setReg b v).archOk
  else false

/-- The field types that BFTYPE may not take (R322). -/
def bfTypeBad (x : Nat) : Bool := [0x0104, 0x0204, 0x0304, 0x0404].contains x

/-- The rejection of a write of a register that has a rule of its own, none where the write goes on. `v` is the register as
the write would leave it (R58, R82, R102, R196, R215, R249, R322, R357, R389, R502). -/
def State.regRejects (s : State) (b v : Nat) (badNs : Bool) : Option State :=
  let isl := b / 0x10000
  match chanOf b with
  | some (c, o) =>
    if (s.chan c).owner ≠ 0 then some (s.chanHost c (fun s => (s, true)))
    else if o = 0x10 ∧ (badNs || s.chanEn c) = true then some (s.chanRej c)
    else none
  | none =>
    if isl = 0x4005 then (if s.synRejects b v badNs then some (s.cfgRej Reg.SYN_ISL_STATUS) else none)
    else if isl = 0x4006 then (if s.gnsRejects b v then some (s.cfgRej Reg.GNS_ISL_STATUS) else none)
    else if 0x4010 ≤ isl ∧ isl ≤ 0x4018 then (if s.macRejects b v badNs then some (s.macRej (isl - 0x4010)) else none)
    else if b = Reg.NSE_CFG then (if bfTypeBad (getBits v 16 16) then some (s.cfgRej Reg.NSE_ISL_STATUS) else none)
    else if b = Reg.TWN_SVC_MAC then (if s.inTwin && decide (v ≠ s.reg b) then some s.twnRej else none)
    else if isl = 0x4038 then
      (match nth b (Reg.HIF_RING_BASE 0) 0x20 4 with
       | some r => if s.ringEn r && decide (v ≠ s.reg b) then some s.hifRej else none
       | none => none)
    else if b = Reg.JRN_BASE then (if s.jrnEn && decide (v ≠ s.reg b) then some s.jrnRej else none)
    else if isl = 0x403A then (if s.telRejects b v then some (s.cfgRej Reg.TEL_ISL_STATUS) else none)
    else none

/-! ### What an accepted write does -/

/-- A write of a register of the TKP island (R64, R69, R78). -/
def State.actTkp (s : State) (b d v : Nat) : State :=
  if b = Reg.TKP_STEP_PERMIT then s.permitWrite d
  else if b = Reg.TKP_LATCH_CTRL then s.latchAct d
  else match nth b (Reg.TKP_VC_CTRL 0) 0x80 8 with
    | some n => s.vcCtrlAct n d
    | none => s.setReg b v

/-- A write of a register of the TDC island (R82, R100, R102). -/
def State.actTdc (s : State) (b d v : Nat) : State :=
  if b = Reg.TDC_GCTRL then s.gctrlAct d
  else match chanOf b with
    | some (c, 0) => s.chanHost c (fun s => s.chanCtrl c d)
    | some (c, o) => s.chanHost c (fun s => s.chanConf c o d)
    | none => s.setReg b v

/-- A write of a register of the REF island: the counts of a ToD input clear when it is enabled (R126). -/
def State.actRef (s : State) (b v : Nat) : State :=
  match nth b (Reg.REF_TOD_CFG 0) 0x10 4 with
  | some n => s.todCfgAct n v
  | none => s.setReg b v

/-- A write of a register of the ENS island (R195). -/
def State.actEns (s : State) (b d v : Nat) : State :=
  if b = Reg.ONION_LATCH then s.onionLatchAct d
  else match nth b (Reg.ONION_L4 0) 4 19 with
    | some j => s.onionL4Act j d
    | none => s.setReg b v

/-- The output whose control register lies at an address. -/
def outAt (b : Nat) : Option Nat := (List.range 22).find? (fun o => decide (outCtrlReg o = b))

/-- A write of SYN_LOOP: while LOCKED the loop moves to the new code by the steps of R200, and SETTLED shows that it stands elsewhere. -/
def State.synLoopAct (s : State) (n v : Nat) : State :=
  let s := s.setReg (Reg.SYN_LOOP n) v
  if s.synSt n = 3 then
    let at' := decide ((s.synth n).code = min 24 (v % 32))
    let s := if at' || s.fld (Reg.SYN_STATUS n) Reg.SYN_STATUS_SETTLED = 0 then s
      else s.modSynth n (fun y => { y with since := s.tkp.rawcnt })
    s.setFld (Reg.SYN_STATUS n) Reg.SYN_STATUS_SETTLED (bit at')
  else s

/-- A write of a register of the SYN island (R198, R200, R203, R205, R209, R215). -/
def State.actSyn (s : State) (b d v : Nat) : State :=
  match outAt b, nth b (Reg.SYN_CTRL 0) 0x200 4, nth b (Reg.SYN_OUT_DIV 0) 0x40 8 with
  | some o, _, _ => s.outAct o d
  | _, some n, _ => s.synCtrlAct n d
  | _, _, some j => (s.setReg b v).showOut j
  | _, _, _ =>
    match nth b (Reg.SYN_LOOP 0) 0x200 4, nth b (Reg.SYN_OUT_MINPER 0) 0x40 8, nth b (Reg.SYN_FREQ 0) 0x200 4 with
    | some n, _, _ => s.synLoopAct n v
    | _, some j, _ => (s.setReg b v).showOut j
    | _, _, some n => (s.setReg b v).onOuts n State.showOut
    | _, _, _ =>
    match nth b (Reg.SYN_PPS_WIDTH 0) 0x40 8, nth b (Reg.SYN_PPS_OFFSET 0) 0x40 8 with
    | some k, _ => (s.setReg b v).ppsRecord k (s.ppsCfg k)
    | _, some k => (s.setReg b v).ppsRecord k (s.ppsCfg k)
    | _, _ => s.setReg b v

/-- A write of a register of the GNS island; the frame that a GO brings back is a free value (R249). -/
def State.actGns (s : State) (b d v : Nat) : State :=
  if b = Reg.GNS_CLK_CFG then s.setReg b (gnsFreq v)
  else if b = Reg.GNS_FESPI_CTRL then (s.fresh).2.fespiWrite d (some (s.fresh).1)
  else match nth b (Reg.GNS_PORT_CTRL 0) 0x40 4 with
    | some p => s.gnPortWrite p d
    | none => s.setReg b v

/-- A write of a register of a MAC island; the data that a PHY answers are a free value (R251, R262, R415). -/
def State.actMac (s : State) (b d v : Nat) : State :=
  let p := (b - 0x40100000) / 0x10000
  let o := b % 0x10000
  if o = 0x10 then s.portCfg p d
  else if o = 0x300 then s.qbvCtrl p d
  else if b = Reg.MAC_MDIO then (s.fresh).2.mdioAct d ((s.fresh).1 % 65536)
  else s.setReg b v

/-- A write of a register of the FLT island (R417, R419, R422, R424). -/
def State.actFlt (s : State) (b d v : Nat) : State :=
  if b = Reg.FLT_CFG then (s.setReg b v).fltPins
  else if b = Reg.FLT_ACK then s.fltAckAct d
  else match nth b (Reg.FLT_PEND 0) 4 5, nth b (Reg.FLT_CLASS 0) 4 160 with
    | some w, _ => s.fltPendAct w d
    | _, some n => s.fltClassAct n d
    | _, _ => s.setReg b v

/-- A write of a register of the PMC island (R454, R456). -/
def State.actPmc (s : State) (b d v : Nat) : State :=
  if b = Reg.PMC_CTRL then s.pmcCtrlAct d
  else if b = Reg.PMC_WIN then
    let old := s.pmcLen
    let s := s.setReg b v
    if s.pmcLen = 0 then { s with pmc := { s.pmc with last := none } }
    else if s.pmcLen = old then s
    else { s with pmc := { s.pmc with lenAt := s.tkp.rawcnt } }
  else s.setReg b v

/-- A write of a register of the CHK island: reserved streams and an INDEX outside the stream's range keep their value, ALG
follows STREAM, the baselines restart, and the counts clear when EN goes to 1 (R464, R465, R469). -/
def State.actChk (s : State) (b d v : Nat) : State :=
  match nth b (Reg.CHK_CFG 0) 0x20 8 with
  | none => s.setReg b v
  | some n =>
    let old := s.reg b
    let stream := if getBits d 1 3 = 7 then getBits old 1 3 else getBits d 1 3
    let idx := if stream = 1 ∧ 3 < getBits d 8 3 then getBits old 8 3 else getBits d 8 3
    let s := s.setReg b (idx * 256 + bit (decide (stream = 6)) * 16 + stream * 2 + d % 2)
    let s := { s with chk := { s.chk with base := tabSet [] s.chk.base n [] } }
    if old % 2 = 0 ∧ d % 2 = 1 then (s.setReg (Reg.CHK_ITEMS n) 0).setReg (Reg.CHK_ERR n) 0 else s

/-- A write of a register of the HIF island (R389, R413). -/
def State.actHif (s : State) (b d v : Nat) : State :=
  if b = Reg.HIF_HWDOG then s.hwdogWrite d
  else match nth b (Reg.HIF_RING_CFG 0) 0x20 4, nth b (Reg.HIF_RING_PI 0) 0x20 4, nth b (Reg.HIF_RING_CI 0) 0x20 4 with
    | some r, _, _ => s.ringCfgWrite r d
    | _, some r, _ => if r = 0 then s.ringPiWrite d else s
    | _, _, some r => s.ringCiWrite r d
    | _, _, _ => s.setReg b v

/-- A write of a register of the TEL island: MTU is clamped (R468). -/
def State.actTel (s : State) (b v : Nat) : State :=
  if b = Reg.TEL_UDP_CTRL then s.setReg b (setBits v 16 16 (min 9000 (max 256 (getBits v 16 16)))) else s.setReg b v

/-- The effect of an accepted write of the whole register at `b`: `d` holds the bits written, `v` the fields as R10 to R12
leave them. -/
def State.regAct (s : State) (m b d v : Nat) : State :=
  let isl := b / 0x10000
  if b = Reg.SYS_SNAP then s.sysSnapWrite d
  else if isl = 0x4001 then s.actTkp b d v
  else if isl = 0x4002 then s.actTdc b d v
  else if isl = 0x4003 then s.actRef b v
  else if isl = 0x4004 then s.actEns b d v
  else if isl = 0x4005 then s.actSyn b d v
  else if isl = 0x4006 then s.actGns b d v
  else if 0x4010 ≤ isl ∧ isl ≤ 0x4018 then s.actMac b d v
  else if isl = 0x4030 then (if b = Reg.KEY_ISL_STATUS then s.setReg b v else s)
  else if b = Reg.TWN_CFG then s.twnCfg d
  else if isl = 0x4032 then s.actFlt b d v
  else if b = Reg.PWR_RESET then s.pwrResetAct m d
  else if b = Reg.CLK_GATE then s.gateAct d
  else if isl = 0x4035 then s.actPmc b d v
  else if isl = 0x4036 then s.actChk b d v
  else if isl = 0x4038 then s.actHif b d v
  else if b = Reg.JRN_CFG then s.jrnCfgAct d
  else if isl = 0x403A then s.actTel b v
  else match nth b (Reg.POD_WDOG 0) 0x40000 8 with
    | some p => s.podWdogAct p d
    | none => s.setReg b v

/-- A write of bits [off + len - 1 : off] of the register at `b`: a multi-word register with posted fields takes its value
when its last word is written (R79, R377). -/
def State.regPut (s : State) (m : Nat) (r : RegRow) (b off len data : Nat) : State :=
  let multi := decide (4 < r.bytes) && r.posts && !selfStaging b
  let d := setBits (if multi then s.stagedVal b else s.reg b) off len data
  let v := r.merge (s.reg b) d (setBits 0 off len data)
  let badNs := decide (off ≤ 32 ∧ 32 < off + len) && decide (999999999 < getBits d 32 32)
  match s.regRejects b v badNs with
  | some s' => s'
  | none =>
    if multi && decide (off + len < 8 * r.bytes) then s.setStaged b (some d)
    else (s.regAct m b (if r.bytes = 4 then data % 2 ^ 32 else d) v).setStaged b none

/-- The parts of an access to registers: row, lowest address, bit offset, length and data of each (R400). -/
def regParts (a size data : Nat) : List (RegRow × Nat × Nat × Nat × Nat) :=
  match regAt a with
  | none => []
  | some (r, b) =>
    if size = 4 then [(r, b, 8 * (a - b), 32, data % 2 ^ 32)]
    else match regAt (a + 4) with
      | none => []
      | some (r', b') =>
        if b = b' then [(r, b, 8 * (a - b), 64, data % 2 ^ 64)]
        else [(r, b, 8 * (a - b), 32, data % 2 ^ 32), (r', b', 8 * (a + 4 - b'), 32, data / 2 ^ 32 % 2 ^ 32)]

/-- An accepted access to registers, lower address first: one posted write where it reaches a posted field (R400, R401). -/
def State.regsPut (s : State) (m a size data : Nat) : State :=
  let l := regParts a size data
  let f (s : State) : State := l.foldl (fun s x => s.regPut m x.1 x.2.1 x.2.2.1 x.2.2.2.1 x.2.2.2.2) s
  if l.any (fun x => x.1.postsIn x.2.2.1 x.2.2.2.1) then s.posted a f else f s

/-- The effect of a write that the matrix delivers. What a write into the MRAM window does is not stated: MRAM changes by the
records of R436 alone. -/
def State.busStore (s : State) (m a size data : Nat) : State :=
  match s.target a size with
  | some (.reg, _) =>
    (match podMemAt a with
     | some (p, o, true) => s.dmemWrite p o (natLe size data)
     | some (p, o, false) => s.modPod p (fun q => { q with imem := putBytes (s.imemDef p) q.imem o (natLe size data) })
     | none => s.regsPut m a size data)
  | some (.dram, o) => { s with dram := putBytes zeros s.dram o (natLe size data) }
  | some (.sram, o) => { s with sram := putBytes zeros s.sram o (natLe size data) }
  | some (.work, o) => { s with sram := putBytes zeros s.sram (0x3000000 + o) (natLe size data) }
  | _ => s

/-- A write of a master (R404 to R408). -/
def State.busPut (s : State) (m a size data : Nat) : State :=
  if s.busCause m a size true = 0 then s.busStore m a size data
  else s.busError m a true (s.busCause m a size true)

/-! ### Reads -/

/-- The registers whose value the engine shows from other state: the faults present, the MRAM fault log, the state found of a
slot, the service and the latencies of a port, the GPIO levels (R252, R266, R341, R420, R427, R480). -/
def State.regView (s : State) (b : Nat) : Nat :=
  if b = Reg.SYS_GPIO_IN then
    let oe := s.fld Reg.SYS_GPIO_CTRL Reg.SYS_GPIO_CTRL_OE
    (s.hif.gpio % 65536 &&& (65535 - oe)) ||| (s.fld Reg.SYS_GPIO_CTRL Reg.SYS_GPIO_CTRL_OUT &&& oe)
  else match nth b (Reg.FLT_CAUSE 0) 4 5, nth b (Reg.FLT_MLOG 0) 0x40 8, nth b (Reg.KEY_SLOT_META 0) 8 4096 with
    | some w, _, _ => s.fltCauseWord w
    | _, some k, _ => leNat ((s.faultLog.drop k).head?.getD [])
    | _, _, some k => setBits (s.reg b) 16 2 (s.keyFound k)
    | _, _, _ =>
      match nth b (Reg.MAC_PORT_STATUS 0) 0x10000 9, nth b (Reg.MAC_TS_INT 0) 0x10000 8 with
      | some p, _ => setBits (s.reg b) 8 1 (bit (s.service p))
      | _, some p => (s.tsInt p).1 % 2 ^ 32 * 2 ^ 32 + (s.tsInt p).2 % 2 ^ 32
      | _, _ => s.reg b

/-- The bits of a register's write-only fields, which read 0 (R10). -/
def RegRow.woMask (r : RegRow) : Nat := r.fields.foldl (fun v f => if f.acc = .wo then setBits v f.lo f.len (2 ^ f.len - 1) else v) 0

/-- A register's value for a read, which corrects a triplicated register and takes the head of a timestamp queue (R272,
R402). -/
def State.regTake (s : State) (r : RegRow) (b : Nat) : Nat × State :=
  match nth b (Reg.MAC_TSQ_ENTRY 0) 0x10000 9 with
  | some p => let y := s.tsqTake p; (leNat y.1, y.2)
  | none =>
    let s := if b = Reg.KEY_KA_TIME then s.kaNow else s.scrub b
    let v := s.regView b
    (v - (v &&& r.woMask), s)

/-- A read of one 32-bit word of a register: the lowest word of a multi-word register fills the holding copy, from which the
others are served (R79). -/
def State.wordTake (s : State) (a : Nat) : Nat × State :=
  match regAt a with
  | none => (0, s)
  | some (r, b) =>
    if a = b then
      let (v, s) := s.regTake r b
      (v % 2 ^ 32, if r.bytes = 4 then s else { s with hif := { s.hif with hold := tabSet 0 s.hif.hold b v } })
    else (getBits (tabGet 0 s.hif.hold b) (8 * (a - b)) 32, s)

/-- A read of registers, lower address first (R400). -/
def State.regsTake (s : State) (a size : Nat) : Nat × State :=
  let (lo, s) := s.wordTake a
  if size = 8 then
    let (hi, s) := s.wordTake (a + 4)
    (lo + 2 ^ 32 * hi, s)
  else (lo, s)

/-- The value of a read that the matrix delivers. What the MRAM window reads is not stated: a free value. -/
def State.busLoad (s : State) (a size : Nat) : Nat × State :=
  match s.target a size with
  | some (.reg, _) =>
    (match podMemAt a with
     | some (p, o, true) => (leNat (s.dmemRead p o size), s)
     | some (p, o, false) => (leNat (bytesAt (s.imemDef p) (s.pod p).imem o size), s)
     | none => s.regsTake a size)
  | some (.dram, o) => (leNat (bytesAt zeros s.dram o size), s)
  | some (.sram, o) => (leNat (bytesAt zeros s.sram o size), s)
  | some (.work, o) => (leNat (bytesAt zeros s.sram (0x3000000 + o) size), s)
  | some (.brom, o) => (leNat ((List.range size).map (fun k => Config.bootRom (o + k))), s)
  | _ => ((s.fresh).1 % 256 ^ size, (s.fresh).2)

/-- A read of a master: its outcome stands in hif.lastRead (R404 to R408). -/
def State.busGet (s : State) (m a size : Nat) : State :=
  if s.busCause m a size false = 0 then
    let (v, s) := s.busLoad a size
    { s with hif := { s.hif with lastRead := some (m, v, 0) } }
  else s.busError m a false (s.busCause m a size false)

/-! ### The rows -/

/-- REGISTER_WRITE (R10). -/
def execRegisterWrite (m : Master) (addr size data : Nat) (s : State) : Host.Outcome State Fault Refusal :=
  act (fun s => s.busPut m addr size data) s

/-- HOLDING_COPY_READ: a 32-bit read (R79). -/
def execHoldingCopyRead (m : Master) (addr : Nat) (s : State) : Host.Outcome State Fault Refusal :=
  act (fun s => s.busGet m addr 4) s

/-! ### The management slaves -/

/-- The status, the data and the CRC-8 of a reply: the data read 0xFF on any status other than 0 (R388). -/
def mgmtReply (head : List Byte) (status n v : Nat) : List Byte :=
  let body := natLe 1 status ++ (if status = 0 then natLe n v else List.replicate n 0xFF)
  body ++ natLe 1 (crc8 (head ++ body))

/-- The I²C slave may not write what the SPI slave alone may write (R387). -/
def i2cDenied (a size : Nat) : Bool :=
  (accWords a size).any (fun x => match regAt x with
    | some (_, b) => [0x4001, 0x4004].contains (b / 0x10000)
    | none => false)

/-- A transaction with a good CRC reads: NOT_READY where the access came too late for the reply (R388). -/
def State.mgmtRead (s : State) (head : List Byte) (a n : Nat) (late : Bool) : State :=
  let s := s.busGet 1 a n
  let (v, c) : Nat × Nat := match s.hif.lastRead with | some (_, v, c) => (v, c) | none => (0, 0)
  let s := if late then s.incFld Reg.SYS_MGMT_CNT Reg.SYS_MGMT_CNT_NOTREADY 1 else s
  { s with hif := { s.hif with mgmtReply := mgmtReply head (if late then 3 else if c = 0 then 0 else 1) n v } }

/-- A transaction writes: with a wrong CRC no access is made, and it is counted (R388). -/
def State.mgmtWrite (s : State) (bs : List Byte) (a n : Nat) (i2c : Bool) : State :=
  let s := { s with hif := { s.hif with mgmtReply := [] } }
  if crc8 (bs.take (6 + n)) ≠ ((bs.drop (6 + n)).headD 0).toNat then s.incFld Reg.SYS_MGMT_CNT Reg.SYS_MGMT_CNT_CRCERR 1
  else if i2c && i2cDenied a n then s.busError 1 a true 3
  else s.busPut 1 a n (leNat ((bs.drop 6).take n))

/-- A management transaction: opcode, five address bytes, and for a write the data and the CRC-8. A read over I²C carries a
CRC-8 over opcode and address; its reply covers the bytes of the reply and of the request (R388). -/
def State.mgmt (s : State) (bs : List Byte) (late i2c : Bool) : State :=
  let op := ((bs.head?).getD 0).toNat
  let a := beNat ((bs.drop 1).take 5)
  let n := if op = 0x0C ∨ op = 0x03 then 8 else 4
  if bs.length < 6 then s
  else if op = 0x0B ∨ op = 0x0C then
    if i2c && decide (crc8 (bs.take 6) ≠ ((bs.drop 6).headD 0).toNat) then
      (({ s with hif := { s.hif with mgmtReply := mgmtReply [] 2 n 0 } } : State)).incFld Reg.SYS_MGMT_CNT Reg.SYS_MGMT_CNT_CRCERR 1
    else s.mgmtRead (bs.take 6) a n late
  else if op = 0x02 ∨ op = 0x03 then
    if bs.length < 7 + n then s else s.mgmtWrite bs a n i2c
  else s

/-- SPI_TRANSACTION: `late` says that the access had not completed by the end of the turnaround bytes (R388). -/
def execSpiTransaction (bytes : List Byte) (late : Bool) (s : State) : Host.Outcome State Fault Refusal :=
  act (fun s => s.mgmt bytes late false) s

/-- I2C_TRANSACTION: `late` says that the access did not complete while the slave stretched the clock (R388). -/
def execI2cTransaction (bytes : List Byte) (late : Bool) (s : State) : Host.Outcome State Fault Refusal :=
  act (fun s => s.mgmt bytes late true) s

end Sys2Proof.Machine
end

