-- ==== Sys2Proof/Machine/FinAlu.lean ====
section
/-! DEFINITION. The integer, fixed-point, logic, compare and branch instructions of FIN (R363, R365). -/

namespace Sys2Proof.Machine

/-- Writes a result with its carry and overflow into rd and all four flags (R362). -/
def aluPut (rd : GReg) (f : PodState → Word × Bool × Bool) (q : PodState) : PodState :=
  let r := f q
  (q.wg rd r.1).resFlags r.1 r.2.1 r.2.2

/-- Writes a result into rd, sets Z and N from it, V as given and C := 0. -/
def aluZNV (rd : GReg) (f : PodState → Word × Bool) (q : PodState) : PodState :=
  aluPut rd (fun q => ((f q).1, false, (f q).2)) q

/-- Writes a result into rd, sets Z and N from it and clears C and V. -/
def aluZN (rd : GReg) (f : PodState → Word) (q : PodState) : PodState :=
  aluPut rd (fun q => (f q, false, false)) q

/-- A quotient truncated toward zero, and V (R363). -/
def divS (a b : Word) : Word × Bool :=
  if b = 0 then (0, true) else (BitVec.ofInt 64 (a.toInt.tdiv b.toInt), decide (a.toInt.tdiv b.toInt = 2 ^ 63))

/-- A signed remainder with the sign of the dividend, and V (R363). -/
def remS (a b : Word) : Word × Bool := if b = 0 then (a, true) else (BitVec.ofInt 64 (a.toInt.tmod b.toInt), false)

/-- An unsigned quotient, and V (R363). -/
def divU (a b : Word) : Word × Bool := if b = 0 then (0, true) else (a / b, false)

/-- An unsigned remainder, and V (R363). -/
def remU (a b : Word) : Word × Bool := if b = 0 then (a, true) else (a % b, false)

/-- The number of leading zero bits (R363). -/
def leadingZeros (a : Word) : Nat := if a = 0 then 64 else 63 - Nat.log2 a.toNat

/-- The low 64 bits of a signed product, and V when the product does not fit (R363). -/
def mulLow (a b : Word) : Word × Bool := (a * b, (saturate (a.toInt * b.toInt)).2)

/-- The signed product divided by 2^k, rounded to nearest with ties toward +∞, saturating (R363). -/
def mulQ (a b : Word) (k : Nat) : Word × Bool := saturate ((a.toInt * b.toInt * 2 + 2 ^ k) / 2 ^ (k + 1))

/-- ADD (R363). -/
def execAdd (p : PodId) (rd ra rb : GReg) (s : State) : Host.Outcome State Fault Refusal :=
  finPod p (aluPut rd (fun q => addFlags (q.rg ra) (q.rg rb) false)) s

/-- SUB (R363). -/
def execSub (p : PodId) (rd ra rb : GReg) (s : State) : Host.Outcome State Fault Refusal :=
  finPod p (aluPut rd (fun q => subFlags (q.rg ra) (q.rg rb) false)) s

/-- ADC (R363). -/
def execAdc (p : PodId) (rd ra rb : GReg) (s : State) : Host.Outcome State Fault Refusal :=
  finPod p (aluPut rd (fun q => addFlags (q.rg ra) (q.rg rb) q.c)) s

/-- SBC (R363). -/
def execSbc (p : PodId) (rd ra rb : GReg) (s : State) : Host.Outcome State Fault Refusal :=
  finPod p (aluPut rd (fun q => subFlags (q.rg ra) (q.rg rb) q.c)) s

/-- ADDI (R363). -/
def execAddi (p : PodId) (rd ra : GReg) (imm : BitVec 14) (s : State) : Host.Outcome State Fault Refusal :=
  finPod p (aluPut rd (fun q => addFlags (q.rg ra) (immS imm) false)) s

/-- MUL (R363). -/
def execMul (p : PodId) (rd ra rb : GReg) (s : State) : Host.Outcome State Fault Refusal :=
  finPod p (aluZNV rd (fun q => mulLow (q.rg ra) (q.rg rb))) s

/-- MULH: the high half of the signed product (R363). -/
def execMulh (p : PodId) (rd ra rb : GReg) (s : State) : Host.Outcome State Fault Refusal :=
  finPod p (aluZN rd (fun q => BitVec.ofInt 64 ((q.rg ra).toInt * (q.rg rb).toInt / 2 ^ 64))) s

/-- MULHU: the high half of the unsigned product (R363). -/
def execMulhu (p : PodId) (rd ra rb : GReg) (s : State) : Host.Outcome State Fault Refusal :=
  finPod p (aluZN rd (fun q => BitVec.ofNat 64 ((q.rg ra).toNat * (q.rg rb).toNat / 2 ^ 64))) s

/-- DIV (R363). -/
def execDiv (p : PodId) (rd ra rb : GReg) (s : State) : Host.Outcome State Fault Refusal :=
  finPod p (aluZNV rd (fun q => divS (q.rg ra) (q.rg rb))) s

/-- DIVU (R363). -/
def execDivu (p : PodId) (rd ra rb : GReg) (s : State) : Host.Outcome State Fault Refusal :=
  finPod p (aluZNV rd (fun q => divU (q.rg ra) (q.rg rb))) s

/-- REM (R363). -/
def execRem (p : PodId) (rd ra rb : GReg) (s : State) : Host.Outcome State Fault Refusal :=
  finPod p (aluZNV rd (fun q => remS (q.rg ra) (q.rg rb))) s

/-- REMU (R363). -/
def execRemu (p : PodId) (rd ra rb : GReg) (s : State) : Host.Outcome State Fault Refusal :=
  finPod p (aluZNV rd (fun q => remU (q.rg ra) (q.rg rb))) s

/-- MULQ (R363). -/
def execMulq (p : PodId) (rd ra rb : GReg) (fn : Fin 64) (s : State) : Host.Outcome State Fault Refusal :=
  finPod p (aluZNV rd (fun q => mulQ (q.rg ra) (q.rg rb) fn)) s

/-- ADDS (R363). -/
def execAdds (p : PodId) (rd ra rb : GReg) (s : State) : Host.Outcome State Fault Refusal :=
  finPod p (aluZNV rd (fun q => saturate ((q.rg ra).toInt + (q.rg rb).toInt))) s

/-- SUBS (R363). -/
def execSubs (p : PodId) (rd ra rb : GReg) (s : State) : Host.Outcome State Fault Refusal :=
  finPod p (aluZNV rd (fun q => saturate ((q.rg ra).toInt - (q.rg rb).toInt))) s

/-- SHL by rb mod 64 (R363). -/
def execShl (p : PodId) (rd ra rb : GReg) (s : State) : Host.Outcome State Fault Refusal :=
  finPod p (aluZN rd (fun q => (q.rg ra) <<< ((q.rg rb).toNat % 64))) s

/-- SHR by rb mod 64 (R363). -/
def execShr (p : PodId) (rd ra rb : GReg) (s : State) : Host.Outcome State Fault Refusal :=
  finPod p (aluZN rd (fun q => (q.rg ra) >>> ((q.rg rb).toNat % 64))) s

/-- SAR by rb mod 64 (R363). -/
def execSar (p : PodId) (rd ra rb : GReg) (s : State) : Host.Outcome State Fault Refusal :=
  finPod p (aluZN rd (fun q => (q.rg ra).sshiftRight ((q.rg rb).toNat % 64))) s

/-- SHLI (R363). -/
def execShli (p : PodId) (rd ra : GReg) (sh : Fin 64) (s : State) : Host.Outcome State Fault Refusal :=
  finPod p (aluZN rd (fun q => (q.rg ra) <<< sh.val)) s

/-- SHRI (R363). -/
def execShri (p : PodId) (rd ra : GReg) (sh : Fin 64) (s : State) : Host.Outcome State Fault Refusal :=
  finPod p (aluZN rd (fun q => (q.rg ra) >>> sh.val)) s

/-- SARI (R363). -/
def execSari (p : PodId) (rd ra : GReg) (sh : Fin 64) (s : State) : Host.Outcome State Fault Refusal :=
  finPod p (aluZN rd (fun q => (q.rg ra).sshiftRight sh.val)) s

/-- CLZ: Z alone changes (R363). -/
def execClz (p : PodId) (rd ra : GReg) (s : State) : Host.Outcome State Fault Refusal :=
  finPod p (fun q => { q.wg rd (BitVec.ofNat 64 (leadingZeros (q.rg ra))) with z := decide (leadingZeros (q.rg ra) = 0) }) s

/-- AND (R363). -/
def execAnd (p : PodId) (rd ra rb : GReg) (s : State) : Host.Outcome State Fault Refusal :=
  finPod p (aluZN rd (fun q => (q.rg ra) &&& (q.rg rb))) s

/-- OR (R363). -/
def execOr (p : PodId) (rd ra rb : GReg) (s : State) : Host.Outcome State Fault Refusal :=
  finPod p (aluZN rd (fun q => (q.rg ra) ||| (q.rg rb))) s

/-- XOR (R363). -/
def execXor (p : PodId) (rd ra rb : GReg) (s : State) : Host.Outcome State Fault Refusal :=
  finPod p (aluZN rd (fun q => (q.rg ra) ^^^ (q.rg rb))) s

/-- ANDI with the immediate zero-extended (R363). -/
def execAndi (p : PodId) (rd ra : GReg) (imm : BitVec 14) (s : State) : Host.Outcome State Fault Refusal :=
  finPod p (aluZN rd (fun q => (q.rg ra) &&& immZ imm)) s

/-- ORI with the immediate zero-extended (R363). -/
def execOri (p : PodId) (rd ra : GReg) (imm : BitVec 14) (s : State) : Host.Outcome State Fault Refusal :=
  finPod p (aluZN rd (fun q => (q.rg ra) ||| immZ imm)) s

/-- XORI with the immediate zero-extended (R363). -/
def execXori (p : PodId) (rd ra : GReg) (imm : BitVec 14) (s : State) : Host.Outcome State Fault Refusal :=
  finPod p (aluZN rd (fun q => (q.rg ra) ^^^ immZ imm)) s

/-- MOVI: no flag changes (R363). -/
def execMovi (p : PodId) (rd : GReg) (imm : BitVec 19) (s : State) : Host.Outcome State Fault Refusal :=
  finPod p (fun q => q.wg rd (imm.signExtend 64)) s

/-- CATI: no flag changes (R363). -/
def execCati (p : PodId) (rd : GReg) (imm : BitVec 16) (s : State) : Host.Outcome State Fault Refusal :=
  finPod p (fun q => q.wg rd ((q.rg rd <<< 16) ||| imm.setWidth 64)) s

/-- CMP: the flags of ra − rb (R365). -/
def execCmp (p : PodId) (ra rb : GReg) (s : State) : Host.Outcome State Fault Refusal :=
  finPod p (fun q => let r := subFlags (q.rg ra) (q.rg rb) false
    q.resFlags r.1 r.2.1 r.2.2) s

/-- CMPI: the flags of ra − IMM14 (R365). -/
def execCmpi (p : PodId) (ra : GReg) (imm : BitVec 14) (s : State) : Host.Outcome State Fault Refusal :=
  finPod p (fun q => let r := subFlags (q.rg ra) (immS imm) false
    q.resFlags r.1 r.2.1 r.2.2) s

/-- TEST: the flags of ra AND rb (R365). -/
def execTest (p : PodId) (ra rb : GReg) (s : State) : Host.Outcome State Fault Refusal :=
  finPod p (fun q => q.resFlags ((q.rg ra) &&& (q.rg rb)) false false) s

/-- A branch to a target that is checked when it is taken; with a link, g31 takes the index of the next
instruction (R365). -/
def State.branch (s : State) (p : Nat) (target : Int) (link : Bool) : State :=
  if 0 ≤ target ∧ target < s.imemWords p then
    s.modPod p (fun q => { (if link then q.wg 31 (BitVec.ofNat 64 (q.pc + 1)) else q) with pc := target.toNat })
  else s.podFault p 4

/-- B (R365). -/
def execB (p : PodId) (cond : Fin 15) (off : BitVec 20) (s : State) : Host.Outcome State Fault Refusal :=
  fin p (fun s => if (s.pod p).cond cond then s.branch p ((s.pod p).pc + off.toInt) false
    else s.modPod p PodState.advance) s

/-- BL (R365). -/
def execBl (p : PodId) (cond : Fin 15) (off : BitVec 20) (s : State) : Host.Outcome State Fault Refusal :=
  fin p (fun s => if (s.pod p).cond cond then s.branch p ((s.pod p).pc + off.toInt) true
    else s.modPod p PodState.advance) s

/-- BR (R365). -/
def execBr (p : PodId) (ra : GReg) (link : Bool) (s : State) : Host.Outcome State Fault Refusal :=
  fin p (fun s => s.branch p ((s.pod p).rg ra).toNat link) s

end Sys2Proof.Machine
end

