-- ==== Sys2Proof/Machine/FinBus.lean ====
section
/-! DEFINITION. The FIN instructions that reach the bus matrix and the registers: BUS, XRD and XWR (R367, R377). -/

namespace Sys2Proof.Machine

/-- The bytes of a 32-bit or a 64-bit access. -/
def accBytes (wide : Bool) : Nat := if wide then 8 else 4

/-- BUS_READ: a read as bus master POD0 to POD7 at the 40-bit address ra; an error faults with BUS (R367). -/
def execBusRead (p : PodId) (rd ra : GReg) (wide : Bool) (s : State) : Host.Outcome State Fault Refusal :=
  fin p (fun s =>
    let a := ((s.pod p).rg ra).toNat % 2 ^ 40
    let n := accBytes wide
    let c := s.busCause (2 + p) a n false
    if c ≠ 0 then (s.busError (2 + p) a false c).podFault p 6
    else (s.busLoad a n).2.finish p (fun q => q.wg rd (BitVec.ofNat 64 (s.busLoad a n).1))) s

/-- BUS_WRITE: the matrix answers an error to every write of a Pod in the register region (R367, R404). -/
def execBusWrite (p : PodId) (ra rb : GReg) (wide : Bool) (s : State) : Host.Outcome State Fault Refusal :=
  fin p (fun s =>
    let a := ((s.pod p).rg ra).toNat % 2 ^ 40
    let n := accBytes wide
    let c := s.busCause (2 + p) a n true
    if c ≠ 0 then (s.busError (2 + p) a true c).podFault p 6
    else (s.busStore (2 + p) a n (((s.pod p).rg rb).toNat % 256 ^ n)).finish p id) s

/-- The access of the block port reaches no register, or one whose domain is gated (R377, R400, R442). -/
def State.portFails (s : State) (a n : Nat) : Bool :=
  decide (a % n ≠ 0) || (accWords a n).any (fun x => match regAt x with
    | some (_, b) => s.gated b
    | none => true)

/-- The address that ra names in the block port (R377). -/
def portAddr (v : Word) : Nat := 0x40000000 + v.toNat % 2 ^ 24

/-- XRD: a read of PWR_STATUS clears the event POWER (R371, R377). -/
def execXrd (p : PodId) (rd ra : GReg) (wide : Bool) (s : State) : Host.Outcome State Fault Refusal :=
  fin p (fun s =>
    let a := portAddr ((s.pod p).rg ra)
    let n := accBytes wide
    s.unlessFault p (if s.portFails a n then some 6 else none) (fun s =>
      let power := (accWords a n).contains Reg.PWR_STATUS
      (s.regsTake a n).2.finish p (fun q =>
        let q := q.wg rd (BitVec.ofNat 64 (s.regsTake a n).1)
        if power then { q with events := setBits q.events 7 1 0 } else q))) s

/-- The capability that XWR needs for the register at `b`, none for a register outside the table of R377. -/
def xwrCap (b : Nat) : Option Nat :=
  let isl := b / 0x10000
  if isl = 0x4003 then
    if b = Reg.REF_SEL ∨ b = Reg.REF_HB ∨ (Reg.REF_STATE 0 ≤ b ∧ b < Reg.REF_STATE 18) then some 6 else none
  else if isl = 0x4004 then
    if Reg.ENS_TS ≤ b ∧ b < Reg.ONION_LATCH ∧ b ≠ Reg.ENS_DAC then some 5 else none
  else if isl = 0x4006 then
    if b = Reg.GNS_SOL ∨ b = Reg.GNS_SIGMA ∨ b = Reg.GNS_CAUSE ∨ (Reg.GNS_CH_STAT 0 ≤ b ∧ b % 16 = 4) then some 7 else none
  else none

/-- The fields of a register as a Pod writes them: all of them, a reserved encoding keeping the old value; of ENS_SWDOG only
IVAL (R12, R377). -/
def RegRow.podMerge (r : RegRow) (b old d : Nat) : Nat :=
  if b = Reg.ENS_SWDOG then setBits old 20 4 (getBits d 20 4)
  else r.fields.foldl (fun v f =>
    let x := getBits d f.lo f.len
    if f.rsvLo ≤ x ∧ x ≤ f.rsvHi then v else setBits v f.lo f.len x) old

/-- The register at `b` takes what a Pod has written: REF_HB restarts its timer, and the counts of a reference clear when it
leaves DISABLED (R115, R126). -/
def State.podRegAct (s : State) (b v : Nat) : State :=
  if b = Reg.REF_HB then s.refBeat
  else match nth b (Reg.REF_STATE 0) 0x10 18 with
    | some m => if s.refSt m = 0 ∧ v % 8 ≠ 0 then (s.setReg b v).setReg (Reg.REF_CNT m) 0 else s.setReg b v
    | none => s.setReg b v

/-- A Pod's write of a part of a register: a multi-word register takes its value with its last word (R377). -/
def State.podRegPut (s : State) (x : RegRow × Nat × Nat × Nat × Nat) : State :=
  let (r, b, off, len, data) := x
  let multi := decide (4 < r.bytes)
  let d := setBits (if multi then s.stagedVal b else s.reg b) off len data
  if multi && decide (off + len < 8 * r.bytes) then s.setStaged b (some d)
  else (s.podRegAct b (r.podMerge b (s.reg b) d)).setStaged b none

/-- XWR: BUS outside the table, CAP_DENIED without the capability (R377). -/
def execXwr (p : PodId) (ra rb : GReg) (wide : Bool) (s : State) : Host.Outcome State Fault Refusal :=
  fin p (fun s =>
    let a := portAddr ((s.pod p).rg ra)
    let n := accBytes wide
    let l := regParts a n ((s.pod p).rg rb).toNat
    let caps := l.map (fun x => xwrCap x.2.1)
    let bad := s.portFails a n || caps.contains none
    let denied := caps.any (fun c => match c with | some k => !s.hasCap p k | none => false)
    s.unlessFault p (if bad then some 6 else if denied then some 2 else none) (fun s =>
      (l.foldl State.podRegPut s).finish p id)) s

end Sys2Proof.Machine
end

