-- ==== Sys2Proof/Machine/FinFp.lean ====
section
/-! DEFINITION. The binary64 instructions of FIN (R364) and RATECV (R374). -/

namespace Sys2Proof.Machine

/-- Writes a result into rd and sets V; the other flags stay. -/
def fpPut (rd : GReg) (f : PodState → Word × Bool) (q : PodState) : PodState :=
  { q.wg rd (f q).1 with v := (f q).2 }

/-- FADD (R364). -/
def execFadd (p : PodId) (rd ra rb : GReg) (s : State) : Host.Outcome State Fault Refusal :=
  finPod p (fpPut rd (fun q => fpAdd (q.rg ra) (q.rg rb))) s

/-- FSUB (R364). -/
def execFsub (p : PodId) (rd ra rb : GReg) (s : State) : Host.Outcome State Fault Refusal :=
  finPod p (fpPut rd (fun q => fpSub (q.rg ra) (q.rg rb))) s

/-- FMUL (R364). -/
def execFmul (p : PodId) (rd ra rb : GReg) (s : State) : Host.Outcome State Fault Refusal :=
  finPod p (fpPut rd (fun q => fpMul (q.rg ra) (q.rg rb))) s

/-- FDIV (R364). -/
def execFdiv (p : PodId) (rd ra rb : GReg) (s : State) : Host.Outcome State Fault Refusal :=
  finPod p (fpPut rd (fun q => fpDiv (q.rg ra) (q.rg rb))) s

/-- FSQRT (R364). -/
def execFsqrt (p : PodId) (rd ra : GReg) (s : State) : Host.Outcome State Fault Refusal :=
  finPod p (fpPut rd (fun q => fpSqrt (q.rg ra))) s

/-- FMA (R364). -/
def execFma (p : PodId) (rd ra rb : GReg) (s : State) : Host.Outcome State Fault Refusal :=
  finPod p (fpPut rd (fun q => fpFma (q.rg ra) (q.rg rb) (q.rg rd))) s

/-- FCVTIF: no flag changes (R364). -/
def execFcvtif (p : PodId) (rd ra : GReg) (s : State) : Host.Outcome State Fault Refusal :=
  finPod p (fun q => q.wg rd (fpOfInt (q.rg ra).toInt)) s

/-- FCVTFI (R364). -/
def execFcvtfi (p : PodId) (rd ra : GReg) (s : State) : Host.Outcome State Fault Refusal :=
  finPod p (fpPut rd (fun q => fpToInt (q.rg ra) 0)) s

/-- FCMP (R364). -/
def execFcmp (p : PodId) (ra rb : GReg) (s : State) : Host.Outcome State Fault Refusal :=
  finPod p (fun q => match fpCompare (q.rg ra) (q.rg rb) with
    | some (eq, lt) => q.setFlags eq lt false false
    | none => q.setFlags false false false true) s

/-- FABS: no flag changes (R364). -/
def execFabs (p : PodId) (rd ra : GReg) (s : State) : Host.Outcome State Fault Refusal :=
  finPod p (fun q => q.wg rd ((q.rg ra) &&& 0x7FFFFFFFFFFFFFFF)) s

/-- FNEG: no flag changes (R364). -/
def execFneg (p : PodId) (rd ra : GReg) (s : State) : Host.Outcome State Fault Refusal :=
  finPod p (fun q => q.wg rd (fpNegBits (q.rg ra))) s

/-- RATECV (R374). -/
def execRatecv (p : PodId) (rd ra : GReg) (s : State) : Host.Outcome State Fault Refusal :=
  finPod p (fpPut rd (fun q => fpToInt (q.rg ra) 64)) s

end Sys2Proof.Machine
end

