-- ==== Sys2Proof/Machine/FinMem.lean ====
section
/-! DEFINITION. The loads and stores of FIN (R366). -/

namespace Sys2Proof.Machine

/-- The DMEM address of a load or store: ra + IMM14. -/
def State.memAddr (s : State) (p : PodId) (ra : GReg) (imm : BitVec 14) : Nat := ((s.pod p).rg ra + immS imm).toNat

/-- A load of `n` bytes from DMEM into rd. -/
def loadDmem (p : PodId) (rd ra : GReg) (imm : BitVec 14) (n : Nat) (ext : Nat → Word) (s : State) : State :=
  let a := s.memAddr p ra imm
  s.unlessFault p (dmemFault a n n) (fun s => s.finish p (fun q => q.wg rd (ext (leNat (s.dmemRead p a n)))))

/-- A store of the low `n` bytes of rd into DMEM. -/
def storeDmem (p : PodId) (rd ra : GReg) (imm : BitVec 14) (n : Nat) (s : State) : State :=
  let a := s.memAddr p ra imm
  s.unlessFault p (dmemFault a n n) (fun s =>
    (s.dmemWrite p a (natLe n ((s.pod p).rg rd).toNat)).finish p id)

/-- The 64-bit word of the commons at `a`. -/
def State.comWord (s : State) (a : Nat) : Word := BitVec.ofNat 64 (leNat (s.comRead a 8))

/-- LDB: a byte, zero-extended (R366). -/
def execLdb (p : PodId) (rd ra : GReg) (imm : BitVec 14) (s : State) : Host.Outcome State Fault Refusal :=
  fin p (loadDmem p rd ra imm 1 (fun v => BitVec.ofNat 64 v)) s

/-- LDBS: a byte, sign-extended (R366). -/
def execLdbs (p : PodId) (rd ra : GReg) (imm : BitVec 14) (s : State) : Host.Outcome State Fault Refusal :=
  fin p (loadDmem p rd ra imm 1 (fun v => (BitVec.ofNat 8 v).signExtend 64)) s

/-- LDH: a halfword, zero-extended (R366). -/
def execLdh (p : PodId) (rd ra : GReg) (imm : BitVec 14) (s : State) : Host.Outcome State Fault Refusal :=
  fin p (loadDmem p rd ra imm 2 (fun v => BitVec.ofNat 64 v)) s

/-- LDHS: a halfword, sign-extended (R366). -/
def execLdhs (p : PodId) (rd ra : GReg) (imm : BitVec 14) (s : State) : Host.Outcome State Fault Refusal :=
  fin p (loadDmem p rd ra imm 2 (fun v => (BitVec.ofNat 16 v).signExtend 64)) s

/-- LDW: a word, zero-extended (R366). -/
def execLdw (p : PodId) (rd ra : GReg) (imm : BitVec 14) (s : State) : Host.Outcome State Fault Refusal :=
  fin p (loadDmem p rd ra imm 4 (fun v => BitVec.ofNat 64 v)) s

/-- LDWS: a word, sign-extended (R366). -/
def execLdws (p : PodId) (rd ra : GReg) (imm : BitVec 14) (s : State) : Host.Outcome State Fault Refusal :=
  fin p (loadDmem p rd ra imm 4 (fun v => (BitVec.ofNat 32 v).signExtend 64)) s

/-- LDD: 64 bits (R366). -/
def execLdd (p : PodId) (rd ra : GReg) (imm : BitVec 14) (s : State) : Host.Outcome State Fault Refusal :=
  fin p (loadDmem p rd ra imm 8 (fun v => BitVec.ofNat 64 v)) s

/-- STB (R366). -/
def execStb (p : PodId) (rd ra : GReg) (imm : BitVec 14) (s : State) : Host.Outcome State Fault Refusal :=
  fin p (storeDmem p rd ra imm 1) s

/-- STH (R366). -/
def execSth (p : PodId) (rd ra : GReg) (imm : BitVec 14) (s : State) : Host.Outcome State Fault Refusal :=
  fin p (storeDmem p rd ra imm 2) s

/-- STW (R366). -/
def execStw (p : PodId) (rd ra : GReg) (imm : BitVec 14) (s : State) : Host.Outcome State Fault Refusal :=
  fin p (storeDmem p rd ra imm 4) s

/-- STD (R366). -/
def execStd (p : PodId) (rd ra : GReg) (imm : BitVec 14) (s : State) : Host.Outcome State Fault Refusal :=
  fin p (storeDmem p rd ra imm 8) s

/-- LDC: a word of the commons (R366). -/
def execLdc (p : PodId) (rd ra : GReg) (imm : BitVec 14) (s : State) : Host.Outcome State Fault Refusal :=
  fin p (fun s =>
    let a := s.memAddr p ra imm
    s.unlessFault p (comFault a) (fun s => s.finish p (fun q => q.wg rd (s.comWord a)))) s

/-- STC: a word of the commons, where the Pod may write (R37, R366). -/
def execStc (p : PodId) (rd ra : GReg) (imm : BitVec 14) (s : State) : Host.Outcome State Fault Refusal :=
  fin p (fun s =>
    let a := s.memAddr p ra imm
    s.unlessFault p (s.comWrFault p a) (fun s => (s.comWrite a (natLe 8 ((s.pod p).rg rd).toNat)).finish p id)) s

/-- CAS: Z alone changes (R366). -/
def execCas (p : PodId) (rd ra rb : GReg) (s : State) : Host.Outcome State Fault Refusal :=
  fin p (fun s =>
    let a := ((s.pod p).rg ra).toNat
    s.unlessFault p (s.comWrFault p a) (fun s =>
      let old := s.comWord a
      let eq := decide (old = (s.pod p).rg rd)
      let s := if eq then s.comWrite a (natLe 8 ((s.pod p).rg rb).toNat) else s
      s.finish p (fun q => { q.wg rd old with z := eq }))) s

/-- FAA (R366). -/
def execFaa (p : PodId) (rd ra rb : GReg) (s : State) : Host.Outcome State Fault Refusal :=
  fin p (fun s =>
    let a := ((s.pod p).rg ra).toNat
    s.unlessFault p (s.comWrFault p a) (fun s =>
      let old := s.comWord a
      (s.comWrite a (natLe 8 (old + (s.pod p).rg rb).toNat)).finish p (fun q => q.wg rd old))) s

end Sys2Proof.Machine
end

