-- ==== Sys2Proof/Machine/Out.lean ====
section
/-! DEFINITION. Pulse outputs, IRIG-B frames and ToD messages (R211 to R220). -/

namespace Sys2Proof.Machine

/-- 40-bit picoseconds of OFFSET, held to ±500 ms (R211). -/
def pulseOffset (x : Int) : Int := min 500000000000 (max (-500000000000) x)

/-- A width in ns held to 100 ns to 500 ms (R211). -/
def pulseWidth (w : Nat) : Nat := min 500000000 (max 100 w)

/-- The settings of a pulse whose edge falls at `edge c` under the settings `c`: the newest whose edge lies at least 2 ms after the write that
made them (R215). -/
def State.ppsFor (s : State) (k : Nat) (edge : PpsCfg → Gt) : PpsCfg :=
  match (s.outp (8 + k)).cfgs.find? (fun c => c.1 ≤ tickOf (s.vcSet 0) (edge c.2)) with
  | some c => c.2
  | none => s.ppsCfg k

/-- A pulse whose active edge falls at a raw time in ps: not emitted within 100 ns of the end of the pulse before (R214). The
answer is true when it is emitted. -/
def State.pulse (s : State) (k : Nat) (e : Int) (widthPs : Nat) : Bool × State :=
  let o := 8 + k
  let clash := match (s.outp o).last with
    | some (p, w) => decide (e < p + w + 100000)
    | none => false
  if clash then (false, s)
  else (true, (s.outStart o).modOut o (fun x => { x with last := some (e, widthPs) }))

/-- A pulse of the generator: skipped and counted under the 100 ns rule (R214); nothing while the output is at its safe
state, or before its target is reached by VC0. -/
def State.genPulse (s : State) (k align : Nat) (edge : Gt) (xA : Gt × Bool × Bool) (widthPs : Nat) : State :=
  let o := 8 + k
  let s := s.modOut o (fun x => { x with xA := if align = 0 then x.xA else some xA.1 })
  let s := (s.setFld (Reg.SYN_PPS_STATUS k) Reg.SYN_PPS_STATUS_HOLD (bit xA.2.1)).setFld (Reg.SYN_PPS_STATUS k)
    Reg.SYN_PPS_STATUS_NOSRC (bit xA.2.2)
  let r := s.pulse k (edgePs (s.vcSet 0) edge) widthPs
  if r.1 then r.2 else s.incFld (Reg.SYN_PPS_STATUS k) Reg.SYN_PPS_STATUS_SKIP 1

/-- The generator of a pulse output runs in a mode: it may start a pulse, and VC0 has not passed the edge. -/
def State.genReady (s : State) (k mode : Nat) (edge : Gt) : Bool :=
  s.outReady (8 + k) edge && decide (s.fld (Reg.SYN_PPS_CTRL k) Reg.SYN_PPS_CTRL_MODE = mode)
    && decide (s.tkp.rawcnt ≤ tickOf (s.vcSet 0) edge)

/-- The active edge of VC0 second `sec` under some settings: S + OFFSET + x_A (R211). -/
def State.ppsEdge (s : State) (k : Nat) (sec : Int) (c : PpsCfg) : Gt :=
  sec * fuSec + psToFu (pulseOffset c.offset : Int) + (s.alignOf (8 + k) c.align).1

/-- PPS_PULSE: the pulse of VC0 second `sec` (R211, R215). -/
def execPpsPulse (k : Fin 8) (sec : Int) (s : State) : Host.Outcome State Fault Refusal :=
  act (fun s =>
    let c := s.ppsFor k (s.ppsEdge k sec)
    let x := s.alignOf (8 + k) c.align
    let edge := s.ppsEdge k sec c
    if s.genReady k 0 edge then
      (s.at (tickOf (s.vcSet 0) edge)).genPulse k c.align edge x (pulseWidth c.width * 1000)
    else s) s

/-- PER in ps, held to 200 ns to 1,000 s (R212). -/
def State.patPer (s : State) (k : Nat) : Nat := min 1000000000000000 (max 200000 (s.reg (Reg.SYN_PPS_PER k) % 2 ^ 50))

/-- The width in ps of pattern pulse `i` (R212). -/
def State.patWidth (s : State) (k i : Nat) (c : PpsCfg) : Nat :=
  let n := s.fld (Reg.SYN_PPS_FRAME k) Reg.SYN_PPS_FRAME_FRAMEN
  let w := if n ≠ 0 ∧ i % n = 0 then s.fld (Reg.SYN_PPS_FRAME k) Reg.SYN_PPS_FRAME_FRAMEW else c.width
  min (pulseWidth w * 1000) (s.patPer k - 100000)

/-- The active edge of pattern pulse `idx` under some settings: START + OFFSET + x_A + idx × PER (R212). -/
def State.patEdge (s : State) (k idx : Nat) (c : PpsCfg) : Gt :=
  gtOfRaw (s.reg (Reg.SYN_PPS_START k)) + psToFu (pulseOffset c.offset + ((idx * s.patPer k : Nat) : Int) : Int)
    + (s.alignOf (8 + k) c.align).1

/-- PATTERN_PULSE: pulse `idx` of the pattern; where START lay in the past at enable, none before 1 ms after it (R212, R215). -/
def execPatternPulse (k : Fin 8) (idx : Nat) (s : State) : Host.Outcome State Fault Refusal :=
  act (fun s =>
    let start := gtOfRaw (s.reg (Reg.SYN_PPS_START k))
    let c := s.ppsFor k (s.patEdge k idx)
    let x := s.alignOf (8 + k) c.align
    let edge := s.patEdge k idx c
    let late := match (s.outp (8 + k)).enAt with
      | some en => decide (start < en) && decide (edge < en + fuSec / 1000)
      | none => false
    if s.genReady k 1 edge && !late then
      (s.at (tickOf (s.vcSet 0) edge)).genPulse k c.align edge x (s.patWidth k idx c)
    else s) s

/-- PULSEAT_EXECUTE: TOO_SOON on an output that is not enabled in ACTION mode, and under the 100 ns rule (R213); on an output at its safe
state it completes, and no pulse appears (DESIGN CHOICE, notes/assumptions/173). -/
def execPulseatExecute (p : PodId) (id : Nat) (s : State) : Host.Outcome State Fault Refusal :=
  execAction p id 2 (fun a _ s =>
    let k := a.index % 8
    if s.outEn (8 + k) = false ∨ s.fld (Reg.SYN_PPS_CTRL k) Reg.SYN_PPS_CTRL_MODE ≠ 2 then (s, 2)
    else if s.outReady (8 + k) (s.vcNow 0) = false then (s, 0)
    else
      let r := s.pulse k (edgePs (s.vcSet a.vc) a.target) (pulseWidth a.val * 1000)
      if r.1 then (r.2, 0) else (s, 2)) s

/-! ### IRIG-B -/

/-- The control-function bits from position 60 on under the extension (R217); the parity is the standard's. -/
def State.irigCf (s : State) (n : Nat) (sec : Int) (tai : Bool) (before : List Byte) : List Byte :=
  let pend := if tai then 0 else leapPending s.leapTable sec
  let bad := !s.firstDone 0 || decide (s.fld Reg.ENS_TS Reg.ENS_TS_STATE = 4)
  let q := irigQuality ((s.onionFor (sec * fuSec)).boundAt (17 + n)) bad
  let bits := [BitVec.ofNat 8 (bit (decide (pend ≠ 0))), BitVec.ofNat 8 (bit (decide (pend < 0)))]
    ++ List.replicate 7 0 ++ [0] ++ irigBits 4 q.1
  bits ++ [BitVec.ofNat 8 (bit (Config.irigParity (before ++ bits)))] ++ irigBits 3 q.2

/-- The frame of a VC0 second (R216, R217). -/
def State.irigOf (s : State) (n : Nat) (sec : Int) : List Byte :=
  let code := s.fld (Reg.SYN_IRIG_CTRL n) Reg.SYN_IRIG_CTRL_CODE
  let tai := decide (s.fld (Reg.SYN_IRIG_CTRL n) Reg.SYN_IRIG_CTRL_TSCALE = 1)
  let u := if tai then civil (sec / 86400) (sec % 86400).toNat else utcOf s.leapTable sec
  let doy := (daysOf u.year u.month u.day - daysOf u.year 1 1).toNat + 1
  let sod := u.hour * 3600 + u.min * 60 + u.sec
  let year := if code = 4 ∨ code = 5 then some (u.year % 100).toNat else none
  let sbs := if code = 0 ∨ code = 3 ∨ code = 4 ∨ code = 7 then some sod else none
  let hasCf := decide (code = 0 ∨ code = 1 ∨ code = 4 ∨ code = 5) && decide (s.fld (Reg.SYN_IRIG_CTRL n) Reg.SYN_IRIG_CTRL_CFMODE = 1)
  let bare := irigFrame u doy year (List.replicate 18 0) sbs
  if hasCf then irigFrame u doy year (s.irigCf n sec tai (bare.take 60)) sbs else bare

/-- A frame or message may start at tick `t`: it lies ahead, and none has started there (R214, R218). -/
def State.startFits (s : State) (o t : Nat) : Bool :=
  decide (s.tkp.rawcnt ≤ t) && (match (s.outp o).sentAt with | some (_, u) => decide (u < t) | none => true)

/-- IRIG_FRAME: the frame whose reference marker falls at VC0 second `sec` (R216). -/
def execIrigFrame (n : Fin 2) (sec : Int) (s : State) : Host.Outcome State Fault Refusal :=
  act (fun s =>
    let t := tickOf (s.vcSet 0) (sec * fuSec)
    if s.outReady (16 + n) (sec * fuSec) && s.startFits (16 + n) t then
      let s := s.at t
      (s.outStart (16 + n)).modOut (16 + n) (fun o => { o with sent := s.irigOf n sec, sentAt := some (sec * fuSec, t) })
    else s) s

/-! ### ToD -/

/-- The bytes of the message for a second in the format in force; none where the format sends nothing (R219, R220). -/
def State.todMsg (s : State) (n : Nat) (ctl : Nat) (sec : Int) : Option (List Byte) :=
  let fmt := ctl / 16 % 4
  let w := s.reg (Reg.SYN_TOD_TALKER n)
  let talker := [BitVec.ofNat 8 (w / 256), BitVec.ofNat 8 w]
  let u := utcOf s.leapTable sec
  if fmt = 1 then (if s.firstDone 0 then some (nmeaZda talker u) else none)
  else if fmt = 2 then some (nmeaRmc talker u (s.firstDone 0 && !s.indication.li3))
  else
    let k := ctl / 2 ^ 12 % 8
    some (s.todLethar sec (s.ppsEdge k sec (s.ppsFor k (s.ppsEdge k sec))) k (s.outp (18 + n)).msgSeq)

/-- The VC0 time at which the message for a second starts: START after the pulse of the second before or of the second
itself, early enough to end 10 ms before the next pulse (R218). -/
def State.todStart (s : State) (ctl len : Nat) (sec : Int) : Gt :=
  let k := ctl / 2 ^ 12 % 8
  let p := if ctl / 256 % 2 = 0 then sec - 1 else sec
  let pulse (x : Int) : Gt := s.ppsEdge k x (s.ppsFor k (s.ppsEdge k x))
  let base := pulse p
  let start := min 900 (max 10 (ctl / 2 ^ 16 % 2 ^ 16))
  let dur := (len * 10 : Nat) * fuSec / (baudOf (ctl / 2 ^ 9 % 8) : Nat)
  min (base + (start : Nat) * (fuSec / 1000)) (pulse (p + 1) - 10 * (fuSec / 1000) - dur)

/-- TOD_MESSAGE_TX: the message that labels VC0 second `sec`, at its start instant, which lies ahead; skipped and counted where the PPSOUT is not
enabled in PPS mode (R218). A changed SYN_TOD_CTRL holds from this message boundary on (R221). -/
def execTodMessageTx (n : Fin 4) (sec : Int) (s : State) : Host.Outcome State Fault Refusal :=
  act (fun s =>
    let o := 18 + n.val
    let ctl := s.reg (Reg.SYN_TOD_CTRL n)
    let k := ctl / 2 ^ 12 % 8
    let len := match s.todMsg n ctl sec with | some m => m.length | none => 0
    let g := s.todStart ctl len sec
    let t := tickOf (s.vcSet 0) g
    if s.outReady o g && s.startFits o t then
      let s := ((s.at t).outStart o).modOut o (fun x => { x with ctl := ctl, sent := [], sentAt := some (g, t) })
      if s.outEn (8 + k) = false ∨ s.fld (Reg.SYN_PPS_CTRL k) Reg.SYN_PPS_CTRL_MODE ≠ 0 then
        s.incFld (Reg.SYN_TOD_CNT n) Reg.SYN_TOD_CNT_SKIP 1
      else match s.todMsg n ctl sec with
        | none => s
        | some msg =>
          let q := (s.outp o).msgSeq
          let s := s.modOut o (fun x => { x with sent := msg, msgSeq := (q + 1) % 2 ^ 32 })
          let s := s.incFld (Reg.SYN_TOD_CNT n) Reg.SYN_TOD_CNT_SENT 1
          if ctl / 16 % 4 = 0 then s.snoop 1 n 0 true (q % 256) else s
    else s) s

end Sys2Proof.Machine
end

