-- ==== Sys2Proof/Machine/Ptp.lean ====
section
/-! DEFINITION. The PTP engine: its commands, the messages that instances send and receive, unicast negotiation, the
transitions of the port states, and the pulses of the PS references (R275 to R297). -/

namespace Sys2Proof.Machine

/-! ### Commands -/

/-- A command that names an instance outside 0–7 completes with INST_INVALID, numbered after its table's statuses (R295). -/
def State.ptpCmd (s : State) (q op i inval : Nat) (f : State → State) : State :=
  s.hostCmd q op (fun s => if 8 ≤ i then s.respond q op inval [] else f s)

/-- PTP_CONFIG (R275). -/
def execPtpConfig (q i : Nat) (args : PtpArgs) (s : State) : Host.Outcome State Fault Refusal :=
  act (fun s => s.ptpCmd q 0x0300 i 3 (fun s =>
    if s.instSt i ≠ 0 then s.respond q 0x0300 2 []
    else match ptpResolve args with
      | none => s.respond q 0x0300 1 []
      | some c =>
        let a := Reg.PTP_INST_STAT i
        let s := s.modInst i (fun x => { x with cfg := some c })
        let s := ((s.setFld a Reg.PTP_INST_STAT_DOMAIN c.domain).setFld a Reg.PTP_INST_STAT_PROFILE c.profile).setFld a
          Reg.PTP_INST_STAT_ROLE c.role
        ((s.setFld a Reg.PTP_INST_STAT_VC (s.instVc c)).setFld a Reg.PTP_INST_STAT_AUTHBARE 0).respond q 0x0300 0 [])) s

/-- Two configurations conflict: port, transport and domain, an IPADDR on one port, or two SLAVE instances of one PS (R276). -/
def ptpConflict (a b : PtpCfg) : Bool :=
  (a.port == b.port && a.transport == b.transport && a.domain == b.domain)
    || (a.port == b.port && a.transport != 0 && b.transport != 0 && a.ipaddr == b.ipaddr)
    || (a.role == 1 && b.role == 1 && a.ps == b.ps)

/-- PTP_START (R276, R279, R283). -/
def execPtpStart (q i : Nat) (s : State) : Host.Outcome State Fault Refusal :=
  act (fun s => s.ptpCmd q 0x0301 i 4 (fun s =>
    match (s.inst i).cfg with
    | none => s.respond q 0x0301 3 []
    | some c =>
      if (List.range 8).any (fun j => s.instSt j != 0 && (match (s.inst j).cfg with | some d => ptpConflict c d | none => false)) then
        s.respond q 0x0301 1 []
      else if syncStream c ≠ 0 ∧ s.rateFits c.port (syncStream c) = false then s.respond q 0x0301 2 []
      else (s.instBegin i c).showBudget.respond q 0x0301 0 [])) s

/-- PTP_STOP: a CANCEL to every client that holds a grant, then DISABLED (R288, R295). -/
def execPtpStop (q i : Nat) (s : State) : Host.Outcome State Fault Refusal :=
  act (fun s => s.ptpCmd q 0x0302 i 1 (fun s =>
    match (s.inst i).cfg with
    | none => s.respond q 0x0302 0 []
    | some c =>
      let s := (s.ptp.grants.filter (fun g => g.inst == i)).foldl (fun s g =>
        let (n, s) := s.ptpSeq i 12
        s.ptpOut i c { s.ptpBase i c 12 n 127 with tlvs := [.cancel g.key.type], reqClock := g.key.clock, reqPort := g.key.port } g.key.addr none) s
      let s := { s with ptp := { s.ptp with grants := s.ptp.grants.filter (fun g => g.inst != i) } }
      let s := if s.instSt i = 0 then s else s.setInst i 0 6
      ((s.modInst i (fun x => { x with foreign := [], sel := none, asks := [], follow := [] })).showBudget).respond q 0x0302 0 [])) s

/-- PTP_MASTERS (R290, R295). -/
def execPtpMasters (q i : Nat) (addrs : List (List Byte)) (s : State) : Host.Outcome State Fault Refusal :=
  act (fun s => s.ptpCmd q 0x0303 i 3 (fun s =>
    if s.instSt i ≠ 0 then s.respond q 0x0303 2 []
    else match (s.inst i).cfg with
      | some c =>
        if c.role = 1 ∧ addrs.length ≤ 8 then (s.modInst i (fun x => { x with masters := addrs })).respond q 0x0303 0 []
        else s.respond q 0x0303 1 []
      | none => s.respond q 0x0303 1 [])) s

/-- A grant of an instance. -/
def State.grantOf (s : State) (i : Nat) (key : GrantKey) : Option PtpGrant :=
  s.ptp.grants.find? (fun g => g.inst == i && g.key == key)

/-- PTP_GRANT_QUERY (R295): type, logInterMessagePeriod, granted duration, remaining seconds, φ in µs and residence; their
places in the result are the model's (notes/assumptions/23). -/
def execPtpGrantQuery (q i : Nat) (key : GrantKey) (s : State) : Host.Outcome State Fault Refusal :=
  act (fun s => s.ptpCmd q 0x0304 i 2 (fun s =>
    match s.grantOf i key, (s.inst i).cfg with
    | some g, some c =>
      let left := (g.time + g.dur * fuSec - s.instNow c) / fuSec
      s.respond q 0x0304 0 (natLe 1 g.key.type ++ intLe 1 g.log ++ natLe 4 g.dur ++ natLe 4 left.toNat ++ natLe 4 g.phi ++ natLe 1 (bit g.dram))
    | _, _ => s.respond q 0x0304 1 [])) s

/-- PTP_IDENTITY (R296): completes after the commit. -/
def execPtpIdentity (q id : Nat) (s : State) : Host.Outcome State Fault Refusal :=
  act (fun s => s.hostCmd q 0x0305 (fun s =>
    if (List.range 8).any (fun i => s.instSt i != 0) then s.respond q 0x0305 1 []
    else s.mramAsk ridClockId (.nums [id % 2 ^ 64]) [(q, 0x0305, [])])) s

/-- PTP_STATUS (R295). -/
def execPtpStatus (q i : Nat) (s : State) : Host.Outcome State Fault Refusal :=
  act (fun s => s.ptpCmd q 0x0306 i 1 (fun s =>
    s.respond q 0x0306 0 (natLe 4 (s.reg (Reg.PTP_INST_STAT i)) ++ natLe 8 (s.reg (Reg.PTP_INST_UP i)) ++ natLe 8 (s.reg Reg.PTP_BUDGET)))) s

/-! ### Best master -/

/-- What the best master algorithm of a profile compares, lowest first (R278): the default one, and that of G.8275 with equal
local priorities. -/
def bmcaKey (c : PtpCfg) (a : PtpAnnounce) (clock port : Nat) : List Nat :=
  if c.profile = 2 ∨ c.profile = 3 then
    [a.cls, a.accuracy, a.variance, a.priority2, c.localPriority, if a.cls ≤ 127 then 0 else a.gm, a.steps, a.gm, clock, port]
  else [a.priority1, a.cls, a.accuracy, a.variance, a.priority2, a.gm, a.steps, clock, port]

/-- One list of numbers comes before another. -/
def lexLt : List Nat → List Nat → Bool
  | [], [] => false
  | [], _ => true
  | _, [] => false
  | a :: as, b :: bs => if a < b then true else if b < a then false else lexLt as bs

/-- A foreign master ranks better than the engine's own instance. -/
def State.ranksBetter (s : State) (i : Nat) (c : PtpCfg) (f : Foreign) : Bool :=
  lexLt (bmcaKey c f.ann f.clock f.port) (bmcaKey c (s.announceOf c).1 s.clockId (s.portNo i))

/-- A foreign master is qualified: 2 Announces within 4 of its intervals, and under UNICAST a held Announce grant (R279, R290). -/
def State.qualified (s : State) (i : Nat) (c : PtpCfg) (f : Foreign) : Bool :=
  let now := s.instNow c
  decide (2 ≤ (f.times.filter (fun t => decide (now ≤ t + 4 * logIval f.log))).length)
    && (c.role != 1 || c.mode != 1 || (s.inst i).asks.any (fun a => a.addr == f.addr && a.type == 11 && a.st == 1))

/-- The best qualified foreign master of an instance. -/
def State.bestForeign (s : State) (i : Nat) (c : PtpCfg) : Option Foreign :=
  ((s.inst i).foreign.filter (s.qualified i c)).foldl (fun b f => match b with
    | none => some f
    | some g => if lexLt (bmcaKey c f.ann f.clock f.port) (bmcaKey c g.ann g.clock g.port) then some f else some g) none

/-- Publishes what the selected master announces, to Pod 1 and in PTP_INST_UP (R285). -/
def State.publishUp (s : State) (i : Nat) (c : PtpCfg) (f : Foreign) : State :=
  let b := f.bound.getD 0xFFFFFFFF
  let s := s.setReg (Reg.PTP_INST_UP i) (b * 2 ^ 32 + f.ann.cls * 2 ^ 24 + f.ann.accuracy * 2 ^ 16 + f.ann.timeSource * 2 ^ 8 + f.ann.steps % 256)
  let up : Nat × Option Nat × Bool := match f.bound with
    | some n => (f.ann.cls, some (n * 1000), true)
    | none => (f.ann.cls, accuracyEnd f.ann.accuracy, false)
  s.modTrack (13 + c.ps) (fun r => { r with up := some up })

/-- A slave instance follows another master (R279, R290). -/
def State.follow (s : State) (i : Nat) (c : PtpCfg) (f : Foreign) : State :=
  let s := (s.modInst i (fun x => { x with sel := some (f.clock, f.port), exchanges := 0, offs := [], sync := none, dreq := none,
                                           presp := none })).setInst i 5 0
  let s := s.publishUp i c f
  let s := if c.mode = 1 then s.askGrant i c f.addr 0 else s
  if c.mode ≠ 0 then s.askGrant i c f.addr 9 else s

/-- The selected master of an instance among its foreign masters. -/
def State.selected (s : State) (i : Nat) : Option Foreign :=
  match (s.inst i).sel with
  | some (k, p) => (s.inst i).foreign.find? (fun f => f.clock == k && f.port == p)
  | none => none

/-- The transitions that follow from the foreign masters (R279). -/
def State.bmca (s : State) (i : Nat) (c : PtpCfg) : State :=
  let st := s.instSt i
  let best := s.bestForeign i c
  if c.role = 1 then
    if st < 2 then s
    else match best with
      | some f =>
        if (s.inst i).sel = some (f.clock, f.port) ∧ 5 ≤ st then s else s.follow i c f
      | none => if 5 ≤ st ∧ (s.selected i).isNone then (s.modInst i (fun x => { x with sel := none, listen := s.instNow c })).setInst i 2 5 else s
  else if c.masterOnly then s
  else match best with
    | some f =>
      if s.ranksBetter i c f then
        (if st = 3 then (s.modInst i (fun x => { x with sel := some (f.clock, f.port) })).setInst i 4 4
         else if st = 4 then s.modInst i (fun x => { x with sel := some (f.clock, f.port) })
         else if st = 2 then s.modInst i (fun x => { x with listen := s.instNow c })
         else s)
      else if st = 4 ∧ (s.selected i).isNone then (s.modInst i (fun x => { x with sel := none })).setInst i 3 0
      else s
    | none => if st = 4 ∧ (s.selected i).isNone then (s.modInst i (fun x => { x with sel := none })).setInst i 3 0 else s

/-- The grants of an instance that have expired are gone, and so are the foreign masters lost: those without an Announce for ANN_TIMEOUT of their
intervals. A better one that a LISTENING instance loses starts its wait anew (R279, R288). -/
def State.instSweep (s : State) (i : Nat) (c : PtpCfg) : State :=
  let now := s.instNow c
  let gone (g : PtpGrant) : Bool := g.inst == i && decide (g.time + g.dur * fuSec ≤ now)
  let lost (f : Foreign) : Bool := decide (f.times.headD 0 + c.annTimeout * logIval f.log ≤ now)
  let s := if s.ptp.grants.any gone then
    ({ s with ptp := { s.ptp with grants := s.ptp.grants.filter (fun g => !gone g) } } : State).showBudget else s
  let l := (s.inst i).foreign.filter lost
  if l.isEmpty then s
  else
    let better := s.instSt i == 2 && l.any (s.ranksBetter i c)
    (s.modInst i (fun x => { x with
      foreign := x.foreign.filter (fun f => !lost f), listen := if better then now else x.listen })).bmca i c

/-! ### Receive -/

/-- BOUND_NS of a received bound TLV: its organizationId is PTP_ORG.OUI and its VERSION is 0x01 (R285, R286). -/
def State.tlvBound (s : State) (msg : PtpMsg) : Option Nat :=
  msg.tlvs.findSome? (fun t => match t with
    | .org oui sub d =>
      if oui = s.fld Reg.PTP_ORG Reg.PTP_ORG_OUI ∧ sub = 1 ∧ d.length = 16 ∧ d.getD 15 0 = 1 then some (leNat (d.take 4)) else none
    | _ => none)

/-- A better foreign master under MASTER_ONLY is counted, and posted once per hour (R280). -/
def State.foreignBetter (s : State) (i : Nat) (c : PtpCfg) (f : Foreign) : State :=
  let s := s.count (288 + 32 * i + 2)
  let now := s.instNow c
  let l := (s.inst i).better
  if l.any (fun b => b.1 == f.clock && b.2.1 == f.port && decide (now < b.2.2 + 3600 * fuSec)) then s
  else (s.modInst i (fun x => { x with better := x.better.filter (fun b => !(b.1 == f.clock && b.2.1 == f.port)) ++ [(f.clock, f.port, now)] })).event
    0x0006 0x19 (natLe 1 i ++ natLe 8 f.clock ++ natLe 2 f.port)

/-- An Announce (R279, R280, R285). -/
def State.rxAnnounce (s : State) (i : Nat) (c : PtpCfg) (msg : PtpMsg) (addr : List Byte) (a : PtpAnnounce) : State :=
  if msg.clock = s.clockId then s
  else
    let now := s.instNow c
    let old := (s.inst i).foreign.find? (fun f => f.clock == msg.clock && f.port == msg.port)
    let f : Foreign := ⟨msg.clock, msg.port, addr, a, msg.flags, msg.log, s.tlvBound msg,
      (now :: ((old.map (·.times)).getD [])).filter (fun t => decide (now ≤ t + 4 * logIval msg.log))⟩
    let s := s.modInst i (fun x => { x with foreign := x.foreign.filter (fun g => !(g.clock == f.clock && g.port == f.port)) ++ [f] })
    let s := if c.role = 0 ∧ c.masterOnly ∧ s.ranksBetter i c f then s.foreignBetter i c f else s
    let s := if c.role = 1 ∧ 5 ≤ s.instSt i ∧ (s.inst i).sel = some (f.clock, f.port) then s.publishUp i c f else s
    s.bmca i c

/-- An exchange is complete: its (d, o) counts for the second, and 16 make the instance SLAVE (R279, R284). -/
def State.exchange (s : State) (i : Nat) (c : PtpCfg) (d o : Rat) : State :=
  let s := s.modInst i (fun x => { x with offs := x.offs ++ [(gtSec (s.instNow c), d, o)], exchanges := x.exchanges + 1, sync := none })
  if s.instSt i = 5 ∧ 16 ≤ (s.inst i).exchanges then s.setInst i 6 0 else s

/-- A correctionField in ps. -/
def corrPs (c : Int) : Rat := (c : Rat) * 1000 / 65536

/-- MAC_TS_ASYM of the port in ps (R254). -/
def State.asym (s : State) (p : Nat) : Rat := ((toSigned 32 (s.reg (Reg.MAC_TS_ASYM p)) : Int) : Rat)

/-- Completes an exchange when all its timestamps are present (R279, R284). -/
def State.tryExchange (s : State) (i : Nat) (c : PtpCfg) : State :=
  let x := s.inst i
  match x.sync with
  | some ⟨_, some t1, some t2, cs⟩ =>
    let a := fuToPs (t2 - t1) - corrPs cs
    if c.profile = 1 then
      (match x.link with
       | some dl => s.exchange i c 0 (a - dl - s.asym c.port)
       | none => s)
    else (match x.dreq with
      | some ⟨_, some t3, some t4, cd⟩ =>
        let b := fuToPs (t4 - t3) - corrPs cd
        (s.modInst i (fun x => { x with dreq := none })).exchange i c ((a + b) / 2) ((a - b) / 2 - s.asym c.port)
      | _ => s)
  | _ => s

/-- The message comes from the selected master of a slave instance that has one (R284). -/
def State.fromSel (s : State) (i : Nat) (msg : PtpMsg) : Bool :=
  decide (5 ≤ s.instSt i) && decide ((s.inst i).sel = some (msg.clock, msg.port))

/-- The received bound TLV of a Sync or Follow_Up reaches PTP_INST_UP (R285, R286). -/
def State.rxBound (s : State) (i : Nat) (c : PtpCfg) (msg : PtpMsg) : State :=
  match s.tlvBound msg, s.selected i with
  | some b, some f =>
    let f := { f with bound := some b }
    (s.modInst i (fun x => { x with foreign := x.foreign.map (fun g => if g.clock = f.clock ∧ g.port = f.port then f else g) })).publishUp i c f
  | _, _ => s

/-- The message answers this instance's own request. -/
def State.forMe (s : State) (i : Nat) (msg : PtpMsg) : Bool := decide (msg.reqClock = s.clockId) && decide (msg.reqPort = s.portNo i)

/-- A Pdelay_Resp in one step completes the measurement; in two steps it waits for its Follow_Up: d_link is half of the round
trip less the turnaround (R284). -/
def State.pdelayDone (s : State) (i : Nat) (c : PtpCfg) (t1 t4 turn : Gt) (corr : Int) : State :=
  (s.modInst i (fun x => { x with link := some ((fuToPs (t4 - t1 - turn) - corrPs corr) / 2), dreq := none, presp := none })).tryExchange i c

/-- A grant, denial, cancellation or acknowledgement reaches a slave instance (R288, R290). -/
def State.rxSlaveTlv (s : State) (i : Nat) (c : PtpCfg) (addr : List Byte) (t : PtpTlv) : State :=
  let now := s.instNow c
  let set (type st dur : Nat) (s : State) : State := s.modInst i (fun x => { x with asks := x.asks.map (fun a =>
    if a.addr = addr ∧ a.type = type then { a with st := st, at' := now, dur := dur } else a) })
  match t with
  | .grant type _ dur =>
    if (s.inst i).asks.any (fun a => a.addr == addr && a.type == type) then
      (if dur = 0 then (set type 2 0 s).count (288 + 32 * i + 9) else set type 1 dur s)
    else s
  | .cancel type =>
    let (n, s) := s.ptpSeq i 12
    (set type 2 0 s).ptpOut i c { s.ptpBase i c 12 n 127 with tlvs := [.ack type] } addr none
  | _ => s

/-- The number of granted records in the grant cache (R288). -/
def State.cachedGrants (s : State) : Nat := (s.ptp.grants.filter (fun g => !g.dram)).length

/-- The cached grant of the lowest message rate: that of the longest period, the first of several (R28, R288). -/
def slowestCached : List PtpGrant → Option PtpGrant
  | [] => none
  | g :: rest =>
    match slowestCached rest with
    | some h => if g.dram ∨ g.log < h.log then some h else some g
    | none => if g.dram then none else some g

/-- A grant of DRAM moves into the grant cache where it has room, or in the place of the cached grant of the lowest rate where its own rate
is higher (R28, R288; notes/assumptions/67). -/
def State.grantPlace (s : State) (i : Nat) (key : GrantKey) : State :=
  let move (out : Option PtpGrant) : State :=
    { s with ptp := { s.ptp with grants := s.ptp.grants.map (fun (g : PtpGrant) =>
        if g.inst = i ∧ g.key = key then { g with dram := false }
        else match out with
          | some o => if g.inst = o.inst ∧ g.key = o.key then { g with dram := true } else g
          | none => g) } }
  match s.grantOf i key with
  | none => s
  | some g =>
    if !g.dram then s
    else if s.cachedGrants < 65536 then move none
    else match slowestCached s.ptp.grants with
      | some o => if g.log < o.log then move (some o) else s
      | none => s

/-- The answer to a request of a unicast client (R288). -/
def State.grantAnswer (s : State) (i : Nat) (c : PtpCfg) (msg : PtpMsg) (addr : List Byte) (type : Nat) (log : Int) (dur : Nat) : State :=
  let pmc := 288 + 32 * i
  let key : GrantKey := ⟨type, addr, msg.clock, msg.port⟩
  let now := s.instNow c
  let d := min c.grantMaxDur (max 10 dur)
  let least := if type = 0 then c.logSync else if type = 11 then c.logAnnounce else c.logDelay
  let reply (s : State) (d : Nat) : State :=
    let (n, s) := s.ptpSeq i 12
    s.ptpOut i c { s.ptpBase i c 12 n 127 with tlvs := [.grant type log d], reqClock := msg.clock, reqPort := msg.port } addr none
  if !(type == 0 || type == 9 || type == 11) || c.mode == 0 || (c.mode == 2 && type != 9) || c.role == 1 then s
  else if s.instSt i ≠ 3 ∧ s.instSt i ≠ 4 then s.count (pmc + 5)
  else if log < least then reply (s.count (pmc + 6)) 0
  else match s.grantOf i key with
    | some _ =>
      let k (g : PtpGrant) : Option Int := if g.log = log then g.served else some (ivalNo now log ((g.phi : Int) * 1000 * fuNs))
      let s := { s with ptp := { s.ptp with grants := s.ptp.grants.map (fun (g : PtpGrant) =>
        if g.inst = i ∧ g.key = key then { g with log := log, dur := d, time := now, served := k g } else g) } }
      reply s.showBudget d
    | none =>
      if grantRate type log ≠ 0 ∧ s.rateFits c.port (grantRate type log) = false then reply (s.count (pmc + 7)) 0
      else if 1048576 ≤ s.ptp.grants.length then reply (s.count (pmc + 8)) 0
      else
        let phi := Config.ptpPhi i type addr msg.clock msg.port % max 1 (logIval log / (1000 * fuNs)).toNat
        let k := ivalNo now log ((phi : Int) * 1000 * fuNs)
        let g : PtpGrant := ⟨i, key, log, d, now, phi, true, some k⟩
        reply (({ s with ptp := { s.ptp with grants := s.ptp.grants ++ [g] } } : State).grantPlace i key).showBudget d

/-- A grant is removed and its committed rate released (R288). -/
def State.dropGrant (s : State) (i : Nat) (key : GrantKey) : State :=
  ({ s with ptp := { s.ptp with grants := s.ptp.grants.filter (fun g => !(g.inst == i && g.key == key)) } } : State).showBudget

/-- One TLV of a signaling message (R288, R290). -/
def State.rxTlv (s : State) (i : Nat) (c : PtpCfg) (msg : PtpMsg) (addr : List Byte) (t : PtpTlv) : State :=
  match t with
  | .request type log dur => s.grantAnswer i c msg addr type log dur
  | .cancel type =>
    if c.role = 1 then s.rxSlaveTlv i c addr t
    else
      let s := s.dropGrant i ⟨type, addr, msg.clock, msg.port⟩
      let (n, s) := s.ptpSeq i 12
      s.ptpOut i c { s.ptpBase i c 12 n 127 with tlvs := [.ack type], reqClock := msg.clock, reqPort := msg.port } addr none
  | _ => if c.role = 1 then s.rxSlaveTlv i c addr t else s

/-- The ICV of a message is computed for the check of R293. -/
def State.authTested (s : State) (c : PtpCfg) (msg : PtpMsg) : Bool :=
  c.auth != 0 && (match msg.auth with
    | none => false
    | some a => some a.keyId == c.authSlot && a.spp == c.spp && a.ind == 0 && (match s.keyFor a.keyId [ptpAuthUse] with
      | .inr _ => true
      | .inl _ => false))

/-- The message passes the check of R293. -/
def State.authPass (s : State) (c : PtpCfg) (msg : PtpMsg) : Bool :=
  if c.auth = 0 then true
  else match msg.auth with
    | none => c.auth == 1
    | some a => some a.keyId == c.authSlot && a.spp == c.spp && a.ind == 0 && (match s.keyFor a.keyId [ptpAuthUse] with
      | .inr key => a.icv == ptpIcv key { msg with auth := some { a with icv := [] } }
      | .inl _ => false)

/-- A Delay_Req or Pdelay_Req is answered (R279 to R281, R288). -/
def State.rxRequest (s : State) (i : Nat) (c : PtpCfg) (msg : PtpMsg) (addr : List Byte) (rx : Gt) : State :=
  if msg.type = 1 then
    (if c.profile ≠ 1 ∧ s.instSt i = 3 ∧ (c.mode = 0 ∨ (s.grantOf i ⟨9, addr, msg.clock, msg.port⟩).isSome) then
      let t := msgTime rx
      s.ptpOut i c { s.ptpBase i c 9 msg.seq c.logDelay with
        time := t.1, corr := msg.corr - t.2, reqClock := msg.clock, reqPort := msg.port } (if c.mode = 0 then [] else addr) none
     else s)
  else if c.profile = 1 then
    s.ptpOut i c { s.ptpBase i c 3 msg.seq 127 with
      time := if c.twoStep then (msgTime rx).1 else rx, corr := msg.corr, reqClock := msg.clock, reqPort := msg.port } [] none
  else s

/-- What a slave instance takes from the messages of its exchanges (R279, R284). -/
def State.rxExchange (s : State) (i : Nat) (c : PtpCfg) (msg : PtpMsg) (rx : Gt) : State :=
  let x := s.inst i
  match msg.type with
  | 0 =>
    if s.fromSel i msg then
      ((s.modInst i (fun x => { x with sync := some ⟨msg.seq, if msg.twoStep then none else some msg.time, some rx, msg.corr⟩ })).rxBound i c
        msg).tryExchange i c
    else s
  | 8 => (match x.sync with
    | some y =>
      if s.fromSel i msg ∧ y.seq = msg.seq ∧ y.tx.isNone then
        ((s.modInst i (fun x => { x with sync := some { y with tx := some msg.time, corr := y.corr + msg.corr } })).rxBound i c msg).tryExchange i c
      else s
    | none => s)
  | 9 => (match x.dreq with
    | some y =>
      if s.fromSel i msg ∧ s.forMe i msg ∧ y.seq = msg.seq ∧ y.rx.isNone then
        (s.modInst i (fun x => { x with dreq := some { y with rx := some msg.time, corr := msg.corr } })).tryExchange i c
      else s
    | none => s)
  | 3 => (match x.dreq with
    | some ⟨n, some t1, _, _⟩ =>
      if s.forMe i msg ∧ n = msg.seq then
        (if msg.twoStep then s.modInst i (fun x => { x with presp := some ⟨n, some msg.time, some rx, msg.corr⟩ })
         else s.pdelayDone i c t1 rx 0 msg.corr)
      else s
    | _ => s)
  | 10 => (match x.dreq, x.presp with
    | some ⟨n, some t1, _, _⟩, some ⟨_, some t2, some t4, c1⟩ =>
      if s.forMe i msg ∧ n = msg.seq then s.pdelayDone i c t1 t4 (msg.time - t2) (c1 + msg.corr) else s
    | _, _ => s)
  | _ => s

/-- An instance processes a received message, the oldest of its kind that waits at the instance's port: event messages of
class PTP_EVENT, the others PTP_GENERAL (R257, R277 to R281, R293). -/
def State.rxMessage (s : State) (i : Nat) (msg : PtpMsg) (addr : List Byte) : State :=
  let s := s.review i
  match (s.inst i).cfg with
  | none => s
  | some c =>
    let cls := if msg.type < 4 then 0 else 1
    match s.rxFront c.port cls with
    | none => s
    | some r =>
      let s := s.rxTake c.port cls
      let rx := r.stamp.on (s.instVc c)
      let s := if s.instSt i < 2 then s else s.instSweep i c
      if s.instSt i < 2 then s
      else if msg.major ≠ 2 ∨ 1 < msg.minor then s.count (288 + 32 * i)
      else if msg.domain ≠ c.domain then s
      else
      let ok := s.authPass c msg
      let s := if s.authTested c msg then s.authBlocks msg else s
      if !ok then s.count (288 + 32 * i + 10)
      else if msg.type = 13 then s.count (288 + 32 * i + 1)
      else match msg.type, msg.ann with
        | 11, some a => s.rxAnnounce i c msg addr a
        | 11, none => s
        | 12, _ => msg.tlvs.foldl (fun s t => s.rxTlv i c msg addr t) s
        | 1, _ => s.rxRequest i c msg addr rx
        | 2, _ => s.rxRequest i c msg addr rx
        | _, _ => if c.role = 1 then s.rxExchange i c msg rx else s

/-- PTP_MESSAGE_RX (R279). -/
def execPtpMessageRx (i : InstId) (msg : PtpMsg) (addr : List Byte) (t : Nat) (s : State) : Host.Outcome State Fault Refusal :=
  actAt t (fun s => s.rxMessage i msg addr) s

/-- REQUEST_UNICAST_TRANSMISSION: a message that carries the TLV (R288). -/
def execRequestUnicastTransmission (i : InstId) (msg : PtpMsg) (addr : List Byte) (t : Nat) (s : State) :
    Host.Outcome State Fault Refusal :=
  actAt t (fun s =>
    if msg.type = 12 ∧ msg.tlvs.any (fun t => match t with | .request _ _ _ => true | _ => false) then s.rxMessage i msg addr else s) s

/-- CANCEL_UNICAST_TRANSMISSION: a message that carries the TLV (R288). -/
def execCancelUnicastTransmission (i : InstId) (msg : PtpMsg) (addr : List Byte) (t : Nat) (s : State) :
    Host.Outcome State Fault Refusal :=
  actAt t (fun s =>
    if msg.type = 12 ∧ msg.tlvs.any (fun t => match t with | .cancel _ => true | _ => false) then s.rxMessage i msg addr else s) s

/-! ### Send -/

/-- An event of a running instance that is not FAULTY, after the review of R279 and the sweep of what has expired. -/
def State.liveInst (s : State) (i : Nat) (f : PtpCfg → State → State) : State :=
  let s := s.review i
  match (s.inst i).cfg with
  | some c => if 2 ≤ s.instSt i then f c (s.instSweep i c) else s
  | none => s

/-- SYNC_TX (R282, R286). -/
def execSyncTx (i : InstId) (t : Nat) (s : State) : Host.Outcome State Fault Refusal :=
  actAt t (fun s => s.liveInst i (fun c s =>
    match s.ivalDue i 0 c c.logSync with
    | some k =>
      if s.instSt i = 3 ∧ c.mode ≠ 1 then
        let (n, s) := (s.serve i 0 k).ptpSeq i 0
        s.ptpOut i c { s.ptpBase i c 0 n c.logSync with tlvs := if c.twoStep then [] else s.boundTlvs c 2 } [] (some (k * logIval c.logSync + instPhase i 0, logIval c.logSync))
      else s
    | none => s)) s

/-- An Announce as composed now (R286). -/
def State.announceMsg (s : State) (i : Nat) (c : PtpCfg) (n : Nat) (log : Int) : PtpMsg :=
  let (a, flags) := s.announceOf c
  { s.ptpBase i c 11 n log with ann := some a, flags := flags, tlvs := s.boundTlvs c 1 ++ l1Tlvs c }

/-- ANNOUNCE_TX (R282, R286). -/
def execAnnounceTx (i : InstId) (t : Nat) (s : State) : Host.Outcome State Fault Refusal :=
  actAt t (fun s => s.liveInst i (fun c s =>
    match s.ivalDue i 11 c c.logAnnounce with
    | some k =>
      if s.instSt i = 3 ∧ c.mode ≠ 1 then
        let (n, s) := (s.serve i 11 k).ptpSeq i 11
        s.ptpOut i c (s.announceMsg i c n c.logAnnounce) [] (some (k * logIval c.logAnnounce + instPhase i 11, logIval c.logAnnounce))
      else s
    | none => s)) s

/-- UNICAST_TX: a grant's message of an interval not yet served; a record in DRAM is looked up (R282, R288, R289). Which DRAM
channel holds it is the Placer's (a free value). -/
def execUnicastTx (i : InstId) (key : GrantKey) (t : Nat) (s : State) : Host.Outcome State Fault Refusal :=
  actAt t (fun s => s.liveInst i (fun c s =>
    match s.grantOf i key with
    | none => s
    | some g =>
      let ph : Gt := (g.phi : Int) * 1000 * fuNs
      let k := ivalNo (s.instNow c) g.log ph
      if s.instSt i = 3 ∧ (key.type = 0 ∨ key.type = 11) ∧ (match g.served with | some d => decide (d < k) | none => true) = true then
        let s := if g.dram then (let (x, s) := s.fresh; s.countBy (873 + 5 * (x % 2)) 64) else s
        let s := ({ s with ptp := { s.ptp with grants := s.ptp.grants.map (fun (h : PtpGrant) =>
          if h.inst = g.inst ∧ h.key = g.key then { h with served := some k } else h) } } : State).grantPlace i key
        let (n, s) := s.ptpSeq i key.type
        let due := some (k * logIval g.log + ph, logIval g.log)
        if key.type = 0 then s.ptpOut i c { s.ptpBase i c 0 n g.log with tlvs := if c.twoStep then [] else s.boundTlvs c 2 } key.addr due
        else s.ptpOut i c (s.announceMsg i c n g.log) key.addr due
      else s)) s

/-- DELAY_REQ_TX: a Delay_Req, or under profile 1 a Pdelay_Req (R284). -/
def execDelayReqTx (i : InstId) (t : Nat) (s : State) : Host.Outcome State Fault Refusal :=
  actAt t (fun s => s.liveInst i (fun c s =>
    match s.ivalDue i 1 c c.logDelay with
    | none => s
    | some k =>
      if c.role = 1 ∧ c.profile = 1 then
        let (n, s) := (s.serve i 1 k).ptpSeq i 2
        s.ptpOut i c (s.ptpBase i c 2 n c.logDelay) [] none
      else if c.role = 1 ∧ 5 ≤ s.instSt i then
        (match s.selected i with
         | some f =>
           if c.mode = 0 ∨ (s.inst i).asks.any (fun a => a.addr == f.addr && a.type == 9 && a.st == 1) then
             let (n, s) := (s.serve i 1 k).ptpSeq i 1
             s.ptpOut i c (s.ptpBase i c 1 n 127) (if c.mode = 0 then [] else f.addr) none
           else s
         | none => s)
      else s)) s

/-- FOLLOW_UP_TX: the oldest Follow_Up or Pdelay_Resp_Follow_Up that is due (R281, R286). -/
def execFollowUpTx (i : InstId) (t : Nat) (s : State) : Host.Outcome State Fault Refusal :=
  actAt t (fun s => s.liveInst i (fun c s =>
    match (s.inst i).follow with
    | [] => s
    | (msg, addr, _) :: rest => (s.modInst i (fun x => { x with follow := rest })).ptpOut i c (s.ptpFresh c msg) addr none)) s

/-! ### Grants and timeouts -/

/-- GRANT_EXPIRE (R288). -/
def execGrantExpire (i : InstId) (key : GrantKey) (t : Nat) (s : State) : Host.Outcome State Fault Refusal :=
  actAt t (fun s => match s.grantOf i key, (s.inst i).cfg with
    | some g, some c => if g.time + g.dur * fuSec ≤ s.instNow c then s.dropGrant i key else s
    | _, _ => s) s

/-- The grant or request of a slave instance toward a master. -/
def State.askOf (s : State) (i : Nat) (addr : List Byte) (type : Nat) : Option SlaveGrant :=
  (s.inst i).asks.find? (fun a => a.addr == addr && a.type == type)

/-- GRANT_RENEW: half the granted duration has passed (R290). -/
def execGrantRenew (i : InstId) (addr : List Byte) (type t : Nat) (s : State) : Host.Outcome State Fault Refusal :=
  actAt t (fun s => s.liveInst i (fun c s => match s.askOf i addr type with
    | some a => if a.st = 1 ∧ a.at' + a.dur * fuSec / 2 ≤ s.instNow c then s.askGrant i c addr type else s
    | none => s)) s

/-- GRANT_REQUEST_TIMEOUT: no answer within 1 s (R290). -/
def execGrantRequestTimeout (i : InstId) (addr : List Byte) (type t : Nat) (s : State) : Host.Outcome State Fault Refusal :=
  actAt t (fun s => s.liveInst i (fun c s => match s.askOf i addr type with
    | some a =>
      if a.st = 0 ∧ a.at' + fuSec ≤ s.instNow c then
        (s.modInst i (fun x => { x with asks := x.asks.map (fun b =>
          if b.addr = addr ∧ b.type = type then { b with st := 2, at' := s.instNow c } else b) })).count (288 + 32 * i + 9)
      else s
    | none => s)) s

/-- GRANT_RETRY: 10 s after a failed request (R290). -/
def execGrantRetry (i : InstId) (addr : List Byte) (type t : Nat) (s : State) : Host.Outcome State Fault Refusal :=
  actAt t (fun s => s.liveInst i (fun c s => match s.askOf i addr type with
    | some a => if a.st = 2 ∧ a.at' + 10 * fuSec ≤ s.instNow c then s.askGrant i c addr type else s
    | none => s)) s

/-- ANNOUNCE_RECEIPT_TIMEOUT: ANN_TIMEOUT intervals without an Announce (R279). -/
def execAnnounceReceiptTimeout (i : InstId) (clock port t : Nat) (s : State) : Host.Outcome State Fault Refusal :=
  actAt t (fun s => s.liveInst i (fun c s =>
    match (s.inst i).foreign.find? (fun f => f.clock == clock && f.port == port) with
    | some f =>
      if (f.times.headD 0) + c.annTimeout * logIval f.log ≤ s.instNow c then
        (s.modInst i (fun x => { x with foreign := x.foreign.filter (fun g => !(g.clock == clock && g.port == port)) })).bmca i c
      else s
    | none => s)) s

/-- LISTENING_TIMEOUT (R279). -/
def execListeningTimeout (i : InstId) (t : Nat) (s : State) : Host.Outcome State Fault Refusal :=
  actAt t (fun s => s.liveInst i (fun c s =>
    let better := match s.bestForeign i c with
      | some f => s.ranksBetter i c f
      | none => false
    if c.role = 0 ∧ s.instSt i = 2 ∧ (s.inst i).listen + c.annTimeout * logIval c.logAnnounce ≤ s.instNow c ∧ better = false then
      s.setInst i 3 0
    else s)) s

/-- The list with an exchange at its place by d. -/
def insertByD (x : Rat × Rat) : List (Rat × Rat) → List (Rat × Rat)
  | [] => [x]
  | y :: rest => if x.1 ≤ y.1 then x :: y :: rest else y :: insertByD x rest

/-- ô of a second: the mean o of the quarter of the exchanges with the smallest d, for peer delay of all (R284). -/
def secondOffset (profile : Nat) (l : List (Rat × Rat)) : Rat :=
  let sorted := l.foldl (fun acc x => insertByD x acc) []
  let use := if profile = 1 then l else sorted.take (max 1 (l.length / 4))
  (use.map (·.2)).foldl (· + ·) 0 / ((max 1 use.length : Nat) : Rat)

/-- PS_PPS at the whole second `sec` of the instance's VC: the exchanges of the second that ends there. A FAULTY instance misses the pulse
(R284). -/
def execPsPps (i : InstId) (sec : Int) (s : State) : Host.Outcome State Fault Refusal :=
  act (fun s =>
    let s := s.review i
    match (s.inst i).cfg with
    | none => s
    | some c =>
      let s := if 2 ≤ s.instSt i then s.instSweep i c else s
      let fresh : Bool := match tabGet none (s.inst i).served 0x100 with
        | some d => decide (d < sec)
        | none => true
      if c.role = 1 ∧ s.instSt i ≠ 0 ∧ fresh = true ∧ sec * fuSec ≤ s.instNow c then
        let l := ((s.inst i).offs.filter (fun x => decide (x.1 = sec - 1))).map (·.2)
        let s := (s.serve i 0x100 sec).modInst i (fun x => { x with offs := x.offs.filter (fun y => decide (sec ≤ y.1)) })
        if s.instSt i = 6 ∧ l ≠ [] then
          let o := secondOffset c.profile l
          let w := nearest (o / 1000000000000)
          let ok : Bool := match s.selected i with
            | some f => decide (f.flags / 8 % 2 = 1)
            | none => false
          s.modInst i (fun x => { x with pulses := ((sec + 1) * fuSec + psToFu (o - w * 1000000000000), sec + 1 - w, ok) :: x.pulses.take 1 })
        else s.count (288 + 32 * i + 4)
      else s) s

end Sys2Proof.Machine
end

