-- ==== Sys2Proof/Machine/Dispatch.lean ====
section
/-! DEFINITION. The one table from commands to their meanings. -/

namespace Sys2Proof.Machine

/-- The effect of a command on everything but the queue of waiting commands. -/
def exec (i : Instr) (s : State) : Host.Outcome State Fault Refusal :=
  match i with
  | .registerWrite m addr size data => Sys2Proof.Machine.execRegisterWrite m addr size data s
  | .holdingCopyRead m addr => Sys2Proof.Machine.execHoldingCopyRead m addr s
  | .podMemWrite m p dmem off size data => Sys2Proof.Machine.execPodMemWrite m p dmem off size data s
  | .podWdogWrite m p data => Sys2Proof.Machine.execPodWdogWrite m p data s
  | .podLoad q p src cap vc slot => Sys2Proof.Machine.execPodLoad q p src cap vc slot s
  | .podLoadComplete p => Sys2Proof.Machine.execPodLoadComplete p s
  | .loadTimeout p => Sys2Proof.Machine.execLoadTimeout p s
  | .podStart q p => Sys2Proof.Machine.execPodStart q p s
  | .podStop q p => Sys2Proof.Machine.execPodStop q p s
  | .podUnload q p => Sys2Proof.Machine.execPodUnload q p s
  | .podParam q p id val => Sys2Proof.Machine.execPodParam q p id val s
  | .podParamTimeout p => Sys2Proof.Machine.execPodParamTimeout p s
  | .podMsg q p type payload => Sys2Proof.Machine.execPodMsg q p type payload s
  | .podStatus q p => Sys2Proof.Machine.execPodStatus q p s
  | .podWatchdogExpire p => Sys2Proof.Machine.execPodWatchdogExpire p s
  | .timedActionArrive p id t => Sys2Proof.Machine.execTimedActionArrive p id t s
  | .steeratExecute p id => Sys2Proof.Machine.execSteeratExecute p id s
  | .stepatExecute p id => Sys2Proof.Machine.execStepatExecute p id s
  | .pulseatExecute p id => Sys2Proof.Machine.execPulseatExecute p id s
  | .armatExecute p id => Sys2Proof.Machine.execArmatExecute p id s
  | .synatExecute p id temp => Sys2Proof.Machine.execSynatExecute p id temp s
  | .tkpLatch m data => Sys2Proof.Machine.execTkpLatch m data s
  | .stepAbs m vc => Sys2Proof.Machine.execStepAbs m vc s
  | .stepRel m vc => Sys2Proof.Machine.execStepRel m vc s
  | .rate m vc => Sys2Proof.Machine.execRate m vc s
  | .stepRate m vc => Sys2Proof.Machine.execStepRate m vc s
  | .inc m vc => Sys2Proof.Machine.execInc m vc s
  | .modeInc m vc => Sys2Proof.Machine.execModeInc m vc s
  | .modeRate m vc => Sys2Proof.Machine.execModeRate m vc s
  | .tkpInvalidOp m vc op => Sys2Proof.Machine.execTkpInvalidOp m vc op s
  | .tkpHostOpApply => Sys2Proof.Machine.execTkpHostOpApply s
  | .stepPermitWrite m data => Sys2Proof.Machine.execStepPermitWrite m data s
  | .permitExpire vc => Sys2Proof.Machine.execPermitExpire vc s
  | .leapAdd q eff tai src => Sys2Proof.Machine.execLeapAdd q eff tai src s
  | .leapDelete q eff => Sys2Proof.Machine.execLeapDelete q eff s
  | .leapBase q tai => Sys2Proof.Machine.execLeapBase q tai s
  | .leapRead q idx => Sys2Proof.Machine.execLeapRead q idx s
  | .tdcStopEdge src k falling => Sys2Proof.Machine.execTdcStopEdge src k falling s
  | .tdcConversionDone c n n1 n2 => Sys2Proof.Machine.execTdcConversionDone c n n1 n2 s
  | .tdcRecordDispatch c => Sys2Proof.Machine.execTdcRecordDispatch c s
  | .tdcGateEdge g t => Sys2Proof.Machine.execTdcGateEdge g t s
  | .periodicArm c t => Sys2Proof.Machine.execPeriodicArm c t s
  | .preArmCalibration c cal => Sys2Proof.Machine.execPreArmCalibration c cal s
  | .stopTimeout c => Sys2Proof.Machine.execStopTimeout c s
  | .windowOpen c => Sys2Proof.Machine.execWindowOpen c s
  | .windowClose c => Sys2Proof.Machine.execWindowClose c s
  | .gateTimeout c => Sys2Proof.Machine.execGateTimeout c s
  | .backgroundCalibration c n1 => Sys2Proof.Machine.execBackgroundCalibration c n1 s
  | .calAged c => Sys2Proof.Machine.execCalAged c s
  | .dllUnlock => Sys2Proof.Machine.execDllUnlock s
  | .dllLock => Sys2Proof.Machine.execDllLock s
  | .skewgo m data => Sys2Proof.Machine.execSkewgo m data s
  | .skewCalibrationDone res => Sys2Proof.Machine.execSkewCalibrationDone res s
  | .tdcChCtrlWrite m c data => Sys2Proof.Machine.execTdcChCtrlWrite m c data s
  | .qualRecord => Sys2Proof.Machine.execQualRecord s
  | .refEvaluation t => Sys2Proof.Machine.execRefEvaluation t s
  | .refQualStall t => Sys2Proof.Machine.execRefQualStall t s
  | .todMessageRx n msg frameErr t => Sys2Proof.Machine.execTodMessageRx n msg frameErr t s
  | .eauUpdate t => Sys2Proof.Machine.execEauUpdate t s
  | .ensUpdate t => Sys2Proof.Machine.execEnsUpdate t s
  | .steerWatchdogCount t => Sys2Proof.Machine.execSteerWatchdogCount t s
  | .stallBoundCheck t => Sys2Proof.Machine.execStallBoundCheck t s
  | .setTime => Sys2Proof.Machine.execSetTime s
  | .memberReset => Sys2Proof.Machine.execMemberReset s
  | .spanEvaluation t => Sys2Proof.Machine.execSpanEvaluation t s
  | .onionLatch m data => Sys2Proof.Machine.execOnionLatch m data s
  | .onionL4Write m j data => Sys2Proof.Machine.execOnionL4Write m j data s
  | .journalRecordWrite => Sys2Proof.Machine.execJournalRecordWrite s
  | .journalAppend src type payload => Sys2Proof.Machine.execJournalAppend src type payload s
  | .jrnEnable m data => Sys2Proof.Machine.execJrnEnable m data s
  | .attestation t => Sys2Proof.Machine.execAttestation t s
  | .attSig t => Sys2Proof.Machine.execAttSig t s
  | .synEnable m n data => Sys2Proof.Machine.execSynEnable m n data s
  | .search m n => Sys2Proof.Machine.execSearch m n s
  | .hop m n idx => Sys2Proof.Machine.execHop m n idx s
  | .store m n idx => Sys2Proof.Machine.execStore m n idx s
  | .clear m n idx => Sys2Proof.Machine.execClear m n idx s
  | .relock m n => Sys2Proof.Machine.execRelock m n s
  | .synInvalidOp m n op => Sys2Proof.Machine.execSynInvalidOp m n op s
  | .synHostOpApply n temp => Sys2Proof.Machine.execSynHostOpApply n temp s
  | .synRateUpdate n t => Sys2Proof.Machine.execSynRateUpdate n t s
  | .synLock n found t => Sys2Proof.Machine.execSynLock n found t s
  | .synLockLost n loss => Sys2Proof.Machine.execSynLockLost n loss s
  | .searchTimeout n => Sys2Proof.Machine.execSearchTimeout n s
  | .nolockRetry n => Sys2Proof.Machine.execNolockRetry n s
  | .acquireTimeout n => Sys2Proof.Machine.execAcquireTimeout n s
  | .loopNarrow n => Sys2Proof.Machine.execLoopNarrow n s
  | .clkoutRealign j sec => Sys2Proof.Machine.execClkoutRealign j sec s
  | .aligngo m j data => Sys2Proof.Machine.execAligngo m j data s
  | .outputEnable m o data => Sys2Proof.Machine.execOutputEnable m o data s
  | .ppsPulse k sec => Sys2Proof.Machine.execPpsPulse k sec s
  | .patternPulse k idx => Sys2Proof.Machine.execPatternPulse k idx s
  | .irigFrame n sec => Sys2Proof.Machine.execIrigFrame n sec s
  | .todMessageTx n sec => Sys2Proof.Machine.execTodMessageTx n sec s
  | .gnssClkFail => Sys2Proof.Machine.execGnssClkFail s
  | .gnssClkReturn vis => Sys2Proof.Machine.execGnssClkReturn vis s
  | .sampleOverflow p stamps => Sys2Proof.Machine.execSampleOverflow p stamps s
  | .acqComplete found => Sys2Proof.Machine.execAcqComplete found s
  | .channelTrack c => Sys2Proof.Machine.execChannelTrack c s
  | .pullInTimeout c => Sys2Proof.Machine.execPullInTimeout c s
  | .channelLoss c => Sys2Proof.Machine.execChannelLoss c s
  | .obsLatch obs caps t => Sys2Proof.Machine.execObsLatch obs caps t s
  | .gnTimingSolution sol t => Sys2Proof.Machine.execGnTimingSolution sol t s
  | .gnVerdict => Sys2Proof.Machine.execGnVerdict s
  | .gnPps sec => Sys2Proof.Machine.execGnPps sec s
  | .gnssSleep t => Sys2Proof.Machine.execGnssSleep t s
  | .gnssWake vis t => Sys2Proof.Machine.execGnssWake vis t s
  | .keptDataCommit t => Sys2Proof.Machine.execKeptDataCommit t s
  | .cggttsTrackEnd track => Sys2Proof.Machine.execCggttsTrackEnd track s
  | .resurvey => Sys2Proof.Machine.execResurvey s
  | .keptClear => Sys2Proof.Machine.execKeptClear s
  | .fespiGo m data rx => Sys2Proof.Machine.execFespiGo m data rx s
  | .frameReceive p frame fcsOk k fine => Sys2Proof.Machine.execFrameReceive p frame fcsOk k fine s
  | .frameDepart p k fine => Sys2Proof.Machine.execFrameDepart p k fine s
  | .portCfgWrite m p data => Sys2Proof.Machine.execPortCfgWrite m p data s
  | .tsqPop m p => Sys2Proof.Machine.execTsqPop m p s
  | .qbvGo m p data => Sys2Proof.Machine.execQbvGo m p data s
  | .qbvListSwitch p t => Sys2Proof.Machine.execQbvListSwitch p t s
  | .qbvEntryAdvance p t => Sys2Proof.Machine.execQbvEntryAdvance p t s
  | .pauseHigh p prio t => Sys2Proof.Machine.execPauseHigh p prio t s
  | .pauseRepeat p prio t => Sys2Proof.Machine.execPauseRepeat p prio t s
  | .pauseLow p prio t => Sys2Proof.Machine.execPauseLow p prio t s
  | .pauseExpire p t => Sys2Proof.Machine.execPauseExpire p t s
  | .mdioFrame m data phy => Sys2Proof.Machine.execMdioFrame m data phy s
  | .prpSupervision pair t => Sys2Proof.Machine.execPrpSupervision pair t s
  | .prpTxSkew p k fine => Sys2Proof.Machine.execPrpTxSkew p k fine s
  | .linkDown p t => Sys2Proof.Machine.execLinkDown p t s
  | .linkUp p t => Sys2Proof.Machine.execLinkUp p t s
  | .serdesLos lane => Sys2Proof.Machine.execSerdesLos lane s
  | .ptpConfig q i0 args => Sys2Proof.Machine.execPtpConfig q i0 args s
  | .ptpStart q i0 => Sys2Proof.Machine.execPtpStart q i0 s
  | .ptpStop q i0 => Sys2Proof.Machine.execPtpStop q i0 s
  | .ptpMasters q i0 addrs => Sys2Proof.Machine.execPtpMasters q i0 addrs s
  | .ptpGrantQuery q i0 key => Sys2Proof.Machine.execPtpGrantQuery q i0 key s
  | .ptpIdentity q id => Sys2Proof.Machine.execPtpIdentity q id s
  | .ptpStatus q i0 => Sys2Proof.Machine.execPtpStatus q i0 s
  | .syncTx i0 t => Sys2Proof.Machine.execSyncTx i0 t s
  | .announceTx i0 t => Sys2Proof.Machine.execAnnounceTx i0 t s
  | .unicastTx i0 key t => Sys2Proof.Machine.execUnicastTx i0 key t s
  | .delayReqTx i0 t => Sys2Proof.Machine.execDelayReqTx i0 t s
  | .followUpTx i0 t => Sys2Proof.Machine.execFollowUpTx i0 t s
  | .ptpMessageRx i0 msg addr t => Sys2Proof.Machine.execPtpMessageRx i0 msg addr t s
  | .requestUnicastTransmission i0 msg addr t => Sys2Proof.Machine.execRequestUnicastTransmission i0 msg addr t s
  | .cancelUnicastTransmission i0 msg addr t => Sys2Proof.Machine.execCancelUnicastTransmission i0 msg addr t s
  | .grantExpire i0 key t => Sys2Proof.Machine.execGrantExpire i0 key t s
  | .grantRenew i0 addr type t => Sys2Proof.Machine.execGrantRenew i0 addr type t s
  | .grantRequestTimeout i0 addr type t => Sys2Proof.Machine.execGrantRequestTimeout i0 addr type t s
  | .grantRetry i0 addr type t => Sys2Proof.Machine.execGrantRetry i0 addr type t s
  | .announceReceiptTimeout i0 clock port t => Sys2Proof.Machine.execAnnounceReceiptTimeout i0 clock port t s
  | .listeningTimeout i0 t => Sys2Proof.Machine.execListeningTimeout i0 t s
  | .psPps i0 sec => Sys2Proof.Machine.execPsPps i0 sec s
  | .ntpRequest p load t => Sys2Proof.Machine.execNtpRequest p load t s
  | .ntsRequest p load t => Sys2Proof.Machine.execNtsRequest p load t s
  | .ledgerUpdateWrite => Sys2Proof.Machine.execLedgerUpdateWrite s
  | .ntsMint q alg ident c2s s2c count => Sys2Proof.Machine.execNtsMint q alg ident c2s s2c count s
  | .ntsCkeySet q slot => Sys2Proof.Machine.execNtsCkeySet q slot s
  | .ntsCkeyDrop q slot => Sys2Proof.Machine.execNtsCkeyDrop q slot s
  | .nseLedgerRead q ident => Sys2Proof.Machine.execNseLedgerRead q ident s
  | .nseLedgerFree q ident => Sys2Proof.Machine.execNseLedgerFree q ident s
  | .ckeyDue t => Sys2Proof.Machine.execCkeyDue t s
  | .shedHigh t => Sys2Proof.Machine.execShedHigh t s
  | .keyWrite q slot parent kind use type key auth => Sys2Proof.Machine.execKeyWrite q slot parent kind use type key auth s
  | .keyGenerate q slot parent kind use type auth => Sys2Proof.Machine.execKeyGenerate q slot parent kind use type auth s
  | .keyDerive q slot parent use type label auth => Sys2Proof.Machine.execKeyDerive q slot parent use type label auth s
  | .keyInvalidate q slot auth => Sys2Proof.Machine.execKeyInvalidate q slot auth s
  | .keyFree q slot auth => Sys2Proof.Machine.execKeyFree q slot auth s
  | .keyRead q slot => Sys2Proof.Machine.execKeyRead q slot s
  | .keyPubkey q slot => Sys2Proof.Machine.execKeyPubkey q slot s
  | .keySign q slot digest => Sys2Proof.Machine.execKeySign q slot digest s
  | .sgnSignComplete => Sys2Proof.Machine.execSgnSignComplete s
  | .keyUnlock q pins auth => Sys2Proof.Machine.execKeyUnlock q pins auth s
  | .keyTamperCfg q input cls level filt pins auth => Sys2Proof.Machine.execKeyTamperCfg q input cls level filt pins auth s
  | .keyPolicy q signed kalock auth => Sys2Proof.Machine.execKeyPolicy q signed kalock auth s
  | .keyEnrolled q => Sys2Proof.Machine.execKeyEnrolled q s
  | .tamperAlarm ka samples => Sys2Proof.Machine.execTamperAlarm ka samples s
  | .rbgHealthFail => Sys2Proof.Machine.execRbgHealthFail s
  | .twinHeartbeatTx t => Sys2Proof.Machine.execTwinHeartbeatTx t s
  | .twinBoundTx t => Sys2Proof.Machine.execTwinBoundTx t s
  | .twinCheckTx t => Sys2Proof.Machine.execTwinCheckTx t s
  | .twinFrameRx frame authentic crcOk t => Sys2Proof.Machine.execTwinFrameRx frame authentic crcOk t s
  | .hbWordTx t => Sys2Proof.Machine.execHbWordTx t s
  | .hbWordRx word t => Sys2Proof.Machine.execHbWordRx word t s
  | .pathTimeout t => Sys2Proof.Machine.execPathTimeout t s
  | .twinRepair t => Sys2Proof.Machine.execTwinRepair t s
  | .twinLockClaim line => Sys2Proof.Machine.execTwinLockClaim line s
  | .twinLockCheck low t => Sys2Proof.Machine.execTwinLockCheck low t s
  | .twnHandover q => Sys2Proof.Machine.execTwnHandover q s
  | .handoverTimeout t => Sys2Proof.Machine.execHandoverTimeout t s
  | .yieldHoldEnd t => Sys2Proof.Machine.execYieldHoldEnd t s
  | .add p rd ra rb => Sys2Proof.Machine.execAdd p rd ra rb s
  | .sub p rd ra rb => Sys2Proof.Machine.execSub p rd ra rb s
  | .adc p rd ra rb => Sys2Proof.Machine.execAdc p rd ra rb s
  | .sbc p rd ra rb => Sys2Proof.Machine.execSbc p rd ra rb s
  | .addi p rd ra imm => Sys2Proof.Machine.execAddi p rd ra imm s
  | .mul p rd ra rb => Sys2Proof.Machine.execMul p rd ra rb s
  | .mulh p rd ra rb => Sys2Proof.Machine.execMulh p rd ra rb s
  | .mulhu p rd ra rb => Sys2Proof.Machine.execMulhu p rd ra rb s
  | .div p rd ra rb => Sys2Proof.Machine.execDiv p rd ra rb s
  | .divu p rd ra rb => Sys2Proof.Machine.execDivu p rd ra rb s
  | .rem p rd ra rb => Sys2Proof.Machine.execRem p rd ra rb s
  | .remu p rd ra rb => Sys2Proof.Machine.execRemu p rd ra rb s
  | .mulq p rd ra rb fn => Sys2Proof.Machine.execMulq p rd ra rb fn s
  | .adds p rd ra rb => Sys2Proof.Machine.execAdds p rd ra rb s
  | .subs p rd ra rb => Sys2Proof.Machine.execSubs p rd ra rb s
  | .shl p rd ra rb => Sys2Proof.Machine.execShl p rd ra rb s
  | .shr p rd ra rb => Sys2Proof.Machine.execShr p rd ra rb s
  | .sar p rd ra rb => Sys2Proof.Machine.execSar p rd ra rb s
  | .shli p rd ra sh => Sys2Proof.Machine.execShli p rd ra sh s
  | .shri p rd ra sh => Sys2Proof.Machine.execShri p rd ra sh s
  | .sari p rd ra sh => Sys2Proof.Machine.execSari p rd ra sh s
  | .clz p rd ra => Sys2Proof.Machine.execClz p rd ra s
  | .and p rd ra rb => Sys2Proof.Machine.execAnd p rd ra rb s
  | .or p rd ra rb => Sys2Proof.Machine.execOr p rd ra rb s
  | .xor p rd ra rb => Sys2Proof.Machine.execXor p rd ra rb s
  | .andi p rd ra imm => Sys2Proof.Machine.execAndi p rd ra imm s
  | .ori p rd ra imm => Sys2Proof.Machine.execOri p rd ra imm s
  | .xori p rd ra imm => Sys2Proof.Machine.execXori p rd ra imm s
  | .movi p rd imm => Sys2Proof.Machine.execMovi p rd imm s
  | .cati p rd imm => Sys2Proof.Machine.execCati p rd imm s
  | .fadd p rd ra rb => Sys2Proof.Machine.execFadd p rd ra rb s
  | .fsub p rd ra rb => Sys2Proof.Machine.execFsub p rd ra rb s
  | .fmul p rd ra rb => Sys2Proof.Machine.execFmul p rd ra rb s
  | .fdiv p rd ra rb => Sys2Proof.Machine.execFdiv p rd ra rb s
  | .fsqrt p rd ra => Sys2Proof.Machine.execFsqrt p rd ra s
  | .fma p rd ra rb => Sys2Proof.Machine.execFma p rd ra rb s
  | .fcvtif p rd ra => Sys2Proof.Machine.execFcvtif p rd ra s
  | .fcvtfi p rd ra => Sys2Proof.Machine.execFcvtfi p rd ra s
  | .fcmp p ra rb => Sys2Proof.Machine.execFcmp p ra rb s
  | .fabs p rd ra => Sys2Proof.Machine.execFabs p rd ra s
  | .fneg p rd ra => Sys2Proof.Machine.execFneg p rd ra s
  | .cmp p ra rb => Sys2Proof.Machine.execCmp p ra rb s
  | .cmpi p ra imm => Sys2Proof.Machine.execCmpi p ra imm s
  | .test p ra rb => Sys2Proof.Machine.execTest p ra rb s
  | .b p cond off => Sys2Proof.Machine.execB p cond off s
  | .bl p cond off => Sys2Proof.Machine.execBl p cond off s
  | .br p ra link => Sys2Proof.Machine.execBr p ra link s
  | .ldb p rd ra imm => Sys2Proof.Machine.execLdb p rd ra imm s
  | .ldbs p rd ra imm => Sys2Proof.Machine.execLdbs p rd ra imm s
  | .ldh p rd ra imm => Sys2Proof.Machine.execLdh p rd ra imm s
  | .ldhs p rd ra imm => Sys2Proof.Machine.execLdhs p rd ra imm s
  | .ldw p rd ra imm => Sys2Proof.Machine.execLdw p rd ra imm s
  | .ldws p rd ra imm => Sys2Proof.Machine.execLdws p rd ra imm s
  | .ldd p rd ra imm => Sys2Proof.Machine.execLdd p rd ra imm s
  | .stb p rd ra imm => Sys2Proof.Machine.execStb p rd ra imm s
  | .sth p rd ra imm => Sys2Proof.Machine.execSth p rd ra imm s
  | .stw p rd ra imm => Sys2Proof.Machine.execStw p rd ra imm s
  | .std p rd ra imm => Sys2Proof.Machine.execStd p rd ra imm s
  | .ldc p rd ra imm => Sys2Proof.Machine.execLdc p rd ra imm s
  | .stc p rd ra imm => Sys2Proof.Machine.execStc p rd ra imm s
  | .cas p rd ra rb => Sys2Proof.Machine.execCas p rd ra rb s
  | .faa p rd ra rb => Sys2Proof.Machine.execFaa p rd ra rb s
  | .busRead p rd ra wide => Sys2Proof.Machine.execBusRead p rd ra wide s
  | .busWrite p ra rb wide => Sys2Proof.Machine.execBusWrite p ra rb wide s
  | .tadd p tD tA tB => Sys2Proof.Machine.execTadd p tD tA tB s
  | .tsub p tD tA tB => Sys2Proof.Machine.execTsub p tD tA tB s
  | .taddq p tD tA gX => Sys2Proof.Machine.execTaddq p tD tA gX s
  | .tdiff p gX tA tB => Sys2Proof.Machine.execTdiff p gX tA tB s
  | .tcmp p tA tB => Sys2Proof.Machine.execTcmp p tA tB s
  | .tset p tD gX gY => Sys2Proof.Machine.execTset p tD gX gY s
  | .tsec p gX tA => Sys2Proof.Machine.execTsec p gX tA s
  | .tfrc p gX tA => Sys2Proof.Machine.execTfrc p gX tA s
  | .tld p tD gX commons => Sys2Proof.Machine.execTld p tD gX commons s
  | .tstr p tA gX commons => Sys2Proof.Machine.execTstr p tA gX commons s
  | .rdvc p tD vc => Sys2Proof.Machine.execRdvc p tD vc s
  | .rdraw p gX gY => Sys2Proof.Machine.execRdraw p gX gY s
  | .waitt p tA gT vc => Sys2Proof.Machine.execWaitt p tA gT vc s
  | .waite p gD gM gT => Sys2Proof.Machine.execWaite p gD gM gT s
  | .waitRelease p t => Sys2Proof.Machine.execWaitRelease p t s
  | .waitTimeout p t => Sys2Proof.Machine.execWaitTimeout p t s
  | .steerat p tA gD ga gb vc => Sys2Proof.Machine.execSteerat p tA gD ga gb vc s
  | .stepatAbs p tA gD ga gb vc => Sys2Proof.Machine.execStepatAbs p tA gD ga gb vc s
  | .stepatRel p tA gD ga gb vc => Sys2Proof.Machine.execStepatRel p tA gD ga gb vc s
  | .stepatAbsRate p tA gD ga gb vc => Sys2Proof.Machine.execStepatAbsRate p tA gD ga gb vc s
  | .pulseat p tA gD ga gb vc => Sys2Proof.Machine.execPulseat p tA gD ga gb vc s
  | .armat p tA gD ga vc => Sys2Proof.Machine.execArmat p tA gD ga vc s
  | .synatSearch p tA gD ga gb vc => Sys2Proof.Machine.execSynatSearch p tA gD ga gb vc s
  | .synatHop p tA gD ga gb vc => Sys2Proof.Machine.execSynatHop p tA gD ga gb vc s
  | .synatRelock p tA gD ga vc => Sys2Proof.Machine.execSynatRelock p tA gD ga vc s
  | .synatStore p tA gD ga gb vc => Sys2Proof.Machine.execSynatStore p tA gD ga gb vc s
  | .synatSafe p tA gD ga vc => Sys2Proof.Machine.execSynatSafe p tA gD ga vc s
  | .synatRelease p tA gD ga vc => Sys2Proof.Machine.execSynatRelease p tA gD ga vc s
  | .popc p rd => Sys2Proof.Machine.execPopc p rd s
  | .vcrd p tD gX vc => Sys2Proof.Machine.execVcrd p tD gX vc s
  | .ratecv p rd ra => Sys2Proof.Machine.execRatecv p rd ra s
  | .mcfg p ra rb fn => Sys2Proof.Machine.execMcfg p ra rb fn s
  | .mcfgt p gX tA => Sys2Proof.Machine.execMcfgt p gX tA s
  | .mrel p ra => Sys2Proof.Machine.execMrel p ra s
  | .mpop p rd ra qual => Sys2Proof.Machine.execMpop p rd ra qual s
  | .eauw p ra rb fn => Sys2Proof.Machine.execEauw p ra rb fn s
  | .eauu0 p ra => Sys2Proof.Machine.execEauu0 p ra s
  | .eaurst p ra => Sys2Proof.Machine.execEaurst p ra s
  | .eaustat p rd => Sys2Proof.Machine.execEaustat p rd s
  | .xrd p rd ra wide => Sys2Proof.Machine.execXrd p rd ra wide s
  | .xwr p ra rb wide => Sys2Proof.Machine.execXwr p ra rb wide s
  | .send p ra rb type => Sys2Proof.Machine.execSend p ra rb type s
  | .recv p ra => Sys2Proof.Machine.execRecv p ra s
  | .pans p ra rb => Sys2Proof.Machine.execPans p ra rb s
  | .evpost p ra rb => Sys2Proof.Machine.execEvpost p ra rb s
  | .japp p ra rb => Sys2Proof.Machine.execJapp p ra rb s
  | .nettx p rd ra rb => Sys2Proof.Machine.execNettx p rd ra rb s
  | .kcmac p rd ra rb => Sys2Proof.Machine.execKcmac p rd ra rb s
  | .gcmdAcq p rd ra => Sys2Proof.Machine.execGcmdAcq p rd ra s
  | .gcmdChan p rd ra => Sys2Proof.Machine.execGcmdChan p rd ra s
  | .gcmdPpsf p rd ra => Sys2Proof.Machine.execGcmdPpsf p rd ra s
  | .gcmdSleep p rd ra => Sys2Proof.Machine.execGcmdSleep p rd ra s
  | .gcmdObs p rd ra => Sys2Proof.Machine.execGcmdObs p rd ra s
  | .twclm p => Sys2Proof.Machine.execTwclm p s
  | .twrel p => Sys2Proof.Machine.execTwrel p s
  | .fack p => Sys2Proof.Machine.execFack p s
  | .fclr p ra => Sys2Proof.Machine.execFclr p ra s
  | .nop p => Sys2Proof.Machine.execNop p s
  | .halt p => Sys2Proof.Machine.execHalt p s
  | .kick p => Sys2Proof.Machine.execKick p s
  | .fence p => Sys2Proof.Machine.execFence p s
  | .podid p rd => Sys2Proof.Machine.execPodid p rd s
  | .caprd p rd => Sys2Proof.Machine.execCaprd p rd s
  | .hifNop q args => Sys2Proof.Machine.execHifNop q args s
  | .snapshot q => Sys2Proof.Machine.execSnapshot q s
  | .sysSnapGo m data => Sys2Proof.Machine.execSysSnapGo m data s
  | .snapshotTake => Sys2Proof.Machine.execSnapshotTake s
  | .rxbufPost q a0 a1 a2 a3 => Sys2Proof.Machine.execRxbufPost q a0 a1 a2 a3 s
  | .frameTx q buf len port tc flags osOff launch => Sys2Proof.Machine.execFrameTx q buf len port tc flags osOff launch s
  | .hifRingEnable m r data => Sys2Proof.Machine.execHifRingEnable m r data s
  | .hifRingPiWrite m pi => Sys2Proof.Machine.execHifRingPiWrite m pi s
  | .hifRingCiWrite m r data => Sys2Proof.Machine.execHifRingCiWrite m r data s
  | .perst burst => Sys2Proof.Machine.execPerst burst s
  | .hwdogKick m data => Sys2Proof.Machine.execHwdogKick m data s
  | .hostWatchdogExpire => Sys2Proof.Machine.execHostWatchdogExpire s
  | .spiTransaction bytes late => Sys2Proof.Machine.execSpiTransaction bytes late s
  | .i2cTransaction bytes late => Sys2Proof.Machine.execI2cTransaction bytes late s
  | .gasketTimeout m addr wr => Sys2Proof.Machine.execGasketTimeout m addr wr s
  | .sysRemapWrite m data => Sys2Proof.Machine.execSysRemapWrite m data s
  | .pcieLinkDown => Sys2Proof.Machine.execPcieLinkDown s
  | .faultCollectionTick => Sys2Proof.Machine.execFaultCollectionTick s
  | .fltAck m data => Sys2Proof.Machine.execFltAck m data s
  | .fltPendClear m w data => Sys2Proof.Machine.execFltPendClear m w data s
  | .fltClassWrite m src data => Sys2Proof.Machine.execFltClassWrite m src data s
  | .faultReaction => Sys2Proof.Machine.execFaultReaction s
  | .ackHoldExpire => Sys2Proof.Machine.execAckHoldExpire s
  | .autoClear => Sys2Proof.Machine.execAutoClear s
  | .relockWaitExpire n => Sys2Proof.Machine.execRelockWaitExpire n s
  | .tbSafeExpire => Sys2Proof.Machine.execTbSafeExpire s
  | .cryptoLaneFault lane => Sys2Proof.Machine.execCryptoLaneFault lane s
  | .eccError mem uncorr m addr wr => Sys2Proof.Machine.execEccError mem uncorr m addr wr s
  | .thermRange temp t => Sys2Proof.Machine.execThermRange temp t s
  | .powerOn => Sys2Proof.Machine.execPowerOn s
  | .railWarning rail t => Sys2Proof.Machine.execRailWarning rail t s
  | .railWarningEnd rail t => Sys2Proof.Machine.execRailWarningEnd rail t s
  | .vddReset => Sys2Proof.Machine.execVddReset s
  | .vddaReset => Sys2Proof.Machine.execVddaReset s
  | .kaReset => Sys2Proof.Machine.execKaReset s
  | .pwrgoodFall => Sys2Proof.Machine.execPwrgoodFall s
  | .pwrgoodReset => Sys2Proof.Machine.execPwrgoodReset s
  | .resetN => Sys2Proof.Machine.execResetN s
  | .pwrReset m data => Sys2Proof.Machine.execPwrReset m data s
  | .startSequence env => Sys2Proof.Machine.execStartSequence env s
  | .mramCommit good => Sys2Proof.Machine.execMramCommit good s
  | .oscTrim slow fast => Sys2Proof.Machine.execOscTrim slow fast s
  | .loFail stop => Sys2Proof.Machine.execLoFail stop s
  | .loReturn t => Sys2Proof.Machine.execLoReturn t s
  | .tbpLock t => Sys2Proof.Machine.execTbpLock t s
  | .tbpUnlock t => Sys2Proof.Machine.execTbpUnlock t s
  | .timebaseFail t => Sys2Proof.Machine.execTimebaseFail t s
  | .timebaseReturn outage => Sys2Proof.Machine.execTimebaseReturn outage s
  | .sdrefFail n => Sys2Proof.Machine.execSdrefFail n s
  | .sdrefReturn n => Sys2Proof.Machine.execSdrefReturn n s
  | .bootclkSwitch => Sys2Proof.Machine.execBootclkSwitch s
  | .switchForced => Sys2Proof.Machine.execSwitchForced s
  | .clkGateRequest m data => Sys2Proof.Machine.execClkGateRequest m data s
  | .gateIdle d => Sys2Proof.Machine.execGateIdle d s
  | .quiesceTimeout d => Sys2Proof.Machine.execQuiesceTimeout d s
  | .gateOpen d => Sys2Proof.Machine.execGateOpen d s
  | .pmcClear m data => Sys2Proof.Machine.execPmcClear m data s
  | .pmcClearApply => Sys2Proof.Machine.execPmcClearApply s
  | .pmcWindowBoundary t => Sys2Proof.Machine.execPmcWindowBoundary t s
  | .telDrain => Sys2Proof.Machine.execTelDrain s
  | .telDatagramClose t => Sys2Proof.Machine.execTelDatagramClose t s
  | .undefinedInstruction p => Sys2Proof.Machine.execUndefinedInstruction p s
  | .postedWriteComplete addr => Sys2Proof.Machine.execPostedWriteComplete addr s
  | .voteScrub upsets => Sys2Proof.Machine.execVoteScrub upsets s
  | .thermRangeEnd temp t => Sys2Proof.Machine.execThermRangeEnd temp t s
  | .pcieLinkUp speed width => Sys2Proof.Machine.execPcieLinkUp speed width s
  | .pcieAerError uncorr => Sys2Proof.Machine.execPcieAerError uncorr s
  | .collision late t => Sys2Proof.Machine.execCollision late t s

end Sys2Proof.Machine
end

