-- ==== Sys2Proof/Machine/Step.lean ====
section
/-! DEFINITION. The step: the engine takes the command at the front of its queue; with an empty queue one
timebase tick passes (notes/assumptions/5). -/

namespace Sys2Proof.Machine

/-- One step of the engine. -/
def step (s : State) : Host.Outcome State Fault Refusal :=
  match s.pending with
  | [] => .next s.tick
  | c :: rest => exec c { s with pending := rest }

/-- The state with the command that a word spells put in front of the queue; the table gives no row a word, so
no word spells one (notes/assumptions/6). -/
def State.withFetchWord (s : State) (nbits w : Nat) : State :=
  match Sys2Proof.decodeTableWord nbits w with
  | some c => { s with pending := c :: s.pending }
  | none => s

end Sys2Proof.Machine
end

