-- ==== Sys2Proof/WellFormed.lean ====
section
/-! DEFINITION. The commands that an engine can meet: every operand in the width that its carrier gives it. A command that is
well formed may still be one that the engine answers with an error. -/

namespace Sys2Proof

/-- A number of `n` bits (R3). -/
def bits (n x : Nat) : Bool := decide (x < 2 ^ n)

/-- A number in two's complement of `n` bits (R3). -/
def signed (n : Nat) (x : Int) : Bool := decide (-(2 ^ (n - 1) : Int) ≤ x) && decide (x < (2 ^ (n - 1) : Int))

/-- A list of at most `n` elements. -/
def atMost {α : Type} (n : Nat) (l : List α) : Bool := decide (l.length ≤ n)

/-- The bytes of one access: up to 16 beats of 64 bits (R404). -/
def accessOk (n : Nat) : Bool := decide (1 ≤ n) && decide (n ≤ 128)

/-- The operands of a command have their widths. -/
def Instr.wellFormed : Instr → Bool
  | .registerWrite _ addr size data => bits 40 addr && accessOk size && decide (data < 256 ^ size)
  | .holdingCopyRead _ addr => bits 40 addr
  | .podMemWrite _ _ _ off size data => bits 32 off && accessOk size && decide (data < 256 ^ size)
  | .podWdogWrite _ _ data => bits 32 data
  | .podLoad q _ _ cap vc slot => bits 32 q && bits 32 cap && bits 32 vc && bits 32 slot
  | .podStart q _ => bits 32 q
  | .podStop q _ => bits 32 q
  | .podUnload q _ => bits 32 q
  | .podParam q _ id val => bits 32 q && bits 16 id && bits 64 val
  | .podMsg q _ _ payload => bits 32 q && atMost 4096 payload
  | .podStatus q _ => bits 32 q
  | .timedActionArrive _ _ t => bits 96 t
  | .synatExecute _ _ temp => signed 16 temp
  | .tkpLatch _ data => bits 32 data
  | .tkpInvalidOp _ _ op => bits 32 op
  | .stepPermitWrite _ data => bits 32 data
  | .leapAdd q eff tai src => bits 32 q && signed 64 eff && signed 64 tai && bits 32 src
  | .leapDelete q eff => bits 32 q && signed 64 eff
  | .leapBase q tai => bits 32 q && signed 64 tai
  | .leapRead q idx => bits 32 q && bits 32 idx
  | .tdcStopEdge _ k _ => bits 96 k
  | .tdcConversionDone _ n n1 n2 => bits 32 n && bits 32 n1 && bits 32 n2
  | .tdcGateEdge _ t => bits 96 t
  | .periodicArm _ t => bits 96 t
  | .preArmCalibration _ cal => bits 96 cal.t && bits 32 cal.n1 && bits 32 cal.n2
  | .backgroundCalibration _ n1 => bits 32 n1
  | .skewgo _ data => bits 32 data
  | .tdcChCtrlWrite _ _ data => bits 32 data
  | .refEvaluation t => bits 96 t
  | .refQualStall t => bits 96 t
  | .todMessageRx _ msg _ t => atMost 4096 msg && bits 96 t
  | .eauUpdate t => bits 96 t
  | .ensUpdate t => bits 96 t
  | .steerWatchdogCount t => bits 96 t
  | .stallBoundCheck t => bits 96 t
  | .spanEvaluation t => bits 96 t
  | .onionLatch _ data => bits 32 data
  | .onionL4Write _ _ data => bits 32 data
  | .journalAppend src type payload => bits 32 src && bits 32 type && atMost 4096 payload
  | .jrnEnable _ data => bits 32 data
  | .attestation t => bits 96 t
  | .attSig t => bits 96 t
  | .synEnable _ _ data => bits 32 data
  | .synInvalidOp _ _ op => bits 32 op
  | .synHostOpApply _ temp => signed 16 temp
  | .synRateUpdate _ t => bits 96 t
  | .synLock _ found t => bits 32 found.err && bits 96 t
  | .synLockLost _ loss => bits 32 loss.err && bits 96 loss.t
  | .clkoutRealign _ sec => signed 64 sec
  | .aligngo _ _ data => bits 32 data
  | .outputEnable _ _ data => bits 32 data
  | .ppsPulse _ sec => signed 64 sec
  | .patternPulse _ idx => bits 32 idx
  | .irigFrame _ sec => signed 64 sec
  | .todMessageTx _ sec => signed 64 sec
  | .sampleOverflow _ stamps => bits 32 stamps
  | .channelTrack c => bits 96 c.t
  | .channelLoss c => bits 96 c.t
  | .obsLatch _ _ t => bits 96 t
  | .gnTimingSolution _ t => bits 96 t
  | .gnPps sec => signed 64 sec
  | .gnssSleep t => bits 96 t
  | .gnssWake _ t => bits 96 t
  | .keptDataCommit t => bits 96 t
  | .cggttsTrackEnd track => signed 64 track.start && bits 96 track.t
  | .fespiGo _ data _ => bits 32 data
  | .frameReceive _ frame _ k fine => atMost 16383 frame && bits 96 k && bits 16 fine
  | .frameDepart _ k fine => bits 96 k && bits 16 fine
  | .portCfgWrite _ _ data => bits 32 data
  | .qbvGo _ _ data => bits 32 data
  | .qbvListSwitch _ t => bits 96 t
  | .qbvEntryAdvance _ t => bits 96 t
  | .pauseHigh _ _ t => bits 96 t
  | .pauseRepeat _ _ t => bits 96 t
  | .pauseLow _ _ t => bits 96 t
  | .pauseExpire _ t => bits 96 t
  | .mdioFrame _ data _ => bits 32 data
  | .prpSupervision _ t => bits 96 t
  | .prpTxSkew _ k fine => bits 96 k && bits 16 fine
  | .linkDown _ t => bits 96 t
  | .linkUp _ t => bits 96 t
  | .ptpConfig q i0 _ => bits 32 q && bits 32 i0
  | .ptpStart q i0 => bits 32 q && bits 32 i0
  | .ptpStop q i0 => bits 32 q && bits 32 i0
  | .ptpMasters q i0 _ => bits 32 q && bits 32 i0
  | .ptpGrantQuery q i0 _ => bits 32 q && bits 32 i0
  | .ptpIdentity q _ => bits 32 q
  | .ptpStatus q i0 => bits 32 q && bits 32 i0
  | .syncTx _ t => bits 96 t
  | .announceTx _ t => bits 96 t
  | .unicastTx _ _ t => bits 96 t
  | .delayReqTx _ t => bits 96 t
  | .followUpTx _ t => bits 96 t
  | .ptpMessageRx _ _ addr t => atMost 16 addr && bits 96 t
  | .requestUnicastTransmission _ _ addr t => atMost 16 addr && bits 96 t
  | .cancelUnicastTransmission _ _ addr t => atMost 16 addr && bits 96 t
  | .grantExpire _ _ t => bits 96 t
  | .grantRenew _ addr type t => atMost 16 addr && bits 32 type && bits 96 t
  | .grantRequestTimeout _ addr type t => atMost 16 addr && bits 32 type && bits 96 t
  | .grantRetry _ addr type t => atMost 16 addr && bits 32 type && bits 96 t
  | .announceReceiptTimeout _ clock port t => bits 64 clock && bits 32 port && bits 96 t
  | .listeningTimeout _ t => bits 96 t
  | .psPps _ sec => signed 64 sec
  | .ntpRequest _ _ t => bits 96 t
  | .ntsRequest _ _ t => bits 96 t
  | .ntsMint q alg ident c2s s2c count => bits 32 q && bits 32 alg && bits 128 ident && atMost 4096 c2s && atMost 4096 s2c && bits 32 count
  | .ntsCkeySet q slot => bits 32 q && bits 32 slot
  | .ntsCkeyDrop q slot => bits 32 q && bits 32 slot
  | .nseLedgerRead q ident => bits 32 q && bits 128 ident
  | .nseLedgerFree q ident => bits 32 q && bits 128 ident
  | .ckeyDue t => bits 96 t
  | .shedHigh t => bits 96 t
  | .keyWrite q slot parent kind use type key _ => bits 32 q && bits 32 slot && bits 32 parent && bits 32 kind && bits 32 use && bits 32 type && atMost 4096 key
  | .keyGenerate q slot parent kind use type _ => bits 32 q && bits 32 slot && bits 32 parent && bits 32 kind && bits 32 use && bits 32 type
  | .keyDerive q slot parent use type label _ => bits 32 q && bits 32 slot && bits 32 parent && bits 32 use && bits 32 type && atMost 4096 label
  | .keyInvalidate q slot _ => bits 32 q && bits 32 slot
  | .keyFree q slot _ => bits 32 q && bits 32 slot
  | .keyRead q _ => bits 32 q
  | .keyPubkey q _ => bits 32 q
  | .keySign q _ digest => bits 32 q && atMost 4096 digest
  | .keyUnlock q _ _ => bits 32 q
  | .keyTamperCfg q input cls level filt _ _ => bits 32 q && bits 8 input && bits 32 cls && bits 32 level && bits 32 filt
  | .keyPolicy q _ _ _ => bits 32 q
  | .keyEnrolled q => bits 32 q
  | .tamperAlarm ka samples => bits 48 ka && atMost 4096 samples
  | .twinHeartbeatTx t => bits 96 t
  | .twinBoundTx t => bits 96 t
  | .twinCheckTx t => bits 96 t
  | .twinFrameRx _ _ _ t => bits 96 t
  | .hbWordTx t => bits 96 t
  | .hbWordRx word t => bits 32 word && bits 96 t
  | .pathTimeout t => bits 96 t
  | .twinRepair t => bits 96 t
  | .twinLockClaim line => bits 32 line.high && bits 96 line.t
  | .twinLockCheck _ t => bits 96 t
  | .twnHandover q => bits 32 q
  | .handoverTimeout t => bits 96 t
  | .yieldHoldEnd t => bits 96 t
  | .waitRelease _ t => bits 96 t
  | .waitTimeout _ t => bits 96 t
  | .hifNop q args => bits 32 q && atMost 4096 args
  | .snapshot q => bits 32 q
  | .sysSnapGo _ data => bits 32 data
  | .rxbufPost q a0 a1 a2 a3 => bits 32 q && bits 64 a0 && bits 64 a1 && bits 64 a2 && bits 64 a3
  | .frameTx q buf len port tc flags osOff launch => bits 32 q && bits 64 buf && bits 32 len && bits 32 port && bits 32 tc && bits 32 flags && bits 32 osOff && bits 128 launch
  | .hifRingEnable _ _ data => bits 32 data
  | .hifRingPiWrite _ pi => bits 32 pi.data
  | .hifRingCiWrite _ _ data => bits 32 data
  | .hwdogKick _ data => bits 32 data
  | .spiTransaction bytes _ => atMost 32 bytes
  | .i2cTransaction bytes _ => atMost 32 bytes
  | .gasketTimeout _ addr _ => bits 40 addr
  | .sysRemapWrite _ data => bits 32 data
  | .fltAck _ data => bits 32 data
  | .fltPendClear _ _ data => bits 32 data
  | .fltClassWrite _ _ data => bits 32 data
  | .eccError _ _ _ addr _ => bits 40 addr
  | .thermRange temp t => signed 16 temp && bits 96 t
  | .railWarning _ t => bits 96 t
  | .railWarningEnd _ t => bits 96 t
  | .pwrReset _ data => bits 32 data
  | .oscTrim slow fast => signed 32 slow && signed 32 fast
  | .loFail stop => bits 96 stop.t
  | .loReturn t => bits 96 t
  | .tbpLock t => bits 96 t
  | .tbpUnlock t => bits 96 t
  | .timebaseFail t => bits 96 t
  | .timebaseReturn outage => bits 96 outage
  | .clkGateRequest _ data => bits 32 data
  | .pmcClear _ data => bits 32 data
  | .pmcWindowBoundary t => bits 96 t
  | .telDatagramClose t => bits 96 t
  | .postedWriteComplete addr => bits 40 addr
  | .thermRangeEnd temp t => signed 16 temp && bits 96 t
  | .pcieLinkUp speed width => bits 32 speed && bits 32 width
  | .collision _ t => bits 96 t
  | .add .. | .sub .. | .adc .. | .sbc .. | .addi .. | .mul ..
  | .mulh .. | .mulhu .. | .div .. | .divu .. | .rem .. | .remu ..
  | .mulq .. | .adds .. | .subs .. | .shl .. | .shr .. | .sar ..
  | .shli .. | .shri .. | .sari .. | .clz .. | .and .. | .or ..
  | .xor .. | .andi .. | .ori .. | .xori .. | .movi .. | .cati ..
  | .fadd .. | .fsub .. | .fmul .. | .fdiv .. | .fsqrt .. | .fma ..
  | .fcvtif .. | .fcvtfi .. | .fcmp .. | .fabs .. | .fneg .. | .cmp ..
  | .cmpi .. | .test .. | .b .. | .bl .. | .br .. | .ldb ..
  | .ldbs .. | .ldh .. | .ldhs .. | .ldw .. | .ldws .. | .ldd ..
  | .stb .. | .sth .. | .stw .. | .std .. | .ldc .. | .stc ..
  | .cas .. | .faa .. | .busRead .. | .busWrite .. | .tadd .. | .tsub ..
  | .taddq .. | .tdiff .. | .tcmp .. | .tset .. | .tsec .. | .tfrc ..
  | .tld .. | .tstr .. | .rdvc .. | .rdraw .. | .waitt .. | .waite ..
  | .steerat .. | .stepatAbs .. | .stepatRel .. | .stepatAbsRate .. | .pulseat .. | .armat ..
  | .synatSearch .. | .synatHop .. | .synatRelock .. | .synatStore .. | .synatSafe .. | .synatRelease ..
  | .popc .. | .vcrd .. | .ratecv .. | .mcfg .. | .mcfgt .. | .mrel ..
  | .mpop .. | .eauw .. | .eauu0 .. | .eaurst .. | .eaustat .. | .xrd ..
  | .xwr .. | .send .. | .recv .. | .pans .. | .evpost .. | .japp ..
  | .nettx .. | .kcmac .. | .gcmdAcq .. | .gcmdChan .. | .gcmdPpsf .. | .gcmdSleep ..
  | .gcmdObs .. | .twclm .. | .twrel .. | .fack .. | .fclr .. | .nop ..
  | .halt .. | .kick .. | .fence .. | .podid .. | .caprd .. | .podLoadComplete ..
  | .loadTimeout .. | .podParamTimeout .. | .podWatchdogExpire .. | .steeratExecute .. | .stepatExecute .. | .pulseatExecute ..
  | .armatExecute .. | .stepAbs .. | .stepRel .. | .rate .. | .stepRate .. | .inc ..
  | .modeInc .. | .modeRate .. | .tkpHostOpApply .. | .permitExpire .. | .tdcRecordDispatch .. | .stopTimeout ..
  | .windowOpen .. | .windowClose .. | .gateTimeout .. | .calAged .. | .dllUnlock .. | .dllLock ..
  | .skewCalibrationDone .. | .qualRecord .. | .setTime .. | .memberReset .. | .journalRecordWrite .. | .search ..
  | .hop .. | .store .. | .clear .. | .relock .. | .searchTimeout .. | .nolockRetry ..
  | .acquireTimeout .. | .loopNarrow .. | .gnssClkFail .. | .gnssClkReturn .. | .acqComplete .. | .pullInTimeout ..
  | .gnVerdict .. | .resurvey .. | .keptClear .. | .tsqPop .. | .serdesLos .. | .ledgerUpdateWrite ..
  | .sgnSignComplete .. | .rbgHealthFail .. | .snapshotTake .. | .perst .. | .hostWatchdogExpire .. | .pcieLinkDown ..
  | .faultCollectionTick .. | .faultReaction .. | .ackHoldExpire .. | .autoClear .. | .relockWaitExpire .. | .tbSafeExpire ..
  | .cryptoLaneFault .. | .powerOn .. | .vddReset .. | .vddaReset .. | .kaReset .. | .pwrgoodFall ..
  | .pwrgoodReset .. | .resetN .. | .startSequence .. | .mramCommit .. | .sdrefFail .. | .sdrefReturn ..
  | .bootclkSwitch .. | .switchForced .. | .gateIdle .. | .quiesceTimeout .. | .gateOpen .. | .pmcClearApply ..
  | .telDrain .. | .undefinedInstruction .. | .voteScrub .. | .pcieAerError .. => true

/-- A command is well formed. -/
abbrev WellFormed (i : Instr) : Prop := i.wellFormed = true

end Sys2Proof
end

