-- ==== Sys2Proof/Safety.lean ====
section
/-! DEFINITION. The terms that the statements are made of: what a command answers, when a Pod executes and when a host command
starts, what a FIN instruction leaves of its Pod and of the rest, and what the statements call a safe run of the engine. -/

namespace Sys2Proof

open Sys2Proof.Machine

/-! ### Answers -/

/-- The command answers a next state, of which `P` holds. -/
abbrev Yields (i : Instr) (s : State) (P : State → Prop) : Prop := ∃ t, exec i s = .next t ∧ P t

/-- The Pod executes: it is RUNNING, no wait instruction waits, its watchdog has not expired, and its program counter is below IMEM_WORDS
(R33, R36, R46, R358, R361). -/
abbrev Executes (s : State) (p : PodId) : Prop := s.podRuns p = true ∧ s.wdogDue p = false ∧ (s.pod p).pc < s.imemWords p

/-- A host command of a family other than HIF starts: no earlier command holds it back and the engine has passed CP4 (R394,
R395). -/
abbrev Starts (s : State) (q op : Nat) : Prop := s.blocked q op = false ∧ s.notReady = false

/-- The queue of waiting commands stands as it stood. -/
abbrev SameQueue (s t : State) : Prop := t.pending = s.pending

/-! ### FIN -/

/-- Everything but one Pod stands as it stood. -/
abbrev OnlyPod (s t : State) (p : PodId) : Prop := t = { s with pods := t.pods } ∧ ∀ j : Nat, j ≠ p.val → t.pod j = s.pod j

/-- The instruction has written `r` into rd, where g0 stays 0, left Z, N, C and V as given, advanced the program counter by 1
and changed nothing else of its Pod (R32, R358, R362). -/
abbrev PodWrote (s t : State) (p : PodId) (rd : GReg) (r : Word) (z n c v : Bool) : Prop :=
  (t.pod p).rg rd = (if rd = 0 then 0 else r) ∧ (∀ j : GReg, j ≠ rd → (t.pod p).rg j = (s.pod p).rg j)
    ∧ t.pod p = { s.pod p with g := (t.pod p).g, z := z, n := n, c := c, v := v, pc := (s.pod p).pc + 1 }

/-- As `PodWrote`, and nothing outside the Pod has changed. -/
abbrev Wrote (s t : State) (p : PodId) (rd : GReg) (r : Word) (z n c v : Bool) : Prop :=
  OnlyPod s t p ∧ PodWrote s t p rd r z n c v

/-- A result with Z and N from it, C and V as given (R362). -/
abbrev WroteZN (s t : State) (p : PodId) (rd : GReg) (r : Word) (c v : Bool) : Prop :=
  Wrote s t p rd r (decide (r = 0)) r.msb c v

/-- A result that changes no flag. -/
abbrev WroteOnly (s t : State) (p : PodId) (rd : GReg) (r : Word) : Prop :=
  Wrote s t p rd r (s.pod p).z (s.pod p).n (s.pod p).c (s.pod p).v

/-- A result that changes V alone. -/
abbrev WroteV (s t : State) (p : PodId) (rd : GReg) (r : Word) (v : Bool) : Prop :=
  Wrote s t p rd r (s.pod p).z (s.pod p).n (s.pod p).c v

/-- Flags alone, and the program counter. -/
abbrev Flagged (s t : State) (p : PodId) (z n c v : Bool) : Prop :=
  OnlyPod s t p ∧ t.pod p = { s.pod p with z := z, n := n, c := c, v := v, pc := (s.pod p).pc + 1 }

/-- A t register takes a GTIME and V is cleared, or the value is out of range, tD stands and V is set (R368). -/
abbrev WroteTime (s t : State) (p : PodId) (tD : TReg) (ok : Bool) (x : Nat) : Prop :=
  OnlyPod s t p ∧ (t.pod p).rt tD = (if ok then x else (s.pod p).rt tD) ∧ (∀ j : TReg, j ≠ tD → (t.pod p).rt j = (s.pod p).rt j)
    ∧ t.pod p = { s.pod p with t := (t.pod p).t, v := !ok, pc := (s.pod p).pc + 1 }

/-- A g register takes a value, C and V are left as given, and the program counter advances: of what an instruction of a unit
does, the part in its Pod. -/
abbrev PodGave (s t : State) (p : PodId) (rd : GReg) (r : Word) (c v : Bool) : Prop :=
  (t.pod p).rg rd = (if rd = 0 then 0 else r) ∧ (t.pod p).c = c ∧ (t.pod p).v = v ∧ (t.pod p).pc = (s.pod p).pc + 1

/-- The Pod has faulted: FAULTED with the cause, and POD_FPC holds the index of the instruction (R56, R361). -/
abbrev Faulted (s t : State) (p : PodId) (cause : Nat) : Prop :=
  t.podSt p = 3 ∧ t.fld (Reg.POD_STATUS p) Reg.POD_STATUS_FCAUSE = cause ∧ t.fld (Reg.POD_FPC p) Reg.POD_FPC_PC = (s.pod p).pc % 2 ^ 14

/-- The word nearest to an integer, and whether the integer lies outside the signed words. -/
def clamp (x : Int) : Word := BitVec.ofInt 64 (max (-(2 ^ 63)) (min (2 ^ 63 - 1) x))
def beyond (x : Int) : Bool := decide (x < -(2 ^ 63) ∨ 2 ^ 63 ≤ x)

/-- The conditions of R365. -/
abbrev CondHolds (q : PodState) (c : Fin 15) : Prop :=
  c = 0 ∨ (c = 1 ∧ q.z = true) ∨ (c = 2 ∧ q.z = false) ∨ (c = 3 ∧ q.n ≠ q.v) ∨ (c = 4 ∧ q.n = q.v)
    ∨ (c = 5 ∧ q.z = false ∧ q.n = q.v) ∨ (c = 6 ∧ (q.z = true ∨ q.n ≠ q.v)) ∨ (c = 7 ∧ q.c = true) ∨ (c = 8 ∧ q.c = false)
    ∨ (c = 9 ∧ q.n = true) ∨ (c = 10 ∧ q.n = false) ∨ (c = 11 ∧ q.v = true) ∨ (c = 12 ∧ q.v = false)
    ∨ (c = 13 ∧ q.c = false ∧ q.z = false) ∨ (c = 14 ∧ (q.c = true ∨ q.z = true))

/-! ### The block -/

/-- A master may write a register over the bus, and its island is not gated (R387, R404, R442). -/
abbrev MayWrite (s : State) (m : Master) (a : Nat) : Prop := mayWrite m a = true ∧ s.gated a = false

/-- A posted write goes through: the island is not BUSY either (R10). -/
abbrev MayPost (s : State) (m : Master) (a : Nat) : Prop := MayWrite s m a ∧ s.islBusy a = false

/-- The posted write of the register at `a` is under way: its island is BUSY (R10). -/
abbrev Posting (t : State) (a : Nat) : Prop := t.islBusy a = true

/-- A host command is complete: the engine waits for it no more (R394). -/
abbrev Answered (t : State) (q : Nat) : Prop := ∀ x ∈ t.hif.accepted, x.hseq ≠ q

/-- A performance counter has gone up by `k`, and stops at its largest value (R450). -/
abbrev Counted (s t : State) (i k : Nat) : Prop :=
  t.fld (Reg.PMC_CNT i) Reg.PMC_CNT_COUNT = min (2 ^ 48 - 1) (s.fld (Reg.PMC_CNT i) Reg.PMC_CNT_COUNT + k)

/-- The condition of a fault source holds: it stood already, or it begins and its source is raised (R416, R505). -/
abbrev Began (s t : State) (n : Nat) : Prop :=
  t.flt = (if n ∈ s.flt.cond then s.flt else { s.flt with cond := n :: s.flt.cond, raised := s.flt.raised ++ [n] })

/-! ### Runs -/

/-- Every waiting command is well formed. -/
abbrev QueueOk (s : State) : Prop := ∀ c ∈ s.pending, WellFormed c

/-- A safe run: every step of it answers, and the queue stays well formed. -/
def SafeFor : Nat → State → Prop
  | 0, s => QueueOk s
  | n + 1, s => QueueOk s ∧ ∃ t, step s = .next t ∧ SafeFor n t

end Sys2Proof
end

