-- ==== Sys2Proof/Certificates/Slice0/Obligations.lean ====
section
/-! DEFINITION. The statements about the engine. Each names the rules of spec/ that it formalises; what rests on a choice of the
model says so and names the log entry. -/

open Sys2Proof Sys2Proof.Machine
/-! ### The block -/

/-- A step takes the command at the front of the queue and answers what that command does on the state with the queue's rest; with an empty
queue one tick passes (notes/assumptions/5: the model's choice). -/
def Obligations.StepRunsTheFront : Prop :=
  ∀ (s : State) (c : Instr) (rest : List Instr),
    (s.pending = c :: rest → step s = exec c { s with pending := rest })
    ∧ (s.pending = [] → step s = .next s.tick)
    ∧ (∀ t : State, s.pending = rest → exec c s = .next t → step { s with pending := c :: rest } = .next t)

/-- Every step answers a next state, whose queue is the rest of the queue; so a queue of well-formed commands stays one. -/
def Obligations.EveryStepKeepsTheQueue : Prop :=
  ∀ s : State, (∃ t, step s = .next t ∧ t.pending = s.pending.drop 1)
    ∧ (QueueOk s → ∀ t, step s = .next t → QueueOk t)
    ∧ (∀ n, QueueOk s → SafeFor n s)

/-- R430, R431, R433: what power-on reset leaves, of the values that the specification gives: the registers at their reset values, no Pod runs, the rings
are empty, the vault is closed, the timebase count is 0 and no fault stands. -/
def Obligations.ResetState : Prop :=
  let s := State.reset
  (∀ a, s.reg a = resetVal a) ∧ s.memWf = true ∧ s.pending = [] ∧ QueueOk s ∧ s.tkp.rawcnt = 0 ∧ s.flt.cond = [] ∧ s.flt.raised = []
    ∧ (∀ p : PodId, s.podSt p = 0 ∧ (s.pod p).pc = 0 ∧ (s.pod p).acts = [] ∧ (s.pod p).compl = [])
    ∧ (∀ r : Fin 4, s.ringEn r = false) ∧ s.hif.accepted = [] ∧ s.hif.bufs = [] ∧ s.jrn.staging = [] ∧ s.tel.staging = []

/-- R358 to R360: every instruction of FIN has a word of 32 bits, which decodes to the instruction with every operand it had; for another
Pod the same word decodes to an instruction of the same word. -/
def Obligations.FinDecodeEncode : Prop :=
  ∀ (i : Instr) (w : Nat), encodeFin i = some w →
    w < 2 ^ 32 ∧ (∃ p, decodeFin p w = some i) ∧ ∀ p, ∃ j, decodeFin p w = some j ∧ encodeFin j = some w

/-! ### The instructions of FIN -/

/-- R363, R362: what every integer, fixed-point and logic instruction writes, its flags, and its frame: no other register, no
memory, no other Pod and nothing outside the Pod changes. -/
def Obligations.FinIntegerTable : Prop :=
  ∀ (s : State) (p : PodId) (rd ra rb : GReg) (imm : BitVec 14) (k : BitVec 19) (h : BitVec 16) (n : Fin 64) (lz : Nat),
    Executes s p →
    let q := s.pod p
    let a := q.rg ra
    let b := q.rg rb
    let i : Word := imm.signExtend 64
    let u : Word := imm.setWidth 64
    let cy : Nat := if q.c then 1 else 0
    let pq : Int := (a.toInt * b.toInt * 2 + 2 ^ n.val) / 2 ^ (n.val + 1)
    Yields (.add p rd ra rb) s (fun t => WroteZN s t p rd (a + b) (a.uaddOverflow b) (a.saddOverflow b))
    ∧ Yields (.sub p rd ra rb) s (fun t => WroteZN s t p rd (a - b) (a.usubOverflow b) (a.ssubOverflow b))
    ∧ Yields (.adc p rd ra rb) s (fun t => WroteZN s t p rd (a + b + BitVec.ofNat 64 cy) (decide (2 ^ 64 ≤ a.toNat + b.toNat + cy))
        (beyond (a.toInt + b.toInt + cy)))
    ∧ Yields (.sbc p rd ra rb) s (fun t => WroteZN s t p rd (a - b - BitVec.ofNat 64 cy) (decide (a.toNat < b.toNat + cy))
        (beyond (a.toInt - b.toInt - cy)))
    ∧ Yields (.addi p rd ra imm) s (fun t => WroteZN s t p rd (a + i) (a.uaddOverflow i) (a.saddOverflow i))
    ∧ Yields (.mul p rd ra rb) s (fun t => WroteZN s t p rd (a * b) false (beyond (a.toInt * b.toInt)))
    ∧ Yields (.mulh p rd ra rb) s (fun t => WroteZN s t p rd (BitVec.ofInt 64 (a.toInt * b.toInt / 2 ^ 64)) false false)
    ∧ Yields (.mulhu p rd ra rb) s (fun t => WroteZN s t p rd (BitVec.ofNat 64 (a.toNat * b.toNat / 2 ^ 64)) false false)
    ∧ Yields (.div p rd ra rb) s (fun t => WroteZN s t p rd (a.sdiv b) false
        (decide (b = 0 ∨ (a.toInt = -(2 ^ 63) ∧ b.toInt = -1))))
    ∧ Yields (.divu p rd ra rb) s (fun t => WroteZN s t p rd (a / b) false (decide (b = 0)))
    ∧ Yields (.rem p rd ra rb) s (fun t => WroteZN s t p rd (a.srem b) false (decide (b = 0)))
    ∧ Yields (.remu p rd ra rb) s (fun t => WroteZN s t p rd (a % b) false (decide (b = 0)))
    ∧ Yields (.mulq p rd ra rb n) s (fun t => WroteZN s t p rd (clamp pq) false (beyond pq))
    ∧ Yields (.adds p rd ra rb) s (fun t => WroteZN s t p rd (clamp (a.toInt + b.toInt)) false (a.saddOverflow b))
    ∧ Yields (.subs p rd ra rb) s (fun t => WroteZN s t p rd (clamp (a.toInt - b.toInt)) false (a.ssubOverflow b))
    ∧ Yields (.shl p rd ra rb) s (fun t => WroteZN s t p rd (a <<< (b.toNat % 64)) false false)
    ∧ Yields (.shr p rd ra rb) s (fun t => WroteZN s t p rd (a >>> (b.toNat % 64)) false false)
    ∧ Yields (.sar p rd ra rb) s (fun t => WroteZN s t p rd (a.sshiftRight (b.toNat % 64)) false false)
    ∧ Yields (.shli p rd ra n) s (fun t => WroteZN s t p rd (a <<< n.val) false false)
    ∧ Yields (.shri p rd ra n) s (fun t => WroteZN s t p rd (a >>> n.val) false false)
    ∧ Yields (.sari p rd ra n) s (fun t => WroteZN s t p rd (a.sshiftRight n.val) false false)
    ∧ (lz ≤ 64 → a.toNat < 2 ^ (64 - lz) → (lz = 64 ∨ 2 ^ (63 - lz) ≤ a.toNat) →
        Yields (.clz p rd ra) s (fun t => Wrote s t p rd (BitVec.ofNat 64 lz) (decide (lz = 0)) q.n q.c q.v))
    ∧ Yields (.and p rd ra rb) s (fun t => WroteZN s t p rd (a &&& b) false false)
    ∧ Yields (.or p rd ra rb) s (fun t => WroteZN s t p rd (a ||| b) false false)
    ∧ Yields (.xor p rd ra rb) s (fun t => WroteZN s t p rd (a ^^^ b) false false)
    ∧ Yields (.andi p rd ra imm) s (fun t => WroteZN s t p rd (a &&& u) false false)
    ∧ Yields (.ori p rd ra imm) s (fun t => WroteZN s t p rd (a ||| u) false false)
    ∧ Yields (.xori p rd ra imm) s (fun t => WroteZN s t p rd (a ^^^ u) false false)
    ∧ Yields (.movi p rd k) s (fun t => WroteOnly s t p rd (k.signExtend 64))
    ∧ Yields (.cati p rd h) s (fun t => WroteOnly s t p rd ((q.rg rd <<< 16) ||| h.setWidth 64))

/-- R364, R374 (RATECV): the binary64 instructions write the result and V of their operation and no other flag; FCMP sets all four flags;
FABS and FNEG clear and invert the sign bit; an unordered comparison sets V alone. -/
def Obligations.FinBinary64Table : Prop :=
  ∀ (s : State) (p : PodId) (rd ra rb : GReg), Executes s p →
    let q := s.pod p
    let a := q.rg ra
    let b := q.rg rb
    Yields (.fadd p rd ra rb) s (fun t => WroteV s t p rd (fpAdd a b).1 (fpAdd a b).2)
    ∧ Yields (.fsub p rd ra rb) s (fun t => WroteV s t p rd (fpSub a b).1 (fpSub a b).2)
    ∧ Yields (.fmul p rd ra rb) s (fun t => WroteV s t p rd (fpMul a b).1 (fpMul a b).2)
    ∧ Yields (.fdiv p rd ra rb) s (fun t => WroteV s t p rd (fpDiv a b).1 (fpDiv a b).2)
    ∧ Yields (.fsqrt p rd ra) s (fun t => WroteV s t p rd (fpSqrt a).1 (fpSqrt a).2)
    ∧ Yields (.fma p rd ra rb) s (fun t => WroteV s t p rd (fpFma a b (q.rg rd)).1 (fpFma a b (q.rg rd)).2)
    ∧ Yields (.fcvtif p rd ra) s (fun t => WroteOnly s t p rd (fpOfInt a.toInt))
    ∧ Yields (.fcvtfi p rd ra) s (fun t => WroteV s t p rd (fpToInt a 0).1 (fpToInt a 0).2)
    ∧ (∀ eq lt, fpCompare a b = some (eq, lt) → Yields (.fcmp p ra rb) s (fun t => Flagged s t p eq lt false false))
    ∧ (fpCompare a b = none → Yields (.fcmp p ra rb) s (fun t => Flagged s t p false false false true))
    ∧ Yields (.fabs p rd ra) s (fun t => WroteOnly s t p rd (a &&& (0x7FFFFFFFFFFFFFFF : Word)))
    ∧ Yields (.fneg p rd ra) s (fun t => WroteOnly s t p rd (a ^^^ (0x8000000000000000 : Word)))
    ∧ Yields (.ratecv p rd ra) s (fun t => WroteV s t p rd (fpToInt a 64).1 (fpToInt a 64).2)

/-- R365: CMP, CMPI and TEST set the four flags and write no register; B, BL and BR go to their target where their condition holds, BL
and BR with a link write the index of the next instruction into g31 first, a branch not taken goes on, and a taken branch to a target not
below IMEM_WORDS faults with BOUNDS. -/
def Obligations.FinCompareBranchTable : Prop :=
  ∀ (s : State) (p : PodId) (ra rb : GReg) (imm : BitVec 14) (c : Fin 15) (off : BitVec 20) (link : Bool), Executes s p →
    let q := s.pod p
    let a := q.rg ra
    let b := q.rg rb
    let i : Word := imm.signExtend 64
    let dest : Int := q.pc + off.toInt
    let next : Word := BitVec.ofNat 64 (q.pc + 1)
    Yields (.cmp p ra rb) s (fun t => Flagged s t p (decide (a = b)) (a - b).msb (a.usubOverflow b) (a.ssubOverflow b))
    ∧ Yields (.cmpi p ra imm) s (fun t => Flagged s t p (decide (a = i)) (a - i).msb (a.usubOverflow i) (a.ssubOverflow i))
    ∧ Yields (.test p ra rb) s (fun t => Flagged s t p (decide (a &&& b = 0)) (a &&& b).msb false false)
    ∧ (CondHolds q c → 0 ≤ dest → dest < s.imemWords p →
        Yields (.b p c off) s (fun t => OnlyPod s t p ∧ t.pod p = { q with pc := dest.toNat })
        ∧ Yields (.bl p c off) s (fun t => OnlyPod s t p ∧ t.pod p = { q.wg 31 next with pc := dest.toNat }))
    ∧ (¬ CondHolds q c →
        Yields (.b p c off) s (fun t => OnlyPod s t p ∧ t.pod p = { q with pc := q.pc + 1 })
        ∧ Yields (.bl p c off) s (fun t => OnlyPod s t p ∧ t.pod p = { q with pc := q.pc + 1 }))
    ∧ (CondHolds q c → dest < 0 ∨ (s.imemWords p : Int) ≤ dest →
        Yields (.b p c off) s (fun t => Faulted s t p 4) ∧ Yields (.bl p c off) s (fun t => Faulted s t p 4))
    ∧ (a.toNat < s.imemWords p →
        Yields (.br p ra link) s (fun t => OnlyPod s t p ∧ t.pod p = { (if link then q.wg 31 next else q) with pc := a.toNat }))
    ∧ (s.imemWords p ≤ a.toNat → Yields (.br p ra link) s (fun t => Faulted s t p 4))

/-- R366: a load takes the bytes of DMEM at ra + IMM14, least significant first, zero- or sign-extended, and changes no flag; a store puts
the low bytes of rd there and leaves every other byte, every register and every flag, and changes nothing outside its Pod; a misaligned one
faults with ALIGN and an aligned one beyond byte 65,535 with BOUNDS. -/
def Obligations.FinLoadsAndStores : Prop :=
  (∀ (s : State) (p : PodId) (rd ra : GReg) (imm : BitVec 14), Executes s p →
    let a := ((s.pod p).rg ra + imm.signExtend 64).toNat
    let m (i : Nat) : Byte := byteAt (s.dmemDef p) (s.pod p).dmem (a + i)
    (a < 0x10000 →
      Yields (.ldb p rd ra imm) s (fun t => WroteOnly s t p rd ((m 0).setWidth 64))
      ∧ Yields (.ldbs p rd ra imm) s (fun t => WroteOnly s t p rd ((m 0).signExtend 64)))
    ∧ (a % 2 = 0 → a < 0x10000 →
      Yields (.ldh p rd ra imm) s (fun t => WroteOnly s t p rd ((m 1 ++ m 0).setWidth 64))
      ∧ Yields (.ldhs p rd ra imm) s (fun t => WroteOnly s t p rd ((m 1 ++ m 0).signExtend 64)))
    ∧ (a % 4 = 0 → a < 0x10000 →
      Yields (.ldw p rd ra imm) s (fun t => WroteOnly s t p rd ((m 3 ++ m 2 ++ m 1 ++ m 0).setWidth 64))
      ∧ Yields (.ldws p rd ra imm) s (fun t => WroteOnly s t p rd ((m 3 ++ m 2 ++ m 1 ++ m 0).signExtend 64)))
    ∧ (a % 8 = 0 → a < 0x10000 →
      Yields (.ldd p rd ra imm) s (fun t => WroteOnly s t p rd (m 7 ++ m 6 ++ m 5 ++ m 4 ++ m 3 ++ m 2 ++ m 1 ++ m 0)))
    ∧ (a % 2 ≠ 0 → Yields (.ldh p rd ra imm) s (fun t => Faulted s t p 3) ∧ Yields (.ldhs p rd ra imm) s (fun t => Faulted s t p 3))
    ∧ (a % 4 ≠ 0 → Yields (.ldw p rd ra imm) s (fun t => Faulted s t p 3) ∧ Yields (.ldws p rd ra imm) s (fun t => Faulted s t p 3))
    ∧ (a % 8 ≠ 0 → Yields (.ldd p rd ra imm) s (fun t => Faulted s t p 3))
    ∧ (a % 8 = 0 → 0x10000 ≤ a →
      Yields (.ldb p rd ra imm) s (fun t => Faulted s t p 4) ∧ Yields (.ldbs p rd ra imm) s (fun t => Faulted s t p 4)
      ∧ Yields (.ldh p rd ra imm) s (fun t => Faulted s t p 4) ∧ Yields (.ldhs p rd ra imm) s (fun t => Faulted s t p 4)
      ∧ Yields (.ldw p rd ra imm) s (fun t => Faulted s t p 4) ∧ Yields (.ldws p rd ra imm) s (fun t => Faulted s t p 4)
      ∧ Yields (.ldd p rd ra imm) s (fun t => Faulted s t p 4)))
  ∧ (∀ (s : State) (p : PodId) (rd ra : GReg) (imm : BitVec 14), Executes s p →
    let a := ((s.pod p).rg ra + imm.signExtend 64).toNat
    let stored (n : Nat) (t : State) : Prop := OnlyPod s t p
      ∧ (∀ i, i < n → byteAt (t.dmemDef p) (t.pod p).dmem (a + i) = BitVec.ofNat 8 (((s.pod p).rg rd).toNat / 256 ^ i))
      ∧ (∀ x, x < a ∨ a + n ≤ x → byteAt (t.dmemDef p) (t.pod p).dmem x = byteAt (s.dmemDef p) (s.pod p).dmem x)
      ∧ t.pod p = { s.pod p with dmem := (t.pod p).dmem, pc := (s.pod p).pc + 1 }
    (a < 0x10000 → Yields (.stb p rd ra imm) s (stored 1))
    ∧ (a % 2 = 0 → a < 0x10000 → Yields (.sth p rd ra imm) s (stored 2))
    ∧ (a % 4 = 0 → a < 0x10000 → Yields (.stw p rd ra imm) s (stored 4))
    ∧ (a % 8 = 0 → a < 0x10000 → Yields (.std p rd ra imm) s (stored 8))
    ∧ (a % 2 ≠ 0 → Yields (.sth p rd ra imm) s (fun t => Faulted s t p 3))
    ∧ (a % 4 ≠ 0 → Yields (.stw p rd ra imm) s (fun t => Faulted s t p 3))
    ∧ (a % 8 ≠ 0 → Yields (.std p rd ra imm) s (fun t => Faulted s t p 3))
    ∧ (a % 8 = 0 → 0x10000 ≤ a → Yields (.stb p rd ra imm) s (fun t => Faulted s t p 4)
      ∧ Yields (.sth p rd ra imm) s (fun t => Faulted s t p 4) ∧ Yields (.stw p rd ra imm) s (fun t => Faulted s t p 4)
      ∧ Yields (.std p rd ra imm) s (fun t => Faulted s t p 4)))

/-- R366: LDC, STC, CAS and FAA act on the 64-bit word of the commons; a write below the resident region faults with BUS, in it
without COMMONS_RES with CAP_DENIED; no other byte of the commons, no other Pod and nothing else changes. -/
def Obligations.FinCommons : Prop :=
  ∀ (s : State) (p : PodId) (rd ra rb : GReg) (imm : BitVec 14), Executes s p →
    let q := s.pod p
    let a := (q.rg ra + imm.signExtend 64).toNat
    let e := (q.rg ra).toNat
    let kept (t : State) (x : Nat) : Prop := t = { s with pods := t.pods, commons := t.commons }
      ∧ (∀ j : Nat, j ≠ p.val → t.pod j = s.pod j) ∧ (∀ y, y < x ∨ x + 8 ≤ y → byteAt zeros t.commons y = byteAt zeros s.commons y)
    (a % 8 = 0 → a < 0x100000 → Yields (.ldc p rd ra imm) s (fun t => WroteOnly s t p rd (s.comWord a)))
    ∧ (a % 8 = 0 → a < 0x100000 → 0x10000 ≤ a → (0x50000 ≤ a ∨ s.hasCap p 14 = true) →
      Yields (.stc p rd ra imm) s (fun t => kept t a ∧ t.comWord a = q.rg rd ∧ t.pod p = { q with pc := q.pc + 1 }))
    ∧ (e % 8 = 0 → e < 0x100000 → 0x10000 ≤ e → (0x50000 ≤ e ∨ s.hasCap p 14 = true) →
      Yields (.cas p rd ra rb) s (fun t => kept t e ∧ t.comWord e = (if s.comWord e = q.rg rd then q.rg rb else s.comWord e)
        ∧ PodWrote s t p rd (s.comWord e) (decide (s.comWord e = q.rg rd)) q.n q.c q.v)
      ∧ Yields (.faa p rd ra rb) s (fun t => kept t e ∧ t.comWord e = s.comWord e + q.rg rb
        ∧ PodWrote s t p rd (s.comWord e) q.z q.n q.c q.v))
    ∧ (a % 8 ≠ 0 → Yields (.ldc p rd ra imm) s (fun t => Faulted s t p 3) ∧ Yields (.stc p rd ra imm) s (fun t => Faulted s t p 3))
    ∧ (a % 8 = 0 → 0x100000 ≤ a →
      Yields (.ldc p rd ra imm) s (fun t => Faulted s t p 4) ∧ Yields (.stc p rd ra imm) s (fun t => Faulted s t p 4))
    ∧ (a % 8 = 0 → a < 0x10000 → Yields (.stc p rd ra imm) s (fun t => Faulted s t p 6))
    ∧ (a % 8 = 0 → 0x10000 ≤ a → a < 0x50000 → s.hasCap p 14 = false → Yields (.stc p rd ra imm) s (fun t => Faulted s t p 2))
    ∧ (e % 8 = 0 → e < 0x10000 → Yields (.cas p rd ra rb) s (fun t => Faulted s t p 6) ∧ Yields (.faa p rd ra rb) s (fun t => Faulted s t p 6))

/-- R368, R57, R58: the time instructions. A result outside the SECONDS range leaves tD and sets V; TSET refuses NS above 999,999,999;
TSEC and TFRC give the two halves; TLD and TSTR move 16 bytes; RDVC and RDRAW read at the tick of the instruction. -/
def Obligations.FinTimeTable : Prop :=
  ∀ (s : State) (p : PodId) (tD tA tB : TReg) (gX gY : GReg) (v : VcId), Executes s p →
    let q := s.pod p
    let a := gtOfRaw (q.rt tA)
    let b := gtOfRaw (q.rt tB)
    let x := (q.rg gX).toInt
    let inRange (g : Int) : Bool := decide (-(2 ^ 63) ≤ g / 4294967296000000000 ∧ g / 4294967296000000000 < 2 ^ 63)
    let d := clamp (a - b)
    let ba := BitVec.ofNat 128 (q.rt tA)
    let bb := BitVec.ofNat 128 (q.rt tB)
    let at_ := (q.rg gX).toNat
    Yields (.tadd p tD tA tB) s (fun t => WroteTime s t p tD (inRange (a + b)) (gtToRaw (a + b)))
    ∧ Yields (.tsub p tD tA tB) s (fun t => WroteTime s t p tD (inRange (a - b)) (gtToRaw (a - b)))
    ∧ Yields (.taddq p tD tA gX) s (fun t => WroteTime s t p tD (inRange (a + x)) (gtToRaw (a + x)))
    ∧ Yields (.tdiff p gX tA tB) s (fun t => Wrote s t p gX d (decide (d = 0)) d.msb q.c (beyond (a - b)))
    ∧ Yields (.tcmp p tA tB) s (fun t => Flagged s t p (decide (ba = bb)) (ba - bb).msb (ba.usubOverflow bb) (ba.ssubOverflow bb))
    ∧ Yields (.tset p tD gX gY) s (fun t => WroteTime s t p tD (decide ((q.rg gY).toNat / 2 ^ 32 ≤ 999999999))
        ((q.rg gX).toNat * 2 ^ 64 + (q.rg gY).toNat))
    ∧ Yields (.tsec p gX tA) s (fun t => WroteOnly s t p gX (BitVec.ofNat 64 (q.rt tA / 2 ^ 64)))
    ∧ Yields (.tfrc p gX tA) s (fun t => WroteOnly s t p gX (BitVec.ofNat 64 (q.rt tA % 2 ^ 64)))
    ∧ (at_ % 8 = 0 → at_ + 16 ≤ 0x10000 →
      Yields (.tld p tD gX false) s (fun t => OnlyPod s t p ∧ (t.pod p).rt tD = leNat (s.dmemRead p at_ 16) ∧ (t.pod p).pc = q.pc + 1)
      ∧ Yields (.tstr p tA gX false) s (fun t => OnlyPod s t p ∧ leNat (t.dmemRead p at_ 16) = q.rt tA % 2 ^ 128 ∧ (t.pod p).pc = q.pc + 1))
    ∧ (at_ % 8 = 0 → at_ + 16 ≤ 0x100000 →
      Yields (.tld p tD gX true) s (fun t => OnlyPod s t p ∧ (t.pod p).rt tD = leNat (s.comRead at_ 16) ∧ (t.pod p).pc = q.pc + 1))
    ∧ (at_ % 8 = 0 → at_ + 16 ≤ 0x100000 → 0x50000 ≤ at_ →
      Yields (.tstr p tA gX true) s (fun t => leNat (t.comRead at_ 16) = q.rt tA % 2 ^ 128 ∧ t.pod p = { q with pc := q.pc + 1 }
        ∧ ∀ y, y < at_ ∨ at_ + 16 ≤ y → byteAt zeros t.commons y = byteAt zeros s.commons y))
    ∧ (at_ % 8 ≠ 0 → ∀ com : Bool, Yields (.tld p tD gX com) s (fun t => Faulted s t p 3)
      ∧ Yields (.tstr p tA gX com) s (fun t => Faulted s t p 3))
    ∧ (inRange (s.vcNow v) = true →
      Yields (.rdvc p tD v) s (fun t => OnlyPod s t p ∧ (t.pod p).rt tD = gtToRaw (s.vcNow v) ∧ (t.pod p).pc = q.pc + 1))
    ∧ (gX ≠ 0 → gY ≠ 0 → gX ≠ gY →
      Yields (.rdraw p gX gY) s (fun t => OnlyPod s t p ∧ (t.pod p).rg gX = BitVec.ofNat 64 s.tkp.rawcnt
        ∧ (t.pod p).rg gY = BitVec.ofNat 64 (s.tkp.rawcnt / 2 ^ 64 % 2 ^ 32) ∧ (t.pod p).pc = q.pc + 1))
    ∧ Yields (.vcrd p tD gX v) s (fun t => OnlyPod s t p ∧ (t.pod p).rt tD = s.reg (Reg.TKP_VC_OFFSET v) ∧ (t.pod p).pc = q.pc + 1
        ∧ (gX ≠ 0 → (t.pod p).rg gX = BitVec.ofNat 64 (if s.fld (Reg.TKP_VC_STATUS v) Reg.TKP_VC_STATUS_MODE = 1
            then s.reg (Reg.TKP_VC_INC v) else s.reg (Reg.TKP_VC_RATE v))))

/-- R358, R36, R46, R373, R381: NOP and FENCE only advance, PODID and CAPRD give the Pod's number and masks, KICK takes TIMEOUT into
force, POPC removes the oldest completion entry or sets C, HALT stops the Pod, and an undefined word faults with ILLEGAL. A Pod that would
fetch at an index not below IMEM_WORDS faults with BOUNDS, and one whose watchdog has expired faults with WDOG; shown of ADD, whose form every instruction of FIN shares. -/
def Obligations.FinControlInstructions : Prop :=
  (∀ (s : State) (p : PodId) (rd : GReg), Executes s p →
    let q := s.pod p
    Yields (.nop p) s (fun t => OnlyPod s t p ∧ t.pod p = { q with pc := q.pc + 1 })
    ∧ Yields (.fence p) s (fun t => OnlyPod s t p ∧ t.pod p = { q with pc := q.pc + 1 })
    ∧ Yields (.podid p rd) s (fun t => WroteOnly s t p rd (BitVec.ofNat 64 p.val))
    ∧ Yields (.caprd p rd) s (fun t => WroteOnly s t p rd
        (BitVec.ofNat 64 (s.reg (Reg.POD_CAP p) + s.reg (Reg.POD_VCOWN p) * 2 ^ 16)))
    ∧ Yields (.kick p) s (fun t => OnlyPod s t p
        ∧ t.pod p = { q with wdog := s.fld (Reg.POD_WDOG p) Reg.POD_WDOG_TIMEOUT, wdogAt := s.tkp.rawcnt, pc := q.pc + 1 })
    ∧ (∀ e rest, q.compl = e :: rest →
        Yields (.popc p rd) s (fun t => OnlyPod s t p ∧ (t.pod p).rg rd = (if rd = 0 then 0 else e) ∧ (t.pod p).compl = rest
          ∧ (t.pod p).c = false ∧ (t.pod p).pc = q.pc + 1))
    ∧ (q.compl = [] → Yields (.popc p rd) s (fun t => OnlyPod s t p ∧ t.pod p = { q with c := true, pc := q.pc + 1 }))
    ∧ Yields (.halt p) s (fun t => t.podSt p = 0 ∧ SameQueue s t)
    ∧ Yields (.undefinedInstruction p) s (fun t => Faulted s t p 1))
  ∧ (∀ (s : State) (p : PodId) (rd ra rb : GReg), s.podRuns p = true →
    (s.wdogDue p = false → s.imemWords p ≤ (s.pod p).pc →
      Yields (.add p rd ra rb) s (fun t => Faulted s t p 4) ∧ Yields (.nop p) s (fun t => Faulted s t p 4)
      ∧ Yields (.undefinedInstruction p) s (fun t => Faulted s t p 4))
    ∧ (s.wdogDue p = true → Yields (.add p rd ra rb) s (fun t => Faulted s t p 5) ∧ Yields (.kick p) s (fun t => Faulted s t p 5)))

/-- R369 to R371: a wait completes at once when it is met (WAITT with C, WAITE without), with V when its timeout is 0 and it is not met,
and else it waits to a deadline of at most 2^40 ns; WAIT_RELEASE ends it where it is met by the deadline, and else it ends with V once the
deadline has passed. -/
def Obligations.FinWaits : Prop :=
  ∀ (s : State) (p : PodId) (tA : TReg) (gT gD gM : GReg) (v : VcId) (w : Wait) (n c dl k since : Nat) (at_ : Gt),
    let q := s.pod p
    let target := gtOfRaw (q.rt tA)
    let mask := (q.rg gM).toNat
    let ns := (q.rg gT).toNat
    (Executes s p → target ≤ s.vcNow v →
      Yields (.waitt p tA gT v) s (fun t => OnlyPod s t p ∧ t.pod p = { q with c := true, v := false, pc := q.pc + 1 }))
    ∧ (Executes s p → s.vcNow v < target → ns = 0 →
      Yields (.waitt p tA gT v) s (fun t => OnlyPod s t p ∧ t.pod p = { q with c := false, v := true, pc := q.pc + 1 }))
    ∧ (Executes s p → s.vcNow v < target → 0 < ns →
      Yields (.waitt p tA gT v) s (fun t => OnlyPod s t p
        ∧ t.pod p = { q with wait := some ⟨.time v target, s.tkp.rawcnt + (min ns (2 ^ 40) * 5 + 3) / 4, s.tkp.rawcnt⟩ }))
    ∧ (Executes s p → s.podEvents p &&& mask ≠ 0 →
      Yields (.waite p gD gM gT) s (fun t => OnlyPod s t p ∧ (t.pod p).wait = none ∧ (t.pod p).c = false ∧ (t.pod p).v = false
        ∧ (t.pod p).pc = q.pc + 1 ∧ (gD ≠ 0 → (t.pod p).rg gD = BitVec.ofNat 64 (s.podEvents p &&& mask))))
    ∧ (Executes s p → s.podEvents p &&& mask = 0 → 0 < ns →
      Yields (.waite p gD gM gT) s (fun t => (t.pod p).wait = some ⟨.event mask gD, s.tkp.rawcnt + (min ns (2 ^ 40) * 5 + 3) / 4, s.tkp.rawcnt⟩
        ∧ (t.pod p).pc = q.pc))
    ∧ (s.podSt p = 2 → q.wait = some ⟨.time c at_, dl, since⟩ → at_ ≤ (s.at n).vcNow c → tickOf (s.vcSet c) at_ ≤ dl →
      Yields (.waitRelease p n) s (fun t => (t.pod p).wait = none ∧ (t.pod p).c = false ∧ (t.pod p).v = false ∧ (t.pod p).pc = q.pc + 1))
    ∧ (s.podSt p = 2 → q.wait = some ⟨.event k gD, dl, since⟩ → s.podEvents p &&& k ≠ 0 → s.tkp.rawcnt ≤ dl →
      Yields (.waitRelease p n) s (fun t => (t.pod p).wait = none ∧ (t.pod p).c = false ∧ (t.pod p).v = false ∧ (t.pod p).pc = q.pc + 1
        ∧ (gD ≠ 0 → (t.pod p).rg gD = BitVec.ofNat 64 (s.podEvents p &&& k))))
    ∧ (s.podSt p = 2 → q.wait = some ⟨.time c at_, dl, since⟩ → (s.at n).vcNow c < at_ → (s.at n).tkp.rawcnt < dl →
      Yields (.waitRelease p n) s (fun t => t = s.at n))
    ∧ (s.podSt p = 2 → q.wait = some ⟨.time c at_, dl, since⟩ → dl < tickOf (s.vcSet c) at_ → dl ≤ (s.at n).tkp.rawcnt →
      Yields (.waitRelease p n) s (fun t => (t.pod p).wait = none ∧ (t.pod p).c = false ∧ (t.pod p).v = true ∧ (t.pod p).pc = q.pc + 1))
    ∧ (s.podSt p = 2 → q.wait = some w → (s.at n).waitMet p w.on = none → w.deadline ≤ (s.at n).tkp.rawcnt →
      Yields (.waitTimeout p n) s (fun t => (t.pod p).wait = none ∧ (t.pod p).c = false ∧ (t.pod p).v = true ∧ (t.pod p).pc = q.pc + 1))

/-- R372, R374: each issue whose capability, ownership, mode, target and operands pass the checks is queued: the tag goes into gD, C
and V are cleared, a completion entry is reserved, and one action with the target, the kind and the operands of the instruction joins the
Pod's timed-action queue, not yet arrived. PULSEAT clamps the width to 100 ns to 500 ms. A STEPAT takes the free first step, or its permit. -/
def Obligations.FinTimedIssueQueued : Prop :=
  ∀ (s : State) (p : PodId) (tA : TReg) (gD ga gb : GReg) (vc : VcId), Executes s p →
    let q := s.pod p
    let a := q.rg ga
    let b := (q.rg gb).toNat
    let v := a.toNat % 8
    let tgt := q.rt tA
    let gt := q.rt (a.toNat / 256 % 8)
    let queued (t : State) (P : TimedAction → Prop) : Prop := PodGave s t p gD (BitVec.ofNat 64 q.tag) false false
      ∧ (t.pod p).reserved = q.reserved + 1 ∧ (t.pod p).tag = (if q.tag ≥ 0xFFFE then 0 else q.tag + 1)
      ∧ ∃ x, (t.pod p).acts = q.acts ++ [x] ∧ x.arrived = false ∧ x.tag = q.tag ∧ x.vc = vc.val ∧ x.target = gtOfRaw tgt ∧ P x
    q.compl.length + q.reserved < 128 → q.acts.length < 64 → tgt / 2 ^ 32 % 2 ^ 32 ≤ 999999999 →
    gtOfRaw tgt ≤ s.vcNow vc + 1000 * fuSec →
    (s.hasCap p 0 = true → s.ownsVc p v = true → a.toNat / 256 % 2 = s.fld (Reg.TKP_VC_STATUS v) Reg.TKP_VC_STATUS_MODE →
      Yields (.steerat p tA gD ga gb vc) s (fun t => queued t (fun x => x.kind = 0 ∧ x.vcChg = v ∧ x.val = b)))
    ∧ (s.hasCap p 1 = true → s.ownsVc p v = true → s.fld (Reg.TKP_VC_STATUS v) Reg.TKP_VC_STATUS_MODE = 0 →
        gt / 2 ^ 32 % 2 ^ 32 ≤ 999999999 → s.firstDone v = false →
      Yields (.stepatAbs p tA gD ga gb vc) s (fun t => t.firstDone v = true
        ∧ queued t (fun x => x.kind = 1 ∧ x.op = 0 ∧ x.vcChg = v ∧ x.gt = gtOfRaw gt ∧ x.took = .free))
      ∧ Yields (.stepatRel p tA gD ga gb vc) s (fun t => t.firstDone v = true
        ∧ queued t (fun x => x.kind = 1 ∧ x.op = 1 ∧ x.vcChg = v ∧ x.gt = gtOfRaw gt ∧ x.took = .free))
      ∧ Yields (.stepatAbsRate p tA gD ga gb vc) s (fun t => t.firstDone v = true
        ∧ queued t (fun x => x.kind = 1 ∧ x.op = 2 ∧ x.vcChg = v ∧ x.gt = gtOfRaw gt ∧ x.rate = toSigned 64 b ∧ x.took = .free)))
    ∧ (s.hasCap p 1 = true → s.ownsVc p v = true → s.fld (Reg.TKP_VC_STATUS v) Reg.TKP_VC_STATUS_MODE = 0 →
        gt / 2 ^ 32 % 2 ^ 32 ≤ 999999999 → s.firstDone v = true → s.permit v = true →
      Yields (.stepatAbs p tA gD ga gb vc) s (fun t => t.permit v = false
        ∧ queued t (fun x => x.kind = 1 ∧ x.op = 0 ∧ x.took = .permit (tabGet 0 s.tkp.permitExp v))))
    ∧ (s.hasCap p 2 = true →
      Yields (.pulseat p tA gD ga gb vc) s (fun t => queued t (fun x => x.kind = 2 ∧ x.index = v ∧ x.val = min 500000000 (max 100 b))))
    ∧ (s.hasCap p 3 = true → (s.chan (a.toNat % 32)).owner = p.val + 1 →
      Yields (.armat p tA gD ga vc) s (fun t => queued t (fun x => x.kind = 3 ∧ x.index = a.toNat % 32)))
    ∧ (s.hasCap p 8 = true →
      Yields (.synatSearch p tA gD ga gb vc) s (fun t => queued t (fun x => x.kind = 4 ∧ x.op = 0 ∧ x.index = a.toNat % 128 ∧ x.val = b))
      ∧ Yields (.synatHop p tA gD ga gb vc) s (fun t => queued t (fun x => x.kind = 4 ∧ x.op = 1 ∧ x.index = a.toNat % 128 ∧ x.val = b))
      ∧ Yields (.synatRelock p tA gD ga vc) s (fun t => queued t (fun x => x.kind = 4 ∧ x.op = 2 ∧ x.index = a.toNat % 128))
      ∧ Yields (.synatStore p tA gD ga gb vc) s (fun t => queued t (fun x => x.kind = 4 ∧ x.op = 3 ∧ x.index = a.toNat % 128 ∧ x.val = b))
      ∧ Yields (.synatSafe p tA gD ga vc) s (fun t => queued t (fun x => x.kind = 4 ∧ x.op = 4 ∧ x.index = a.toNat % 128))
      ∧ Yields (.synatRelease p tA gD ga vc) s (fun t => queued t (fun x => x.kind = 4 ∧ x.op = 5 ∧ x.index = a.toNat % 128)))

/-- R372, R70: how an issue that is not queued ends, shown of PULSEAT and STEPAT: beyond the horizon and with a full queue a completion at
once with HORIZON or QFULL and C; with a full completion queue, without free step or permit, or with NS out of range, 0xFFFF in gD and no
completion. No action is queued. Without the capability the Pod faults with CAP_DENIED. -/
def Obligations.FinIssueOutcomes : Prop :=
  ∀ (s : State) (p : PodId) (tA : TReg) (gD ga gb : GReg) (vc : VcId), Executes s p →
    let q := s.pod p
    let v := (q.rg ga).toNat % 8
    let tgt := q.rt tA
    let room := q.compl.length + q.reserved < 128
    let far := s.vcNow vc + 1000 * fuSec < gtOfRaw tgt
    let ended (t : State) (st : Nat) : Prop := PodGave s t p gD (BitVec.ofNat 64 q.tag) true false ∧ (t.pod p).acts = q.acts
      ∧ (t.pod p).compl = q.compl ++ [BitVec.ofNat 64 (2 * 2 ^ 20 + st * 2 ^ 16 + q.tag % 2 ^ 16)]
    let none_ (t : State) (v : Bool) : Prop := PodGave s t p gD 0xFFFF true v ∧ (t.pod p).acts = q.acts ∧ (t.pod p).compl = q.compl
    (s.hasCap p 2 = true → room → far → Yields (.pulseat p tA gD ga gb vc) s (fun t => ended t 4))
    ∧ (s.hasCap p 2 = true → room → ¬ far → 64 ≤ q.acts.length → Yields (.pulseat p tA gD ga gb vc) s (fun t => ended t 5))
    ∧ (s.hasCap p 2 = true → ¬ room → Yields (.pulseat p tA gD ga gb vc) s (fun t => none_ t false))
    ∧ (s.hasCap p 2 = true → room → ¬ far → q.acts.length < 64 → 999999999 < tgt / 2 ^ 32 % 2 ^ 32 →
      Yields (.pulseat p tA gD ga gb vc) s (fun t => none_ t true))
    ∧ (s.hasCap p 1 = true → s.ownsVc p v = true → s.fld (Reg.TKP_VC_STATUS v) Reg.TKP_VC_STATUS_MODE = 0 → room → ¬ far →
        q.acts.length < 64 → s.firstDone v = true → s.permit v = false →
      Yields (.stepatAbs p tA gD ga gb vc) s (fun t => none_ t false) ∧ Yields (.stepatRel p tA gD ga gb vc) s (fun t => none_ t false))
    ∧ (s.hasCap p 2 = false → Yields (.pulseat p tA gD ga gb vc) s (fun t => Faulted s t p 2))
    ∧ (s.hasCap p 1 = true → s.ownsVc p v = false → Yields (.stepatAbs p tA gD ga gb vc) s (fun t => Faulted s t p 2))

/-- R375, R82, R83: MCFG and MCFGT claim an unclaimed channel, or one of their own, and write the register with C cleared; a channel of
another Pod is left unchanged with C set; MREL releases a channel of the Pod's own and clears EN; MPOP takes the oldest record of its queue into
DMEM and rd holds how many are left. -/
def Obligations.FinMeasurement : Prop :=
  ∀ (s : State) (p : PodId) (rd ra rb gX : GReg) (tA : TReg) (fn : Fin 8), Executes s p →
    let q := s.pod p
    let c := (q.rg ra).toNat % 32
    let cx := (q.rg gX).toNat % 32
    let w := (q.rg rb).toNat
    let at_ := (q.rg ra).toNat
    let free (c : Nat) : Prop := (s.chan c).owner = 0 ∨ (s.chan c).owner = p.val + 1
    s.hasCap p 3 = true →
    (free c → s.chanEn c = false → s.tdc.skewRun = false →
      Yields (.mcfg p ra rb fn) s (fun t => (t.chan c).owner = p.val + 1 ∧ (t.pod p).c = false ∧ (t.pod p).pc = q.pc + 1
        ∧ (fn = 0 → t.fld (Reg.TDC_CH_CTRL c) Reg.TDC_CH_CTRL_EN = w % 2) ∧ (fn = 1 → w % 64 < 48 → t.reg (Reg.TDC_CH_SRC c) = w % 64)
        ∧ (fn = 2 → t.reg (Reg.TDC_CH_WLEN c) = w % 2 ^ 32) ∧ (fn = 3 → t.reg (Reg.TDC_CH_WPER c) = w % 2 ^ 32)
        ∧ (fn = 4 → t.reg (Reg.TDC_CH_APER c) = w % 2 ^ 32) ∧ (fn = 5 → t.reg (Reg.TDC_CH_GTO c) = w % 2 ^ 32)
        ∧ (fn = 6 → t.reg (Reg.TDC_CH_STO c) = w % 2 ^ 32) ∧ (fn = 7 → t.reg (Reg.TDC_CH_DELAY c) = w % 2 ^ 32)))
    ∧ (free cx → s.chanEn cx = false → gtRawOk (q.rt tA) = true →
      Yields (.mcfgt p gX tA) s (fun t => (t.chan cx).owner = p.val + 1 ∧ (t.pod p).c = false ∧ (t.pod p).pc = q.pc + 1
        ∧ t.reg (Reg.TDC_CH_WSTART cx) = q.rt tA % 2 ^ 128))
    ∧ (free cx → gtRawOk (q.rt tA) = false →
      Yields (.mcfgt p gX tA) s (fun t => (t.pod p).c = true ∧ (t.pod p).pc = q.pc + 1
        ∧ t.reg (Reg.TDC_CH_WSTART cx) = s.reg (Reg.TDC_CH_WSTART cx)))
    ∧ (¬ free c → Yields (.mcfg p ra rb fn) s (fun t => OnlyPod s t p ∧ t.pod p = { q with c := true, pc := q.pc + 1 }))
    ∧ ((s.chan c).owner = p.val + 1 →
      Yields (.mrel p ra) s (fun t => (t.chan c).owner = 0 ∧ t.chanEn c = false ∧ (t.pod p).c = false ∧ (t.pod p).pc = q.pc + 1))
    ∧ ((s.chan c).owner ≠ p.val + 1 →
      Yields (.mrel p ra) s (fun t => OnlyPod s t p ∧ t.pod p = { q with c := true, pc := q.pc + 1 }))
    ∧ (∀ r rest, at_ % 8 = 0 → at_ + 32 ≤ 0x10000 → tabGet [] s.tdc.qOwn p = r :: rest →
      Yields (.mpop p rd ra false) s (fun t => tabGet [] t.tdc.qOwn p = rest ∧ t.dmemRead p at_ 32 = measBytes r
        ∧ PodGave s t p rd (BitVec.ofNat 64 rest.length) false q.v))
    ∧ (∀ r rest, s.hasCap p 4 = true → at_ % 8 = 0 → at_ + 32 ≤ 0x10000 → s.tdc.qPod1 = r :: rest →
      Yields (.mpop p rd ra true) s (fun t => t.tdc.qPod1 = rest ∧ t.dmemRead p at_ 32 = measBytes r
        ∧ PodGave s t p rd (BitVec.ofNat 64 rest.length) false q.v))
    ∧ (at_ % 8 = 0 → at_ + 32 ≤ 0x10000 → tabGet [] s.tdc.qOwn p = [] →
      Yields (.mpop p rd ra false) s (fun t => OnlyPod s t p ∧ t.pod p = { q with c := true, pc := q.pc + 1 }))

/-- R376, R133: EAUW, EAUU0 and EAURST change the EAU's configuration and clear V; a member above 7 leaves the EAU and sets V;
EAUSTAT gives the count of updates and consumes the event EAU. -/
def Obligations.FinEnsembleAssist : Prop :=
  ∀ (s : State) (p : PodId) (rd ra rb : GReg) (fn : Fin 7), Executes s p → s.hasCap p 5 = true →
    let q := s.pod p
    let i := (q.rg ra).toNat
    let v := q.rg rb
    let done (t : State) (v : Bool) : Prop := (t.pod p).v = v ∧ (t.pod p).pc = q.pc + 1
    (i ≤ 7 → fpFinite v = true →
      Yields (.eauw p ra rb fn) s (fun t => done t false
        ∧ (fn = 0 → (t.mem i).q1 = fpToRat v) ∧ (fn = 1 → (t.mem i).q2 = fpToRat v) ∧ (fn = 2 → (t.mem i).q3 = fpToRat v)
        ∧ (fn = 3 → (t.mem i).r = fpToRat v) ∧ (fn = 4 → t.ens.tau = fpToRat v) ∧ (fn = 5 → t.ens.outlierK = fpToRat v)
        ∧ (fn = 6 → (t.mem i).src = v.toNat % 32)))
    ∧ (7 < i → Yields (.eauw p ra rb fn) s (fun t => done t true ∧ t.ens = s.ens) ∧ Yields (.eaurst p ra) s (fun t => done t true ∧ t.ens = s.ens))
    ∧ (fpFinite (q.rg ra) = true → Yields (.eauu0 p ra) s (fun t => done t false ∧ t.ens.u0 = fpToRat (q.rg ra)))
    ∧ (fpFinite (q.rg ra) = false → Yields (.eauu0 p ra) s (fun t => done t true ∧ t.ens = s.ens))
    ∧ (i ≤ 7 → Yields (.eaurst p ra) s (fun t => done t false ∧ (t.mem i).init = true))
    ∧ Yields (.eaustat p rd) s (fun t => PodGave s t p rd (BitVec.ofNat 64 s.ens.updates) q.c q.v ∧ getBits (t.pod p).events 4 1 = 0)

/-- R378, R39, R52, R379: SEND and RECV pass mailbox entries, PANS answers the pending POD_PARAM, EVPOST and JAPP
post to the event ring and to the journal's staging, NETTX takes a frame and a tag, KCMAC gives a MAC of DMEM under a key; what is full or empty sets C. -/
def Obligations.FinMessages : Prop :=
  ∀ (s : State) (p : PodId) (rd ra rb : GReg) (type : Byte) (k : List Byte), Executes s p →
    let q := s.pod p
    let a := (q.rg ra).toNat
    let b := (q.rg rb).toNat
    let dest := a % 8
    let len := b % 2 ^ 14
    let port := b / 2 ^ 16 % 16
    let went (t : State) (c v : Bool) : Prop := (t.pod p).c = c ∧ (t.pod p).v = v ∧ (t.pod p).pc = q.pc + 1
    (b % 8 = 0 → b + 24 ≤ 0x10000 → (s.pod dest).mbox.length < 32 →
      Yields (.send p ra rb type) s (fun t => went t false q.v
        ∧ ∃ e, (t.pod dest).mbox = (s.pod dest).mbox ++ [e] ∧ e.sender = p.val ∧ e.type = type.toNat ∧ e.payload = s.dmemRead p b 24
          ∧ e.alive = tabGet 0 (s.pod dest).alive p ∧ e.crc = crc16 (mboxBody e)))
    ∧ (b % 8 = 0 → b + 24 ≤ 0x10000 → 32 ≤ (s.pod dest).mbox.length →
      Yields (.send p ra rb type) s (fun t => OnlyPod s t p ∧ t.pod p = { q with c := true, pc := q.pc + 1 }))
    ∧ (∀ e rest, a % 8 = 0 → a + 32 ≤ 0x10000 → q.mbox = e :: rest →
      Yields (.recv p ra) s (fun t => OnlyPod s t p ∧ (t.pod p).mbox = rest
        ∧ went t false (decide (crc16 (mboxBody e) ≠ e.crc))
        ∧ ∀ x, x < a ∨ a + (mboxBytes e).length ≤ x → byteAt (t.dmemDef p) (t.pod p).dmem x = byteAt (s.dmemDef p) q.dmem x))
    ∧ (∀ r : ParamPend, q.param = some r → q.paramTick + 100000 * ticksPerUs < s.tkp.rawcnt →
      Yields (.pans p ra rb) s (fun t => (t.pod p).param = none ∧ went t true q.v ∧ t.paramEntry p r.id = r.old % 2 ^ 64))
    ∧ (∀ r : ParamPend, q.param = some r → s.tkp.rawcnt ≤ q.paramTick + 100000 * ticksPerUs → r.id = a → b = 0 →
      Yields (.pans p ra rb) s (fun t => (t.pod p).param = none ∧ went t false q.v
        ∧ ∀ x ∈ t.hif.accepted, x.hseq ≠ r.hseq))
    ∧ (q.param = none → Yields (.pans p ra rb) s (fun t => OnlyPod s t p ∧ t.pod p = { q with c := true, pc := q.pc + 1 }))
    ∧ (s.hasCap p 13 = true → 1 ≤ b → b ≤ 48 → a + b ≤ 0x10000 → s.ringRoom 2 = true → tabGet none s.hif.loss 2 = none →
      Yields (.evpost p ra rb) s (fun t => went t false false
        ∧ t.reg (Reg.HIF_RING_PI 2) = (s.reg (Reg.HIF_RING_PI 2) + 1) % 2 ^ 32))
    ∧ (s.hasCap p 13 = true → 1 ≤ b → b ≤ 48 → a + b ≤ 0x10000 → s.ringEn 2 = false →
      Yields (.evpost p ra rb) s (fun t => OnlyPod s t p ∧ went t true false))
    ∧ (s.hasCap p 13 = true → (b = 0 ∨ 48 < b) → Yields (.evpost p ra rb) s (fun t => OnlyPod s t p ∧ went t q.c true))
    ∧ (s.hasCap p 11 = true → b + 40 ≤ 0x10000 → s.jrn.staging.length < 31744 →
      Yields (.japp p ra rb) s (fun t => went t false q.v
        ∧ ∃ r : JRec, t.jrn.staging = s.jrn.staging ++ [r] ∧ r.src = p.val ∧ r.payload = s.dmemRead p b 40))
    ∧ (s.hasCap p 11 = true → b + 40 ≤ 0x10000 → 31744 ≤ s.jrn.staging.length →
      Yields (.japp p ra rb) s (fun t => went t true q.v ∧ t.jrn = { s.jrn with stageLost := s.jrn.stageLost + 1 }))
    ∧ (s.hasCap p 10 = true → a % 8 = 0 → 0x50000 ≤ a → a + (len - 4) ≤ 0x100000 → port ≤ 8 → q.netOut.length < 16 →
        q.compl.length + q.reserved < 128 → s.portUp port = true → s.prpOn port = false → max 64 len ≤ s.maxFrame port →
        s.qbvNow port = none → (s.port port).tx = [] →
      Yields (.nettx p rd ra rb) s (fun t => PodGave s t p rd (BitVec.ofNat 64 q.tag) false q.v ∧ (t.pod p).netOut = q.netOut ++ [q.tag]
        ∧ ∃ x, (t.port port).tx = [x] ∧ x.body = .raw (s.comRead a (len - 4)) ∧ x.owner = .pod p q.tag ∧ x.len = max 64 len
          ∧ x.tc = b / 2 ^ 20 % 8))
    ∧ (s.hasCap p 10 = true → a % 8 = 0 → 0x50000 ≤ a → a + (len - 4) ≤ 0x100000 → port ≤ 8 → q.netOut.length < 16 →
        q.compl.length + q.reserved < 128 → s.portUp port = false → s.prpOn port = false →
      Yields (.nettx p rd ra rb) s (fun t => (t.pod p).compl = q.compl ++ [BitVec.ofNat 64 (5 * 2 ^ 20 + 5 * 2 ^ 16 + q.tag % 2 ^ 16)]))
    ∧ (s.hasCap p 9 = true → rd ≠ 0 → rd ≠ 31 → b + a / 2 ^ 16 % 2 ^ 12 ≤ 0x10000 → a / 2 ^ 16 % 2 ^ 12 = 0 →
      Yields (.kcmac p rd ra rb) s (fun t => OnlyPod s t p ∧ (t.pod p).rg rd = 7 ∧ (t.pod p).rg (rd.val + 1) = 0 ∧ (t.pod p).v = true))
    ∧ (s.hasCap p 9 = true → rd ≠ 0 → rd ≠ 31 → b + a / 2 ^ 16 % 2 ^ 12 ≤ 0x10000 → a / 2 ^ 16 % 2 ^ 12 ≠ 0 →
        s.keyFor (a % 2 ^ 12) [2, 3] = .inr k →
      let m := Config.aesCmac k (s.dmemRead p b (a / 2 ^ 16 % 2 ^ 12))
      Yields (.kcmac p rd ra rb) s (fun t => (t.pod p).rg rd = BitVec.ofNat 64 (leNat (m.take 8))
        ∧ (t.pod p).rg (rd.val + 1) = BitVec.ofNat 64 (leNat (m.drop 8)) ∧ (t.pod p).v = false ∧ (t.pod p).pc = q.pc + 1))

/-- R380: GCMD reads its descriptor in DMEM, clears C and does what its form says: ACQ queues a search with a tag, CHAN starts or stops a
channel, PPSF sets the next pulse, SLEEP sleeps or wakes, OBS copies the last observables; a refused command sets C and changes nothing else. -/
def Obligations.FinGnssCommands : Prop :=
  ∀ (s : State) (p : PodId) (rd ra : GReg), Executes s p → s.hasCap p 7 = true →
    let q := s.pod p
    let a := (q.rg ra).toNat
    let d := s.dmemRead p a 32
    let f (off n : Nat) : Nat := leNat ((d.drop off).take n)
    let c := f 0 1
    let k := tabGet GnChan.reset s.gns.chan c
    let went (t : State) : Prop := (t.pod p).c = false ∧ (t.pod p).pc = q.pc + 1
    let zero (t : State) : Prop := went t ∧ (t.pod p).rg rd = 0
    let refused (t : State) : Prop := OnlyPod s t p ∧ t.pod p = { q with c := true, pc := q.pc + 1 }
    let acqOk : Prop := c < 20 ∧ 1 ≤ f 12 1 ∧ f 12 1 ≤ 20 ∧ 1 ≤ f 13 1 ∧ f 13 1 ≤ 64 ∧ f 14 1 < 4
    let chanOk : Prop := f 2 1 < 20 ∧ f 4 1 < 4 ∧ 1 ≤ f 5 1 ∧ f 5 1 ≤ 64 ∧ -128 ≤ toSigned 16 (f 6 2) ∧ toSigned 16 (f 6 2) ≤ 128
    let status (t : State) (st : Nat) : Prop := t.fld (Reg.GNS_CH_STAT c) Reg.GNS_CH_STAT_STATE = st
      ∧ t.fld (Reg.GNS_CH_STAT c) Reg.GNS_CH_STAT_SIG = f 2 1 ∧ t.fld (Reg.GNS_CH_STAT c) Reg.GNS_CH_STAT_PORT = f 4 1
    a % 8 = 0 → a + 32 ≤ 0x10000 →
    (acqOk → s.gns.acq.length < 8 → q.compl.length + q.reserved < 128 →
      Yields (.gcmdAcq p rd ra) s (fun t => PodGave s t p rd (BitVec.ofNat 64 q.tag) false q.v ∧ (t.pod p).reserved = q.reserved + 1
        ∧ t.gns.acq = s.gns.acq ++ [⟨p, q.tag, a, d⟩]))
    ∧ (¬ acqOk ∨ 8 ≤ s.gns.acq.length ∨ 128 ≤ q.compl.length + q.reserved → Yields (.gcmdAcq p rd ra) s refused)
    ∧ (chanOk → f 1 1 = 0 → Yields (.gcmdChan p rd ra) s (fun t => zero t ∧ status t 0))
    ∧ (chanOk → f 1 1 = 1 → s.gnCh c = 0 ∨ s.gnCh c = 3 →
      Yields (.gcmdChan p rd ra) s (fun t => zero t ∧ status t 1
        ∧ (s.runsResident p = false → t.fld (Reg.GNS_CH_CFG c) Reg.GNS_CH_CFG_SPACING = f 5 1)
        ∧ (tabGet GnChan.reset t.gns.chan c).doppler = toSigned 32 (f 8 4)))
    ∧ (f 1 1 = 1 → s.gnCh c = 1 ∨ s.gnCh c = 2 → Yields (.gcmdChan p rd ra) s refused)
    ∧ (-500000000000 ≤ toSigned 64 (f 0 8) → toSigned 64 (f 0 8) ≤ 499999999999 →
      Yields (.gcmdPpsf p rd ra) s (fun t => zero t ∧ t.gns.ppsf = some (toSigned 64 (f 0 8), toSigned 64 (f 8 8), s.tkp.rawcnt)))
    ∧ (toSigned 64 (f 0 8) < -500000000000 ∨ 499999999999 < toSigned 64 (f 0 8) → Yields (.gcmdPpsf p rd ra) s refused)
    ∧ (c = 1 → Yields (.gcmdSleep p rd ra) s (fun t => zero t ∧ t.gns.asleep = true))
    ∧ (c = 0 → Yields (.gcmdSleep p rd ra) s (fun t => zero t ∧ t.gns.asleep = false))
    ∧ (2 ≤ c → Yields (.gcmdSleep p rd ra) s refused)
    ∧ (∀ o : GnObs, k.obs = some o →
      Yields (.gcmdObs p rd ra) s (fun t => zero t ∧ OnlyPod s t p ∧ getBits (t.pod p).events 5 1 = 0
        ∧ t.dmemRead p (a + 8) 22 = intLe 8 o.code ++ intLe 8 o.carrier ++ intLe 4 o.doppler ++ natLe 1 (min 255 (o.cn0 / 100)) ++ natLe 1 k.st))
    ∧ Yields (.gcmdObs p rd ra) s (fun t => zero t ∧ t.dmemRead p (a + 29) 1 = natLe 1 k.st
        ∧ ∀ x, x < a + 8 ∨ a + 30 ≤ x → byteAt (t.dmemDef p) (t.pod p).dmem x = byteAt (s.dmemDef p) q.dmem x)

/-- R380, R381, R348, R419, R424, R367, R377, R404: TWCLM requests a claim where PAIRED or ALONE and sets C in the other states, TWREL withdraws
it and releases the line, FACK asks for the acknowledgement of a latched record and FCLR for the clear of a source, each with C telling
whether it counts. BUS reads and writes installed DRAM outside the Placer's region as the Pod's master, an address that nothing answers
faults with BUS and is logged, and so does every bus write of a register; XRD reads the registers of the block port and XWR writes those of
its table, CAP_DENIED without the capability and BUS outside the table. -/
def Obligations.FinTwinFaultsAndBus : Prop :=
  (∀ (s : State) (p : PodId) (ra : GReg), Executes s p →
    let q := s.pod p
    let n := (q.rg ra).toNat
    let st := s.fld Reg.TWN_STATUS Reg.TWN_STATUS_STATE
    let went (t : State) (c : Bool) : Prop := t.pod p = { q with c := c, pc := q.pc + 1 }
    (s.hasCap p 15 = true → 2 ≤ st → s.mayClaim = true →
      Yields (.twclm p) s (fun t => went t false ∧ t.twn = { s.twn with claim := true }))
    ∧ (s.hasCap p 15 = true → st < 2 → Yields (.twclm p) s (fun t => OnlyPod s t p ∧ went t true))
    ∧ (s.hasCap p 15 = true → Yields (.twrel p) s (fun t => went t q.c ∧ t.twn.claim = false ∧ t.twn.pull = false
        ∧ (s.twn.pull = true → t.fld Reg.TWN_STATUS Reg.TWN_STATUS_AUTH = 0)))
    ∧ (s.hasCap p 15 = false → Yields (.twclm p) s (fun t => Faulted s t p 2) ∧ Yields (.twrel p) s (fun t => Faulted s t p 2))
    ∧ (s.hasCap p 12 = true → s.fltLatched = true →
      Yields (.fack p) s (fun t => went t false ∧ t.flt = { s.flt with ack := some (s.flt.ack.getD (p.val + 1)) }))
    ∧ (s.hasCap p 12 = true → s.fltLatched = false → Yields (.fack p) s (fun t => OnlyPod s t p ∧ went t true))
    ∧ (s.hasCap p 12 = true → n ≤ 159 → s.fltCause n = false → s.fltClass n < 3 →
      Yields (.fclr p ra) s (fun t => went t false ∧ t.flt = { s.flt with clears := s.flt.clears ++ [(n, p.val + 1)] }))
    ∧ (s.hasCap p 12 = true → 159 < n ∨ s.fltCause n = true ∨ s.fltClass n = 3 →
      Yields (.fclr p ra) s (fun t => OnlyPod s t p ∧ went t true)))
  ∧ (∀ (s : State) (p : PodId) (rd ra rb : GReg) (off : Nat) (n : Fin 8) (j : Fin 18), Executes s p →
    let q := s.pod p
    let a := (q.rg ra).toNat % 2 ^ 40
    let w := (q.rg rb).toNat
    let x := (q.rg ra).toNat
    let outside : Prop := 0x41000000 ≤ a ∧ s.dramDenied (2 + p) a 8 true = false
    (outside → s.target a 8 = some (.dram, off) →
      Yields (.busRead p rd ra true) s (fun t => WroteOnly s t p rd (BitVec.ofNat 64 (leNat (bytesAt zeros s.dram off 8))))
      ∧ Yields (.busWrite p ra rb true) s (fun t => t = { s with pods := t.pods, dram := t.dram } ∧ t.pod p = { q with pc := q.pc + 1 }
        ∧ bytesAt zeros t.dram off 8 = natLe 8 w
        ∧ ∀ y, y < off ∨ off + 8 ≤ y → byteAt zeros t.dram y = byteAt zeros s.dram y))
    ∧ (s.target a 4 = none →
      Yields (.busRead p rd ra false) s (fun t => Faulted s t p 6
        ∧ t.reg Reg.BUS_ELOG_CNT = (s.incFld Reg.BUS_ELOG_CNT Reg.BUS_ELOG_CNT_COUNT 1).reg Reg.BUS_ELOG_CNT)
      ∧ Yields (.busWrite p ra rb false) s (fun t => Faulted s t p 6))
    ∧ (s.target a 4 = some (.reg, off) → Yields (.busWrite p ra rb false) s (fun t => Faulted s t p 6))
    ∧ (x = Reg.TKP_VC_STATUS n - 0x40000000 → s.upset1 = [] →
      Yields (.xrd p rd ra false) s (fun t => (t.pod p).rg rd = (if rd = 0 then 0 else BitVec.ofNat 64 (s.reg (Reg.TKP_VC_STATUS n) % 2 ^ 32))
        ∧ (t.pod p).pc = q.pc + 1))
    ∧ (x = Reg.ENS_MEM_W n - 0x40000000 → s.hasCap p 5 = true →
      Yields (.xwr p ra rb false) s (fun t => (t.pod p).pc = q.pc + 1 ∧ (t.pod p).g = q.g
        ∧ t.fld (Reg.ENS_MEM_W n) Reg.ENS_MEM_W_WEIGHT = w % 2 ^ 17 ∧ ∀ y, y ≠ Reg.ENS_MEM_W n → t.reg y = s.reg y))
    ∧ (x = Reg.REF_STATE j - 0x40000000 → s.hasCap p 6 = false →
      Yields (.xwr p ra rb false) s (fun t => Faulted s t p 2))
    ∧ (x = Reg.TKP_STEP_PERMIT - 0x40000000 → Yields (.xwr p ra rb false) s (fun t => Faulted s t p 6)))

/-- R256 to R259, R266, R271, R397: what becomes of a received frame, in the order of the checks: a port that is not up takes nothing; the
filter, the FCS and the length drop it with a count; a flow-control frame stops the classes; a service frame waits in the unreserved part of
the ingress buffer, a PTP event message then in the reserve, or it finds them full, and any other goes into the oldest posted buffer of the host, or is counted where none is posted. -/
def Obligations.MacReception : Prop :=
  ∀ (s : State) (p : PortId) (frame : List Byte) (fcsOk : Bool) (k fine b : Nat) (rest : List Nat),
    let u := s.at k
    let n := frame.length + 4
    let got (P : State → Prop) : Prop := Yields (.frameReceive p frame fcsOk k fine) s P
    let passes := u.filterPass p (beAt frame 0 6)
    let cls := u.classify p frame
    let open_ : Prop := (u.port p).held false + n ≤ (ingressSize p).1 - (ingressSize p).2
    let kept : Prop := cls = 0 ∧ (u.port p).held true + n ≤ (ingressSize p).2
    let in_ (b : Bool) : RxItem := ⟨cls, (ethOf frame).prio, frame, u.stampAt p k fine true, b⟩
    let taken : Prop := u.portUp p = true ∧ passes = true ∧ flowOp frame = none ∧ fcsOk = true ∧ 64 ≤ n ∧ n ≤ u.maxFrame p
      ∧ badCsum cls frame = false ∧ u.prpOn p = false
    (u.portUp p = false → got (fun t => t = u))
    ∧ (u.portUp p = true → passes = false → flowOp frame = none → got (fun t => t = u.count (32 * p + 5)))
    ∧ (u.portUp p = true → passes = true → fcsOk = false → got (fun t => t = u.count (32 * p + 4)))
    ∧ (u.portUp p = true → passes = true → fcsOk = true → n < 64 → got (fun t => t = u.count (32 * p + 2)))
    ∧ (u.portUp p = true → passes = true → fcsOk = true → 64 ≤ n → u.maxFrame p < n → got (fun t => t = u.count (32 * p + 3)))
    ∧ (u.portUp p = true → flowOp frame = some 1 → fcsOk = true → 64 ≤ n → n ≤ u.maxFrame p →
        u.fld (Reg.MAC_FC p) Reg.MAC_FC_RXHONOR = 1 →
      got (fun t => Counted s t (32 * p + 14) 1
        ∧ ∀ c < 8, tabGet 0 (t.port p).paused c = k + psToTicks (beAt frame 16 2 * 512 * u.portBit p)))
    ∧ (taken → cls < 4 → open_ →
      got (fun t => Counted s t (32 * p) 1 ∧ Counted s t (32 * p + 1) n ∧ (t.port p).rx = (s.port p).rx ++ [in_ false]))
    ∧ (taken → cls < 4 → ¬ open_ → kept → got (fun t => Counted s t (32 * p) 1 ∧ (t.port p).rx = (s.port p).rx ++ [in_ true]))
    ∧ (taken → cls < 4 → ¬ open_ → ¬ kept → got (fun t => Counted s t (32 * p + 7) 1 ∧ (t.port p).rx = (s.port p).rx))
    ∧ (taken → 4 ≤ cls → s.hif.bufs = b :: rest →
      got (fun t => Counted s t (32 * p) 1 ∧ t.hif.bufs = rest
        ∧ (s.ringEn 2 = false → bytesAt zeros t.hif.mem b frame.length = frame)))
    ∧ (taken → 4 ≤ cls → s.hif.bufs = [] → got (fun t => Counted s t 589 1 ∧ t.hif = s.hif))

/-- R260, R264, R268 to R270, R272, R396: a frame that may start leaves its queue, is the last on the wire with its padding and its stamp, and
holds the port for its length and its gap; a copy of a PRP pair whose twin cannot start leaves alone with its trailer; a collision backs off
for a free number of slots, or ends the frame late or at the sixteenth attempt. -/
def Obligations.MacDepartures : Prop :=
  ∀ (s : State) (p : PortId) (x y : TxItem) (b : List Byte) (n k fine : Nat),
    let u := s.at k
    let e := p.val / 2 * 2
    let o := prpPeer p
    let now := k * 65536 + fine % 65536
    let padded := b ++ List.replicate (60 - b.length) 0
    let ready (p : Nat) (x : TxItem) (now : Nat) : Prop := (s.port p).tx = [x] ∧ x.tc ≤ 7 ∧ x.launch = none ∧ x.body = .raw b
      ∧ x.oneStep = none ∧ x.twoStep = none ∧ u.portUp p = true ∧ (s.port p).busy ≤ now ∧ tabGet 0 (s.port p).paused x.tc ≤ k
      ∧ x.ready ≤ k ∧ u.qbvNow p = none
    (ready p x now → x.prp = none → x.late = none →
      Yields (.frameDepart p k fine) s (fun t => (t.port p).tx = [] ∧ (t.port p).sent = some (padded, u.stampAt p k fine false)
        ∧ (t.port p).busy = now + psToPos ((20 + x.len) * 8 * u.portBit p) ∧ Counted s t (32 * p + 8) 1
        ∧ Counted s t (32 * p + 9) x.len
        ∧ ∀ r tag, x.owner = .pod r tag → (t.pod r).compl = (s.pod r).compl ++ [complWord 5 0 tag]))
    ∧ ((s.port p).tx = [] → Yields (.frameDepart p k fine) s (fun t => t = u))
    ∧ (ready p x now → u.prpOn p = true → x.prp = some n → u.portUp o = true → (s.port o).tx = [y] → y.id = x.id →
        y.tc = x.tc → y.launch = none → now + psToPos 20000000 < (s.port o).busy →
      Yields (.prpTxSkew p k fine) s (fun t => (t.port p).tx = [] ∧ (t.port o).tx = [] ∧ Counted s t (32 * e + 22) 1
        ∧ (t.port p).sent = some (padded ++ prpTrailer padded n (p % 2), u.stampAt p k fine false)))
    ∧ (ready 8 x (k * 65536) → x.prp = none → u.halfDuplex 8 = true → (s.port 8).tries + 1 < 16 →
      Yields (.collision false k) s (fun t => (t.port 8).tx = [x] ∧ (t.port 8).tries = (s.port 8).tries + 1 ∧ t.free = s.free + 1
        ∧ Counted s t 279 1 ∧ (t.port 8).busy = k * 65536
          + psToPos ((32 + Config.freeNat s.free % 2 ^ min ((s.port 8).tries + 1) 10 * 512) * u.portBit 8)))
    ∧ (ready 8 x (k * 65536) → x.prp = none → u.halfDuplex 8 = true →
      Yields (.collision true k) s (fun t => (t.port 8).tx = [] ∧ Counted s t 279 1 ∧ Counted s t 280 1))
    ∧ (ready 8 x (k * 65536) → x.prp = none → u.halfDuplex 8 = true → 16 ≤ (s.port 8).tries + 1 →
      Yields (.collision false k) s (fun t => (t.port 8).tx = [] ∧ Counted s t 281 1))

/-- R258, R260, R269, R272, R396: FRAME_TX queues the bytes of its buffer with the class and the stamp it asks for, completes at once on a link
that is down, and refuses both stamps together and a launch time that is no GTIME; each LIFE the two ports of a PRP pair send one supervision frame with one sequence number. -/
def Obligations.MacQueueing : Prop :=
  ∀ (s : State) (q buf len tc flags osOff launch t : Nat) (p : PortId) (r : Fin 4),
    let u := s.at t
    let e := 2 * r.val
    let sup : TxBody := .raw (supFrame (u.ownMac e) (s.port e).prpSeq)
    let life := s.fld (Reg.MAC_PRP_CFG r) Reg.MAC_PRP_CFG_LIFE * 1250000
    let due := (s.port e).supAt = 0 ∨ (s.port e).supAt - 1 + life ≤ u.tkp.rawcnt
    let plain (s : State) (p : Nat) : Prop := s.portUp p = true ∧ s.qbvNow p = none ∧ (s.port p).tx = []
    (s.blocked q 4 = false → tc ≤ 7 → flags = 0 → plain s p → s.prpOn p = false → max 64 len ≤ s.maxFrame p →
      Yields (.frameTx q buf len p tc flags osOff launch) s (fun t => ∃ x, (t.port p).tx = [x] ∧ x.owner = .host q ∧ x.tc = tc
        ∧ x.len = max 64 len ∧ x.launch = none ∧ x.twoStep = none ∧ x.body = .raw (bytesAt zeros s.hif.mem buf (len - 4))))
    ∧ (s.blocked q 4 = false → tc ≤ 7 → flags = 1 → plain s p → s.prpOn p = false → max 64 len ≤ s.maxFrame p →
      Yields (.frameTx q buf len p tc flags osOff launch) s (fun t => (t.port p).qseq = ((s.port p).qseq + 1) % 2 ^ 32
        ∧ ∃ x, (t.port p).tx = [x] ∧ x.owner = .host q ∧ x.twoStep = some (s.port p).qseq))
    ∧ (s.blocked q 4 = false → tc ≤ 7 → flags = 0 → s.portUp p = false → s.prpOn p = false →
      Yields (.frameTx q buf len p tc flags osOff launch) s (fun t => Answered t q ∧ (t.port p).tx = (s.port p).tx))
    ∧ (s.blocked q 4 = false → flags % 2 = 1 → flags / 4 % 2 = 1 →
      Yields (.frameTx q buf len p tc flags osOff launch) s (fun t => Answered t q ∧ t.mac = s.mac))
    ∧ (s.blocked q 4 = false → flags / 2 % 2 = 1 → gtRawOk launch = false →
      Yields (.frameTx q buf len p tc flags osOff launch) s (fun t => Answered t q ∧ t.mac = s.mac))
    ∧ (plain u e → plain u (e + 1) → s.prpOn e = true → life ≠ 0 → due →
      Yields (.prpSupervision r t) s (fun t => (t.port e).supAt = u.tkp.rawcnt + 1
        ∧ (t.port e).prpSeq = ((s.port e).prpSeq + 1) % 65536
        ∧ ∃ x, (t.port e).tx = [x] ∧ (t.port (e + 1)).tx = [x] ∧ x.body = sup ∧ x.prp = some (s.port e).prpSeq))
    ∧ (life = 0 ∨ s.prpOn e = false → Yields (.prpSupervision r t) s (fun t => t = u))

/-- R251, R261, R262, R267, R272, R415, R502: a configuration that the port supports is stored while EN is 0 and any other is rejected; GO takes the
staged list as the pending set, which takes over at a cycle start 1 ms on; the entry gates by its interval; MDIO takes a frame; a pop of the
timestamp queue gives its head. -/
def Obligations.MacConfiguration : Prop :=
  ∀ (s : State) (m : Master) (p : PortId) (j : Fin 8) (data t : Nat) (phy : BitVec 16) (q : QbvSet) (e : List Byte) (rest : List (List Byte)),
    let u := s.at t
    let g (f : Fld) : Nat := getBits data f.lo f.len
    let cfg := Reg.MAC_PORT_CFG p
    let ok := modeOk p (g Reg.MAC_PORT_CFG_SPEED) (g Reg.MAC_PORT_CFG_ENC) (g Reg.MAC_PORT_CFG_FEC)
    let half := p = 8 ∧ g Reg.MAC_PORT_CFG_DUPLEX = 1
    let qa := Reg.MAC_QBV_CTRL j
    let qst := Reg.MAC_QBV_STATUS j
    let now := u.vcNow (u.qbvVc j)
    let start := now - (now - q.base) % (q.cyc * fuNs)
    let pos := ((now - q.start now) / fuNs).toNat
    let ends (n : Nat) : Nat := ((q.gcl.take n).map (·.2)).sum
    (MayPost s m cfg → ok = true → s.portEn p = false → ¬ half →
      Yields (.portCfgWrite m p data) s (fun t => Posting t cfg ∧ t.fld cfg Reg.MAC_PORT_CFG_EN = g Reg.MAC_PORT_CFG_EN
        ∧ t.fld cfg Reg.MAC_PORT_CFG_SPEED = g Reg.MAC_PORT_CFG_SPEED ∧ t.fld cfg Reg.MAC_PORT_CFG_FEC = g Reg.MAC_PORT_CFG_FEC
        ∧ t.fld cfg Reg.MAC_PORT_CFG_HVC = g Reg.MAC_PORT_CFG_HVC))
    ∧ (MayPost s m cfg → ok = false →
      Yields (.portCfgWrite m p data) s (fun t => t.reg cfg = s.reg cfg
        ∧ t.fld (Reg.MAC_ISL_STATUS p) Reg.MAC_ISL_STATUS_CFG_REJ = 1 ∧ t.mac = s.mac))
    ∧ (MayPost s m qa → s.fld qst Reg.MAC_QBV_STATUS_PENDING = 0 →
      Yields (.qbvGo m j data) s (fun t => Posting t qa ∧ t.fld qst Reg.MAC_QBV_STATUS_PENDING = 1
        ∧ t.fld qa Reg.MAC_QBV_CTRL_EN = g Reg.MAC_QBV_CTRL_EN ∧ (t.port j).goTick = s.tkp.rawcnt
        ∧ ∃ x, (t.port j).pend = some x ∧ x.base = gtOfRaw (s.reg (Reg.MAC_QBV_BASE j))
          ∧ x.cycle = s.fld (Reg.MAC_QBV_CYCLE j) Reg.MAC_QBV_CYCLE_CYCLE ∧ x.gcl.length = min 1024 (max 1 (g Reg.MAC_QBV_CTRL_LEN))))
    ∧ (MayPost s m qa → s.fld qst Reg.MAC_QBV_STATUS_PENDING = 1 → g Reg.MAC_QBV_CTRL_LEN ≠ s.fld qa Reg.MAC_QBV_CTRL_LEN →
      Yields (.qbvGo m j data) s (fun t => t.mac = s.mac ∧ t.fld (Reg.MAC_ISL_STATUS j) Reg.MAC_ISL_STATUS_CFG_REJ = 1))
    ∧ ((s.port j).pend = some q → q.base ≤ now → (s.port j).goTick + 1250000 ≤ tickOf (u.vcSet (u.qbvVc j)) start →
      Yields (.qbvListSwitch j t) s (fun t => t.port j = { s.port j with oper := some q, pend := none, entry := 0 }
        ∧ t.fld qst Reg.MAC_QBV_STATUS_PENDING = 0 ∧ t.fld qst Reg.MAC_QBV_STATUS_OPER = s.fld qa Reg.MAC_QBV_CTRL_EN))
    ∧ (u.qbvNow j = some q → q.gcl ≠ [] →
      Yields (.qbvEntryAdvance j t) s (fun t => let n := (t.port j).entry
        t.port j = { s.port j with entry := n } ∧ n < q.gcl.length ∧ ends n ≤ pos ∧ (pos < ends (n + 1) ∨ n + 1 = q.gcl.length)))
    ∧ (MayPost s m Reg.MAC_MDIO → g ⟨29, 1⟩ = 1 ∨ g ⟨30, 2⟩ = 1 ∨ g ⟨30, 2⟩ = 2 →
      Yields (.mdioFrame m data phy) s (fun t => t.reg Reg.MAC_MDIO = setBits (data % 2 ^ 32) 21 3 0
        ∧ t.mac.mdio = (if 2 ≤ g ⟨30, 2⟩ then some phy.toNat else none)))
    ∧ (MayPost s m Reg.MAC_MDIO → g ⟨29, 1⟩ = 0 → g ⟨30, 2⟩ = 0 ∨ g ⟨30, 2⟩ = 3 →
      Yields (.mdioFrame m data phy) s (fun t => t.mac = s.mac ∧ t.fld (Reg.MAC_ISL_STATUS 8) Reg.MAC_ISL_STATUS_CFG_REJ = 1))
    ∧ (mayRead m (Reg.MAC_TSQ_ENTRY p) = true → s.gated (Reg.MAC_TSQ_ENTRY p) = false → (s.port p).tsq = e :: rest →
        (s.port p).tsqLost = none →
      Yields (.tsqPop m p) s (fun t => (t.port p).tsq = rest ∧ tabGet 0 t.hif.hold (Reg.MAC_TSQ_ENTRY p) = leNat e
        ∧ t.hif.lastRead = some (m.val, leNat e % 2 ^ 32, 0)))

/-- R260, R265, R266, R274, R416: high occupancy sends a pause frame, which repeats and ends at the low mark; pauses run out; a link goes up and
down with its fault source and its lanes, and a lane that is in use reports its loss. -/
def Obligations.MacFlowAndLinks : Prop :=
  ∀ (s : State) (p : PortId) (prio : Fin 9) (t : Nat) (lane : Fin 22),
    let u := s.at t
    let wm (f : Fld) : Nat := s.fld (Reg.MAC_FC_WM p) f * 1024
    let occ := (s.port p).occupancy prio
    let last := tabGet 0 (s.port p).pausing prio
    let wait := psToTicks (u.quanta p * 256 * u.portBit p)
    let sent (t : State) (quanta : Nat) : Prop :=
      (t.port p).sent = some (flowFrame (u.ownMac p) prio quanta, u.stampAt p u.tkp.rawcnt 0 false)
    let lanePort := if lane.val < 16 then lane.val / 4 else lane.val - 12
    (u.flowOn p prio = true → u.halfDuplex p = false → last = 0 → wm Reg.MAC_FC_WM_HIGH < occ →
      Yields (.pauseHigh p prio t) s (fun t => sent t (u.quanta p) ∧ tabGet 0 (t.port p).pausing prio = u.tkp.rawcnt + 1))
    ∧ (u.flowOn p prio = true → u.halfDuplex p = false → last ≠ 0 → wm Reg.MAC_FC_WM_LOW < occ → last - 1 + wait ≤ u.tkp.rawcnt →
      Yields (.pauseRepeat p prio t) s (fun t => sent t (u.quanta p) ∧ tabGet 0 (t.port p).pausing prio = u.tkp.rawcnt + 1))
    ∧ (u.flowOn p prio = true → u.halfDuplex p = false → last ≠ 0 → occ ≤ wm Reg.MAC_FC_WM_LOW →
      Yields (.pauseLow p prio t) s (fun t => sent t 0 ∧ tabGet 0 (t.port p).pausing prio = 0))
    ∧ Yields (.pauseExpire p t) s (fun t => (∀ x ∈ (t.port p).paused, u.tkp.rawcnt < x.2)
        ∧ ∀ c, u.tkp.rawcnt < tabGet 0 (s.port p).paused c → tabGet 0 (t.port p).paused c = tabGet 0 (s.port p).paused c)
    ∧ Yields (.linkUp p t) s (fun t => t.linkOn p = true ∧ linkSrc p ∉ t.flt.cond)
    ∧ (s.linkOn p = true → s.portEn p = true →
      Yields (.linkDown p t) s (fun t => t.linkOn p = false ∧ linkSrc p ∈ t.flt.cond ∧ (t.port p).tx = []))
    ∧ (s.linkOn p = true → s.portEn p = false → Yields (.linkDown p t) s (fun t => t.linkOn p = false ∧ (linkSrc p ∈ t.flt.cond ↔ linkSrc p ∈ s.flt.cond)))
    ∧ (s.linkOn p = false → Yields (.linkDown p t) s (fun t => t = u))
    ∧ (lane.val < 20 → s.portEn lanePort = true → 24 + lane.val ∈ s.laneSrcs lanePort →
      Yields (.serdesLos lane) s (fun t => t = { s with flt := t.flt } ∧ Began s t (24 + lane)))
    ∧ (20 ≤ lane.val → s.fld Reg.TWN_CFG Reg.TWN_CFG_EN = 1 →
      Yields (.serdesLos lane) s (fun t => t = { s with flt := t.flt } ∧ Began s t (106 + lane)))
    ∧ (20 ≤ lane.val → s.fld Reg.TWN_CFG Reg.TWN_CFG_EN = 0 → Yields (.serdesLos lane) s (fun t => t = s))

/-- R46, R48, R49, R51: POD_LOAD takes a STOPPED Pod to LOADING; a good ROM or unsigned host image leaves it STOPPED with its memories, its
grants and its header; a first check that fails, or 50 ms, clears it; each answers its command. -/
def Obligations.PodLoads : Prop :=
  ∀ (s : State) (q cap vc slot a len : Nat) (p : PodId) (src : LoadSource) (r : LoadReq),
    let free : Prop := s.podSt p = 0 ∧ (src = .rom → p.val < 5 ∧ s.vcOthers p (residentCap p).2 = false)
    let h := s.loadBytes (.host a len) 0 64
    let n (off k : Nat) : Nat := leNat ((h.drop off).take k)
    let words := n 0x0C 4
    let data := n 0x10 4
    let body := s.loadBytes (.host a len) 64 (4 * words + data)
    let good : Prop := 64 ≤ len ∧ n 0 4 = 0x314E4946 ∧ n 4 2 = 1 ∧ crc32c (h.take 60) = n 60 4 ∧ hdrSizesOk h len = true
      ∧ n 0x1E 2 = 0x0B02 ∧ n 0x18 4 &&& r.cap = n 0x18 4 ∧ n 0x1C 1 &&& r.vc = n 0x1C 1 ∧ r.cap < 2 ^ 16
      ∧ (r.cap / 16 % 2 = 1 → p = 1) ∧ s.vcOthers p (r.vc % 256) = false
      ∧ leNat (s.loadBytes (.host a len) (64 + 4 * words + data) 4) = crc32c body ∧ s.verifySlot = false
    let loading : Prop := (s.pod p).load = some r ∧ s.podSt p = 1
    let late : Prop := r.tick + 50000 * ticksPerUs < s.tkp.rawcnt
    let cleared (t : State) : Prop := t.podSt p = 0 ∧ (t.pod p).image = none ∧ (t.pod p).imem = [] ∧ t.reg (Reg.POD_CAP p) = 0
      ∧ t.reg (Reg.POD_VCOWN p) = 0 ∧ Answered t r.hseq
    (Starts s q 0x100 → free →
      Yields (.podLoad q p src cap vc slot) s (fun t => t.podSt p = 1 ∧ t.hif = s.hif
        ∧ (t.pod p).load = some ⟨q, src, cap, vc, slot, s.tkp.rawcnt⟩))
    ∧ (Starts s q 0x100 → ¬ free → Yields (.podLoad q p src cap vc slot) s (fun t => t.pods = s.pods ∧ Answered t q))
    ∧ (loading → ¬ late → r.src = .rom → p.val < 5 →
      Yields (.podLoadComplete p) s (fun t => t.podSt p = 0 ∧ Answered t r.hseq
        ∧ t.reg (Reg.POD_CAP p) = (residentCap p).1 ∧ t.reg (Reg.POD_VCOWN p) = (residentCap p).2
        ∧ t.resident p = true ∧ (t.pod p).image = some ⟨Config.residentEntry p, Config.residentWords p, Config.residentIface p,
          Config.residentVer p⟩))
    ∧ (loading → ¬ late → r.src = .host a len → good →
      Yields (.podLoadComplete p) s (fun t => t.podSt p = 0 ∧ Answered t r.hseq ∧ t.resident p = false
        ∧ t.reg (Reg.POD_CAP p) = r.cap ∧ t.reg (Reg.POD_VCOWN p) = r.vc % 256
        ∧ (t.pod p).image = some ⟨n 0x14 4, words, n 0x20 4, n 0x24 4⟩
        ∧ bytesAt (t.imemDef p) (t.pod p).imem 0 (4 * words) = body.take (4 * words)
        ∧ bytesAt (t.dmemDef p) (t.pod p).dmem 0 data = body.drop (4 * words)))
    ∧ (loading → r.src = .host a len → len < 64 ∨ n 0 4 ≠ 0x314E4946 ∨ n 4 2 ≠ 1 → Yields (.podLoadComplete p) s cleared)
    ∧ (loading → late → Yields (.podLoadComplete p) s cleared)
    ∧ (loading → Yields (.loadTimeout p) s cleared)

/-- R45 to R47, R82, R361: POD_START runs a STOPPED Pod at its ENTRY with cleared registers; POD_STOP and POD_UNLOAD stop it, end its timed
actions whose ticks have not come and release its channels; the watchdog faults a Pod that executes; each command answers. -/
def Obligations.PodRunsAndStops : Prop :=
  ∀ (s : State) (q : Nat) (p : PodId) (i : ImageInfo),
    let x := s.pod p
    let left (t : State) : Prop := t.podSt p = 0 ∧ Answered t q ∧ (s.podSt p = 2 → (∀ a ∈ (t.pod p).acts, s.actCame a = true) ∧ (t.pod p).wait = none
      ∧ ∀ c < 32, (t.chan c).owner ≠ p.val + 1)
    (Starts s q 0x101 → s.podSt p = 0 → x.image = some i →
      Yields (.podStart q p) s (fun t => t.podSt p = 2 ∧ Answered t q ∧ t.fld (Reg.POD_STATUS p) Reg.POD_STATUS_FCAUSE = 0
        ∧ t.pod p = { x with g := [], t := [], z := false, n := false, c := false, v := false, pc := i.entry, wait := none,
                             wdog := s.fld (Reg.POD_WDOG p) Reg.POD_WDOG_TIMEOUT, wdogAt := s.tkp.rawcnt }))
    ∧ (Starts s q 0x101 → s.podSt p ≠ 0 ∨ x.image = none →
      Yields (.podStart q p) s (fun t => t.pods = s.pods ∧ t.podSt p = s.podSt p ∧ Answered t q))
    ∧ (Starts s q 0x102 → s.podSt p = 2 ∨ s.podSt p = 3 → Yields (.podStop q p) s left)
    ∧ (Starts s q 0x102 → s.podSt p ≠ 2 → s.podSt p ≠ 3 → Yields (.podStop q p) s (fun t => t.pods = s.pods ∧ Answered t q))
    ∧ (Starts s q 0x103 → Yields (.podUnload q p) s (fun t => left t ∧ (t.pod p).image = none ∧ (t.pod p).imem = []
        ∧ (t.pod p).dmem = [] ∧ t.reg (Reg.POD_CAP p) = 0 ∧ t.reg (Reg.POD_VCOWN p) = 0 ∧ t.resident p = false))
    ∧ (s.podRuns p = true → x.wdog ≠ 0 → s.tbRuns = true ∨ s.wdogDue p = true → Yields (.podWatchdogExpire p) s (fun t => Faulted s t p 5))
    ∧ (s.podRuns p = false ∨ x.wdog = 0 → Yields (.podWatchdogExpire p) s (fun t => t = s))
    ∧ (Starts s q 0x106 →
      Yields (.podStatus q p) s (fun t => Answered t q ∧ t = s.respond q 0x0106 0 (natLe 4 (s.reg (Reg.POD_STATUS p))
        ++ natLe 4 (s.reg (Reg.POD_CAP p)) ++ natLe 4 (s.reg (Reg.POD_VCOWN p))
        ++ natLe 4 (x.image.elim 0 ImageInfo.iface) ++ natLe 4 (x.image.elim 0 ImageInfo.ver))))

/-- R35, R36, R408: a master that may write it changes the memories of a STOPPED Pod, byte by byte and nothing else; a Pod that is not
STOPPED answers POD_RUN, a misaligned access WIDTH; the watchdog period is held to 10 s, and a resident program keeps one. -/
def Obligations.PodWindow : Prop :=
  ∀ (s : State) (m : Master) (p : PodId) (off size data : Nat),
    let a (dmem : Bool) : Nat := 0x40400000 + p.val * 0x40000 + (if dmem then 0x10000 else 0) + off
    let fits : Prop := (size = 4 ∨ size = 8) ∧ off % size = 0 ∧ off + size ≤ 0x10000
    let x := min 10000000 (data % 2 ^ 24)
    (mayWrite m (a true) = true → fits → s.podSt p = 0 →
      Yields (.podMemWrite m p true off size data) s (fun t => OnlyPod s t p ∧ t.pod p = { s.pod p with dmem := (t.pod p).dmem }
        ∧ t.dmemRead p off size = natLe size data
        ∧ ∀ y, y < off ∨ off + size ≤ y → byteAt (t.dmemDef p) (t.pod p).dmem y = byteAt (s.dmemDef p) (s.pod p).dmem y))
    ∧ (mayWrite m (a false) = true → fits → s.podSt p = 0 →
      Yields (.podMemWrite m p false off size data) s (fun t => OnlyPod s t p ∧ t.pod p = { s.pod p with imem := (t.pod p).imem }
        ∧ bytesAt (t.imemDef p) (t.pod p).imem off size = natLe size data
        ∧ ∀ y, y < off ∨ off + size ≤ y → byteAt (t.imemDef p) (t.pod p).imem y = byteAt (s.imemDef p) (s.pod p).imem y))
    ∧ (∀ dmem, mayWrite m (a dmem) = true → fits → s.podSt p ≠ 0 →
      Yields (.podMemWrite m p dmem off size data) s (fun t => t = s.busError m (a dmem) true 7))
    ∧ (∀ dmem, mayWrite m (a dmem) = true → size = 4 ∨ size = 8 → off % size ≠ 0 →
      Yields (.podMemWrite m p dmem off size data) s (fun t => t = s.busError m (a dmem) true 4))
    ∧ (∀ dmem, mayWrite m (a dmem) = false →
      Yields (.podMemWrite m p dmem off size data) s (fun t => t = s.busError m (a dmem) true 3))
    ∧ (MayWrite s m (Reg.POD_WDOG p) → x ≠ 0 ∨ s.resident p = false →
      Yields (.podWdogWrite m p data) s (fun t => t = s.setReg (Reg.POD_WDOG p) x))
    ∧ (MayWrite s m (Reg.POD_WDOG p) → x = 0 → s.resident p = true → Yields (.podWdogWrite m p data) s (fun t => t = s))

/-- R39, R52, R53: POD_PARAM writes the table entry and a mailbox entry; a resident program takes a good value at once, or restores the
entry; a user program's answer is awaited for 100 ms; POD_MSG puts a message into the mailbox, or finds it full. -/
def Obligations.PodParametersAndMessages : Prop :=
  ∀ (s : State) (q id val : Nat) (p : PodId) (r : ParamPend) (type : Byte) (payload : List Byte),
    let x := s.pod p
    let v := val % 2 ^ 64
    let room := x.param = none ∧ x.mbox.length < 32
    (Starts s q 0x104 → room → s.runsResident p = true → id / 256 = p → s.paramCheck id v = 0 →
      Yields (.podParam q p id val) s (fun t => Answered t q ∧ t.params = tabSet (paramDefault id) s.params id v
        ∧ t.paramEntry p id = v ∧ (t.pod p).mbox = x.mbox))
    ∧ (Starts s q 0x104 → room → s.runsResident p = true → id / 256 = p → s.paramCheck id v ≠ 0 →
      Yields (.podParam q p id val) s (fun t => Answered t q ∧ t.params = s.params ∧ t.paramEntry p id = s.paramEntry p id))
    ∧ (Starts s q 0x104 → room → s.runsResident p = false →
      Yields (.podParam q p id val) s (fun t => t.hif = s.hif ∧ t.params = s.params ∧ t.paramEntry p id = v
        ∧ (t.pod p).param = some ⟨q, id, s.paramEntry p id⟩ ∧ (t.pod p).mbox.length = x.mbox.length + 1))
    ∧ (Starts s q 0x104 → x.param = none → 32 ≤ x.mbox.length →
      Yields (.podParam q p id val) s (fun t => Answered t q ∧ t.pods = s.pods ∧ t.commons = s.commons))
    ∧ (x.param = some r →
      Yields (.podParamTimeout p) s (fun t => Answered t r.hseq ∧ (t.pod p).param = none ∧ t.paramEntry p r.id = r.old % 2 ^ 64))
    ∧ (Starts s q 0x105 → payload.length = 24 → x.mbox.length < 32 →
      Yields (.podMsg q p type payload) s (fun t => Answered t q ∧ ∃ e, (t.pod p).mbox = x.mbox ++ [e] ∧ e.sender = 0xFF
        ∧ e.type = type.toNat ∧ e.payload = payload ∧ e.alive = tabGet 0 x.alive 8 ∧ e.crc = crc16 (mboxBody e)))
    ∧ (Starts s q 0x105 → payload.length = 24 → 32 ≤ x.mbox.length →
      Yields (.podMsg q p type payload) s (fun t => Answered t q ∧ t.pods = s.pods))

/-- R65, R67 to R70, R72, R73, R78, R19, R63, R66: a host operation that its VC admits is held for its tick with BUSY at 1 and with what a step
takes, the free first step or the permit; an invalid one, one on an owned VC, one that the mode does not admit and a step without a permit
each end at once. At its tick a step makes the VC read its GTIME, a change of RATE or INC leaves the reading as it is, the new parameters
hold from that tick, RESULT is DONE and BUSY falls; a change within 1 ms of the last one, and a stopped timebase, change no parameter. A
timed action that is due on the VC by that tick goes first. -/
def Obligations.TkpOperations : Prop :=
  (∀ (s : State) (m : Master) (v : VcId) (op : Nat),
    let a := Reg.TKP_VC_CTRL v
    let mode := s.fld (Reg.TKP_VC_STATUS v) Reg.TKP_VC_STATUS_MODE
    let held (t : State) (op : Nat) (took : Took) : Prop := t.tkp.hostOp = some ⟨v, op, s.tkp.rawcnt, took, s.tbStopped⟩ ∧ Posting t a
      ∧ t.fld a Reg.TKP_VC_CTRL_OP = op
    let ended (t : State) (result : Nat) : Prop := t.tkp.hostOp = s.tkp.hostOp ∧ Posting t a
      ∧ t.fld (Reg.TKP_VC_STATUS v) Reg.TKP_VC_STATUS_RESULT = result
    let may : Prop := MayPost s m a ∧ s.vcOwned v = false
    let free : Prop := may ∧ mode = 0 ∧ s.firstDone v = false ∧ gtRawOk (s.reg (Reg.TKP_VC_SOFF v)) = true
    let permitted : Prop := may ∧ mode = 0 ∧ s.firstDone v = true ∧ s.permit v = true ∧ gtRawOk (s.reg (Reg.TKP_VC_SOFF v)) = true
    let barred : Prop := may ∧ mode = 0 ∧ s.firstDone v = true ∧ s.permit v = false ∧ gtRawOk (s.reg (Reg.TKP_VC_SOFF v)) = true
    let expiry := tabGet 0 s.tkp.permitExp v
    (free → Yields (.stepAbs m v) s (fun t => held t 1 .free ∧ t.firstDone v = true)
      ∧ Yields (.stepRel m v) s (fun t => held t 2 .free ∧ t.firstDone v = true)
      ∧ Yields (.stepRate m v) s (fun t => held t 4 .free ∧ t.firstDone v = true))
    ∧ (permitted → Yields (.stepAbs m v) s (fun t => held t 1 (.permit expiry) ∧ t.permit v = false)
      ∧ Yields (.stepRel m v) s (fun t => held t 2 (.permit expiry) ∧ t.permit v = false)
      ∧ Yields (.stepRate m v) s (fun t => held t 4 (.permit expiry) ∧ t.permit v = false))
    ∧ (barred → Yields (.stepAbs m v) s (fun t => ended t 4) ∧ Yields (.stepRel m v) s (fun t => ended t 4)
      ∧ Yields (.stepRate m v) s (fun t => ended t 4))
    ∧ (may → mode = 0 → Yields (.rate m v) s (fun t => held t 3 .nothing) ∧ Yields (.inc m v) s (fun t => ended t 5)
      ∧ Yields (.modeRate m v) s (fun t => ended t 5))
    ∧ (may → mode = 0 → 2 ≤ v.val → Yields (.modeInc m v) s (fun t => held t 6 .nothing))
    ∧ (may → v.val < 2 → Yields (.modeInc m v) s (fun t => ended t 5))
    ∧ (may → mode = 1 → Yields (.inc m v) s (fun t => held t 5 .nothing) ∧ Yields (.modeRate m v) s (fun t => held t 7 .nothing)
      ∧ Yields (.rate m v) s (fun t => ended t 5) ∧ Yields (.stepRate m v) s (fun t => ended t 5))
    ∧ (MayPost s m a → s.vcOwned v = true → Yields (.rate m v) s (fun t => ended t 3) ∧ Yields (.stepAbs m v) s (fun t => ended t 3))
    ∧ (MayPost s m a → Yields (.tkpInvalidOp m v op) s (fun t => ended t 6))
    ∧ (MayWrite s m a → s.islBusy a = true → Yields (.rate m v) s (fun t => t = s.wdrop a))
    ∧ (mayWrite m a = false → Yields (.rate m v) s (fun t => t = s.busError m a true 3)))
  ∧ (∀ (s : State) (h : HostOp) (v : VcId),
    let n := h.tick + 1250
    let u := s.at n
    let c := s.vcSet v
    let old := vcRead c n 1
    let soff := gtOfRaw (s.reg (Reg.TKP_VC_SOFF v))
    let rate := max (-(2 ^ 54)) (min (2 ^ 54) (toSigned 64 (s.reg (Reg.TKP_VC_SRATE v))))
    let inc := max 0x0700000000 (min 0x08FFFFFFFF (s.reg (Reg.TKP_VC_SINC v)))
    let ranged (c : VcSet) (g : Gt) : Prop := gtInRange g = true ∧ gtInRange (rebaseTo c g n).off = true
    let goes : Prop := s.tkp.hostOp = some h ∧ h.vc = v ∧ (s.tbStopped = true ∨ s.actWaits v n = false)
    let counts : Prop := goes ∧ h.stopped = false ∧ (s.tbStopped = false ∨ n ≤ s.tkp.rawcnt)
    let due (op : Nat) : Prop := counts ∧ h.op = op ∧ u.tooSoon v n = false
    let takes (P : State → Prop) : Prop := Yields .tkpHostOpApply s (fun t => t.tkp.hostOp = none
      ∧ t.islBusy Reg.TKP_ISL_STATUS = false ∧ t.fld (Reg.TKP_VC_STATUS v) Reg.TKP_VC_STATUS_RESULT = 1
      ∧ t.reg (Reg.TKP_VC_EFF v) = n ∧ P t)
    let stays (result : Nat) : Prop := Yields .tkpHostOpApply s (fun t => t.tkp.hostOp = none ∧ t.vcSet v = c
      ∧ t.islBusy Reg.TKP_ISL_STATUS = false ∧ t.fld (Reg.TKP_VC_STATUS v) Reg.TKP_VC_STATUS_RESULT = result
      ∧ (h.took = .free → t.firstDone v = false))
    (due 1 → ranged c soff → takes (fun t => vcRead (t.vcSet v) n 1 = soff))
    ∧ (due 2 → ranged c (old + soff) → takes (fun t => vcRead (t.vcSet v) n 1 = old + soff))
    ∧ (due 3 → c.legacy = false → ranged { c with rate := rate } old →
      takes (fun t => vcRead (t.vcSet v) n 1 = old ∧ (t.vcSet v).rate = rate))
    ∧ (due 4 → c.legacy = false → ranged { c with rate := rate } soff →
      takes (fun t => vcRead (t.vcSet v) n 1 = soff ∧ (t.vcSet v).rate = rate))
    ∧ (due 5 → c.legacy = true → ranged { c with inc := inc } old →
      takes (fun t => vcRead (t.vcSet v) n 1 = old ∧ (t.vcSet v).inc = inc))
    ∧ (counts → u.tooSoon v n = true → stays 2)
    ∧ (goes → h.stopped = true ∨ (s.tbStopped = true ∧ s.tkp.rawcnt < n) → stays 8)
    ∧ (s.tkp.hostOp = some h → s.tbStopped = false → s.actWaits h.vc n = true → Yields .tkpHostOpApply s (fun t => t = s)))

/-- R64, R69, R78: a latch copies RAWCNT and the readings of the VCs of its mask at one tick; a write of the permits, from the host or the
management port alone, sets each permit bit, a new one with its expiry after TTL seconds; a permit that expires is no more. -/
def Obligations.TkpLatchesAndPermits : Prop :=
  ∀ (s : State) (m : Master) (v : VcId) (data : Nat),
    let a := Reg.TKP_LATCH_CTRL
    let ttl := min 3600 (max 1 (data / 2 ^ 16 % 2 ^ 16))
    let exp := tabGet 0 s.tkp.permitExp v
    (MayPost s m a → data / 256 % 2 = 1 →
      Yields (.tkpLatch m data) s (fun t => Posting t a ∧ t.reg Reg.TKP_LATCH_RAW = s.tkp.rawcnt
        ∧ t.reg (Reg.TKP_VC_LATCH v) = (if data / 2 ^ v.val % 2 = 1 then gtToRaw (s.vcNow v) else s.reg (Reg.TKP_VC_LATCH v))
        ∧ t.fld a Reg.TKP_LATCH_CTRL_GO = 1 ∧ t.tkp = s.tkp))
    ∧ (m.val ≤ 1 →
      Yields (.stepPermitWrite m data) s (fun t => t.permit v = decide (data / 2 ^ v.val % 2 = 1)
        ∧ t.fld Reg.TKP_STEP_PERMIT Reg.TKP_STEP_PERMIT_TTL = ttl
        ∧ (data / 2 ^ v.val % 2 = 1 → tabGet 0 t.tkp.permitExp v = if s.permit v then exp else s.tkp.rawcnt + ttl * 1250000000)))
    ∧ (1 < m.val → Yields (.stepPermitWrite m data) s (fun t => t = s.busError m Reg.TKP_STEP_PERMIT true 3))
    ∧ (s.permit v = true → Yields (.permitExpire v) s (fun t => t.permit v = false ∧ t.tkp.rawcnt = (s.at exp).tkp.rawcnt))
    ∧ (s.permit v = false → Yields (.permitExpire v) s (fun t => t = s))

/-- R43, R65, R71, R372, R373: an action that reaches the hardware late completes LATE, any other waits; at its tick a STEERAT changes the rate and
leaves the reading, a STEPAT makes the VC read its GTIME, each with DONE; what the mode or the 1 ms rule does not admit completes TOO_SOON. One that
is not the next in order has no effect yet (R44). -/
def Obligations.TkpTimedActions : Prop :=
  ∀ (s : State) (p : PodId) (id k : Nat) (a : TimedAction) (v : VcId),
    let u := s.atAction a
    let n := s.actTick a
    let c := s.vcSet v
    let old := vcRead c n 1
    let q := s.pod p
    let rate := max (-(2 ^ 54)) (min (2 ^ 54) a.rate)
    let ranged (c : VcSet) (g : Gt) : Prop := gtInRange g = true ∧ gtInRange (rebaseTo c g n).off = true
    let due (kind op : Nat) : Prop := s.tbStopped = false ∧ s.action p id kind = some a ∧ s.actFirst p a = true ∧ a.vcChg = v ∧ a.op = op ∧ c.legacy = false
    let ends (t : State) (st : Nat) : Prop := (t.pod p).compl.getLast? = some (complWord a.kind st a.tag)
      ∧ ∀ b ∈ (t.pod p).acts, b.id ≠ a.id
    (q.acts.find? (fun b => decide (b.id = id) && !b.arrived) = some a → (s.at k).vcNow a.vc < a.target →
      Yields (.timedActionArrive p id k) s (fun t => OnlyPod (s.at k) t p ∧ (t.pod p).compl = q.compl
        ∧ (t.pod p).acts = q.acts.map (fun b => if b.id = id then { b with arrived := true } else b)))
    ∧ (q.acts.find? (fun b => decide (b.id = id) && !b.arrived) = some a → a.target ≤ (s.at k).vcNow a.vc →
      Yields (.timedActionArrive p id k) s (fun t => ends t 1 ∧ (t.pod p).reserved = q.reserved - 1))
    ∧ (due 0 0 → u.tooSoon v n = false → ranged { c with rate := rate } old →
      Yields (.steeratExecute p id) s (fun t => ends t 0 ∧ vcRead (t.vcSet v) n 1 = old ∧ (t.vcSet v).rate = rate
        ∧ t.reg (Reg.TKP_VC_EFF v) = n ∧ (v = 0 → t.fld Reg.ENS_SWDOG Reg.ENS_SWDOG_COUNT = 0)))
    ∧ (due 1 0 → u.tooSoon v n = false → ranged c a.gt →
      Yields (.stepatExecute p id) s (fun t => ends t 0 ∧ vcRead (t.vcSet v) n 1 = a.gt ∧ t.reg (Reg.TKP_VC_EFF v) = n))
    ∧ (due 1 1 → u.tooSoon v n = false → ranged c (old + a.gt) →
      Yields (.stepatExecute p id) s (fun t => ends t 0 ∧ vcRead (t.vcSet v) n 1 = old + a.gt))
    ∧ (due 0 1 → Yields (.steeratExecute p id) s (fun t => ends t 2 ∧ t.vcSet v = c))
    ∧ (due 0 0 → u.tooSoon v n = true → Yields (.steeratExecute p id) s (fun t => ends t 2 ∧ t.vcSet v = c))
    ∧ (s.action p id 0 = some a → s.actFirst p a = false → Yields (.steeratExecute p id) s (fun t => t = s))
    ∧ (s.tbStopped = true ∨ s.action p id 0 = none → Yields (.steeratExecute p id) s (fun t => t = s))

/-- R75 to R77: LEAP_ADD, LEAP_DELETE and LEAP_BASE check their entry in the stated order and ask for the MRAM record with the new table,
whose commit answers them; an entry that is refused or present asks for none; LEAP_READ gives an entry of the table in force. A change
starts from a table that still waits for its commit (notes/assumptions/167: the model's choice). -/
def Obligations.LeapTable : Prop :=
  ∀ (s : State) (q idx src : Nat) (eff tai : Int) (x : LeapEntry),
    let e : LeapEntry := ⟨eff, tai, src, false⟩
    let table := s.leapWork
    let rest := table.drop 1
    let now := s.vcNow 0
    let asked (op : Nat) (new : List LeapEntry) (t : State) : Prop :=
      ∃ r ∈ t.mram.queue, r.rid = ridLeap ∧ r.val = .leap new ∧ (q, op, []) ∈ r.resp
    let ended (t : State) : Prop := Answered t q ∧ t.mram = s.mram
    let is := fun y : LeapEntry => decide (y.eff = eff)
    let passed := rest.any (fun y => decide (eff < y.eff) && decide (y.eff * fuSec ≤ now))
    (Starts s q 0x200 → rest.find? is = none → leapFits table e = true → now + 60 * fuSec ≤ eff * fuSec ∨ passed = true →
        table.length < 64 →
      Yields (.leapAdd q eff tai src) s (asked 0x200 (leapPut table e)))
    ∧ (Starts s q 0x200 → rest.find? is = none → leapFits table e = true → now + 60 * fuSec ≤ eff * fuSec ∨ passed = true →
        64 ≤ table.length → rest.head? = some x → x.eff * fuSec < now →
      Yields (.leapAdd q eff tai src) s (asked 0x200 (leapPut (leapMerge table) e)))
    ∧ (Starts s q 0x200 → rest.find? is = none → 64 ≤ table.length → rest.head? = some x → now ≤ x.eff * fuSec →
      Yields (.leapAdd q eff tai src) s ended)
    ∧ (Starts s q 0x200 → rest.find? is = some x → Yields (.leapAdd q eff tai src) s ended)
    ∧ (Starts s q 0x200 → rest.find? is = none → leapFits table e = false ∨ (eff * fuSec < now + 60 * fuSec ∧ passed = false) →
      Yields (.leapAdd q eff tai src) s ended)
    ∧ (Starts s q 0x201 → rest.find? is = some x → now + 60 * fuSec ≤ eff * fuSec →
      Yields (.leapDelete q eff) s (asked 0x201 (table.take 1 ++ rest.filter (fun y => decide (y.eff ≠ eff)))))
    ∧ (Starts s q 0x201 → rest.find? is = none ∨ eff * fuSec < now + 60 * fuSec → Yields (.leapDelete q eff) s ended)
    ∧ (Starts s q 0x202 → rest.head? = none ∨ (rest.head? = some x ∧ (x.tai - tai).natAbs = 1) →
      Yields (.leapBase q tai) s (asked 0x202 (⟨0, tai, 1, true⟩ :: rest)))
    ∧ (Starts s q 0x202 → rest.head? = some x → (x.tai - tai).natAbs ≠ 1 → Yields (.leapBase q tai) s ended)
    ∧ (Starts s q 0x203 → s.leapTable[idx]? = some x →
      Yields (.leapRead q idx) s (fun t => Answered t q ∧ t = s.respond q 0x0203 0 (leapBytes x)))
    ∧ (Starts s q 0x203 → s.leapTable[idx]? = none →
      Yields (.leapRead q idx) s (fun t => Answered t q ∧ t = s.respond q 0x0203 1 []))

/-- R81, R84, R88, R92 to R94, R96, R102: an arm opens at its tick and closes STO after it, by ARMAT, by the period or by a gate edge, and is ignored
and counted on a channel that is armed or converts; an edge reaches every channel that selects its source, and is taken inside the arm or window; no
stop gives a NO_STOP record; in CAL_PERIODS the calibrations of 2 µs come first; three gate edges end a gate loss. -/
def Obligations.TdcArming : Prop :=
  ∀ (s : State) (p : PodId) (c : ChanId) (g : Fin 4) (id k open_ close : Nat) (falling : Bool) (a : TimedAction) (w : WinOpen)
    (src : Fin 48) (n1 n2 at_ : Nat),
    let u := s.at k
    let n := s.actTick a
    let now := u.tkp.rawcnt
    let sto := max 1 (s.reg (Reg.TDC_CH_STO c)) * 1250
    let per := min 1000000 (s.reg (Reg.TDC_CH_APER c))
    let ch := s.chan c
    let ctl (f : Fld) : Nat := s.fld (Reg.TDC_CH_CTRL c) f
    let armed (t : State) (n : Nat) : Prop := (t.chan c).arm = some (n, n + sto) ∧ (t.chan c).calib = none
      ∧ (t.chan c).gto = s.reg (Reg.TDC_CH_GTO c)
    let ignored (t : State) : Prop := (t.chan c).arm = ch.arm
      ∧ t.reg (Reg.TDC_CH_LOST c) = (s.incFld (Reg.TDC_CH_LOST c) Reg.TDC_CH_LOST_ARMIGN 1).reg (Reg.TDC_CH_LOST c)
    let completes (t : State) (st : Nat) : Prop := (t.pod p).compl = (s.pod p).compl ++ [complWord 3 st a.tag]
    let issued : Prop := s.tbStopped = false ∧ s.action p id 3 = some a ∧ s.actFirst p a = true ∧ a.index = c ∧ a.took = .nothing
    let ticks : Prop := s.armable c = true ∧ ctl Reg.TDC_CH_CTRL_ARMSRC = 5 ∧ per ≠ 0
      ∧ periodicTick (s.vcSet (s.chanVc c)) now ((per : Int) * (1000 * fuNs)) = true
    let gated : Prop := u.tbRuns = true ∧ s.chanEn c = true ∧ ctl Reg.TDC_CH_CTRL_MODE = 0 ∧ ctl Reg.TDC_CH_CTRL_ARMSRC = g.val + 1
    let loses : Prop := ch.gateLost = true ∧ s.chanWin c = true ∧ ch.gateRet < 2
    let cap (arm : Option (Nat × Nat)) : StopCap := ⟨k, falling, !u.tbLocked, arm.isNone, arm⟩
    let comes : Prop := u.tbRuns = true ∧ u.edgeDue src k falling = true
    let edge : Prop := comes ∧ s.fld (Reg.TDC_CH_SRC c) Reg.TDC_CH_SRC_SRC = src.val ∧ s.chanEn c = true
      ∧ ctl Reg.TDC_CH_CTRL_EDGE = bit falling
    let d : Int := (n2 : Int) - n1
    let valid : Prop := 900 ≤ n1 ∧ n1 ≤ 1100 ∧ 900 ≤ d ∧ d ≤ 1100
    (issued → s.armable c = true → s.armBlocked c n = false →
      Yields (.armatExecute p id) s (fun t => armed t n ∧ completes t 0))
    ∧ (issued → s.armable c = true → s.armBlocked c n = true → Yields (.armatExecute p id) s (fun t => ignored t ∧ completes t 2))
    ∧ (issued → s.armable c = false → Yields (.armatExecute p id) s (fun t => (t.chan c).arm = ch.arm ∧ completes t 2))
    ∧ (ticks → s.armBlocked c now = false → Yields (.periodicArm c k) s (fun t => armed t now))
    ∧ (ticks → s.armBlocked c now = true → Yields (.periodicArm c k) s ignored)
    ∧ (gated → s.chanWin c = false → ch.window = none → ch.busy = false → s.chanPeriods c = false →
      Yields (.tdcGateEdge g k) s (fun t => armed t now ∧ (t.chan c).gateTick = now))
    ∧ (gated → s.chanWin c = false → ch.window = none → ch.busy = false → s.chanPeriods c = true →
      Yields (.tdcGateEdge g k) s (fun t => (t.chan c).arm = none ∧ (t.chan c).calib = some (now + 2500) ∧ (t.chan c).calGate = true))
    ∧ (s.chanEn c = true → ch.calGate = true → ch.calib = some at_ → valid →
      Yields (.preArmCalibration c ⟨k, n1, n2⟩) s (fun t => armed t (min (now + 1) at_) ∧ (t.chan c).epoch = ch.epoch + 1
        ∧ (t.chan c).n1off = n1 - 1000 ∧ (t.chan c).doff = d - 1000 ∧ (t.chan c).calMade = true))
    ∧ (gated → s.chanWin c = false → ch.window = none → ch.busy = true → Yields (.tdcGateEdge g k) s ignored)
    ∧ (gated → loses → Yields (.tdcGateEdge g k) s (fun t => (t.chan c).arm = ch.arm ∧ (t.chan c).gateLost = true))
    ∧ (gated → ch.gateLost = true → 2 ≤ ch.gateRet → now - ch.gateAt < ch.gtoTicks →
      Yields (.tdcGateEdge g k) s (fun t => (t.chan c).gateLost = false ∧ t.fld (Reg.TDC_CH_STATUS c) Reg.TDC_CH_STATUS_FELL_BACK = 0))
    ∧ (u.tbRuns = true → s.chanEn c = false ∨ ctl Reg.TDC_CH_CTRL_ARMSRC ≠ g.val + 1 →
      Yields (.tdcGateEdge g k) s (fun t => t.chan c = ch))
    ∧ (s.chanEn c = true → ch.calGate = false → s.chanPeriods c = true → ch.busy = false → ch.window = none → valid →
      Yields (.preArmCalibration c ⟨k, n1, n2⟩) s (fun t => t.chan c =
        { ch with calib := some (now + 2500), epoch := ch.epoch + 1, n1off := (n1 : Int) - 1000, doff := d - 1000, calMade := true,
                  calOk := true, calBad := false, aged := false, calTick := now }))
    ∧ (edge → s.chanWin c = false → ch.arm = some (open_, close) → open_ + 1 < k → k ≤ close → ch.stops = [] →
      Yields (.tdcStopEdge src k falling) s (fun t => t.chan c = { ch with arm := none, stops := [cap (some (open_, close))] }))
    ∧ (edge → s.chanWin c = true → ch.window = some w → w.closed = none →
      Yields (.tdcStopEdge src k falling) s (fun t => t.chan c = { ch with stops := ch.stops ++ [cap none] }))
    ∧ (s.fld (Reg.TDC_CH_SRC c) Reg.TDC_CH_SRC_SRC ≠ src.val ∨ s.chanEn c = false ∨ ctl Reg.TDC_CH_CTRL_EDGE ≠ bit falling
        ∨ (s.chanWin c = false ∧ ch.arm = none) ∨ (s.chanWin c = true ∧ ch.window = none) →
      Yields (.tdcStopEdge src k falling) s (fun t => t.chan c = ch ∧ t.tkp = u.tkp))
    ∧ (u.edgeDue src k falling = false → Yields (.tdcStopEdge src k falling) s (fun t => t = u))
    ∧ (ch.arm = some (open_, close) → s.tbRuns = true → ch.fifo.length < 16 →
      Yields (.stopTimeout c) s (fun t => (t.chan c).arm = none ∧ (t.chan c).seq = (ch.seq + 1) % 2 ^ 32
        ∧ (t.chan c).fifo = ch.fifo ++ [⟨0, ch.seq, close, 0, c, s.chanVc c, ch.epoch % 256, 1 + s.noStopFlags c⟩]))

/-- R84, R85, R88, R93 to R98, R21, R83: a conversion gives the tick position k − u, its reading on the channel's clock less the corrections, and one
SEQ, and a stop whose tick is not past the arm tick leaves the arm open; a window opens, keeps its first stop, counts the others and closes with one
record; a gate loss falls back to windows or records NO_STOP; the records leave the FIFOs in round-robin order for the three queues and the owner's. -/
def Obligations.TdcRecords : Prop :=
  ∀ (s : State) (c : ChanId) (n n1 n2 k : Nat) (x : StopCap) (xs : List StopCap) (w : WinOpen) (r : MeasRec) (rs : List MeasRec) (arm : Nat × Nat),
    let ch := s.chan c
    let d : Int := n2 - n1
    let valid : Prop := 900 ≤ n1 ∧ n1 ≤ 1100 ∧ 900 ≤ d ∧ d ≤ 1100
    let pos (off : Int) (d : Rat) : Rat := (x.tick : Rat) - (1 + ((n : Int) - (1000 + off) : Int) / d)
    let tickAt (off : Int) (d : Rat) : Nat := (pos off d).floor.toNat
    let gtAt (off : Int) (d : Rat) : Gt := (vcExact (s.vcSetAt (s.chanVc c) (tickAt off d)) (pos off d) - s.chanCorr c).floor
    let at_ (t : State) (off : Int) (d : Rat) (r : MeasRec) : Prop := r.tick = tickAt off d
      ∧ r.fine = ((pos off d - (pos off d).floor) * 65536).floor.toNat ∧ r.chan = c ∧ r.cvc = s.chanVc c
      ∧ r.gt = gtAt off d ∧ r.calTag = (t.chan c).epoch % 256
    let stop : Prop := ch.stops = x :: xs ∧ x.win = false ∧ ch.fifo.length < 16
    let past (off : Int) (d : Rat) : Prop := ∀ y ∈ x.arm, y.1 < tickAt off d
    let added (t : State) (P : MeasRec → Prop) : Prop := (t.chan c).seq = (ch.seq + 1) % 2 ^ 32
      ∧ ∃ y, (t.chan c).fifo = ch.fifo ++ [y] ∧ y.seq = ch.seq ∧ P y
    let noStop (tick flags : Nat) : MeasRec := ⟨0, ch.seq, tick, 0, c, s.chanVc c, ch.epoch % 256, 1 + flags⟩
    let room : Prop := ch.fifo.length < 16
    let inWindow : Prop := ch.stops = x :: xs ∧ x.win = true ∧ ch.window = some w ∧ w.closed = none ∧ s.chanPeriods c = false
    let inside : Prop := w.start ≤ gtAt ch.n1off 1000 ∧ gtAt ch.n1off 1000 < w.start + (w.len : Int) * fuNs
    let opens := s.at (s.winTick c (s.winAt c ch.winIdx))
    let shut := s.winTick c (w.start + (w.len : Int) * fuNs)
    let shuts : Prop := ch.window = some w ∧ w.closed = none ∧ s.tbRuns = true
    let src := s.fld (Reg.TDC_CH_CTRL c) Reg.TDC_CH_CTRL_ARMSRC
    let lost : Prop := s.chanEn c = true ∧ s.chanWin c = false ∧ 1 ≤ src ∧ src ≤ 4 ∧ s.tbRuns = true
    let fb : Prop := s.fld (Reg.TDC_CH_CTRL c) Reg.TDC_CH_CTRL_FALLBACK = 1 ∧ s.reg (Reg.TDC_CH_WLEN c) ≠ 0
    let gone := (s.at (ch.gateTick + ch.gtoTicks)).tkp.rawcnt
    let put (cap : Nat) (l : List MeasRec) : List MeasRec := if l.length < cap then l ++ [r] else l
    (stop → s.chanPeriods c = false → past ch.n1off 1000 →
      Yields (.tdcConversionDone c n n1 n2) s (fun t => (t.chan c).stops = xs ∧ added t (at_ t ch.n1off 1000)))
    ∧ (stop → s.chanPeriods c = true → ch.calMade = true → past ch.n1off (1000 + ch.doff) →
      Yields (.tdcConversionDone c n n1 n2) s (fun t => (t.chan c).stops = xs ∧ (t.chan c).epoch = ch.epoch
        ∧ added t (at_ t ch.n1off (1000 + ch.doff))))
    ∧ (stop → s.chanPeriods c = true → ch.calMade = false → valid → past (n1 - 1000) d →
      Yields (.tdcConversionDone c n n1 n2) s (fun t => (t.chan c).stops = xs ∧ (t.chan c).epoch = ch.epoch + 1
        ∧ (t.chan c).n1off = n1 - 1000 ∧ (t.chan c).doff = d - 1000 ∧ added t (at_ t (n1 - 1000) d)))
    ∧ (ch.stops = x :: xs → s.chanPeriods c = true → ch.calMade = false → ¬ valid →
      Yields (.tdcConversionDone c n n1 n2) s (fun t => (t.chan c).calBad = true ∧ (t.chan c).n1off = ch.n1off
        ∧ (t.chan c).doff = ch.doff ∧ t.fld (Reg.TDC_CH_STATUS c) Reg.TDC_CH_STATUS_CAL_FAULT = 1 ∧ 89 ∈ t.flt.raised))
    ∧ (stop → s.chanPeriods c = false → x.arm = some arm → tickAt ch.n1off 1000 ≤ arm.1 → s.chanEn c = true → s.chanWin c = false →
      Yields (.tdcConversionDone c n n1 n2) s (fun t => t.chan c = { ch with stops := xs, arm := some arm }))
    ∧ (inWindow → inside → w.first = none →
      Yields (.tdcConversionDone c n n1 n2) s (fun t => (t.chan c).fifo = ch.fifo
        ∧ ∃ y, (t.chan c).window = some { w with first := some y } ∧ at_ t ch.n1off 1000 y))
    ∧ (inWindow → inside → w.first = some r →
      Yields (.tdcConversionDone c n n1 n2) s (fun t => (t.chan c).fifo = ch.fifo ∧ (t.chan c).window = some { w with double := true }
        ∧ t.fld (Reg.TDC_CH_STATUS c) Reg.TDC_CH_STATUS_EXTRA = min (2 ^ Reg.TDC_CH_STATUS_EXTRA.len - 1)
          (s.fld (Reg.TDC_CH_STATUS c) Reg.TDC_CH_STATUS_EXTRA + 1)))
    ∧ (inWindow → ¬ inside → Yields (.tdcConversionDone c n n1 n2) s (fun t => t.chan c = { ch with stops := xs }))
    ∧ (ch.stops = [] → Yields (.tdcConversionDone c n n1 n2) s (fun t => t = s))
    ∧ (s.chanEn c = true → s.chanWin c = true → ch.window = none → ch.winIdx = 0 ∨ s.winPer c ≠ 0 → s.tbRuns = true →
      Yields (.windowOpen c) s (fun t => t.tkp = opens.tkp ∧ (t.chan c).winIdx = ch.winIdx + 1
        ∧ (t.chan c).window = some ⟨s.winAt c ch.winIdx, s.winLen c, none, false, none⟩))
    ∧ (shuts → ch.stops = [] → w.first = some r → room →
      Yields (.windowClose c) s (fun t => (t.chan c).window = none
        ∧ added t (fun y => y = { r with seq := ch.seq, flags := r.flags + bit w.double * 2 })))
    ∧ (shuts → ch.stops = [] → w.first = none → room →
      Yields (.windowClose c) s (fun t => (t.chan c).window = none ∧ added t (fun y => y = noStop shut (4 + s.noStopFlags c))))
    ∧ (shuts → ch.stops ≠ [] →
      Yields (.windowClose c) s (fun t => (t.chan c).fifo = ch.fifo ∧ (t.chan c).window = some { w with closed := some (shut, s.noStopFlags c) }))
    ∧ (lost → fb → Yields (.gateTimeout c) s (fun t => (t.chan c).gateLost = true ∧ 91 ∈ t.flt.cond
        ∧ t.fld (Reg.TDC_CH_STATUS c) Reg.TDC_CH_STATUS_FELL_BACK = 1 ∧ (t.chan c).fifo = ch.fifo))
    ∧ (lost → ¬ fb → room → Yields (.gateTimeout c) s (fun t => (t.chan c).gateLost = true ∧ 91 ∈ t.flt.cond
        ∧ added t (fun y => y = noStop gone (s.noStopFlags c))))
    ∧ (ch.fifo = r :: rs → k < 32 → (s.tdc.served + 1 + k) % 32 = c.val → (∀ j < k, (s.chan ((s.tdc.served + 1 + j) % 32)).fifo = []) →
      Yields (.tdcRecordDispatch c) s (fun t => t.tdc.served = c.val ∧ (t.chan c).fifo = rs ∧ t.tdc.qPod1 = put 4096 s.tdc.qPod1
        ∧ t.tdc.qEau = put 4096 s.tdc.qEau ∧ t.tdc.qTel = put 4096 s.tdc.qTel
        ∧ (∀ p : PodId, ch.owner = p.val + 1 → p ≠ 1 → tabGet [] t.tdc.qOwn p = put 64 (tabGet [] s.tdc.qOwn p))
        ∧ (ch.owner = 0 ∨ ch.owner = 2 → t.tdc.qOwn = s.tdc.qOwn)
        ∧ (4096 ≤ s.tdc.qPod1.length → Counted s t 576 1)))
    ∧ (s.nextServed ≠ some c.val → Yields (.tdcRecordDispatch c) s (fun t => t = s))

/-- R82, R87, R89, R90, R100, R102, R103: background calibration takes a good N1 and keeps the old one on a bad one, and the next is due CALINT later;
the DLL's unlock forces CAL_PERIODS until the next N1; SKEWGO calibrates the channels at EN 0, and the mean of its 256 measurements stands in SKEW
unless they scatter by more than 10 ps rms (its rounding to 0.01 ps is the model's choice, notes/assumptions/168); a control write is refused while a
Pod claims the channel, and while EN is 1 unless it clears EN. -/
def Obligations.TdcCalibrationAndControl : Prop :=
  ∀ (s : State) (m : Master) (c : ChanId) (n1 data : Nat) (meas : List Int),
    let ch := s.chan c
    let u := s.at (ch.calTry + s.calInt)
    let a := Reg.TDC_CH_CTRL c
    let idle : Prop := s.fld a Reg.TDC_CH_CTRL_CALMODE = 0 ∧ ch.stops = [] ∧ ch.calib = none ∧ s.tbRuns = true
      ∧ s.fld Reg.TDC_ISL_STATUS Reg.TDC_ISL_STATUS_DLL_LOCK = 1
    let may : Prop := MayPost s m a ∧ ch.owner = 0
    let mean : Rat := ((meas.sum : Int) : Rat) / 256
    let square : Rat := (meas.map (fun (x : Int) => ((x : Rat) - mean) * ((x : Rat) - mean))).sum / 256
    let skews : Prop := s.tdc.skewChans / 2 ^ c.val % 2 = 1 ∧ s.chanEn c = false ∧ meas.length = 256
    (idle → 900 ≤ n1 → n1 ≤ 1100 →
      Yields (.backgroundCalibration c n1) s (fun t => t.tkp = u.tkp ∧ (t.chan c).n1off = n1 - 1000 ∧ (t.chan c).epoch = ch.epoch + 1
        ∧ (t.chan c).calOk = true ∧ (t.chan c).calBad = false ∧ (t.chan c).aged = false ∧ (t.chan c).forced = false
        ∧ (t.chan c).calTick = u.tkp.rawcnt ∧ (t.chan c).calTry = u.tkp.rawcnt ∧ (t.chan c).doff = 0))
    ∧ (idle → n1 < 900 ∨ 1100 < n1 →
      Yields (.backgroundCalibration c n1) s (fun t => t.chan c = { ch with calBad := true, calTry := u.tkp.rawcnt } ∧ 89 ∈ t.flt.raised))
    ∧ (s.chanPeriods c = false → s.tbRuns = true → Yields (.calAged c) s (fun t => t.chan c = { ch with aged := true }))
    ∧ Yields .dllUnlock s (fun t => t.fld Reg.TDC_ISL_STATUS Reg.TDC_ISL_STATUS_DLL_LOCK = 0 ∧ 90 ∈ t.flt.cond
        ∧ t.chan c = (if s.fld a Reg.TDC_CH_CTRL_CALMODE = 0 then { ch with forced := true } else ch))
    ∧ Yields .dllLock s (fun t => t.fld Reg.TDC_ISL_STATUS Reg.TDC_ISL_STATUS_DLL_LOCK = 1 ∧ 90 ∉ t.flt.cond ∧ t.tdc = s.tdc)
    ∧ (MayPost s m Reg.TDC_GCTRL →
      Yields (.skewgo m data) s (fun t => Posting t Reg.TDC_GCTRL ∧ t.fld Reg.TDC_GCTRL Reg.TDC_GCTRL_CALINT
          = getBits data 16 Reg.TDC_GCTRL_CALINT.len
        ∧ (s.chanEn c = false → t.tdc.skewChans / 2 ^ c.val % 2 = 1)
        ∧ (s.chanEn c = true → t.tdc.skewChans / 2 ^ c.val % 2 = s.tdc.skewChans / 2 ^ c.val % 2)))
    ∧ (skews → square ≤ 1000000 →
      Yields (.skewCalibrationDone [⟨c, meas⟩]) s (fun t => t.fld (Reg.TDC_CH_SKEW c) Reg.TDC_CH_SKEW_VALUE = ofSigned 16 (mean + 1 / 2).floor
        ∧ (t.chan c).skewOk = true ∧ t.tdc.skewRun = false ∧ t.tdc.skewChans = 0))
    ∧ (skews → 1000000 < square →
      Yields (.skewCalibrationDone [⟨c, meas⟩]) s (fun t => t.chan c = ch ∧ 89 ∈ t.flt.raised
        ∧ t.fld (Reg.TDC_CH_STATUS c) Reg.TDC_CH_STATUS_CAL_FAULT = 1 ∧ t.tdc.skewRun = false))
    ∧ (s.chanEn c = true → Yields (.skewCalibrationDone [⟨c, meas⟩]) s (fun t => t.chan c = ch
        ∧ t.reg (Reg.TDC_CH_SKEW c) = s.reg (Reg.TDC_CH_SKEW c) ∧ t.tdc.skewRun = false))
    ∧ (may → s.chanEn c = false → s.tdc.skewRun = false →
      Yields (.tdcChCtrlWrite m c data) s (fun t => Posting t a ∧ t.fld a Reg.TDC_CH_CTRL_EN = data % 2
        ∧ t.fld a Reg.TDC_CH_CTRL_MODE = getBits data Reg.TDC_CH_CTRL_MODE.lo Reg.TDC_CH_CTRL_MODE.len
        ∧ t.fld a Reg.TDC_CH_CTRL_CVC = getBits data Reg.TDC_CH_CTRL_CVC.lo Reg.TDC_CH_CTRL_CVC.len
        ∧ (data % 2 = 1 → t.reg (Reg.TDC_CH_LOST c) = 0)))
    ∧ (may → s.chanEn c = true → data % 2 = 0 →
      Yields (.tdcChCtrlWrite m c data) s (fun t => t.chanEn c = false ∧ (t.chan c).arm = none ∧ (t.chan c).window = none
        ∧ (t.chan c).stops = ch.stops))
    ∧ (may → s.chanEn c = true ∨ s.tdc.skewRun = true → data % 2 = 1 →
      Yields (.tdcChCtrlWrite m c data) s (fun t => t.reg a = s.reg a ∧ t.chan c = ch
        ∧ t.fld (Reg.TDC_CH_STATUS c) Reg.TDC_CH_STATUS_CFG_REJ = 1))
    ∧ (MayPost s m a → ch.owner ≠ 0 →
      Yields (.tdcChCtrlWrite m c data) s (fun t => t.reg a = s.reg a ∧ t.tdc = s.tdc
        ∧ t.fld Reg.TDC_ISL_STATUS Reg.TDC_ISL_STATUS_CLAIMREJ = 1))

/-- R201, R203, R204, R221, R198: an operation written to SYN_CTRL is held for its tick with its band-memory index while EN is 1; with EN at 0
it ends OFF and a reserved one INVALID_OP; EN going to 1 starts a SEARCH for SYN_FREQ and going to 0 turns the synthesizer OFF. At its tick
SEARCH takes a ratio in range, HOP a stored entry and RELOCK the present ratio, each at the acquisition bandwidth, in QUIESCE for the SEARCH
that follows; STORE keeps a lock and CLEAR drops an entry; RESULT says how it ended and BUSY falls; after a timebase failure nothing
applies, and a SYNAT that is due goes first. -/
def Obligations.SynOperations : Prop :=
  (∀ (s : State) (m : Master) (n : SynId) (idx : Fin 16) (op data : Nat),
    let a := Reg.SYN_CTRL n
    let y := s.synth n
    let held (t : State) (op idx : Nat) : Prop := (t.synth n).op = some ⟨op, idx, s.tkp.rawcnt⟩ ∧ Posting t a ∧ t.fld a Reg.SYN_CTRL_OP = op
    let ended (t : State) (r : Nat) : Prop := (t.synth n).op = y.op ∧ Posting t a ∧ t.fld (Reg.SYN_STATUS n) Reg.SYN_STATUS_RESULT = r
    let on : Prop := MayPost s m a ∧ s.fld a Reg.SYN_CTRL_EN = 1
    let off : Prop := MayPost s m a ∧ s.fld a Reg.SYN_CTRL_EN = 0
    let k := s.fld a Reg.SYN_CTRL_BMIDX
    (on → Yields (.search m n) s (fun t => held t 1 k) ∧ Yields (.hop m n idx) s (fun t => held t 2 idx)
      ∧ Yields (.store m n idx) s (fun t => held t 3 idx) ∧ Yields (.clear m n idx) s (fun t => held t 4 idx)
      ∧ Yields (.relock m n) s (fun t => held t 5 k))
    ∧ (off → Yields (.search m n) s (fun t => ended t 6) ∧ Yields (.hop m n idx) s (fun t => ended t 6)
      ∧ Yields (.store m n idx) s (fun t => ended t 6) ∧ Yields (.clear m n idx) s (fun t => ended t 6)
      ∧ Yields (.relock m n) s (fun t => ended t 6))
    ∧ (MayPost s m a → Yields (.synInvalidOp m n op) s (fun t => ended t 5))
    ∧ (off → data % 16 = 0 → data / 2 ^ 8 % 2 = 1 →
      Yields (.synEnable m n data) s (fun t => Posting t a ∧ t.fld a Reg.SYN_CTRL_EN = 1 ∧ t.synSt n = 1
        ∧ (t.synth n).ratio = s.reg (Reg.SYN_FREQ n) ∧ (t.synth n).code = 40))
    ∧ (on → data % 16 = 0 → data / 2 ^ 8 % 2 = 0 →
      Yields (.synEnable m n data) s (fun t => Posting t a ∧ t.fld a Reg.SYN_CTRL_EN = 0 ∧ t.synSt n = 0 ∧ (t.synth n).op = none))
    ∧ (MayWrite s m a → s.islBusy a = true → Yields (.search m n) s (fun t => t = s.wdrop a)))
  ∧ (∀ (s : State) (n : SynId) (h : SynOp) (k : Fin 16) (temp : Int),
    let y := s.synth n
    let f := s.reg (Reg.SYN_FREQ n)
    let e := s.reg (Reg.SYN_BM n k)
    let due (op : Nat) : Prop := y.op = some h ∧ h.op = op ∧ h.idx = k ∧ s.tbStopped = false ∧ s.synatWaits n (h.tick + 1250) = false
      ∧ s.fld (Reg.SYN_CTRL n) Reg.SYN_CTRL_EN = 1
    let ends (r : Nat) (P : State → Prop) : Prop := Yields (.synHostOpApply n temp) s (fun t => (t.synth n).op = none
      ∧ t.islBusy Reg.SYN_ISL_STATUS = false ∧ t.fld (Reg.SYN_STATUS n) Reg.SYN_STATUS_RESULT = r ∧ t.clk.temp = temp ∧ P t)
    let same (t : State) : Prop := t.synSt n = s.synSt n ∧ (t.synth n).ratio = y.ratio
    let locks (t : State) (st ratio : Nat) : Prop := t.synSt n = st ∧ (t.synth n).ratio = ratio ∧ (t.synth n).code = 40
      ∧ t.fld (Reg.SYN_STATUS n) Reg.SYN_STATUS_SETTLED = 0
    (due 1 → ratioOk f = true → s.synSt n ≠ 6 → ends 1 (fun t => locks t 1 f))
    ∧ (due 1 → ratioOk f = false → ends 2 same)
    ∧ (due 2 → s.bmValid n k = true → s.synSt n ≠ 6 →
      ends 1 (fun t => locks t 2 (e % 2 ^ 52) ∧ t.fld (Reg.SYN_STATUS n) Reg.SYN_STATUS_BAND = e / 2 ^ 64 % 2 ^ 8))
    ∧ (due 1 → ratioOk f = true → s.synSt n = 6 → ends 1 (fun t => t.synSt n = 6 ∧ (t.synth n).ratio = f))
    ∧ (due 2 → s.bmValid n k = true → s.synSt n = 6 → ends 1 (fun t => t.synSt n = 6 ∧ (t.synth n).ratio = e % 2 ^ 52
        ∧ t.fld (Reg.SYN_STATUS n) Reg.SYN_STATUS_BAND = e / 2 ^ 64 % 2 ^ 8))
    ∧ (due 2 → s.bmValid n k = false → ends 3 same)
    ∧ (due 3 → s.synSt n = 3 → ends 1 (fun t => same t ∧ t.reg (Reg.SYN_BM n k) = 2 ^ 81 + ofSigned 8 temp * 2 ^ 72
        + s.fld (Reg.SYN_STATUS n) Reg.SYN_STATUS_BAND * 2 ^ 64 + y.ratio))
    ∧ (due 3 → s.synSt n ≠ 3 → ends 4 same)
    ∧ (due 4 → ends 1 (fun t => same t ∧ t.bmValid n k = false))
    ∧ (due 5 → s.synSt n ≠ 6 → ends 1 (fun t => locks t 2 y.ratio))
    ∧ (y.op = none ∨ s.tbStopped = true ∨ (y.op = some h ∧ s.synatWaits n (h.tick + 1250) = true) →
      Yields (.synHostOpApply n temp) s (fun t => t = s)))

/-- R22, R200 to R202, R206, R207, R210: a phase error within 100 ps for 5 µs leads to LOCKED, one beyond 1 ns for 1 µs to UNLOCKED with LOL and the
governor at the frequency that was locked, and the timeouts of the states to NOLOCK and back to SEARCH; LOCKED narrows the loop by a half-octave every 20 µs; a rate that the TKP passed is taken unless FOLLOW is set. -/
def Obligations.SynStates : Prop :=
  ∀ (s : State) (n : SynId) (band : Byte) (err k : Nat) (r : Int),
    let u := s.at k
    let y := s.synth n
    let st := s.synSt n
    let after (us : Nat) : State := s.at (y.since + us * 1250)
    let bw := min 24 (s.reg (Reg.SYN_LOOP n) % 32)
    let code := if bw < y.code then y.code - 1 else if y.code < bw then y.code + 1 else y.code
    let near : Prop := s.tbStopped = false ∧ err ≤ 100 ∧ y.since + 6250 ≤ u.tkp.rawcnt
    let within (us : Nat) : Prop := u.tkp.rawcnt ≤ y.since + us * 1250
    let fs (t : State) (f : Fld) : Nat := t.fld (Reg.SYN_STATUS n) f
    (y.ratePend = some r →
      Yields (.synRateUpdate n k) s (fun t => t.tkp = u.tkp ∧ t.synSt n = st ∧ (t.synth n).ratePend = none
        ∧ (t.synth n).rate = if s.fld (Reg.SYN_CTRL n) Reg.SYN_CTRL_FOLLOW = 0 then r else 0))
    ∧ (near → st = 1 → within 4000 → Yields (.synLock n ⟨band, err⟩ k) s (fun t => t.synSt n = 3 ∧ fs t Reg.SYN_STATUS_BAND = band.toNat
        ∧ (t.synth n).since = u.tkp.rawcnt ∧ 53 + n.val ∉ t.flt.cond ∧ 57 + n.val ∉ t.flt.cond
        ∧ ∀ j < 8, j / 2 = n.val → (t.outp j).muted = false ∧ (t.outp j).tbHold = false))
    ∧ (near → (st = 2 ∧ within 25) ∨ st = 4 → Yields (.synLock n ⟨band, err⟩ k) s (fun t => t.synSt n = 3
        ∧ fs t Reg.SYN_STATUS_BAND = fs s Reg.SYN_STATUS_BAND))
    ∧ (¬ near ∨ (st ≠ 1 ∧ st ≠ 2 ∧ st ≠ 4) ∨ (st = 1 ∧ ¬ within 4000) ∨ (st = 2 ∧ ¬ within 25) →
      Yields (.synLock n ⟨band, err⟩ k) s (fun t => t = u))
    ∧ (st = 3 → 1000 < err → Yields (.synLockLost n ⟨err, k⟩) s (fun t => t.synSt n = 4 ∧ fs t Reg.SYN_STATUS_LOL = 1 ∧ 57 + n.val ∈ t.flt.cond
        ∧ (t.synth n).gov = some y.vcoHz))
    ∧ (st ≠ 3 ∨ err ≤ 1000 → Yields (.synLockLost n ⟨err, k⟩) s (fun t => t = u))
    ∧ (s.tbStopped = false → st = 1 → Yields (.searchTimeout n) s (fun t => t.synSt n = 5 ∧ 53 + n.val ∈ t.flt.cond
        ∧ t.tkp = (after 4000).tkp))
    ∧ (s.tbStopped = false → st = 5 → Yields (.nolockRetry n) s (fun t => t.synSt n = 1 ∧ (t.synth n).ratio = y.ratio
        ∧ t.tkp = (after 100000).tkp ∧ 53 + n.val ∉ t.flt.cond))
    ∧ (s.tbStopped = false → st = 2 → Yields (.acquireTimeout n) s (fun t => t.synSt n = 1 ∧ fs t Reg.SYN_STATUS_HOPMISS = 1
        ∧ t.tkp = (after 25).tkp))
    ∧ (s.tbStopped = false → st = 3 → Yields (.loopNarrow n) s (fun t => t.tkp = (after 20).tkp ∧ (t.synth n).code = code
        ∧ fs t Reg.SYN_STATUS_SETTLED = (if code = bw then 1 else 0) ∧ t.synSt n = 3))

/-- R207, R209, R215, R374, R502: an output follows EN of its control register, a pulse output keeps its MODE while it is enabled; ALIGNGO and a relock
realign a clock output at the first alignment instant 1 ms on; SYNAT acts on a synthesizer or forces and releases an output, or completes TOO_SOON,
and a host operation of the same tick completes with TOO_SOON (R203). -/
def Obligations.SynOutputs : Prop :=
  ∀ (s : State) (m : Master) (p : PodId) (o : Fin 22) (j : Fin 8) (n : SynId) (data id : Nat) (a : TimedAction) (sec temp : Int) (ev : Gt)
    (h : SynOp),
    let r := outCtrlReg o
    let x := s.alignOf j (s.fld (Reg.SYN_OUT_CTRL j) Reg.SYN_OUT_CTRL_ALIGN)
    let at_ := sec * fuSec + x.1
    let inst : Prop := (s.outp j).realign = some ev ∧ ev + fuSec / 1000 ≤ at_ ∧ at_ < ev + fuSec / 1000 + fuSec
    let ready : Prop := s.outLive j = true ∧ s.synSt (j / 2) = 3 ∧ s.fld (Reg.SYN_OUT_STATUS j) Reg.SYN_OUT_STATUS_ALIGN_NA = 0
    let tgt := a.index / 16 % 8
    let k := a.index % 8
    let issued (op : Nat) : Prop := s.tbStopped = false ∧ s.action p id 4 = some a ∧ s.actFirst p a = true ∧ a.op = op ∧ a.took = .nothing
    let completes (t : State) (st : Nat) : Prop := (t.pod p).compl = (s.pod p).compl ++ [complWord 4 st a.tag]
    let mode := data / 2 % 4
    (MayPost s m r → (o.val < 8 ∨ 16 ≤ o.val) ∨ s.outEn o = false →
      Yields (.outputEnable m o data) s (fun t => Posting t r ∧ t.outEn o = decide (data % 2 = 1)))
    ∧ (MayPost s m r → 8 ≤ o.val → o.val < 16 → s.outEn o = true → mode ≠ 3 → mode ≠ s.reg r / 2 % 4 →
      Yields (.outputEnable m o data) s (fun t => t.reg r = s.reg r ∧ t.fld Reg.SYN_ISL_STATUS Reg.SYN_ISL_STATUS_CFG_REJ = 1))
    ∧ (MayPost s m (Reg.SYN_OUT_CTRL j) →
      Yields (.aligngo m j data) s (fun t => (t.outp j).realign = some (s.vcNow 0)
        ∧ t.fld (Reg.SYN_OUT_CTRL j) Reg.SYN_OUT_CTRL_EN = data % 2))
    ∧ (inst → ready → Yields (.clkoutRealign j sec) s (fun t => t.fld (Reg.SYN_OUT_STATUS j) Reg.SYN_OUT_STATUS_ALIGNED = 1
        ∧ (t.outp j).realign = none ∧ (t.outp j).edge = some at_
        ∧ (t.outp j).xA = (if s.fld (Reg.SYN_OUT_CTRL j) Reg.SYN_OUT_CTRL_ALIGN = 0 then (s.outp j).xA else some x.1) ∧ t.tkp = (s.at (tickOf (s.vcSet 0) at_)).tkp))
    ∧ (¬ inst → (s.outp j).realign = some ev → Yields (.clkoutRealign j sec) s (fun t => t = s))
    ∧ (issued 0 → tgt = 0 → k = n.val → s.fld (Reg.SYN_CTRL n) Reg.SYN_CTRL_EN = 1 → ratioOk (a.val % 2 ^ 52) = true → s.synSt n ≠ 6 →
      Yields (.synatExecute p id temp) s (fun t => completes t 0 ∧ t.synSt n = 1 ∧ (t.synth n).ratio = a.val % 2 ^ 52
        ∧ ((s.synth n).op = some h → h.tick + 1250 = s.actTick a →
          (t.synth n).op = none ∧ t.fld (Reg.SYN_STATUS n) Reg.SYN_STATUS_RESULT = 7)))
    ∧ (issued 2 → tgt = 0 → k = n.val → s.fld (Reg.SYN_CTRL n) Reg.SYN_CTRL_EN = 1 → s.synSt n ≠ 6 →
      Yields (.synatExecute p id temp) s (fun t => completes t 0 ∧ t.synSt n = 2))
    ∧ (issued 0 ∨ issued 1 ∨ issued 2 ∨ issued 3 → tgt ≠ 0 ∨ 4 ≤ k →
      Yields (.synatExecute p id temp) s (fun t => completes t 2 ∧ t.syn = s.syn))
    ∧ (issued 4 → synatOut tgt k = some o.val → Yields (.synatExecute p id temp) s (fun t => completes t 0 ∧ (t.outp o).forced = true))
    ∧ (issued 5 → synatOut tgt k = some o.val → o.val < 8 →
      Yields (.synatExecute p id temp) s (fun t => completes t 0 ∧ (t.outp o).forced = false))
    ∧ (issued 4 ∨ issued 5 → synatOut tgt k = none → Yields (.synatExecute p id temp) s (fun t => completes t 2 ∧ t.syn = s.syn))

/-- R211 to R220: a pulse falls at its VC0 time with OFFSET and the alignment added, held to its limits, unless it comes within 100 ns of the one before:
then it is skipped and counted, and a PULSEAT completes TOO_SOON; an IRIG-B frame has its hundred bits with a marker at every tenth; a ToD
message is sent in its format, or skipped without its pulse. A PULSEAT on an output at its safe state completes and gives no pulse (the model's choice,
notes/assumptions/173). -/
def Obligations.PulsesAndFrames : Prop :=
  ∀ (s : State) (p : PodId) (k : Fin 8) (f : Fin 2) (d : Fin 4) (sec : Int) (idx id : Nat) (a : TimedAction),
    let c0 := s.vcSet 0
    let lim (x : Int) : Int := min 500000000000 (max (-500000000000) x)
    let ns (w : Nat) : Nat := min 500000000 (max 100 w) * 1000
    let cfg := s.ppsFor k (s.ppsEdge k sec)
    let al := s.alignOf (8 + k) cfg.align
    let edge := sec * fuSec + psToFu (lim cfg.offset : Int) + al.1
    let start := gtOfRaw (s.reg (Reg.SYN_PPS_START k))
    let span : Int := idx * s.patPer k
    let cfgP := s.ppsFor k (s.patEdge k idx)
    let alP := s.alignOf (8 + k) cfgP.align
    let edgeP := start + psToFu (lim cfgP.offset + span : Int) + alP.1
    let last := (s.outp (8 + k)).last
    let clear (e : Int) : Prop := ∀ x, last = some x → x.1 + x.2 + 100000 ≤ e
    let pulsed (t : State) (e : Int) (w : Nat) : Prop := (t.outp (8 + k)).last = some (e, w)
    let skipped (t : State) : Prop := (t.outp (8 + k)).last = last ∧ t.fld (Reg.SYN_PPS_STATUS k) Reg.SYN_PPS_STATUS_SKIP
      = min 65535 (s.fld (Reg.SYN_PPS_STATUS k) Reg.SYN_PPS_STATUS_SKIP + 1)
    let issued : Prop := s.tbStopped = false ∧ s.action p id 2 = some a ∧ s.actFirst p a = true ∧ a.index % 8 = k.val ∧ a.took = .nothing
    let action : Prop := s.outEn (8 + k) = true ∧ s.fld (Reg.SYN_PPS_CTRL k) Reg.SYN_PPS_CTRL_MODE = 2
    let live : Bool := (s.atAction a).outReady (8 + k) ((s.atAction a).vcNow 0)
    let passed : Prop := ∃ en, (s.outp (8 + k)).enAt = some en ∧ start < en ∧ edgeP < en + fuSec / 1000
    let eA := edgePs (s.vcSet a.vc) a.target
    let completes (t : State) (st : Nat) : Prop := (t.pod p).compl = (s.pod p).compl ++ [complWord 2 st a.tag]
    let ctl := s.reg (Reg.SYN_TOD_CTRL d)
    let src := ctl / 2 ^ 12 % 8
    let paired : Prop := s.outEn (8 + src) = true ∧ s.fld (Reg.SYN_PPS_CTRL src) Reg.SYN_PPS_CTRL_MODE = 0
    let begins := s.todStart ctl ((s.todMsg d ctl sec).getD []).length sec
    let due : Prop := s.outReady (18 + d) begins = true ∧ s.startFits (18 + d) (tickOf c0 begins) = true
    let talker := s.reg (Reg.SYN_TOD_TALKER d)
    let counted (t : State) (g : Fld) : Prop := t.fld (Reg.SYN_TOD_CNT d) g = min 65535 (s.fld (Reg.SYN_TOD_CNT d) g + 1)
    (s.genReady k 0 edge = true → clear (edgePs c0 edge) →
      Yields (.ppsPulse k sec) s (fun t => pulsed t (edgePs c0 edge) (ns cfg.width) ∧ t.tkp = (s.at (tickOf c0 edge)).tkp))
    ∧ (s.genReady k 0 edge = true → ¬ clear (edgePs c0 edge) → Yields (.ppsPulse k sec) s skipped)
    ∧ (s.genReady k 0 edge = false → Yields (.ppsPulse k sec) s (fun t => t = s))
    ∧ (s.genReady k 1 edgeP = true → ¬ passed → clear (edgePs c0 edgeP) →
      Yields (.patternPulse k idx) s (fun t => pulsed t (edgePs c0 edgeP) (s.patWidth k idx cfgP)))
    ∧ (s.genReady k 1 edgeP = true → ¬ passed → ¬ clear (edgePs c0 edgeP) →
      Yields (.patternPulse k idx) s skipped)
    ∧ (s.genReady k 1 edgeP = false ∨ passed → Yields (.patternPulse k idx) s (fun t => t = s))
    ∧ (issued → action → live = true → clear eA → Yields (.pulseatExecute p id) s (fun t => completes t 0 ∧ pulsed t eA (ns a.val)))
    ∧ (issued → action → live = false → Yields (.pulseatExecute p id) s (fun t => completes t 0 ∧ (t.outp (8 + k)).last = last))
    ∧ (issued → action → live = true → ¬ clear eA → Yields (.pulseatExecute p id) s (fun t => completes t 2 ∧ (t.outp (8 + k)).last = last))
    ∧ (issued → ¬ action → Yields (.pulseatExecute p id) s (fun t => completes t 2 ∧ t.syn = s.syn))
    ∧ (s.outReady (16 + f) (sec * fuSec) = true → s.startFits (16 + f) (tickOf c0 (sec * fuSec)) = true →
      Yields (.irigFrame f sec) s (fun t => let l := (t.outp (16 + f)).sent
        l = (s.at (tickOf c0 (sec * fuSec))).irigOf f sec ∧ l.length = 100 ∧ l[0]? = some 2
        ∧ ∀ i < 10, l[10 * i + 9]? = some 2))
    ∧ (due → paired → ctl / 16 % 4 = 1 → s.firstDone 0 = true →
      Yields (.todMessageTx d sec) s (fun t => counted t Reg.SYN_TOD_CNT_SENT
        ∧ (t.outp (18 + d)).sent = nmeaZda [BitVec.ofNat 8 (talker / 256), BitVec.ofNat 8 talker] (utcOf s.leapTable sec)))
    ∧ (due → paired → ctl / 16 % 4 = 0 →
      Yields (.todMessageTx d sec) s (fun t => let l := (t.outp (18 + d)).sent
        counted t Reg.SYN_TOD_CNT_SENT ∧ l.take 4 = [0x4C, 0xD7, 1, 48] ∧ (l.drop 4).take 8 = intLe 8 sec
        ∧ (t.outp (18 + d)).msgSeq = ((s.outp (18 + d)).msgSeq + 1) % 2 ^ 32))
    ∧ (due → ¬ paired → Yields (.todMessageTx d sec) s (fun t => counted t Reg.SYN_TOD_CNT_SKIP ∧ (t.outp (18 + d)).sent = []))
    ∧ (¬ due → Yields (.todMessageTx d sec) s (fun t => t = s))

/-- R385, R389, R391 to R394, R412: a ring starts at index 0 and keeps its size while it is enabled; an index that would pass the ring is refused; the
engine reads a CMD entry of the next HSEQ and accepts it, unless the host memory does not give its arguments, and refuses one whose HSEQ it has; a
consumer index gives room for a LOSS record. -/
def Obligations.HostRings : Prop :=
  ∀ (s : State) (m : Master) (r : Fin 4) (data f k : Nat) (argErr resErr : List Nat),
    let cfg := Reg.HIF_RING_CFG r
    let c0 := s.reg (Reg.HIF_RING_CI 0)
    let e := bytesAt zeros s.hif.mem (s.reg (Reg.HIF_RING_BASE 0) + c0 % s.ringSize 0 * 64) 64
    let g (off n : Nat) : Nat := leNat ((e.drop off).take n)
    let used (pi ci : Nat) : Nat := (pi + 2 ^ 32 - ci) % 2 ^ 32
    let may : Prop := MayPost s m cfg
    let one : Prop := MayWrite s m (Reg.HIF_RING_PI 0) ∧ c0 < 2 ^ 32 ∧ data % 2 ^ 32 = (c0 + 1) % 2 ^ 32 ∧ s.ringEn 0 = true ∧ s.ringEn 1 = true
      ∧ s.hif.accepted.length < 64 ∧ s.ringUsed 1 + s.hif.accepted.length + s.hif.held.length < s.ringSize 1
    let ci := data % 2 ^ 32
    let fits : Prop := used (s.reg (Reg.HIF_RING_PI r)) ci ≤ s.ringSize r
    let mayCi : Prop := MayWrite s m (Reg.HIF_RING_CI r) ∧ r ≠ 0
    (may → s.ringEn r = false → data % 2 = 1 →
      Yields (.hifRingEnable m r data) s (fun t => Posting t cfg ∧ t.ringEn r = true ∧ t.fld cfg Reg.HIF_RING_CFG_SIZE = getBits data 8 5
        ∧ t.reg (Reg.HIF_RING_CI r) = 0 ∧ (r = 0 → t.reg (Reg.HIF_RING_PI 0) = 0)))
    ∧ (may → s.ringEn r = true → getBits data 8 5 = s.fld cfg Reg.HIF_RING_CFG_SIZE → data % 2 = 0 →
      Yields (.hifRingEnable m r data) s (fun t => Posting t cfg ∧ t.ringEn r = false ∧ t.hif = s.hif))
    ∧ (may → s.ringEn r = true → getBits data 8 5 ≠ s.fld cfg Reg.HIF_RING_CFG_SIZE →
      Yields (.hifRingEnable m r data) s (fun t => t.reg cfg = s.reg cfg ∧ t.fld Reg.HIF_ISL_STATUS Reg.HIF_ISL_STATUS_CFG_REJ = 1))
    ∧ (MayWrite s m (Reg.HIF_RING_PI 0) → used (data % 2 ^ 32) c0 ≤ s.ringSize 0 →
      Yields (.hifRingPiWrite m ⟨data, argErr, resErr⟩) s (fun t => t.reg (Reg.HIF_RING_PI 0) = data % 2 ^ 32))
    ∧ (MayWrite s m (Reg.HIF_RING_PI 0) → s.ringSize 0 < used (data % 2 ^ 32) c0 →
      Yields (.hifRingPiWrite m ⟨data, argErr, resErr⟩) s (fun t => t.reg (Reg.HIF_RING_PI 0) = s.reg (Reg.HIF_RING_PI 0) ∧ t.hif = { s.hif with argErr := argErr, resErr := resErr }
        ∧ t.fld Reg.HIF_ISL_STATUS Reg.HIF_ISL_STATUS_CFG_REJ = 1))
    ∧ (one → g 0 4 = (s.lastHseq + 1) % 2 ^ 32 → entryStatus e = 0 → g 8 2 ≤ 32 ∨ g 0 4 ∉ argErr →
      Yields (.hifRingPiWrite m ⟨data, argErr, resErr⟩) s (fun t => t.reg (Reg.HIF_RING_CI 0) = (c0 + 1) % 2 ^ 32 ∧ t.lastHseq = g 0 4
        ∧ t.hif.accepted = s.hif.accepted ++ [⟨g 0 4, g 4 2, decide (g 6 1 % 2 = 1), g 24 8, g 12 4, resErr.contains (g 0 4)⟩]))
    ∧ (one → g 0 4 = (s.lastHseq + 1) % 2 ^ 32 → entryStatus e = 0 → 32 < g 8 2 → g 0 4 ∈ argErr →
      Yields (.hifRingPiWrite m ⟨data, argErr, resErr⟩) s (fun t => t.reg (Reg.HIF_RING_CI 0) = (c0 + 1) % 2 ^ 32 ∧ t.lastHseq = g 0 4
        ∧ t.hif.accepted = s.hif.accepted))
    ∧ (one → g 0 4 = s.lastHseq →
      Yields (.hifRingPiWrite m ⟨data, argErr, resErr⟩) s (fun t => t.reg (Reg.HIF_RING_CI 0) = (c0 + 1) % 2 ^ 32 ∧ t.lastHseq = s.lastHseq
        ∧ t.hif.accepted = s.hif.accepted))
    ∧ (mayCi → fits → Yields (.hifRingCiWrite m r data) s (fun t => t.reg (Reg.HIF_RING_CI r) = ci))
    ∧ (mayCi → ¬ fits → Yields (.hifRingCiWrite m r data) s (fun t => t.reg (Reg.HIF_RING_CI r) = s.reg (Reg.HIF_RING_CI r)
        ∧ t.hif = s.hif ∧ t.fld Reg.HIF_ISL_STATUS Reg.HIF_ISL_STATUS_CFG_REJ = 1))
    ∧ (mayCi → r ≠ 1 → used (s.reg (Reg.HIF_RING_PI r)) ci < s.ringSize r → s.ringEn r = true →
      tabGet none s.hif.loss r = some (f, k) →
      Yields (.hifRingCiWrite m r data) s (fun t => tabGet none t.hif.loss r = none
        ∧ t.reg (Reg.HIF_RING_PI r) = (s.reg (Reg.HIF_RING_PI r) + 1) % 2 ^ 32))

/-- R385, R390, R391, R394, R396, R403, R413: HIF_NOP echoes its arguments in a response entry, whose vector is held back until HOLDOFF has passed; a snapshot is taken 2 µs after its request, which others join, and
answers with its number and VC0 time; buffers join the pool up to 4,096; a kick restarts the host watchdog, which raises HOST_LOST when it runs
out. -/
def Obligations.HostCommands : Prop :=
  ∀ (s : State) (m : Master) (q data a0 a1 a2 a3 tick : Nat) (qs : List Nat) (args : List Byte),
    let pi := s.reg (Reg.HIF_RING_PI 1)
    let entry : RingEntry := ⟨q, 1, 0, args, 0, 0⟩
    let due := if s.tbRuns then s.tkp.rawcnt + 2500 else s.tkp.rawcnt
    let l := [a0, a1, a2, a3].filter (· ≠ 0)
    let u := s.at tick
    let seq := (s.fld Reg.SYS_SNAP Reg.SYS_SNAP_SEQ + 1) % 65536
    let to_ := s.fld Reg.HIF_HWDOG Reg.HIF_HWDOG_TIMEOUT
    let lost : Prop := s.fld Reg.HIF_ISL_STATUS Reg.HIF_ISL_STATUS_HOSTLOST = 1
    let kicks : Prop := MayPost s m Reg.HIF_HWDOG
    let soon : Prop := s.tbRuns = true ∧ tabGet 0 s.hif.msixAt 0 ≠ 0
      ∧ s.tkp.rawcnt + 1 < tabGet 0 s.hif.msixAt 0 + min 1000 (s.fld Reg.HIF_IRQ Reg.HIF_IRQ_HOLDOFF) * 1250
    (s.blocked q 1 = false → args.length ≤ 32 → s.ringRoom 1 = true → s.hif.held = [] →
      Yields (.hifNop q args) s (fun t => Answered t q ∧ t.reg (Reg.HIF_RING_PI 1) = (pi + 1) % 2 ^ 32
        ∧ (soon → t.hif.msix = s.hif.msix ∧ 0 ∈ t.hif.msixDue) ∧ (¬ soon → t.hif.msix = s.hif.msix ++ [0] ∧ 0 ∉ t.hif.msixDue)
        ∧ bytesAt zeros t.hif.mem (s.reg (Reg.HIF_RING_BASE 1) + pi % s.ringSize 1 * 64) 64
          = ringBytes (s.ringSize 1) pi (tabGet 0 s.hif.dseq 1) entry))
    ∧ (s.blocked q 1 = false → args.length ≤ 32 → s.ringRoom 1 = false →
      Yields (.hifNop q args) s (fun t => Answered t q ∧ t.hif.held = s.hif.held ++ [entry]))
    ∧ (s.blocked q 1 = true → Yields (.hifNop q args) s (fun t => t = s))
    ∧ (s.blocked q 2 = false → s.hif.snap = none →
      Yields (.snapshot q) s (fun t => t.hif.snap = some (due, [q]) ∧ t.fld Reg.SYS_SNAP Reg.SYS_SNAP_GO = 1))
    ∧ (s.blocked q 2 = false → s.hif.snap = some (tick, qs) → q ∉ qs →
      Yields (.snapshot q) s (fun t => t.hif.snap = some (tick, qs ++ [q])))
    ∧ (MayPost s m Reg.SYS_SNAP → getBits data 8 1 = 1 → s.hif.snap = none →
      Yields (.sysSnapGo m data) s (fun t => Posting t Reg.SYS_SNAP ∧ t.hif.snap = some (due, [])))
    ∧ (MayPost s m Reg.SYS_SNAP → getBits data 8 1 = 1 → s.hif.snap = some (tick, qs) →
      Yields (.sysSnapGo m data) s (fun t => Posting t Reg.SYS_SNAP ∧ t.hif.snap = some (tick, qs)))
    ∧ (s.hif.snap = some (tick, qs) →
      Yields .snapshotTake s (fun t => t.hif.snap = none ∧ t.tkp = u.tkp ∧ (∀ x ∈ qs, Answered t x)
        ∧ t.fld Reg.SYS_SNAP Reg.SYS_SNAP_SEQ = seq ∧ t.fld Reg.SYS_SNAP Reg.SYS_SNAP_GO = 0
        ∧ t.reg Reg.SYS_SNAP_TIME = gtToRaw (u.vcNow 0) ∧ (∀ v : VcId, t.reg (Reg.TKP_VC_LATCH v) = gtToRaw (u.vcNow v))
        ∧ t.hif.snapLedger = (s.reg Reg.PLC_CACHE, s.reg Reg.PLC_LEDGER) ∧ ∀ i < 882, t.reg (Reg.PMC_SNAP i) = s.pmcCnt i))
    ∧ (s.hif.snap = none → Yields .snapshotTake s (fun t => t = s))
    ∧ (s.blocked q 3 = false → s.hif.bufs.length + l.length ≤ 4096 →
      Yields (.rxbufPost q a0 a1 a2 a3) s (fun t => Answered t q ∧ t.hif.bufs = s.hif.bufs ++ l))
    ∧ (s.blocked q 3 = false → 4096 < s.hif.bufs.length + l.length →
      Yields (.rxbufPost q a0 a1 a2 a3) s (fun t => Answered t q ∧ t.hif.bufs = s.hif.bufs))
    ∧ (kicks → data % 2 = 1 →
      Yields (.hwdogKick m data) s (fun t => Posting t Reg.HIF_HWDOG ∧ t.hif.kickTick = s.tkp.rawcnt
        ∧ t.fld Reg.HIF_HWDOG Reg.HIF_HWDOG_TIMEOUT = getBits data 16 16 ∧ t.fld Reg.HIF_ISL_STATUS Reg.HIF_ISL_STATUS_HOSTLOST = 0
        ∧ 78 ∉ t.flt.cond))
    ∧ (kicks → data % 2 = 0 → to_ = 0 →
      Yields (.hwdogKick m data) s (fun t => Posting t Reg.HIF_HWDOG ∧ t.hif.kickTick = s.tkp.rawcnt
        ∧ t.fld Reg.HIF_HWDOG Reg.HIF_HWDOG_TIMEOUT = getBits data 16 16))
    ∧ (kicks → data % 2 = 0 → to_ ≠ 0 → getBits data 16 16 = to_ →
      Yields (.hwdogKick m data) s (fun t => Posting t Reg.HIF_HWDOG ∧ t.hif = s.hif ∧ t.flt = s.flt))
    ∧ (to_ ≠ 0 → ¬ lost → Yields .hostWatchdogExpire s (fun t => t.fld Reg.HIF_ISL_STATUS Reg.HIF_ISL_STATUS_HOSTLOST = 1
        ∧ 78 ∈ t.flt.cond ∧ t.tkp = (s.at (s.hif.kickTick + to_ * 1250000)).tkp))
    ∧ (to_ = 0 ∨ lost → Yields .hostWatchdogExpire s (fun t => t = s))

/-- R384, R385, R408 to R410, R416: the PCIe link falls and rises with its fault source; a bus timeout and an uncorrectable error log a bus error,
raise their source and fault the Pod that made the access; a corrected error raises its source alone; SYS_REMAP is written by DMA1 before CP4
only. -/
def Obligations.LinkAndMemoryErrors : Prop :=
  ∀ (s : State) (m : Master) (p : PodId) (addr speed width data : Nat) (wr : Bool) (mem : Fin 4),
    let logged (t : State) (w : Bool) (a cause : Nat) : Prop :=
      t.fld Reg.BUS_ELOG_CNT Reg.BUS_ELOG_CNT_COUNT
        = min (2 ^ Reg.BUS_ELOG_CNT_COUNT.len - 1) (s.fld Reg.BUS_ELOG_CNT Reg.BUS_ELOG_CNT_COUNT + 1)
      ∧ t.reg Reg.BUS_ELOG = if s.fld Reg.BUS_ELOG Reg.BUS_ELOG_VALID = 1 then s.reg Reg.BUS_ELOG
        else 2 ^ 63 + (if w then 2 ^ 62 else 0) + cause * 2 ^ 58 + m.val * 2 ^ 54 + a % 2 ^ 40
    let link : Prop := 3 ≤ speed ∧ speed ≤ 5 ∧ (width = 1 ∨ width = 2 ∨ width = 4 ∨ width = 8)
    let early : Prop := m = 11 ∧ s.fld Reg.PWR_BOOT Reg.PWR_BOOT_STAGE < 4
    Yields .pcieLinkDown s (fun t => t.reg Reg.HIF_LINK = 0 ∧ Began s t 79)
    ∧ (link → Yields (.pcieLinkUp speed width) s (fun t => t.fld Reg.HIF_LINK Reg.HIF_LINK_SPEED = speed
        ∧ t.fld Reg.HIF_LINK Reg.HIF_LINK_WIDTH = width ∧ 79 ∉ t.flt.cond))
    ∧ (¬ link → Yields (.pcieLinkUp speed width) s (fun t => t = s))
    ∧ Yields (.pcieAerError true) s (fun t => t.flt.raised = s.flt.raised ++ [123])
    ∧ Yields (.pcieAerError false) s (fun t => t.flt.raised = s.flt.raised ++ [122])
    ∧ Yields (.gasketTimeout m addr wr) s (fun t => logged t wr addr 6 ∧ 77 ∈ t.flt.raised
        ∧ (2 ≤ m.val → m.val ≤ 9 → t.fld Reg.BUS_ISL_STATUS Reg.BUS_ISL_STATUS_MABORT = 1 ∧ 76 ∈ t.flt.raised))
    ∧ (m.val = p.val + 2 → s.podRuns p = true → Yields (.gasketTimeout m addr wr) s (fun t => Faulted s t p 6 ∧ p.val ∈ t.flt.raised))
    ∧ (early → Yields (.sysRemapWrite m data) s (fun t => t = { s with regs := t.regs, upset1 := t.upset1, upset2 := t.upset2 }
        ∧ t.reg Reg.SYS_REMAP = data % 2))
    ∧ (¬ early → Yields (.sysRemapWrite m data) s (fun t => logged t true Reg.SYS_REMAP 3 ∧ t.reg Reg.SYS_REMAP = s.reg Reg.SYS_REMAP))
    ∧ (mem.val < 2 → Yields (.eccError mem true m addr wr) s (fun t => logged t wr addr 8 ∧ 114 + mem.val ∈ t.flt.raised))
    ∧ Yields (.eccError 2 true m addr wr) s (fun t => logged t wr addr 8 ∧ 117 ∈ t.flt.raised)
    ∧ (m.val = p.val + 2 → s.podRuns p = true → mem ≠ 3 → Yields (.eccError mem true m addr wr) s (fun t => Faulted s t p 6))
    ∧ (mem.val < 2 → Yields (.eccError mem false m addr wr) s (fun t => t = s.raise (112 + mem.val)))
    ∧ Yields (.eccError 2 false m addr wr) s (fun t => t = s.raise 116)
    ∧ Yields (.eccError 3 false m addr wr) s (fun t => t = s.raise 118)

/-- R417 to R422, R424, R416, R417, R419, R424 to R426: at the end of a tick each raised source is pending; without a latched record the raises
open one of the highest class among them, else they merge into it; a clear counts when its cause is gone and its class is below C3; an
acknowledgement moves the record into the history; ERR_N and FATAL_N follow the pending sources. A new raise of a source that a seen record
holds calls for its reaction again (notes/assumptions/181: the model's reading). An acknowledgement and a clear wait for the end of the
tick; a class is written unless its source is of class C3 or the value is reserved; the reactions of Pod 3 to each source that a record
gains arm a relock and watch an unlocked timebase; Pod 3 acknowledges after ACK_HOLD, clears what FLT_AUTO_CLASS allows each second, relocks
and forces the outputs. -/
def Obligations.FaultRecordsAndReactions : Prop :=
  (∀ (s : State) (n b : Nat),
    let l := s.flt.raised.eraseDups
    let v := s.reg Reg.FLT_REC
    let known : Prop := ∀ k ∈ s.flt.raised, k < 128
    let only : Prop := known ∧ s.flt.raised ≠ [] ∧ s.flt.clears = [] ∧ s.flt.ack = none
    let quiet : Prop := s.flt.raised = [] ∧ n < 128 ∧ s.flt.clears = [(n, b)] ∧ s.flt.ack = none
    let ticks := Yields .faultCollectionTick s
    (known → ticks (fun t => ∀ k ∈ s.flt.raised, t.fltPend k = true))
    ∧ (only → s.fltLatched = false → s.flt.fseq < 2 ^ 32 →
      ticks (fun t => t.fltLatched = true ∧ t.flt.fseq = (s.flt.fseq + 1) % 2 ^ 32 ∧ t.flt.latchTick = s.tkp.rawcnt ∧
        let w := t.reg Reg.FLT_REC
        let first := getBits w 32 8
        recFseq w = s.flt.fseq ∧ recSrc w = srcMask l ∧ first ∈ l ∧ recClass w = s.fltClass first ∧ recClassFirst w = recClass w
          ∧ recMerges w = 0 ∧ ∀ k ∈ l, s.fltClass k < s.fltClass first ∨ (s.fltClass k = s.fltClass first ∧ first ≤ k)))
    ∧ (only → s.fltLatched = true →
      ticks (fun t => t.fltLatched = true ∧
        let w := t.reg Reg.FLT_REC
        recFseq w = recFseq v ∧ recSrc w = recSrc v ||| srcMask l ∧ recMerges w = min 65535 (recMerges v + l.length)
          ∧ recClass v ≤ recClass w ∧ (∀ k ∈ l, s.fltClass k ≤ recClass w)
          ∧ (recClass w = recClass v ∨ ∃ k ∈ l, recClass w = s.fltClass k)))
    ∧ (quiet → s.fltCause n = false → s.fltClass n < 3 → ticks (fun t => t.fltPend n = false))
    ∧ (quiet → s.fltCause n = true ∨ s.fltClass n = 3 → ticks (fun t => t.fltPend n = s.fltPend n))
    ∧ (s.flt.raised = [] → s.flt.clears = [] → s.flt.ack = some b → s.fltLatched = true →
      ticks (fun t => t.fltLatched = false ∧ t.reg (Reg.FLT_HIST 0) = v
        ∧ ∀ k < 15, t.reg (Reg.FLT_HIST (k + 1)) = s.reg (Reg.FLT_HIST k)))
    ∧ (known → s.flt.noted = some (n, b) → ticks (fun t => ∃ m, t.flt.noted = some (n, m)
        ∧ ∀ k < 128, m / 2 ^ k % 2 = if k ∈ s.flt.raised ∧ (k = 83 ∨ (57 ≤ k ∧ k ≤ 60)) then 0 else b / 2 ^ k % 2))
    ∧ ticks (fun t =>
        (t.fld Reg.FLT_STATUS Reg.FLT_STATUS_ERR = 1
          ↔ ∃ k < 128, t.fltPend k = true ∧ t.fld Reg.FLT_CFG Reg.FLT_CFG_ERR_CLASS ≤ t.fltClass k)
        ∧ (t.fld Reg.FLT_STATUS Reg.FLT_STATUS_FATAL = 1 ↔ ∃ k < 128, t.fltPend k = true ∧ t.fltClass k = 3)
        ∧ (t.flt.errLow = true → s.flt.errLow = false → 4 ∈ t.hif.msix)))
  ∧ (∀ (s : State) (m : Master) (w : Fin 5) (src : Fin 160) (n : SynId) (o : Fin 22) (data k : Nat) (lane : Fin 8),
    let v := s.reg Reg.FLT_REC
    let open_ : Prop := s.runsResident 3 = true ∧ s.fltLatched = true
    let hit (i : Nat) : Prop := recSrc v / 2 ^ i % 2 = 1 ∧ s.fltSeen.getD 0 / 2 ^ i % 2 = 0
    let later (t : State) : Prop := t = { s.at (s.flt.clearAt - 1) with flt := { s.flt with clears := t.flt.clears, clearAt := t.flt.clearAt } }
      ∧ t.flt.clearAt = t.tkp.rawcnt + 1250000001
    let allowed (i : Nat) : Prop := i < 128 ∧ s.fltPend i = true ∧ s.fltClass i ≤ s.paramN 0x301 ∧ s.fltCause i = false ∧ s.fltClass i ≠ 3
    let due := tabGet 0 s.flt.relock n
    let after (t0 id : Nat) : State := s.at (t0 + s.paramN id * 1000 * ticksPerUs)
    let safe : Prop := s.flt.tbWatch = some k ∧ s.runsResident 3 = true ∧ s.tbLocked = false ∧ s.paramN 0x304 ≠ 0
    (MayWrite s m Reg.FLT_ACK → data % 2 = 1 → s.fltLatched = true →
      Yields (.fltAck m data) s (fun t => t = { s with flt := { s.flt with ack := some (s.flt.ack.getD 0) } }))
    ∧ (MayWrite s m Reg.FLT_ACK → data % 2 = 0 ∨ s.fltLatched = false → Yields (.fltAck m data) s (fun t => t = s))
    ∧ (MayWrite s m (Reg.FLT_PEND w) →
      Yields (.fltPendClear m w data) s (fun t => t = { s with flt := { s.flt with clears := t.flt.clears } }
        ∧ t.flt.clears = s.flt.clears ++ ((List.range 32).filter (fun i => data / 2 ^ i % 2 = 1)).map (fun i => (32 * w.val + i, 0))))
    ∧ (MayWrite s m (Reg.FLT_CLASS src) → src.val < 128 → fltDefaultClass src ≠ 3 → data % 4 ≠ 3 →
      Yields (.fltClassWrite m src data) s (fun t => t.fltClass src = data % 4 ∧ (t.fld Reg.FLT_STATUS Reg.FLT_STATUS_ERR = 1
          ↔ ∃ i < 128, t.fltPend i = true ∧ t.fld Reg.FLT_CFG Reg.FLT_CFG_ERR_CLASS ≤ t.fltClass i)))
    ∧ (MayWrite s m (Reg.FLT_CLASS src) → 128 ≤ src.val ∨ fltDefaultClass src = 3 ∨ data % 4 = 3 →
      Yields (.fltClassWrite m src data) s (fun t => t = s))
    ∧ (s.runsResident 3 = true → s.fltLatched = true ∨ s.fltSeen.isSome = true →
      Yields .faultReaction s (fun t => t.flt.noted = some (recFseq v, recSrc v)
        ∧ tabGet 0 t.flt.relock n = (if hit (57 + n.val) then s.tkp.rawcnt + 1 else due)
        ∧ t.flt.tbWatch = (if hit 83 ∧ s.paramN 0x304 ≠ 0 ∧ s.tbLocked = false then some s.tkp.rawcnt else s.flt.tbWatch)))
    ∧ (s.flt.noted = some (recFseq v, recSrc v) ∨ (s.fltLatched = false ∧ s.fltSeen = none) → Yields .faultReaction s (fun t => t = s))
    ∧ (open_ → Yields .ackHoldExpire s (fun t => t.tkp = (after s.flt.latchTick 0x302).tkp ∧ t.flt.ack = some (s.flt.ack.getD 4)
        ∧ t.flt.clearAt = t.tkp.rawcnt + 1250000001 ∧ (s.paramN 0x301 ≠ 0xFF → ∀ i, allowed i → (i, 4) ∈ t.flt.clears)))
    ∧ (s.runsResident 3 = true → s.flt.clearAt ≠ 0 → s.paramN 0x301 ≠ 0xFF →
      Yields .autoClear s (fun t => later t ∧ ∀ i, allowed i → (i, 4) ∈ t.flt.clears))
    ∧ (s.runsResident 3 = true → s.flt.clearAt ≠ 0 → s.paramN 0x301 = 0xFF →
      Yields .autoClear s (fun t => later t ∧ t.flt.clears = s.flt.clears))
    ∧ (s.runsResident 3 = false ∨ s.flt.clearAt = 0 → Yields .autoClear s (fun t => t = s))
    ∧ (due ≠ 0 → s.runsResident 3 = true → s.fld (Reg.SYN_CTRL n) Reg.SYN_CTRL_EN = 1 → s.synSt n ≠ 3 → s.synSt n ≠ 6 →
      Yields (.relockWaitExpire n) s (fun t => tabGet 0 t.flt.relock n = 0 ∧ t.synSt n = 2 ∧ t.tkp = (after (due - 1) 0x303).tkp))
    ∧ (due ≠ 0 → s.runsResident 3 = true → s.synSt n = 3 →
      Yields (.relockWaitExpire n) s (fun t => tabGet 0 t.flt.relock n = 0 ∧ t.syn = s.syn))
    ∧ (safe → Yields .tbSafeExpire s (fun t => t.flt.tbWatch = none ∧ t.tkp = (after k 0x304).tkp
        ∧ (s.outEn o = true → (t.outp o).forced = true ∧ t.flt.tbForced / 2 ^ o.val % 2 = 1)
        ∧ (s.outEn o = false → t.outp o = s.outp o)))
    ∧ (s.flt.tbWatch = some k → s.tbLocked = true →
      Yields .tbSafeExpire s (fun t => t = { s with flt := { s.flt with tbWatch := none } }))
    ∧ Yields (.cryptoLaneFault lane) s (fun t => Began s t (8 + lane.val) ∧ t = { s with flt := t.flt }))

/-- R10 to R12, R79, R367, R387, R388, R400, R401, R404, R408: a write that the matrix delivers changes its bytes of DRAM, SRAM or DMEM and no other; a register of the SYS
island takes it field by field, or it is dropped while BUSY; a turned-away access is logged with its cause; reads of a register's upper words
come from the holding copy; a management transaction with a good CRC is an access of SPIM. -/
def Obligations.BusAccesses : Prop :=
  ∀ (s : State) (m : Master) (p : PodId) (a n data o x : Nat) (r : RegRow) (bytes : List Byte) (c v : Nat) (mm : Nat) (late : Bool),
    let ok (wr : Bool) : Prop := s.busCause m a n wr = 0
    let cause := s.busCause m a n true
    let rcause := s.busCause m a 4 false
    let logged (t : State) (who : Nat) (w : Bool) (k : Nat) : Prop :=
      t.fld Reg.BUS_ELOG_CNT Reg.BUS_ELOG_CNT_COUNT
        = min (2 ^ Reg.BUS_ELOG_CNT_COUNT.len - 1) (s.fld Reg.BUS_ELOG_CNT Reg.BUS_ELOG_CNT_COUNT + 1)
      ∧ t.reg Reg.BUS_ELOG = if s.fld Reg.BUS_ELOG Reg.BUS_ELOG_VALID = 1 then s.reg Reg.BUS_ELOG
        else 2 ^ 63 + (if w then 2 ^ 62 else 0) + k * 2 ^ 58 + who * 2 ^ 54 + a % 2 ^ 40
    let stored (before after : Nat → Byte) : Prop :=
      after x = if o ≤ x ∧ x < o + n then BitVec.ofNat 8 (data / 256 ^ (x - o)) else before x
    let sys : Prop := a / 0x10000 = 0x4000 ∧ a ≠ Reg.SYS_SNAP ∧ regAt a = some (r, a) ∧ r.bytes = 4 ∧ n = 4 ∧ s.reg a < 2 ^ 32
    let u : State := { s with hif := { s.hif with mgmtReply := [] } }
    let wr (good : Prop) : Prop := bytes = [0x02] ++ natBe 5 a ++ natLe 4 data ++ [BitVec.ofNat 8 c] ∧ c < 256 ∧ a < 2 ^ 40 ∧ data < 2 ^ 32
      ∧ (c = crc8 ([0x02] ++ natBe 5 a ++ natLe 4 data) ↔ good)
    let rd : Prop := bytes.take 6 = [0x0B] ++ natBe 5 a ∧ a < 2 ^ 40 ∧ 6 ≤ bytes.length ∧ (s.busGet 1 a 4).hif.lastRead = some (mm, v, c)
    let asWrite (t : State) : Prop := exec (.registerWrite 1 a 4 data) u = .next t
    (ok true → s.target a n = some (.dram, o) →
      Yields (.registerWrite m a n data) s (fun t => t = { s with dram := t.dram } ∧ stored (byteAt zeros s.dram) (byteAt zeros t.dram)))
    ∧ (ok true → s.target a n = some (.sram, o) →
      Yields (.registerWrite m a n data) s (fun t => t = { s with sram := t.sram } ∧ stored (byteAt zeros s.sram) (byteAt zeros t.sram)))
    ∧ (ok true → s.target a n = some (.reg, a) → podMemAt a = some (p.val, o, true) →
      Yields (.registerWrite m a n data) s (fun t => OnlyPod s t p ∧ t.pod p = { s.pod p with dmem := (t.pod p).dmem }
        ∧ stored (byteAt (s.dmemDef p) (s.pod p).dmem) (byteAt (s.dmemDef p) (t.pod p).dmem)))
    ∧ (ok true → sys → s.islBusy a = false →
      Yields (.registerWrite m a n data) s (fun t => t.reg a = r.merge (s.reg a) (data % 2 ^ 32) (data % 2 ^ 32)
        ∧ (r.postsIn 0 32 = true → Posting t a)))
    ∧ (ok true → sys → s.islBusy a = true → r.postsIn 0 32 = true → Yields (.registerWrite m a n data) s (fun t => t = s.wdrop a))
    ∧ (cause ≠ 0 → Yields (.registerWrite m a n data) s (fun t => logged t m true cause ∧ t.dram = s.dram ∧ t.sram = s.sram
        ∧ t.pods = s.pods))
    ∧ (rcause ≠ 0 → Yields (.holdingCopyRead m a) s (fun t => logged t m false rcause ∧ t.hif.lastRead = some (m.val, 0, rcause)))
    ∧ (rcause = 0 → s.target a 4 = some (.reg, a) → podMemAt a = none → regAt a = some (r, x) → a ≠ x →
      Yields (.holdingCopyRead m a) s (fun t => t = { s with hif := t.hif }
        ∧ t.hif.lastRead = some (m.val, getBits (tabGet 0 s.hif.hold x) (8 * (a - x)) 32, 0)))
    ∧ (rcause = 0 → s.target a 4 = some (.reg, a) → podMemAt a = none → regAt a = some (r, a) → r.bytes ≠ 4 →
      nth a (Reg.MAC_TSQ_ENTRY 0) 0x10000 9 = none →
      Yields (.holdingCopyRead m a) s (fun t => let y := (s.scrub a).regView a
        tabGet 0 t.hif.hold a = y - (y &&& r.woMask) ∧ t.hif.lastRead = some (m.val, (y - (y &&& r.woMask)) % 2 ^ 32, 0)))
    ∧ (wr True → Yields (.spiTransaction bytes late) s asWrite)
    ∧ (wr True → i2cDenied a 4 = false → Yields (.i2cTransaction bytes late) s asWrite)
    ∧ (wr True → i2cDenied a 4 = true → Yields (.i2cTransaction bytes late) s (fun t => logged t 1 true 3))
    ∧ (wr False → Yields (.spiTransaction bytes late) s (fun t => t = (u.incFld Reg.SYS_MGMT_CNT Reg.SYS_MGMT_CNT_CRCERR 1)))
    ∧ (rd → Yields (.spiTransaction bytes false) s (fun t =>
        t.hif.mgmtReply = mgmtReply (bytes.take 6) (if c = 0 then 0 else 1) 4 v))
    ∧ (rd → bytes[6]? = some (BitVec.ofNat 8 (crc8 (bytes.take 6))) → Yields (.i2cTransaction bytes false) s (fun t =>
        t.hif.mgmtReply = mgmtReply (bytes.take 6) (if c = 0 then 0 else 1) 4 v))
    ∧ (rd → Yields (.spiTransaction bytes true) s (fun t => t.hif.mgmtReply = mgmtReply (bytes.take 6) 3 4 v))

/-- R104, R106 to R108, R112, R115, R118, R126: Pod 1 takes one record after another: a pulse near its expectation gives a phase value, one far from it is counted, a
record without a value counts as missing; each VC0 second it evaluates and beats; 3 s without a beat make every available reference SUSPECT; a ToD
message in its slot labels its pulse or is counted as rejected, under the configuration in force (R127). -/
def Obligations.ReferenceQualification : Prop :=
  ∀ (s : State) (m : RefId) (r : MeasRec) (rest : List MeasRec) (k : Nat) (n : Fin 4) (msg : List Byte) (tai : Int),
    let u := s.at k
    let takes (P : State → Prop) : Prop :=
      s.runsResident 1 = true → s.tdc.qPod1 = r :: rest → Yields .qualRecord s (fun t => t.tdc.qPod1 = rest ∧ P t)
    let of_ : Prop := s.refOfChan r.chan = some (m.val, false)
    let void : Prop := r.flags % 2 = 1 ∨ r.flags / 64 % 2 = 1
    let tr := s.track m
    let sec := (r.gt + fuSec / 2) / fuSec
    let x := fuToPs (r.gt - sec * fuSec)
    let near := tr.accepts r.gt x ((s.param 0x107 : Int) * 1000000000)
    let sel (t : State) : Nat := ((List.range 18).find? (fun j => decide (t.refSt j = 3))).getD 0x1F
    let stalls : Prop := s.ref.hbTick + 3750000000 ≤ u.tkp.rawcnt ∧ s.fld Reg.REF_ISL_STATUS Reg.REF_ISL_STATUS_STALL = 0
    let cnt := Reg.REF_TOD_CNT n
    let counts (t : State) (f : Fld) : Prop := t.fld cnt f = min (2 ^ f.len - 1) (s.fld cnt f + 1)
    let cfg := s.todCfg n
    let on : Prop := cfg % 2 = 1
    let before := (u.todPulse n).1
    let inSlot : Prop := readTod s.leapTable (cfg / 16 % 4) msg = .label tai ∧ u.todSlot n = true
    let follows : Prop := ∀ l, tabGet none s.ref.todLast n = some l → tai = l + 1
    takes (fun t => s.refOfChan r.chan = none → t.ref = s.ref)
    ∧ takes (fun t => of_ → void → (t.track m).hist = tr.hist ∧ tr.missed < (t.track m).missed ∧ (t.track m).lastFlags = r.flags)
    ∧ takes (fun t => of_ → ¬ void → 8 ≤ m.val → near = true → (t.track m).hist = (tr.push sec x).hist ∧ (t.track m).expect = some x
        ∧ (t.track m).lastPulse = some sec ∧ (t.track m).noStop = 0)
    ∧ takes (fun t => of_ → ¬ void → 8 ≤ m.val → near = false → (t.track m).hist = tr.hist
        ∧ t.fld (Reg.REF_CNT m) Reg.REF_CNT_REJECT
          = min (2 ^ Reg.REF_CNT_REJECT.len - 1) (s.fld (Reg.REF_CNT m) Reg.REF_CNT_REJECT + 1))
    ∧ takes (fun t => of_ → ¬ void → m.val < 8 → (t.track m).accN = tr.accN + 1 ∧ (t.track m).noStop = 0 ∧ (t.track m).hist = tr.hist)
    ∧ (s.tdc.qPod1 = [] ∨ s.runsResident 1 = false → Yields .qualRecord s (fun t => t = s))
    ∧ (s.runsResident 1 = true → s.tbRuns = true → s.ref.evalAt ≠ some u.vc0Sec →
      Yields (.refEvaluation k) s (fun t => t.ref.evalAt = some u.vc0Sec ∧ t.ref.hbTick = t.tkp.rawcnt ∧ 92 ∉ t.flt.cond
        ∧ t.fld Reg.REF_ISL_STATUS Reg.REF_ISL_STATUS_STALL = 0 ∧ t.fld Reg.REF_SEL Reg.REF_SEL_TRACE = sel t))
    ∧ (s.runsResident 1 = false ∨ s.tbRuns = false ∨ s.ref.evalAt = some u.vc0Sec → Yields (.refEvaluation k) s (fun t => t = u))
    ∧ (stalls → Yields (.refQualStall k) s (fun t => t.fld Reg.REF_SEL Reg.REF_SEL_TRACE = 0x1F
        ∧ t.fld Reg.REF_ISL_STATUS Reg.REF_ISL_STATUS_STALL = 1 ∧ 92 ∈ t.flt.cond
        ∧ (s.refOk m = true → t.refSt m = 4 ∧ t.fld (Reg.REF_STATE m) Reg.REF_STATE_CAUSE = 0x0D)
        ∧ (s.refOk m = false → t.reg (Reg.REF_STATE m) = s.reg (Reg.REF_STATE m) ∧ t.track m = tr)))
    ∧ (¬ stalls → Yields (.refQualStall k) s (fun t => t = u))
    ∧ (on → Yields (.todMessageRx n msg true k) s (fun t => counts t Reg.REF_TOD_CNT_REJ ∧ t.ref.track = s.ref.track))
    ∧ (on → inSlot → follows → cfg / 256 % 2 = 0 →
      Yields (.todMessageRx n msg false k) s (fun t => counts t Reg.REF_TOD_CNT_ACC ∧ (t.track (8 + n)).labels = (before + 1, tai) :: (s.track (8 + n)).labels.take 1))
    ∧ (on → inSlot → follows → cfg / 256 % 2 = 1 → (s.track (8 + n)).lastPulse = some before →
      Yields (.todMessageRx n msg false k) s (fun t => counts t Reg.REF_TOD_CNT_ACC ∧ (t.track (8 + n)).label = some (before, tai)))
    ∧ (on → inSlot → follows → cfg / 256 % 2 = 1 → (s.track (8 + n)).lastPulse ≠ some before →
      Yields (.todMessageRx n msg false k) s (fun t => counts t Reg.REF_TOD_CNT_ACC ∧ t.track (8 + n) = s.track (8 + n)))
    ∧ (on → inSlot → ¬ follows →
      Yields (.todMessageRx n msg false k) s (fun t => counts t Reg.REF_TOD_CNT_REJ ∧ t.ref.track = s.ref.track))
    ∧ (¬ on → Yields (.todMessageRx n msg false k) s (fun t => t = u))

/-- R23, R131, R133, R134, R136, R149, R150, R154, R155, R170, R376, R174 to R176, R181, R182, R195: the EAU updates its members' filters once
an interval and tells the Pods; Pod 0 updates the ensemble once after it and freezes it under a power warning; an interval without a DONE
steering counts, up to the stall; SET_TIME issues its step, and a MEMBER_RESET starts its members' filters anew at the next update. The EAU
takes its records when it updates (notes/assumptions/170: the model's choice). The Onion of a span holds what its inputs brought and totals
its layers, all ones while VC0 has no time; a latch copies the record of the span; a written L4 makes a new calibration epoch due. -/
def Obligations.EnsembleAndOnion : Prop :=
  (∀ (s : State) (k : Nat) (b : Int) (i : MemberId) (p : PodId) (e : MboxEntry) (rest : List MboxEntry),
    let u := s.at k
    let v := u.ensInterval
    let bv := v.ensBoundary
    let eauDue : Prop := s.tbRuns = true ∧ bv + 10 ≤ v.nowMs ∧ v.ens.eauAt ≠ some bv
    let ensDue : Prop := s.ens.eauAt = some b ∧ s.runsResident 0 = true ∧ s.tbRuns = true ∧ s.ens.updAt ≠ some b ∧ b = u.ensBoundary
    let dog : Prop := s.tbRuns = true ∧ u.ensBoundary + 30 ≤ u.nowMs ∧ s.ens.dogAt ≠ some u.ensBoundary
    let d : State := { u with ens := { s.ens with dogAt := some u.ensBoundary, doneInInterval := false } }
    let stall := s.fld Reg.ENS_ISL_STATUS Reg.ENS_ISL_STATUS_STALL
    let cnt := min (2 ^ Reg.ENS_SWDOG_COUNT.len - 1) (s.fld Reg.ENS_SWDOG Reg.ENS_SWDOG_COUNT + 1)
    let lim := min 64 (max 2 (s.fld Reg.ENS_SWDOG Reg.ENS_SWDOG_LIMIT))
    let missed : Prop := s.ens.doneInInterval = false ∧ s.pwrWarn = false
    let checks : Prop := stall = 1 ∧ s.bound.stallAt ≠ some u.vc0Sec ∧ s.tbRuns = true
    let lostDue : Prop := (s.tsSt = 3 ∨ s.tsSt = 0) ∧ s.timeSet = true ∧ s.overLimit = true
    let front (type : Nat) : Prop := (s.pod 0).mbox = e :: rest ∧ s.runsResident 0 = true ∧ e.type = type
    let raw := leNat (e.payload.take 16)
    let sec := toSigned 64 (leNat ((e.payload.drop 16).take 8))
    let took (t : State) : Prop := (t.pod 0).mbox = rest
    let late : Prop := sec * fuSec < s.vcNow 0 + fuSec / 10
    let far : Prop := gtRawOk raw = false ∨ s.vcNow 0 + 1000 * fuSec < sec * fuSec
    let room : Prop := (s.pod 0).complRoom = true ∧ (s.pod 0).acts.length < 64
    let refuses (t : State) : Prop := took t ∧ (t.pod 0).acts = (s.pod 0).acts ∧ t.ens = s.ens
    let which := (e.payload.headD 0).toNat
    (eauDue → Yields (.eauUpdate k) s (fun t => t.ens.eauAt = some bv ∧ t.ens.updates = (s.ens.updates + 1) % 2 ^ 32 ∧ t.ens.u0 = 0
        ∧ (t.pod p).events = (s.pod p).events ||| 16
        ∧ (s.runsResident 0 = false → i ≠ 0 → (s.mem i).src < 18 → t.mem i = (s.mem i).update (s.mem 0) s.ens.tau s.ens.u0 s.ens.outlierK
          (u.eauTake.memX (s.mem i).src (lastSec bv) bv)) ∧ t.tdc.qEau = []))
    ∧ (¬ eauDue → Yields (.eauUpdate k) s (fun t => t = u))
    ∧ (ensDue → Yields (.ensUpdate k) s (fun t => t.ens.updAt = some b ∧ t.bound.ckpt = some b
        ∧ (s.pwrWarn = true → t.fld Reg.ENS_HOLD Reg.ENS_HOLD_FREEZE = 1)))
    ∧ (¬ ensDue → Yields (.ensUpdate k) s (fun t => t = u))
    ∧ (dog → ¬ missed → Yields (.steerWatchdogCount k) s (fun t => t = d))
    ∧ (dog → missed → stall = 0 → lim ≤ cnt → Yields (.steerWatchdogCount k) s (fun t =>
        t.fld Reg.ENS_SWDOG Reg.ENS_SWDOG_COUNT = cnt ∧ t.fld Reg.ENS_ISL_STATUS Reg.ENS_ISL_STATUS_STALL = 1 ∧ 94 ∈ t.flt.cond
        ∧ t.twn.pull = false ∧ t.twn.claim = false))
    ∧ (dog → missed → stall = 1 ∨ cnt < lim → Yields (.steerWatchdogCount k) s (fun t =>
        t = d.setFld Reg.ENS_SWDOG Reg.ENS_SWDOG_COUNT cnt))
    ∧ (¬ dog → Yields (.steerWatchdogCount k) s (fun t => t = u))
    ∧ (checks → lostDue → Yields (.stallBoundCheck k) s (fun t => t.tsSt = 4 ∧ t.fld Reg.ENS_TS Reg.ENS_TS_CAUSE = 6
        ∧ t.bound.stallAt = some u.vc0Sec))
    ∧ (checks → ¬ lostDue → Yields (.stallBoundCheck k) s (fun t => t = { u with bound := { s.bound with stallAt := some u.vc0Sec } }))
    ∧ (¬ checks → Yields (.stallBoundCheck k) s (fun t => t = u))
    ∧ (front 1 → ¬ late → s.stepRefused 0 = false → ¬ far → room →
      Yields .setTime s (fun t => took t ∧ ∃ a, (t.pod 0).acts = (s.pod 0).acts ++ [a] ∧ a.kind = 1 ∧ a.op = 0 ∧ a.vcChg = 0
        ∧ a.target = sec * fuSec ∧ a.gt = gtOfRaw raw ∧ ∃ x, t.ens.steps = s.ens.steps ++ [x] ∧ x.tag = a.tag))
    ∧ (front 1 → late ∨ s.stepRefused 0 = true ∨ far → Yields .setTime s refuses)
    ∧ ((s.pod 0).mbox = [] ∨ s.runsResident 0 = false → Yields .setTime s (fun t => t = s) ∧ Yields .memberReset s (fun t => t = s))
    ∧ (front 2 → 8 ≤ which ∨ s.memStat which < 2 → Yields .memberReset s refuses)
    ∧ (front 2 → which = i.val → 2 ≤ s.memStat i →
      Yields .memberReset s (fun t => took t ∧ t.mem i = { s.mem i with resetDue := true } ∧ (t.pod 0).acts = (s.pod 0).acts))
    ∧ (ensDue → Yields (.ensUpdate k) s (fun t => (t.mem i).resetDue = false))
    ∧ ((s.mem i).resetDue = true → 2 ≤ s.memStat i → let t := s.memReset i
      t.memStat i = 2 ∧ (t.mem i).init = true ∧ (t.mem i).learnMs = 0
        ∧ (i = 0 → 95 ∉ t.flt.cond ∧ ∀ j : MemberId, 2 ≤ s.memStat j → (t.mem j).init = true)))
  ∧ (∀ (s : State) (m : Master) (k data l0 l1 fl src : Nat) (j : PointId) (point : Nat),
    let u := s.at k
    let n := u.vcNow 0 / (10000000 * fuNs)
    let due : Prop := s.tbRuns = true ∧ s.bound.span ≠ some n
    let may : Prop := MayPost s m Reg.ONION_LATCH
    (due → Yields (.spanEvaluation k) s (fun t => let b := t.bound
        b.span = some n ∧ b.spanEnd = (n + 1) * 10000000 * fuNs ∧ b.inputs = []
        ∧ b.total = (if s.firstDone 0 = true then min (2 ^ 48 - 1) (b.l0 + (b.l1 + b.bo + b.widened 1) + b.l2 + b.l3) else 2 ^ 48 - 1)))
    ∧ (due → s.bound.inputs = [.src l0 l1 fl src] → Yields (.spanEvaluation k) s (fun t => t.bound.l0 = l0 ∧ t.bound.l1 = l1
        ∧ t.bound.source = src))
    ∧ (due → s.bound.inputs = [.buildOut l0 src] → Yields (.spanEvaluation k) s (fun t => t.bound.bo = l0 ∧ t.bound.l0 = s.bound.l0))
    ∧ (¬ due → Yields (.spanEvaluation k) s (fun t => t = u))
    ∧ (may → data % 32 = point → point < 19 ∨ point = 31 → data / 256 % 2 = 1 →
      Yields (.onionLatch m data) s (fun t => Posting t Reg.ONION_LATCH ∧ t.fld Reg.ONION_LATCH Reg.ONION_LATCH_GO = 1
        ∧ t.fld Reg.ONION_LATCH Reg.ONION_LATCH_POINT = point ∧ t.bound.latch = some (leNat (s.onionBytes point))))
    ∧ (may → data / 256 % 2 = 0 → Yields (.onionLatch m data) s (fun t => Posting t Reg.ONION_LATCH ∧ t.bound = s.bound))
    ∧ (MayPost s m (Reg.ONION_L4 j) →
      Yields (.onionL4Write m j data) s (fun t => Posting t (Reg.ONION_L4 j) ∧ t.reg (Reg.ONION_L4 j) = data % 2 ^ 32
        ∧ t.bound.inputs = s.bound.inputs ++ [.cal 0 j.val (s.reg (Reg.ONION_L4 j)) (data % 2 ^ 32)])))

/-- R185, R187 to R189, R191, R196: a record enters staging with its alive value, or is lost when staging is full; while DRAM takes writes and no commit of the
DSEQ waits, START and then the oldest staged record takes the next DSEQ and its 64 bytes of the ring; the journal starts only in free DRAM; an
attestation waits for its signature, for which SGN loads the key at once when it is idle, and fails without a key or when it is aborted. -/
def Obligations.JournalRecords : Prop :=
  ∀ (s : State) (m : Master) (src type data k : Nat) (pl : List Byte) (r : JRec) (rest : List JRec) (a : AttPend) (key : List Byte) (e : Nat) (ky : Nat × List Byte),
    let id := src % 256
    let n := s.jrn.staging.length
    let alive := tabGet 0 s.jrn.alive id
    let ty := if src < 8 ∧ s.resident src = false then type % 2 ^ 16 ||| 0x8000 else type % 2 ^ 16
    let lostOne (t : State) : Prop := t.fld Reg.JRN_LOST Reg.JRN_LOST_COUNT
      = min (2 ^ Reg.JRN_LOST_COUNT.len - 1) (s.fld Reg.JRN_LOST Reg.JRN_LOST_COUNT + 1)
    let new : JRec := ⟨s.vcNow 0, ty, id, alive, pl⟩
    let ready : Prop := s.jrnEn = true ∧ s.dramUp = true ∧ ∀ q ∈ s.mram.queue, q.rid ≠ ridJrn
    let writes : Prop := ready ∧ s.jrn.att = none ∧ s.jrn.start = none ∧ s.jrn.stageLost = 0 ∧ s.jrn.staging = r :: rest
    let d := s.jrn.next
    let may : Prop := MayPost s m Reg.JRN_CFG
    let size := data / 256 % 32
    let free := s.dramFree s.jrnBase (2 ^ min 30 (max 20 size))
    let u := s.at k
    let due : Prop := ready ∧ s.jrn.start = none ∧ s.jrn.att = none ∧ s.jrn.attAt ≠ some u.vc0Sec ∧ u.vc0Sec % s.attPeriod = 0
    let slot := s.fld Reg.JRN_ATT Reg.JRN_ATT_SLOT
    let failed (t : State) : Prop := t.jrn.att = none ∧ t.jrn.span = [] ∧ t.fld Reg.JRN_ISL_STATUS Reg.JRN_ISL_STATUS_ATT_FAIL = 1
      ∧ 100 ∈ t.flt.raised
    (n < (if id < 8 then 31744 else 32768) →
      Yields (.journalAppend src type pl) s (fun t => t = { s with jrn := t.jrn } ∧ t.jrn.staging = s.jrn.staging ++ [new]
        ∧ tabGet 0 t.jrn.alive id = (alive + 1) % 256))
    ∧ (id < 8 → 31744 ≤ n → Yields (.journalAppend src type pl) s (fun t => t.jrn = { s.jrn with stageLost := s.jrn.stageLost + 1 } ∧ lostOne t))
    ∧ (8 ≤ id → 32768 ≤ n →
      Yields (.journalAppend src type pl) s (fun t => t.jrn.staging = s.jrn.staging.drop 1 ++ [new] ∧ lostOne t
        ∧ t.jrn.stageLost = s.jrn.stageLost + 1))
    ∧ (writes → d % 256 ≠ 255 → s.jrn.run = none → s.unarchived d = false →
      Yields .journalRecordWrite s (fun t => t.jrn.staging = rest ∧ t.jrn.next = (d + 1) % 2 ^ 32 ∧ t.reg Reg.JRN_WSEQ = d
        ∧ bytesAt zeros t.dram (s.jrnBase + d % (s.jrnSize / 64) * 64) 64 = jrecBytes d r
        ∧ t.jrn.chain = s.jrn.chain ++ jrecBytes d r))
    ∧ (writes → Yields .journalRecordWrite s (fun t => t.jrn.staging = rest))
    ∧ (ready → s.jrn.att = none → s.jrn.start = some r →
      Yields .journalRecordWrite s (fun t => t.jrn.start = none ∧ t.jrn.staging = s.jrn.staging ∧ t.jrn.next = (d + 1) % 2 ^ 32
        ∧ bytesAt zeros t.dram (s.jrnBase + d % (s.jrnSize / 64) * 64) 64 = jrecBytes d r))
    ∧ (¬ ready ∨ s.jrn.att ≠ none → Yields .journalRecordWrite s (fun t => t = s))
    ∧ (may → s.jrnEn = false → data % 2 = 1 → free = true →
      Yields (.jrnEnable m data) s (fun t => Posting t Reg.JRN_CFG ∧ t.jrnEn = true ∧ t.fld Reg.JRN_CFG Reg.JRN_CFG_SIZE = size
        ∧ t.jrn.sinceEn = 0 ∧ t.reg Reg.JRN_ACK = (d + 2 ^ 32 - 1) % 2 ^ 32))
    ∧ (may → (s.jrnEn = false ∧ data % 2 = 1 ∧ free = false) ∨ (s.jrnEn = true ∧ size ≠ s.fld Reg.JRN_CFG Reg.JRN_CFG_SIZE) →
      Yields (.jrnEnable m data) s (fun t => t.reg Reg.JRN_CFG = s.reg Reg.JRN_CFG ∧ t.jrn = s.jrn
        ∧ t.fld Reg.JRN_ISL_STATUS Reg.JRN_ISL_STATUS_CFG_REJ = 1))
    ∧ (due → s.keyFor slot [4] = .inr key →
      Yields (.attestation k) s (fun t => t.jrn.attAt = some u.vc0Sec
        ∧ ∃ x, t.jrn.att = some x ∧ x.slot = slot ∧ x.time = u.vcNow 0 ∧ x.alg = s.attAlg slot
        ∧ x.aborted = false ∧ (s.sgnBusy = false → x.key = some (s.meta slot Reg.KEY_SLOT_META_TYPE, key))))
    ∧ (due → s.keyFor slot [4] = .inl e → Yields (.attestation k) s failed)
    ∧ (¬ due → Yields (.attestation k) s (fun t => t = u))
    ∧ (s.jrn.att = some a → a.aborted = false → a.key = some ky →
      Yields (.attSig k) s (fun t => t.jrn.att = none ∧ t.jrn.span = [] ∧ t.jrn.spanFirst = none
        ∧ t.fld Reg.JRN_ISL_STATUS Reg.JRN_ISL_STATUS_ATT_FAIL = s.fld Reg.JRN_ISL_STATUS Reg.JRN_ISL_STATUS_ATT_FAIL))
    ∧ (s.jrn.att = some a → a.aborted = true → Yields (.attSig k) s failed)
    ∧ (s.jrn.att = some a → a.aborted = false → a.key = none → s.sgnBusy = false → Yields (.attSig k) s failed)
    ∧ (s.jrn.att = none ∨ (s.jrn.att = some a ∧ a.aborted = false ∧ a.key = none ∧ s.sgnBusy = true) → Yields (.attSig k) s (fun t => t = u))

/-- R323 to R327, R331, R333 to R335: with an open vault a key enters its slot with the next generation and its parent's, and its command completes after
the Husk is committed; an invalidation and a free erase the key; a refused command, a missing signature and a vault that is not OPEN leave the
store as it is. -/
def Obligations.KeyStore : Prop :=
  ∀ (s : State) (q slot parent kind use type : Nat) (key label : List Byte) (auth : Option KeyAuth) (x : KeyAuth) (e : Nat),
    let open_ (op : Nat) : Prop := Starts s q op ∧ s.vault = 1 ∧ s.fld Reg.KEY_STATUS Reg.KEY_STATUS_SIGNED_ADMIN = 0
    let asked (t : State) (op : Nat) : Prop := ∃ r ∈ t.mram.queue, r.rid = ridHusk slot ∧ (q, op, []) ∈ r.resp
    let placed (t : State) (op kd : Nat) : Prop := t.keySt slot = 1 ∧ t.keyGen slot = s.keyGen slot + 1
      ∧ t.meta slot Reg.KEY_SLOT_META_PARENT = parent ∧ t.meta slot Reg.KEY_SLOT_META_KIND = kd
      ∧ t.meta slot Reg.KEY_SLOT_META_USE = use ∧ t.meta slot Reg.KEY_SLOT_META_TYPE = type
      ∧ (t.keySlot slot).pgen = s.keyGen parent ∧ asked t op
    let same (t : State) : Prop := Answered t q ∧ t.key = s.key ∧ t.mram = s.mram ∧ t.reg (Reg.KEY_SLOT_META slot) = s.reg (Reg.KEY_SLOT_META slot)
    let pair : Prop := type = 5 ∨ type = 6
    let live : Prop := 2 ≤ slot ∧ slot < 4096 ∧ s.keySt slot = 1
    let signed : Prop := Starts s q 0x0500 ∧ s.vault = 1 ∧ s.fld Reg.KEY_STATUS Reg.KEY_STATUS_SIGNED_ADMIN = 1 ∧ s.verifySlot = true
    let write := Instr.keyWrite q slot parent kind use type key
    let gen := Instr.keyGenerate q slot parent kind use type
    let derive := Instr.keyDerive q slot parent use type label
    let len := label.length
    (open_ 0x0500 → s.placeFail slot parent kind use type = none → key.length = keyLen type → (pair → Config.pointOk type key = true) →
      Yields (write auth) s (fun t => placed t 0x0500 kind ∧ (t.keySlot slot).key = key))
    ∧ (open_ 0x0500 → s.placeFail slot parent kind use type = some e → Yields (write auth) s same)
    ∧ (open_ 0x0501 → s.placeFail slot parent kind use type = none → ¬ pair → s.key.rbgFail = false →
      Yields (gen auth) s (fun t => placed t 0x0501 kind ∧ (t.keySlot slot).key.length = keyLen type))
    ∧ (open_ 0x0501 → s.placeFail slot parent kind use type = none → pair ∨ s.key.rbgFail = true → Yields (gen auth) s same)
    ∧ (open_ 0x0502 → s.placeFail slot parent 2 use type = none → type = 1 ∨ type = 2 → s.meta parent Reg.KEY_SLOT_META_KIND = 1 →
      1 ≤ len → len ≤ 32 →
      Yields (derive auth) s (fun t => placed t 0x0502 2
        ∧ (t.keySlot slot).key = Config.hkdf (s.keySlot parent).key (label ++ natLe 1 use ++ natLe 1 type) (keyLen type)))
    ∧ (open_ 0x0502 → s.placeFail slot parent 2 use type = some e → Yields (derive auth) s same)
    ∧ (open_ 0x0503 → live → s.keyGen slot ≠ 0xFFFFFFFF →
      Yields (.keyInvalidate q slot auth) s (fun t => t.keySt slot = 2 ∧ t.keyGen slot = s.keyGen slot + 1
        ∧ (t.keySlot slot).key = [] ∧ asked t 0x0503))
    ∧ (open_ 0x0503 → ¬ live → Yields (.keyInvalidate q slot auth) s same)
    ∧ (open_ 0x0504 → 2 ≤ slot → slot < 4096 → s.keyFound slot ≠ 1 →
      Yields (.keyFree q slot auth) s (fun t => t.keySt slot = 0 ∧ t.keyGen slot = s.keyGen slot ∧ (t.keySlot slot).key = []
        ∧ asked t 0x0504))
    ∧ (open_ 0x0504 → slot ≤ 1 ∨ 4096 ≤ slot ∨ s.keyFound slot = 1 → Yields (.keyFree q slot auth) s same)
    ∧ (signed → Yields (write none) s same)
    ∧ (signed → s.authOk x = false → Yields (write (some x)) s (fun t => same t
        ∧ t.fld Reg.KEY_CHAL Reg.KEY_CHAL_COUNT = (s.fld Reg.KEY_CHAL Reg.KEY_CHAL_COUNT + 1) % 2 ^ 32))
    ∧ (Starts s q 0x0500 → s.vault ≠ 1 → Yields (write auth) s same)

/-- R323, R324, R326, R330 to R334, R336 to R338: a read gives the metadata with the state found; a public key is given, a secret refused; a signature waits
among at most 16, takes its key when SGN turns to it and ends with SGN's answer; an unlock reopens a LOCKED vault while no input is active; each period of
the keep-alive oscillator samples the tamper inputs, and the last of an input's consecutive samples raises an alarm, which in class A zeroes the vault
and in class B locks it. -/
def Obligations.KeyService : Prop :=
  ∀ (s : State) (q : Nat) (slot : Fin 4096) (digest key : List Byte) (auth : Option KeyAuth) (x : Accepted) (r : SignReq) (rest : List SignReq)
    (e cls level filt n : Nat) (pins : Fin 32) (input : Fin 5) (sign lock : Bool) (ky : Nat × List Byte) (y : SignReq) (more : List SignReq),
    let gives (t : State) (op st : Nat) (res : List Byte) : Prop := Answered t q
      ∧ (s.ringRoom 1 = false → t.hif.held = s.hif.held ++ [⟨q, op, st, res, 0, 0⟩])
    let space : Prop := s.hif.accepted.find? (fun a => a.hseq = q) = some x ∧ 97 ≤ x.resLen ∧ x.resErr = false
    let type := s.meta slot Reg.KEY_SLOT_META_TYPE
    let pub := (s.keySlot slot).pub
    let status (f : Fld) : Nat := s.fld Reg.KEY_STATUS f
    let plain (op : Nat) : Prop := Starts s q op ∧ status Reg.KEY_STATUS_SIGNED_ADMIN = 0
    let pub0 : Prop := Starts s q 0x0506 ∧ s.vault ≠ 3 ∧ space
    let signs : Prop := Starts s q 0x0507 ∧ space ∧ digest.length = 48
    let active := (s.setPins pins).tamperActive
    let shown (i : Fin 5) (level : Nat) : Prop :=
      if i = 4 then decide (pins.val / 16 % 2 = 1) ≠ s.key.meshOut else pins.val / 2 ^ i.val % 2 = level
    let hot : Prop := shown input level
    let okArgs : Prop := cls < 3 ∧ level < 2 ∧ filt < 256
    let keys (t : State) : Prop := ∀ k, (t.keySlot k).key = []
    let run (i : Fin 5) : Nat := s.key.runs.getD i 0
    let armed (i : Fin 5) : Nat := s.fld (Reg.KEY_TAMP_CFG i) Reg.KEY_TAMP_CFG_CLASS
    let last (i : Fin 5) : Prop := (armed i = 1 ∨ armed i = 2) ∧ shown i (s.fld (Reg.KEY_TAMP_CFG i) Reg.KEY_TAMP_CFG_LEVEL)
      ∧ run i + 1 = max (if i = 4 then 2 else 1) (s.fld (Reg.KEY_TAMP_CFG i) Reg.KEY_TAMP_CFG_FILT)
    let count := (s.reg Reg.KEY_KA_TIME + 1) % 2 ^ 48
    let samples := Yields (.tamperAlarm count [pins]) s
    let alarm (c : Nat) : Prop := armed input = c ∧ last input ∧ ∀ i, i ≠ input → ¬ last i
    let started : Prop := s.clk.up = true ∧ s.fld Reg.PWR_BOOT Reg.PWR_BOOT_STAGE = 4
    let ended (t : State) : Prop := t.key.sgn = [] ∧ ∀ y ∈ s.key.sgn, Answered t y.hseq
    (Starts s q 0x0505 → s.vault ≠ 3 → Yields (.keyRead q slot) s (fun t => t.key = s.key ∧ gives t 0x0505 0
        (natLe 8 (setBits (s.reg (Reg.KEY_SLOT_META slot)) 16 2 (s.keyFound slot)) ++ natLe 4 (s.keySlot slot).pgen
          ++ natLe 4 (s.keySlot slot).kcv)))
    ∧ (pub0 → s.keySt slot = 1 → s.keyUsable slot = true → 3 ≤ type → pub.length ≤ 48 → Yields (.keyPubkey q slot) s (fun t => gives t 0x0506 0 pub))
    ∧ (pub0 → s.keySt slot = 1 → s.keyUsable slot = true → 3 ≤ type → 48 < pub.length →
      Yields (.keyPubkey q slot) s (fun t => Answered t q ∧ t.hif.result = pub))
    ∧ (pub0 → s.keySt slot ≠ 1 → Yields (.keyPubkey q slot) s (fun t => gives t 0x0506 3 []))
    ∧ (pub0 → s.keySt slot = 1 → s.keyUsable slot = false → Yields (.keyPubkey q slot) s (fun t => gives t 0x0506 2 []))
    ∧ (pub0 → s.keySt slot = 1 → s.keyUsable slot = true → type < 3 → Yields (.keyPubkey q slot) s (fun t => gives t 0x0506 1 []))
    ∧ (signs → s.keyFor slot [4] = .inr key → s.key.sgn.length < 16 → s.sgnBusy = true ∨ s.jrn.att ≠ none →
      Yields (.keySign q slot digest) s (fun t => t.key = { s.key with sgn := s.key.sgn ++ [⟨q, slot, digest, none⟩] }))
    ∧ (signs → s.keyFor slot [4] = .inr key → s.key.sgn = [] → s.jrn.att = none →
      Yields (.keySign q slot digest) s (fun t => t = { s with key := { s.key with sgn := [⟨q, slot, digest, some (type, key)⟩] } }))
    ∧ (signs → s.keyFor slot [4] = .inr key → 16 ≤ s.key.sgn.length → Yields (.keySign q slot digest) s (fun t => gives t 0x0507 5 []))
    ∧ (signs → s.keyFor slot [4] = .inl e → Yields (.keySign q slot digest) s (fun t => gives t 0x0507 (signFail e) []))
    ∧ (s.key.sgn = r :: rest → r.key = some ky → Yields .sgnSignComplete s (fun t => Answered t r.hseq
        ∧ (rest = [] → s.jrn.att = none → t.key = { s.key with sgn := [] })
        ∧ (rest = y :: more → s.jrn.att = none → (∀ z ∈ rest, z.key = none) → s.keyFor y.slot [4] = .inr key →
          t.key = { s.key with sgn := { y with key := some (s.meta y.slot Reg.KEY_SLOT_META_TYPE, key) } :: more })))
    ∧ (s.key.sgn = [] ∨ (s.key.sgn = r :: rest ∧ r.key = none) → Yields .sgnSignComplete s (fun t => t = s))
    ∧ (plain 0x0508 → s.vault = 2 → active = false → Yields (.keyUnlock q pins auth) s (fun t => t.vault = 1 ∧ gives t 0x0508 0 []
        ∧ t.fld Reg.KEY_TAMP_STAT Reg.KEY_TAMP_STAT_LATCH_B = 0 ∧ t.fld Reg.KEY_STATUS Reg.KEY_STATUS_CAUSE = 0))
    ∧ (plain 0x0508 → s.vault = 2 → active = true → Yields (.keyUnlock q pins auth) s (fun t => t.vault = 2 ∧ gives t 0x0508 2 []))
    ∧ (plain 0x0508 → s.vault = 1 → Yields (.keyUnlock q pins auth) s (fun t => t.vault = 1 ∧ gives t 0x0508 1 []))
    ∧ (plain 0x0509 → s.vault = 1 → okArgs → cls = 0 ∨ ¬ hot → Yields (.keyTamperCfg q input cls level filt pins auth) s (fun t =>
        t.reg (Reg.KEY_TAMP_CFG input) = filt * 256 + cls * 16 + level ∧ t.key.pins = pins ∧ gives t 0x0509 0 []
        ∧ ∃ y ∈ t.mram.queue, y.rid = ridTamper))
    ∧ (plain 0x0509 → s.vault = 1 → okArgs → cls ≠ 0 → hot → Yields (.keyTamperCfg q input cls level filt pins auth) s (fun t =>
        t.reg (Reg.KEY_TAMP_CFG input) = s.reg (Reg.KEY_TAMP_CFG input) ∧ gives t 0x0509 2 []))
    ∧ (plain 0x0509 → s.vault = 1 → 5 ≤ n ∨ 3 ≤ cls ∨ 2 ≤ level ∨ 256 ≤ filt → Yields (.keyTamperCfg q n cls level filt pins auth) s (fun t =>
        t.key = s.key ∧ gives t 0x0509 1 []))
    ∧ (plain 0x050A → s.vault = 1 → sign = false ∨ s.verifySlot = true → Yields (.keyPolicy q sign lock auth) s (fun t =>
        t.fld Reg.KEY_STATUS Reg.KEY_STATUS_SIGNED_ADMIN = bit sign ∧ t.fld Reg.KEY_STATUS Reg.KEY_STATUS_KALOCK = bit lock
        ∧ ∃ y ∈ t.mram.queue, y.rid = ridPolicy ∧ (q, 0x050A, []) ∈ y.resp))
    ∧ (plain 0x050A → s.vault = 1 → s.verifySlot = false → Yields (.keyPolicy q true lock auth) s (fun t =>
        t.reg Reg.KEY_STATUS = s.reg Reg.KEY_STATUS ∧ gives t 0x050A 1 []))
    ∧ (Starts s q 0x050B → s.vault = 1 → status Reg.KEY_STATUS_ROOT_NEW = 1 → Yields (.keyEnrolled q) s (fun t =>
        t.fld Reg.KEY_STATUS Reg.KEY_STATUS_ROOT_NEW = 0 ∧ t.key = { s.key with rootNew := false } ∧ gives t 0x050B 0 []))
    ∧ (Starts s q 0x050B → s.vault = 1 → status Reg.KEY_STATUS_ROOT_NEW = 0 → Yields (.keyEnrolled q) s (fun t =>
        t.key = s.key ∧ gives t 0x050B 1 []))
    ∧ Yields .rbgHealthFail s (fun t => t.key = { s.key with rbgFail := true } ∧ 103 ∈ t.flt.cond)
    ∧ samples (fun t => t.reg Reg.KEY_KA_TIME = count ∧ t.key.pins = pins ∧ t.key.meshOut = decide (s.key.mesh / 2 ^ 30 % 2 = 1)
        ∧ t.key.mesh = lfsrNext s.key.mesh ∧ ∀ i : Fin 5, (shown i (s.fld (Reg.KEY_TAMP_CFG i) Reg.KEY_TAMP_CFG_LEVEL) →
            t.key.runs.getD i 0 = run i + 1) ∧ (¬ shown i (s.fld (Reg.KEY_TAMP_CFG i) Reg.KEY_TAMP_CFG_LEVEL) → t.key.runs.getD i 0 = 0))
    ∧ ((∀ i, ¬ last i) → samples (fun t => t.key.log = s.key.log ∧ t.vault = s.vault ∧ t.key.slots = s.key.slots ∧ t.flt = s.flt))
    ∧ (alarm 1 → started → samples (fun t => t.vault = 3 ∧ t.key.root = none ∧ keys t ∧ ended t
        ∧ 105 ∈ t.flt.raised ∧ t.fld Reg.KEY_STATUS Reg.KEY_STATUS_CAUSE = 2
        ∧ (t.fld Reg.KEY_TAMP_STAT Reg.KEY_TAMP_STAT_ALARMED) / 2 ^ input.val % 2 = 1))
    ∧ (alarm 2 → started → s.vault = 1 → samples (fun t => t.vault = 2 ∧ t.key.root = s.key.root ∧ keys t ∧ ended t
        ∧ 104 ∈ t.flt.raised ∧ t.fld Reg.KEY_TAMP_STAT Reg.KEY_TAMP_STAT_LATCH_B = 1))
    ∧ (alarm 2 → started → s.vault = 2 → samples (fun t => t.vault = 2 ∧ keys t ∧ ended t ∧ 104 ∈ t.flt.raised))
    ∧ (alarm 2 → started → s.vault ≠ 1 → s.vault ≠ 2 → samples (fun t => t.vault = s.vault ∧ t.key.slots = s.key.slots))

/-- R344 to R350, R354, R357: frames go out at their periods and carry the next frame count once the start count is committed; a heartbeat on either path makes the path present and says
what the peer says; a silent path is lost, and both paths end ALONE after 1 s; TWIN_LOCK is claimed once the line has been high for the claim
delay, and each engine samples it once per VC0 millisecond in its own window: it is lost on a conflict and confirmed by a clean sample; a
handover releases it, and ends or is taken back. -/
def Obligations.TwinLink : Prop :=
  ∀ (s : State) (q k n a b word : Nat) (f : TwinFrame) (x : PeerSays) (sec : Int) (fd crc : Bool) (o : List Byte) (clock : Nat)
    (ckey : List (Option (Nat × Nat))) (auth : List (Option Nat)),
    let u := s.at k
    let now := u.tkp.rawcnt
    let st (g : Fld) : Nat := s.fld Reg.TWN_STATUS g
    let link : Prop := s.inTwin = true ∧ s.linkKey = true
    let ready : Prop := link ∧ s.twn.starts = n + 1 ∧ s.mramNums ridTwin [0] = [n]
    let paced (i period : Nat) : Prop := tabGet 0 s.twn.sent i = 0 ∨ tabGet 0 s.twn.sent i + period ≤ now + 1
    let span := u.vcNow 0 / (fuSec / 100)
    let ms := (u.vcNow 0 - (1500 + 500000 * (s.twinSide : Int)) * fuNs) / (fuSec / 1000)
    let window : Prop := (u.vcNow 0 - (1500 + 500000 * (s.twinSide : Int)) * fuNs) % (fuSec / 1000) ≤ 500 * fuNs ∧ s.twn.lockMs ≠ some ms
    let sent (t : State) (msg : TwinMsg) : Prop := t.twn.txFrame = some ⟨s.twinSide, n, s.twn.frames, msg⟩
      ∧ t.twn.frames = (s.twn.frames + 1) % 2 ^ 63
    let fresh : Prop := link ∧ s.staleFrame f = false
    let took (t : State) : Prop := t.twn.rxLast = some (f.start, f.count)
    let peer (t : State) (alive : Nat) : Prop :=
      t.reg Reg.TWN_PEER = alive % 256 * 256 + x.ts % 8 * 16 + bit x.bound * 8 + x.auth % 4 * 2 + bit x.failing
    let old : Prop := st Reg.TWN_STATUS_LINKPATH = 1 ∧ s.twn.linkAt = some a ∧ a + s.hbTicks ≤ now
    let oldHb : Prop := st Reg.TWN_STATUS_HBPATH = 1 ∧ s.twn.hbAt = some b ∧ b + s.hbTicks ≤ now
    let heard : Prop := (∀ y, s.twn.linkAt = some y → now < y + s.hbTicks) ∧ (∀ y, s.twn.hbAt = some y → now < y + s.hbTicks)
      ∧ s.twn.linkAt ≠ none ∧ s.twn.hbAt ≠ none ∧ (s.linkPath = true → s.linkKey = true)
    let repair : Prop := s.twn.bothFrom = some b ∧ s.twinState = 3 ∧ b + 1250000000 ≤ now
    let claims : Prop := s.twn.claim = true ∧ s.twn.pull = false ∧ s.mayClaim = true ∧ 25000 * (1 + s.twinSide) ≤ n
    let may : Prop := Starts s q 0x0600
    let fit : Prop := s.twinState = 2 ∧ ∃ y, s.peerSays = some y ∧ peerFit y = true
    let out : Prop := s.twn.handover = some (q, b) ∧ b + 1250000000 ≤ now
    (ready → paced 0 1250000 → Yields (.twinHeartbeatTx k) s (fun t => sent t (.heartbeat u.peerReport u.ppsSecond (s.firstDone 0))))
    ∧ (ready → s.twn.boundSpan ≠ some span → Yields (.twinBoundTx k) s (fun t => sent t (.bound (s.onionBytes 31)) ∧ t.twn.boundSpan = some span))
    ∧ (s.twn.boundSpan = some span → Yields (.twinBoundTx k) s (fun t => t = u))
    ∧ (¬ paced 0 1250000 → Yields (.twinHeartbeatTx k) s (fun t => t = u))
    ∧ (¬ paced 2 1250000000 → Yields (.twinCheckTx k) s (fun t => t = u))
    ∧ (¬ paced 3 1250000 → Yields (.hbWordTx k) s (fun t => t = u))
    ∧ (ready → paced 2 1250000000 → Yields (.twinCheckTx k) s (fun t => sent t (.check s.clockId s.ckeyChecks s.authChecks)))
    ∧ (link → paced 0 1250000 → s.twn.starts = 0 → Yields (.twinHeartbeatTx k) s (fun t => t.twn.txFrame = s.twn.txFrame ∧ ∃ r ∈ t.mram.queue, r.rid = ridTwin))
    ∧ (¬ link → Yields (.twinHeartbeatTx k) s (fun t => t.twn.txFrame = s.twn.txFrame ∧ t.twn.frames = s.twn.frames) ∧ Yields (.twinFrameRx f true crc k) s (fun t => t = u))
    ∧ (link → Yields (.twinFrameRx f false crc k) s (fun t => t.twn = s.twn ∧ t.fld Reg.TWN_CNT Reg.TWN_CNT_AUTH_FAIL
        = min 65535 (s.fld Reg.TWN_CNT Reg.TWN_CNT_AUTH_FAIL + 1)))
    ∧ (link → s.staleFrame f = true → Yields (.twinFrameRx f true crc k) s (fun t => t = u))
    ∧ (fresh → f.msg = .heartbeat x sec fd → Yields (.twinFrameRx f true crc k) s (fun t => took t ∧ t.twn.link = some x
        ∧ t.twn.linkAt = some now ∧ t.linkPath = true ∧ peer t f.count))
    ∧ (fresh → f.msg = .bound o → Yields (.twinFrameRx f true crc k) s (fun t => took t ∧ t.twn.peerBound = some (leNat (o.take 6))))
    ∧ (fresh → f.msg = .check clock ckey auth → Yields (.twinFrameRx f true crc k) s (fun t => took t
        ∧ t.twn.differ = s.checkDiffer clock ckey auth ∧ (111 ∈ t.flt.cond ↔ s.checkDiffer clock ckey auth ≠ [])))
    ∧ (s.inTwin = true → paced 3 1250000 → Yields (.hbWordTx k) s (fun t => t.twn = { s.twn with
        txWord := hbWord u.peerReport s.twn.txAlive, txAlive := (s.twn.txAlive + 1) % 256, sent := tabSet 0 s.twn.sent 3 (now + 1) }))
    ∧ (s.inTwin = false → Yields (.hbWordTx k) s (fun t => t = u))
    ∧ (s.inTwin = true → word = hbWord x a → x.side < 2 → x.auth < 4 → x.ts < 8 → a < 256 → s.twn.hbAlive ≠ some a →
      Yields (.hbWordRx word k) s (fun t => t.twn.hbAlive = some a ∧ t.twn.hb = some x ∧ t.twn.hbAt = some now ∧ t.hbPath = true ∧ peer t a))
    ∧ (s.twn.hbAlive = some (getBits (word % 2 ^ 32) 8 8) ∨ getBits (word % 2 ^ 32) 24 8 ≠ 0xA5 → Yields (.hbWordRx word k) s (fun t => t = u))
    ∧ (old → Yields (.pathTimeout k) s (fun t => t.linkPath = false))
    ∧ (s.linkPath = true → s.linkKey = false → Yields (.pathTimeout k) s (fun t => t.linkPath = false))
    ∧ (oldHb → Yields (.pathTimeout k) s (fun t => t.hbPath = false))
    ∧ (heard → Yields (.pathTimeout k) s (fun t => t = u))
    ∧ (repair → Yields (.twinRepair k) s (fun t => t.twinState = 2 ∧ 107 ∉ t.flt.cond))
    ∧ (¬ (∃ y, s.twn.bothFrom = some y ∧ s.twinState = 3 ∧ y + 1250000000 ≤ now) → Yields (.twinRepair k) s (fun t => t = u))
    ∧ (claims → Yields (.twinLockClaim ⟨n, k⟩) s (fun t => t.twn.pull = true ∧ t.twinAuth = 3))
    ∧ (¬ claims → Yields (.twinLockClaim ⟨n, k⟩) s (fun t => t = u))
    ∧ (window → s.twn.pull = true → Yields (.twinLockCheck true k) s (fun t => t.fld Reg.TWN_STATUS Reg.TWN_STATUS_CONFLICT = 1
        ∧ 109 ∈ t.flt.raised ∧ t.twn.lockMs = some ms
        ∧ t.twn.pull = decide (s.twinSide ≠ 1) ∧ t.twinAuth = (if s.twinSide = 1 then 2 else s.twinAuth)))
    ∧ (window → s.twn.pull = true → Yields (.twinLockCheck false k) s (fun t => t.twn.pull = true ∧ t.twn.lockMs = some ms
        ∧ t.twinAuth = (if s.twinAuth = 3 then 1 else s.twinAuth)))
    ∧ (window → s.twn.pull = false → Yields (.twinLockCheck true k) s (fun t => t.twinAuth = 2)
        ∧ Yields (.twinLockCheck false k) s (fun t => t.twinAuth = 0))
    ∧ (¬ window → Yields (.twinLockCheck crc k) s (fun t => t = u))
    ∧ (may → s.holder = true → fit → Yields (.twnHandover q) s (fun t => t.twn.handover = some (q, s.tkp.rawcnt) ∧ t.twn.pull = false
        ∧ t.twn.claim = false ∧ t.fld Reg.TWN_STATUS Reg.TWN_STATUS_YIELD = 1))
    ∧ (may → s.holder = false ∨ ¬ fit → Yields (.twnHandover q) s (fun t => Answered t q ∧ t.twn = s.twn))
    ∧ (out → Yields (.handoverTimeout k) s (fun t => t.twn.handover = none ∧ Answered t q ∧ t.fld Reg.TWN_STATUS Reg.TWN_STATUS_YIELD = 0
        ∧ t.twn.claim = (s.mayClaim || s.twn.claim)))
    ∧ (s.twn.handover = none → Yields (.handoverTimeout k) s (fun t => t = u))
    ∧ (s.ens.yieldTo = some b → b ≤ now → Yields (.yieldHoldEnd k) s (fun t => t.ens = { s.ens with yieldTo := none }
        ∧ t.fld Reg.TWN_STATUS Reg.TWN_STATUS_YIELD = 0))
    ∧ (s.ens.yieldTo = none → Yields (.yieldHoldEnd k) s (fun t => t = u))

/-- R334, R386, R416, R423, R430, R431, R433, R446 to R448: each trigger of a reset names itself in PWR_RSTCAUSE, stops the Pods, seals the vault unless it stays ZEROED,
keeps what MRAM and flash hold, keeps a pending C3 source unless it is a POWER reset, and leaves a start waiting; a WARM reset keeps the timebase; PERST disables the rings alone, and KA_RESET clears
the keep-alive island alone. -/
def Obligations.ResetTriggers : Prop :=
  ∀ (s : State) (m : Master) (data : Nat) (burst : Bool) (r : Fin 4) (v : VcId) (n : Fin 5),
    let reset_ (t : State) (cls trig : Nat) : Prop :=
      t.reg Reg.PWR_RSTCAUSE = trig * 16 + cls ∧ t.reg Reg.PWR_BOOT = 0 ∧ t.clk.starting = true ∧ t.pods = State.reset.pods
      ∧ t.mram.pairs = s.mram.pairs ∧ t.mram.queue = [] ∧ t.flash = s.flash ∧ t.key.root = s.key.root ∧ t.key.slots = []
      ∧ t.vault = (if s.vault = 3 ∧ cls ≠ 1 then 3 else 0)
      ∧ (∀ i, i = 105 ∨ i = 121 → t.fltPend i = (decide (cls ≠ 1) && (s.fltPend i || s.flt.raised.contains i)))
      ∧ (cls ≠ 3 → t.tkp = State.reset.tkp ∧ t.dram = [] ∧ t.reg (Reg.TKP_VC_OFFSET v) = 0)
      ∧ (cls = 3 → t.tkp.rawcnt = s.tkp.rawcnt ∧ t.dram = s.dram ∧ t.reg (Reg.TKP_VC_OFFSET v) = s.reg (Reg.TKP_VC_OFFSET v))
    let keyed : Prop := m.val ≤ 1 ∧ data / 65536 % 65536 = 0x5752
    Yields .powerOn s (fun t => reset_ t 1 0)
    ∧ Yields .vddReset s (fun t => reset_ t 1 1)
    ∧ Yields .vddaReset s (fun t => reset_ t 2 2)
    ∧ Yields .resetN s (fun t => reset_ t 2 3)
    ∧ (s.clk.pgFell = true → Yields .pwrgoodReset s (fun t => reset_ t 2 4))
    ∧ (s.clk.pgFell = false → Yields .pwrgoodReset s (fun t => t = s))
    ∧ (keyed → data % 2 = 1 → Yields (.pwrReset m data) s (fun t => reset_ t 3 5))
    ∧ (keyed → data % 2 = 0 → Yields (.pwrReset m data) s (fun t => t = s))
    ∧ (¬ keyed → Yields (.pwrReset m data) s (fun t => t = s.setFld Reg.PWR_ISL_STATUS Reg.PWR_ISL_STATUS_CFG_REJ 1))
    ∧ Yields (.perst burst) s (fun t => t.ringEn r = false ∧ t.reg Reg.HIF_LINK = 0 ∧ t.reg Reg.PWR_RSTCAUSE = 0x64 ∧ 79 ∈ t.flt.cond
        ∧ t.pods = s.pods ∧ (burst = true → t.fld Reg.BUS_ISL_STATUS Reg.BUS_ISL_STATUS_MABORT = 1 ∧ 76 ∈ t.flt.raised))
    ∧ Yields .kaReset s (fun t => t.clk = { s.clk with kaValid := false } ∧ t.key = { s.key with log := [], runs := List.replicate 5 0 } ∧ t.reg Reg.PWR_RSTCAUSE = 0
        ∧ t.reg Reg.KEY_KA_TIME = 0 ∧ t.reg (Reg.KEY_TAMP_CFG n) = resetVal (Reg.KEY_TAMP_CFG n)
        ∧ t.fld Reg.CLK_STATUS Reg.CLK_STATUS_LO_STOPPED = 1 ∧ t.fld Reg.CLK_TRIM Reg.CLK_TRIM_SLOW = 2048 ∧ t.pods = s.pods
        ∧ (s.clk.up = true → t.fld Reg.PWR_STATUS Reg.PWR_STATUS_KA_LOST = 1))
    ∧ (s.clk.up = true → Yields .pwrgoodFall s (fun t => t.clk = { s.clk with pgFell := true }
        ∧ t.fld Reg.PWR_STATUS Reg.PWR_STATUS_PWRGOOD = 0 ∧ t.mram.queue = s.mram.queue
        ∧ t.mram.begun = if s.mramHeld then s.mram.begun else !s.mram.queue.isEmpty))
    ∧ (s.clk.up = false → Yields .pwrgoodFall s (fun t => t = s))

/-- R179, R402, R410, R429, R432, R435 to R437, R443 to R445, R478: a rail warning shows in PWR_STATUS, is counted and holds MRAM records back until it ends, but one that has been started; a record is
written whole or the one in force stays; a start passes CP4 or ends with the status of what failed; TEST_MODE holds the main-rail islands in reset; the scrub restores what two of three copies
hold. -/
def Obligations.PowerAndStart : Prop :=
  ∀ (s : State) (rail : Fin 3) (k a m1 m2 mask src : Nat) (temp : Int) (p : PodId) (r : MramReq) (rest : List MramReq) (env : BootEnv),
    let u := s.at k
    let inputs := s.bound.inputs
    let warned (t : State) : Prop := t.railWarned rail = true
    let last : Prop := ∀ j < 3, j ≠ rail.val → s.railWarned j = false
    let evented (t : State) : Prop := (t.pod p).events = setBits (s.pod p).events 7 1 1
    let f := dipFld rail
    let x := (s.mramPair r.rid).inForce
    let writes : Prop := s.mramStarted = true ∧ s.mram.queue = r :: rest
    let status (t : State) : Nat := t.fld Reg.PWR_BOOT Reg.PWR_BOOT_STATUS
    let waits : Prop := s.clk.starting = true ∧ s.clk.tamper = false ∧ env.test = false
    let good : Prop := env.rom = true ∧ env.lo = true ∧ env.tbp = true ∧ env.mram = true ∧ env.rbg = true ∧ env.train = true
      ∧ 4 ≤ min 16 env.dram0 + min 16 env.dram1
    let once : Prop := s.upset1 = [] ∧ s.upset2 = [] ∧ triplicated a = some (mask, src) ∧ m1 &&& mask ≠ 0
    (s.clk.up = true → ¬ warned s → Yields (.railWarning rail k) s (fun t => warned t ∧ evented t
        ∧ t.fld Reg.PWR_DIPCNT f = min 255 (s.fld Reg.PWR_DIPCNT f + 1) ∧ (80 ∈ t.flt.cond ∨ 80 ∈ t.flt.raised)
        ∧ t.mram.begun = (if s.mramHeld then s.mram.begun else !s.mram.queue.isEmpty)
        ∧ t.bound.inputs = (if rail = 1 then inputs ++ [.l3 1 true] else inputs)))
    ∧ (s.clk.up = false ∨ warned s → Yields (.railWarning rail k) s (fun t => t = u))
    ∧ (warned s → Yields (.railWarningEnd rail k) s (fun t => ¬ warned t ∧ evented t ∧ t.bound.inputs = inputs
        ∧ t.bound.vdipEnd = (if rail = 1 then some (u.vcNow 0 + 10 * fuSec) else s.bound.vdipEnd)
        ∧ (last → 80 ∉ t.flt.cond ∧ (s.runsResident 0 = true → t.fld Reg.ENS_HOLD Reg.ENS_HOLD_FREEZE = 0))))
    ∧ (¬ warned s → Yields (.railWarningEnd rail k) s (fun t => t = u))
    ∧ (tempOut temp = true → Yields (.thermRange temp k) s (fun t => t.clk.temp = temp ∧ 82 ∈ t.flt.cond
        ∧ t.bound.inputs = inputs ++ [.l3 2 true]))
    ∧ (tempOut temp = false → Yields (.thermRange temp k) s (fun t => t = u))
    ∧ (tempOut temp = false → Yields (.thermRangeEnd temp k) s (fun t => t.clk.temp = temp ∧ 82 ∉ t.flt.cond
        ∧ t.bound.inputs = inputs ++ [.l3 2 false]))
    ∧ (tempOut temp = true → Yields (.thermRangeEnd temp k) s (fun t => t = u))
    ∧ (writes → (∀ y, x = some y → y.1 < 2 ^ 32) → Yields (.mramCommit true) s (fun t => t.mram.queue = rest ∧ t.mramRec r.rid = some r.val
        ∧ ∀ y ∈ r.resp, Answered t y.1))
    ∧ (writes → Yields (.mramCommit false) s (fun t => t.mram.queue = s.mram.queue ∧ t.mramRec r.rid = s.mramRec r.rid
        ∧ 119 ∈ t.flt.raised))
    ∧ (s.mramStarted = false ∨ s.mram.queue = [] → Yields (.mramCommit true) s (fun t => t = s))
    ∧ (waits → good → s.startKind ≠ 2 → s.vault ≠ 3 → Yields (.startSequence env) s (fun t => status t = 1
        ∧ t.fld Reg.PWR_BOOT Reg.PWR_BOOT_STAGE = 4 ∧ t.fld Reg.SYS_REMAP Reg.SYS_REMAP_SWAP = 1 ∧ t.tbLocked = true
        ∧ t.tkp.rawcnt = 0 ∧ t.clk.up = true ∧ t.clk.counts = true ∧ t.clk.kaValid = true ∧ t.clk.starting = false))
    ∧ (waits → env.rom = false → Yields (.startSequence env) s (fun t => status t = 2 ∧ t.clk.starting = false))
    ∧ (waits → env.rom = true → s.startKind = 0 → env.lo = false → Yields (.startSequence env) s (fun t => status t = 3
        ∧ t.clk.starting = true))
    ∧ (waits → env.rom = true → s.startKind ≠ 2 → env.lo = true → env.tbp = false → Yields (.startSequence env) s (fun t =>
        status t = 4 ∧ t.clk.starting = true ∧ t.fld Reg.CLK_STATUS Reg.CLK_STATUS_TBP = 1))
    ∧ (s.clk.starting = true → env.test = true → Yields (.startSequence env) s (fun t =>
        t = { s with clk := { s.clk with starting := false, up := false, test := true } }))
    ∧ (s.clk.starting = true → env.test = false → s.clk.tamper = true → Yields (.startSequence env) s (fun t => status t = 7 ∧ t.clk.starting = false))
    ∧ (s.clk.starting = false → Yields (.startSequence env) s (fun t => t = s))
    ∧ (once → Yields (.voteScrub [(a, m1, m2)]) s (fun t => t.reg a = s.reg a ^^^ (m1 &&& m2 &&& mask) ∧ tabGet 0 t.upset1 a = 0
        ∧ src ∈ t.flt.raised))
    ∧ (s.upset1 = [] → s.upset2 = [] → Yields (.voteScrub []) s (fun t => t = s))

/-- R10, R59, R64, R79, R195, R210, R348, R438 to R442: the trim codes step toward nominal; the timebase holds, stops, locks and comes back counted in, with its
fault sources and what it mutes; BOOTCLK switches to the clock that runs; a domain gates when its block is off and it is idle within 2 µs, else
the request is refused whole or the gate stays open; the end of a posted write frees its island. -/
def Obligations.ClocksAndGates : Prop :=
  ∀ (s : State) (m : Master) (k outage data addr v : Nat) (slow fast : Int) (ref_ : Fin 2) (d : Fin 17) (c : SynId) (o : Fin 22) (stopped : Bool),
    let u := s.at k
    let inputs := s.bound.inputs
    let trim (g : Fld) : Nat := s.fld Reg.CLK_TRIM g
    let x := trimCode (trim Reg.CLK_TRIM_SLOW) 4095 slow
    let y := trimCode (trim Reg.CLK_TRIM_FAST) 1023 fast
    let st (t : State) (g : Fld) : Nat := t.fld Reg.CLK_STATUS g
    let tb := s.fld Reg.CLK_STATUS Reg.CLK_STATUS_BOOTCLK_TB
    let runs : Prop := s.clk.counts = true ∧ (s.tbp = 1 ∨ s.tbp = 3)
    let sd (t : State) : Nat := getBits (t.reg Reg.CLK_STATUS) (3 + ref_.val) 1
    let g (t : State) : Nat := getBits (t.reg Reg.CLK_GATE) d 1
    let gs (t : State) : Nat := getBits (t.reg Reg.CLK_GATE_STATUS) d 1
    let q (t : State) : Nat := getBits t.clk.quiesce d 1
    let asks (want : Nat) : Prop := MayPost s m Reg.CLK_GATE ∧ d.val ∈ gateDomains ∧ data / 2 ^ d.val % 2 = want ∧ g s ≠ want
    let mayGate : Prop := ∀ e ∈ gateDomains, data / 2 ^ e % 2 = 1 → getBits (s.reg Reg.CLK_GATE) e 1 = 0 → s.domainOn e = false
    let quietEnd := tabGet 0 s.clk.quiesceAt d + 2500
    let stays (t : State) : Prop := g t = 0 ∧ gs t = 0 ∧ q t = 0 ∧ t.flt.raised = s.flt.raised ++ [86]
    let free : Prop := s.islBusy addr = true ∧ s.opUnderWay (addr / 0x10000) = false
    (s.tbLocked = true → Yields (.oscTrim slow fast) s (fun t => t.fld Reg.CLK_TRIM Reg.CLK_TRIM_SLOW = x ∧ t.fld Reg.CLK_TRIM Reg.CLK_TRIM_FAST = y
        ∧ t.fld Reg.CLK_TRIM Reg.CLK_TRIM_SLOW_ERR = ppm16 slow ∧ t.fld Reg.CLK_TRIM Reg.CLK_TRIM_FAST_ERR = ppm16 fast
        ∧ (88 ∈ t.flt.cond ↔ trimEnd x 4095 25 slow = true ∨ trimEnd y 1023 100 fast = true)))
    ∧ (s.tbLocked = false → Yields (.oscTrim slow fast) s (fun t => t = s))
    ∧ (s.clk.counts = true → 1 ≤ s.tbp → s.tbp ≤ 3 → Yields (.loFail ⟨stopped, k⟩) s (fun t => t.tbp = 4 ∧ 84 ∈ t.flt.cond
        ∧ st t Reg.CLK_STATUS_LO_STOPPED = (if stopped then 1 else st s Reg.CLK_STATUS_LO_STOPPED) ∧ t.bound.inputs = inputs ++ [.l3 0 true]))
    ∧ (s.clk.counts = true → s.tbp = 4 → Yields (.loReturn k) s (fun t => t.tbp = 1 ∧ 84 ∉ t.flt.cond))
    ∧ (s.clk.counts = false ∨ s.tbStopped = true → Yields (.loReturn k) s (fun t => t = u))
    ∧ (runs → Yields (.tbpLock k) s (fun t => t.tbp = 2 ∧ 83 ∉ t.flt.cond ∧ t.bound.inputs = inputs ++ [.l3 0 false]))
    ∧ (¬ runs → Yields (.tbpLock k) s (fun t => t = u))
    ∧ (s.tbLocked = true → Yields (.tbpUnlock k) s (fun t => t.tbp = 3 ∧ st t Reg.CLK_STATUS_TB_LOL = 1 ∧ 83 ∈ t.flt.cond
        ∧ t.bound.inputs = inputs ++ [.l3 0 true]))
    ∧ (s.tbLocked = false → Yields (.tbpUnlock k) s (fun t => t = u))
    ∧ (s.tbRuns = true → Yields (.timebaseFail k) s (fun t => t.tbStopped = true ∧ 84 ∈ t.flt.cond ∧ (t.outp o).tbHold = true
        ∧ t.synSt c = (if s.synSt c = 0 then 0 else 6) ∧ t.twn.pull = false ∧ t.tkp = u.tkp))
    ∧ (s.tbRuns = false → Yields (.timebaseFail k) s (fun t => t = s))
    ∧ (s.tbStopped = true → Yields (.timebaseReturn outage) s (fun t => t.tbp = 2 ∧ t.tkp = { s.tkp with rawcnt := s.tkp.rawcnt + outage }
        ∧ 83 ∉ t.flt.cond ∧ 84 ∉ t.flt.cond ∧ (s.synSt c = 6 → t.synSt c = 1) ∧ ∃ w, t.bound.inputs = inputs ++ [w, .l3 0 false]))
    ∧ (s.tbStopped = false → Yields (.timebaseReturn outage) s (fun t => t = s))
    ∧ Yields (.sdrefFail ref_) s (fun t => sd t = 0 ∧ 85 ∈ t.flt.cond)
    ∧ Yields (.sdrefReturn ref_) s (fun t => sd t = 1 ∧ (st t Reg.CLK_STATUS_SDREF_OK = 3 → 85 ∉ t.flt.cond))
    ∧ (s.tbLocked = true → s.clk.counts = true → tb = 0 → Yields .bootclkSwitch s (fun t => st t Reg.CLK_STATUS_BOOTCLK_TB = 1 ∧ t.flt = s.flt)
        ∧ Yields .switchForced s (fun t => st t Reg.CLK_STATUS_BOOTCLK_TB = 1 ∧ st t Reg.CLK_STATUS_SWITCH_FORCED = 1
          ∧ t.flt.raised = s.flt.raised ++ [87]))
    ∧ (s.tbStopped = true → tb = 1 → Yields .bootclkSwitch s (fun t => st t Reg.CLK_STATUS_BOOTCLK_TB = 0)
        ∧ Yields .switchForced s (fun t => st t Reg.CLK_STATUS_BOOTCLK_TB = 0 ∧ st t Reg.CLK_STATUS_SWITCH_FORCED = 1))
    ∧ (s.tbLocked = true → tb = 1 → Yields .bootclkSwitch s (fun t => t = s) ∧ Yields .switchForced s (fun t => t = s))
    ∧ (asks 1 → mayGate → Yields (.clkGateRequest m data) s (fun t => Posting t Reg.CLK_GATE ∧ g t = 1 ∧ gs t = 1 ∧ q t = 1))
    ∧ (asks 1 → s.domainOn d = true → Yields (.clkGateRequest m data) s (fun t => t.reg Reg.CLK_GATE = s.reg Reg.CLK_GATE
        ∧ t.fld Reg.CLK_ISL_STATUS Reg.CLK_ISL_STATUS_CFG_REJ = 1))
    ∧ (asks 0 → mayGate → q s = 0 → Yields (.clkGateRequest m data) s (fun t => Posting t Reg.CLK_GATE ∧ g t = 0 ∧ gs t = 0
        ∧ getBits t.clk.reopen d 1 = 1))
    ∧ (q s = 1 → s.tkp.rawcnt ≤ quietEnd → Yields (.gateIdle d) s (fun t =>
        t = { s with clk := { s.clk with quiesce := t.clk.quiesce, quiesceAt := t.clk.quiesceAt } } ∧ q t = 0))
    ∧ (q s = 1 → quietEnd < s.tkp.rawcnt → Yields (.gateIdle d) s stays)
    ∧ (q s = 1 → Yields (.quiesceTimeout d) s (fun t => stays t ∧ t.tkp = (s.at quietEnd).tkp))
    ∧ (q s = 0 → Yields (.gateIdle d) s (fun t => t = s) ∧ Yields (.quiesceTimeout d) s (fun t => t = s))
    ∧ Yields (.gateOpen d) s (fun t => t = { s with clk := { s.clk with reopen := t.clk.reopen } } ∧ getBits t.clk.reopen d 1 = 0)
    ∧ (free → Yields (.postedWriteComplete addr) s (fun t => t.islBusy addr = false
        ∧ (addr / 0x10000 = 0x4001 → t.fld Reg.TKP_LATCH_CTRL Reg.TKP_LATCH_CTRL_GO = 0)
        ∧ (addr / 0x10000 = 0x4004 → s.bound.latch = some v → t.reg Reg.ONION_REC = v ∧ t.bound.latch = none)))
    ∧ (¬ free → Yields (.postedWriteComplete addr) s (fun t => t = s))

/-- R224, R225, R227, R229, R230, R241, R243, R247, R249, R380: the loss of the sample clock loses every channel until it returns, and its return is a start;
an overflow discards and puts the port's channels back into PULL_IN; searches and channels follow their events while the GNS is awake, on signals
that their port serves; a latch keeps what a tracked channel measured with the time of its port's sample; Pod 2 puts the GNS to sleep, wakes it
and keeps its data. -/
def Obligations.GnssSignals : Prop :=
  ∀ (s : State) (m : Master) (p : Fin 4) (pod : PodId) (c : Fin 256) (i : Fin 8) (k stamps data : Nat) (r : AcqReq) (vis : List Nat)
    (cell : Int × Nat × Nat) (o : GnObs) (g : Gt) (rx : BitVec 32) (e : MboxEntry) (es : List MboxEntry),
    let u := s.at k
    let awake : Prop := s.gnAwake = true
    let st := Reg.GNS_PORT_STATUS p
    let drop := Reg.GNS_PORT_DROP p
    let ctl := Reg.GNS_FESPI_CTRL
    let hears : Prop := s.gnPort p = true ∧ awake
    let w := u.slTake
    let sleeps : Prop := s.runsResident 2 = true ∧ s.gns.asleep = false ∧ w.gns.slMode = 1 ∧ (w.gns.slOn : Int) ≤ w.nowMs - w.slBoundary
      ∧ s.fld Reg.ENS_TS Reg.ENS_TS_LEARNED = 1
    let kept (t : State) : Prop := ∃ y ∈ t.mram.queue, y.rid = ridKept
    let front (type : Nat) : Prop := (s.pod 2).mbox = e :: es ∧ s.runsResident 2 = true ∧ e.type = type
    let took (t : State) : Prop := (t.pod 2).mbox = es
    let latches : Prop := s.gns.latchAt ≠ some u.vc0Sec ∧ awake
    let port := s.gnChPort c
    let served : Prop := s.gnHears port (s.gnChSig c) = true
    let heard : Prop := s.gnCh c = 2 ∧ served ∧ s.gns.gap / 2 ^ port % 2 = 0
    let since := (s.gnChan c).since
    let second := 1000000 * ticksPerUs
    let gone (t : State) : Prop := t.gns.acq = s.gns.acq.eraseIdx i.val
    let searched : Prop := s.gns.acq[i.val]? = some r ∧ awake ∧ r.pod = pod.val
    let none' (t : State) : Prop := gone t ∧ (t.pod pod).compl = (s.pod pod).compl ++ [complWord 6 1 r.tag] ∧ (t.pod pod).dmem = (s.pod pod).dmem
    let starts : Prop := s.runsResident 2 = true ∧ s.gns.asleep = false
    Yields .gnssClkFail s (fun t => t.gns.noClk = true ∧ 97 ∈ t.flt.cond ∧ t.gnCh c = 3 ∧ t.fld st Reg.GNS_PORT_STATUS_NOCLK = 1
      ∧ t.fld st Reg.GNS_PORT_STATUS_ACTIVE = 0 ∧ t.fld Reg.GNS_ISL_STATUS Reg.GNS_ISL_STATUS_CLKFAIL = 1)
    ∧ (s.gns.noClk = true → Yields (.gnssClkReturn vis) s (fun t => t.gns.noClk = false ∧ 97 ∉ t.flt.cond
        ∧ t.fld st Reg.GNS_PORT_STATUS_NOCLK = 0
        ∧ (starts → t.fld Reg.GNS_SOL Reg.GNS_SOL_START = (if s.gns.cold then 1 else s.gnKind vis)
          ∧ t.gns = { s.gns with noClk := false, cold := false, starting := false })
        ∧ (¬ starts → t.fld Reg.GNS_SOL Reg.GNS_SOL_START = s.fld Reg.GNS_SOL Reg.GNS_SOL_START ∧ t.gns = { s.gns with noClk := false })))
    ∧ (s.gns.noClk = false → Yields (.gnssClkReturn vis) s (fun t => t = s))
    ∧ (hears → Yields (.sampleOverflow p stamps) s (fun t => 98 ∈ t.flt.raised ∧ t.fld st Reg.GNS_PORT_STATUS_OVF = 1
        ∧ t.fld drop Reg.GNS_PORT_DROP_COUNT = min (2 ^ 32 - 1) (s.fld drop Reg.GNS_PORT_DROP_COUNT + stamps * 65536)
        ∧ t.gns.gap / 2 ^ p.val % 2 = 1
        ∧ t.gnCh c = (if s.fld (Reg.GNS_CH_STAT c) Reg.GNS_CH_STAT_PORT = p.val ∧ s.gnCh c = 2 then 1 else s.gnCh c)))
    ∧ (¬ hears → Yields (.sampleOverflow p stamps) s (fun t => t = s))
    ∧ (searched → s.acqFinds r cell.1 = true → Yields (.acqComplete ⟨i, some cell⟩) s (fun t => gone t
        ∧ (t.pod pod).compl = (s.pod pod).compl ++ [complWord 6 0 r.tag]
        ∧ t.dmemRead pod (r.addr + 16) 10 = intLe 4 cell.1 ++ natLe 4 cell.2.1 ++ natLe 2 cell.2.2))
    ∧ (searched → s.acqFinds r cell.1 = false → Yields (.acqComplete ⟨i, some cell⟩) s none')
    ∧ (searched → Yields (.acqComplete ⟨i, none⟩) s none')
    ∧ (s.gns.acq[i.val]? = none ∨ ¬ awake → Yields (.acqComplete ⟨i, some cell⟩) s (fun t => t = s))
    ∧ (s.gnCh c = 1 → awake → served → since + second / 5 ≤ u.tkp.rawcnt → u.tkp.rawcnt ≤ since + 2 * second →
      Yields (.channelTrack ⟨c, k⟩) s (fun t => t.gnCh c = 2 ∧ (t.gnChan c).since = u.tkp.rawcnt))
    ∧ (s.gnCh c ≠ 1 ∨ ¬ awake ∨ ¬ served ∨ u.tkp.rawcnt < since + second / 5 ∨ since + 2 * second < u.tkp.rawcnt →
      Yields (.channelTrack ⟨c, k⟩) s (fun t => t = u))
    ∧ (s.gnCh c = 1 → awake → Yields (.pullInTimeout c) s (fun t => t.gnCh c = 3
        ∧ t.tkp.rawcnt = (s.at (since + 2 * second)).tkp.rawcnt))
    ∧ (s.gnCh c ≠ 1 ∨ ¬ awake → Yields (.pullInTimeout c) s (fun t => t = s))
    ∧ (s.gnCh c = 2 → awake → since + second ≤ u.tkp.rawcnt → Yields (.channelLoss ⟨c, k⟩) s (fun t => t.gnCh c = 3))
    ∧ (s.gnCh c ≠ 2 ∨ ¬ awake ∨ u.tkp.rawcnt < since + second → Yields (.channelLoss ⟨c, k⟩) s (fun t => t = u))
    ∧ (latches → Yields (.obsLatch [o] [] k) s (fun t => t.gns.latchAt = some u.vc0Sec ∧ t.gns.gap = 0
        ∧ (t.pod pod).events = setBits (s.pod pod).events 5 1 1 ∧ (t.gnChan c).st = s.gnCh c
        ∧ (o.chan = c.val → heard → u.gnTime port u.vc0Sec = some g → (t.gnChan c).obs = some o ∧ (t.gnChan c).time = some g
          ∧ t.fld (Reg.GNS_CH_STAT c) Reg.GNS_CH_STAT_CN0 = min 255 (o.cn0 / 100))
        ∧ (¬ heard → (t.gnChan c).obs = none ∧ (t.gnChan c).time = none)))
    ∧ (¬ latches → Yields (.obsLatch [o] [] k) s (fun t => t = u))
    ∧ (sleeps → Yields (.gnssSleep k) s (fun t => t.gns.asleep = true ∧ t.fld Reg.GNS_SOL Reg.GNS_SOL_SLEEP = 1 ∧ kept t
        ∧ t.gns.cut = some (u.vc0Sec, u.tkp.rawcnt) ∧ t.gnCh c ≠ 1 ∧ t.gnCh c ≠ 2))
    ∧ (s.runsResident 2 = false ∨ s.gns.asleep = true → Yields (.gnssSleep k) s (fun t => t = u))
    ∧ (s.runsResident 2 = true → s.gns.asleep = true → s.gns.slAt ≠ some u.slBoundary → Yields (.gnssWake vis k) s (fun t =>
        t.gns.asleep = false ∧ t.fld Reg.GNS_SOL Reg.GNS_SOL_SLEEP = 0))
    ∧ (s.runsResident 2 = false ∨ s.gns.asleep = false ∨ s.gns.slAt = some u.slBoundary → Yields (.gnssWake vis k) s (fun t => t = u))
    ∧ (s.runsResident 2 = true → 600 ≤ u.vc0Sec - s.gns.keptAt → Yields (.keptDataCommit k) s (fun t => t.gns.keptAt = u.vc0Sec ∧ kept t))
    ∧ (s.runsResident 2 = false ∨ u.vc0Sec - s.gns.keptAt < 600 → Yields (.keptDataCommit k) s (fun t => t = u))
    ∧ (front 1 → s.param 0x206 ≠ 1 → s.gns.asleep = false → Yields .resurvey s (fun t => took t ∧ t.gnPos = 1 ∧ t.gns.surN = 0
        ∧ t.gns.hold = none))
    ∧ (front 1 → s.param 0x206 ≠ 1 → s.gns.asleep = true → Yields .resurvey s (fun t => took t ∧ t.gns = { s.gns with resurvey := true }))
    ∧ (front 1 → s.param 0x206 = 1 → Yields .resurvey s (fun t => took t ∧ t.gns = s.gns))
    ∧ (front 2 → Yields .keptClear s (fun t => took t ∧ t.gns = { s.gns with kept := GnKept.reset, cold := true } ∧ kept t))
    ∧ (MayPost s m ctl → getBits data 8 1 = 1 → Yields (.fespiGo m data rx) s (fun t => Posting t ctl ∧ t.fld ctl Reg.GNS_FESPI_CTRL_GO = 1
        ∧ t.gns.spiRx = some rx.toNat ∧ t.gns.spi = some (getBits data 6 2, max 7 (data % 32) + 1,
          s.reg Reg.GNS_FESPI_DATA / 2 ^ (32 - (max 7 (data % 32) + 1)))))
    ∧ (MayPost s m ctl → getBits data 8 1 = 0 → Yields (.fespiGo m data rx) s (fun t => Posting t ctl ∧ t.gns = s.gns))

/-- R231, R234, R237, R239, R240, R244, R245: Pod 2 judges each VC0 second once, within 400 ms, and tells Pod 1, which labels the pulse of that second; a
fix needs as many used satellites as unknowns; GN_PPS comes at its written F or counts as missed; at the end of a track a CGGTTS line is posted for a
satellite tracked 390 s while pulses come, else the track counts as skipped. -/
def Obligations.GnssTiming : Prop :=
  ∀ (s : State) (sol : GnSol) (k tick : Nat) (sec n start span : Int) (e : MboxEntry) (es : List MboxEntry) (f : Int) (l : CggLine),
    let u := s.at k
    let now := u.vc0Sec
    let due : Prop := s.runsResident 2 = true ∧ s.gns.solAt ≠ some now ∧ u.vcNow 0 ≤ now * fuSec + 400000000 * fuNs
    let solve (P : State → Prop) : Prop := due → Yields (.gnTimingSolution sol k) s P
    let w := u.modGns (fun x => { x with solAt := some now })
    let above := (sol.sats.filter (fun x => decide (s.param 0x204 < x.elev))).map (fun x => x.const * 256 + x.sv)
    let w := if s.gns.starting then w.gnStart above else w
    let w := (((w.slTake.gnTakeSig.gnSweep).gnMode).gnCal sol).gnFlat now
    let solved : Prop := w.gnSolves sol now = true
    let verdict (t : State) : Nat := t.fld Reg.GNS_SOL Reg.GNS_SOL_VERDICT
    let front : Prop := (s.pod 1).mbox = e :: es ∧ s.runsResident 1 = true ∧ e.type = 0x20
    let lab := toSigned 64 (leNat ((e.payload.drop 8).take 8))
    let vcsec : Int := leNat ((e.payload.drop 16).take 4)
    let of' := s.vc0Sec + toSigned 32 (ofSigned 32 (vcsec - s.vc0Sec))
    let runs : Prop := s.gns.ppsAt ≠ some sec ∧ s.gns.asleep = false ∧ s.tbRuns = true
    let g : Gt := sec * fuSec + psToFu (f : Rat)
    let v := s.at (tickOf (s.vcSet 0) g)
    let missed (t : State) : Prop := t.gns.ppsAt = some sec ∧ t.gns.ppsf = none ∧ t.gns.pulses = s.gns.pulses
      ∧ t.fld Reg.GNS_PPS_MISS Reg.GNS_PPS_MISS_COUNT = min (2 ^ 32 - 1) (s.fld Reg.GNS_PPS_MISS Reg.GNS_PPS_MISS_COUNT + 1)
    let pps := s.paramN 0x21F
    let half : Prop := sec * fuSec + fuSec / 2 ≤ s.vcNow 0
    let cgg : Prop := s.runsResident 2 = true ∧ s.param 0x21E ≠ 0 ∧ cggStart s.leapTable start = true ∧ s.gns.track ≠ some start
      ∧ u.cggSpan start = some span
    let keeps : Prop := 390 ≤ l.secs ∧ (l.secs : Int) ≤ span ∧ l.const < 3 ∧ getBits (s.paramN 0x21E) l.const 1 = 1
    let tracked (P : State → Prop) : Prop := cgg → Yields (.cggttsTrackEnd ⟨start, [l], k⟩) s P
    let ended (t : State) (n : Nat) : Prop := t.gns = { s.gns with track := some start, cggSkip := s.gns.cggSkip + n }
    let pulses : Prop := s.fld (Reg.SYN_PPS_CTRL pps) Reg.SYN_PPS_CTRL_EN = 1 ∧ s.fld (Reg.SYN_PPS_CTRL pps) Reg.SYN_PPS_CTRL_MODE = 0
    solve (fun t => t.gns.solAt = some now ∧ (sol.sats = [] → verdict t = 1) ∧ (¬ solved → t.fld Reg.GNS_SOL Reg.GNS_SOL_FIX = 0)
      ∧ (solved → t.fld Reg.GNS_SOL Reg.GNS_SOL_FIX = 1 ∧ t.fld Reg.GNS_SOL Reg.GNS_SOL_NSAT = min 255 (w.gnUsed sol.sats).length))
    ∧ ((s.pod 1).mbox.length < 32 → solve (fun t => ∃ x, (t.pod 1).mbox = (s.pod 1).mbox ++ [x] ∧ x.type = 0x20
        ∧ x.payload.head? = some (BitVec.ofNat 8 (verdict t))))
    ∧ (32 ≤ (s.pod 1).mbox.length → solve (fun t => (t.pod 1).mbox = (s.pod 1).mbox ∧ t.gns.vLost = s.gns.vLost + 1))
    ∧ (¬ due → Yields (.gnTimingSolution sol k) s (fun t => t = u))
    ∧ (front → Yields .gnVerdict s (fun t => (t.pod 1).mbox = es ∧ t.ref.gnVerdict = (e.payload.headD 0).toNat % 4
        ∧ t.ref.gnLabel = some lab ∧ ((s.track 12).lastPulse = some of' → (t.track 12).label = some (of', lab))
        ∧ ((s.track 12).lastPulse ≠ some of' → (t.track 12).labels = (of', lab) :: (s.track 12).labels.take 1)))
    ∧ ((s.pod 1).mbox = [] → Yields .gnVerdict s (fun t => t = s))
    ∧ (runs → s.gns.ppsf = some (f, sec, tick) → v.vcAt 0 tick + fuSec / 1000 ≤ g →
      Yields (.gnPps sec) s (fun t => t = { v with gns := { s.gns with ppsAt := some sec, ppsf := none, pulses := g :: s.gns.pulses.take 1 } }))
    ∧ (runs → s.gns.ppsf = some (f, sec, tick) → g < v.vcAt 0 tick + fuSec / 1000 → Yields (.gnPps sec) s missed)
    ∧ (runs → s.gns.ppsf = none ∨ (s.gns.ppsf = some (f, n, tick) ∧ n < sec) → half → Yields (.gnPps sec) s missed)
    ∧ (runs → s.gns.ppsf = none ∨ (s.gns.ppsf = some (f, n, tick) ∧ n ≠ sec) → ¬ half → Yields (.gnPps sec) s (fun t => t = s))
    ∧ (runs → s.gns.ppsf = some (f, n, tick) → sec < n → Yields (.gnPps sec) s (fun t => t = s))
    ∧ (¬ runs → Yields (.gnPps sec) s (fun t => t = s))
    ∧ (pulses → keeps → l.line.length ≤ 42 → s.ringRoom 2 = true → tabGet none s.hif.loss 2 = none → tracked (fun t => ended t 0
        ∧ t.reg (Reg.HIF_RING_PI 2) = (s.reg (Reg.HIF_RING_PI 2) + 1) % 2 ^ 32))
    ∧ (pulses → ¬ keeps → tracked (fun t => ended t 0 ∧ t.reg (Reg.HIF_RING_PI 2) = s.reg (Reg.HIF_RING_PI 2)))
    ∧ (¬ pulses → tracked (fun t => ended t 1 ∧ t.reg (Reg.HIF_RING_PI 2) = s.reg (Reg.HIF_RING_PI 2)))
    ∧ (s.runsResident 2 = false ∨ s.param 0x21E = 0 ∨ cggStart s.leapTable start = false ∨ s.gns.track = some start ∨ u.cggSpan start = none →
      Yields (.cggttsTrackEnd ⟨start, [l], k⟩) s (fun t => t = u))

/-- R275, R276, R279, R283, R288, R290, R295 to R297: an instance takes a configuration while it is DISABLED; it starts as LISTENING, as MASTER or
FAULTY, without a conflict and within the capacity; a stop leaves it DISABLED without grants; masters go to a SLAVE instance; a grant, the
status and the identity are given. Every refusal leaves the instances as they are. Where a grant's fields stand in the result is the model's
choice (notes/assumptions/23). -/
def Obligations.PtpCommands : Prop :=
  ∀ (s : State) (q i id : Nat) (args : PtpArgs) (c : PtpCfg) (addrs : List (List Byte)) (key : GrantKey) (g : PtpGrant),
    let st := s.instSt i
    let same (t : State) : Prop := Answered t q ∧ t.ptp = s.ptp ∧ t.reg (Reg.PTP_INST_STAT i) = s.reg (Reg.PTP_INST_STAT i)
    let gives (t : State) (op : Nat) (res : List Byte) : Prop := Answered t q ∧ t.ptp = s.ptp
      ∧ (s.ringRoom 1 = false → t.hif.held = s.hif.held ++ [⟨q, op, 0, res, 0, 0⟩])
    let may (op : Nat) : Prop := Starts s q op ∧ i < 8
    let has : Prop := (s.inst i).cfg = some c
    let clash : Prop := ∃ j < 8, s.instSt j ≠ 0 ∧ ∃ d, (s.inst j).cfg = some d ∧ ptpConflict c d = true
    let full : Prop := syncStream c ≠ 0 ∧ s.rateFits c.port (syncStream c) = false
    let begins (t : State) (k cause : Nat) : Prop := Answered t q ∧ t.instSt i = k
      ∧ t.fld (Reg.PTP_INST_STAT i) Reg.PTP_INST_STAT_CAUSE = cause ∧ (16 + i ∈ t.flt.cond ↔ k = 1)
    let starts : Prop := may 0x0301 ∧ has ∧ ¬ clash ∧ ¬ full
    let left := (g.time + g.dur * fuSec - s.instNow c) / fuSec
    (Starts s q 0x0300 → 8 ≤ i → Yields (.ptpConfig q i args) s same)
    ∧ (Starts s q 0x0301 → 8 ≤ i → Yields (.ptpStart q i) s same)
    ∧ (may 0x0300 → st = 0 → ptpResolve args = some c → Yields (.ptpConfig q i args) s (fun t => Answered t q ∧ t.instSt i = 0
        ∧ t.inst i = { s.inst i with cfg := some c } ∧ t.fld (Reg.PTP_INST_STAT i) Reg.PTP_INST_STAT_DOMAIN = c.domain % 256
        ∧ t.fld (Reg.PTP_INST_STAT i) Reg.PTP_INST_STAT_ROLE = c.role % 2))
    ∧ (may 0x0300 → st ≠ 0 ∨ ptpResolve args = none → Yields (.ptpConfig q i args) s same)
    ∧ (starts → s.instFault c = 0 → c.role = 0 → Yields (.ptpStart q i) s (fun t => begins t (if c.masterOnly then 3 else 2) 0
        ∧ (t.inst i).listen = s.instNow c ∧ (t.inst i).foreign = []))
    ∧ (starts → s.instFault c = 0 → c.role = 1 → c.mode = 0 ∨ (s.inst i).masters = [] → Yields (.ptpStart q i) s (fun t => begins t 2 0
        ∧ (t.inst i).listen = s.instNow c ∧ (t.inst i).foreign = [] ∧ (t.inst i).sel = none))
    ∧ (starts → s.instFault c ≠ 0 → Yields (.ptpStart q i) s (fun t => begins t 1 (s.instFault c)))
    ∧ (may 0x0301 → (s.inst i).cfg = none ∨ (has ∧ (clash ∨ full)) → Yields (.ptpStart q i) s same)
    ∧ (may 0x0302 → has → Yields (.ptpStop q i) s (fun t => Answered t q ∧ t.instSt i = 0
        ∧ t.ptp.grants = s.ptp.grants.filter (fun g => g.inst != i) ∧ (t.inst i).cfg = some c ∧ (t.inst i).foreign = []
        ∧ (t.inst i).sel = none ∧ (t.inst i).asks = []))
    ∧ (may 0x0302 → (s.inst i).cfg = none → Yields (.ptpStop q i) s same)
    ∧ (may 0x0303 → st = 0 → has → c.role = 1 → addrs.length ≤ 8 →
      Yields (.ptpMasters q i addrs) s (fun t => Answered t q ∧ t.inst i = { s.inst i with masters := addrs }))
    ∧ (may 0x0303 → st ≠ 0 ∨ (s.inst i).cfg = none ∨ (has ∧ (c.role ≠ 1 ∨ 8 < addrs.length)) → Yields (.ptpMasters q i addrs) s same)
    ∧ (may 0x0304 → has → s.grantOf i key = some g → Yields (.ptpGrantQuery q i key) s (fun t => gives t 0x0304 (natLe 1 g.key.type
        ++ intLe 1 g.log ++ natLe 4 g.dur ++ natLe 4 left.toNat ++ natLe 4 g.phi ++ natLe 1 (bit g.dram))))
    ∧ (may 0x0304 → s.grantOf i key = none → Yields (.ptpGrantQuery q i key) s same)
    ∧ (Starts s q 0x0305 → (∀ j < 8, s.instSt j = 0) → Yields (.ptpIdentity q id) s (fun t => t = { s with mram := t.mram }
        ∧ ∃ r ∈ t.mram.queue, r.rid = ridClockId ∧ r.val = .nums [id % 2 ^ 64] ∧ (q, 0x0305, []) ∈ r.resp))
    ∧ (Starts s q 0x0305 → (∃ j < 8, s.instSt j ≠ 0) → Yields (.ptpIdentity q id) s (fun t => Answered t q ∧ t.mram = s.mram))
    ∧ (may 0x0306 → Yields (.ptpStatus q i) s (fun t => gives t 0x0306 (natLe 4 (s.reg (Reg.PTP_INST_STAT i))
        ++ natLe 8 (s.reg (Reg.PTP_INST_UP i)) ++ natLe 8 (s.reg Reg.PTP_BUDGET))))

/-- R277, R279 to R282, R284, R288, R289, R291, R294: what a running instance sends and what it does with what it receives. A message of an interval that is due is
queued once, with the next sequence number of its type; a message of another version or domain leaves; a Delay_Req and a request for a grant are
answered; 16 exchanges make an UNCALIBRATED instance SLAVE. -/
def Obligations.PtpMessages : Prop :=
  ∀ (s : State) (i : InstId) (k : Nat) (n : Int) (c : PtpCfg) (key : GrantKey) (g : PtpGrant) (f : Foreign) (o msg : PtpMsg) (a addr : List Byte)
    (ann : PtpAnnounce) (r : RxItem) (tick slot type dur seq e : Nat) (log : Int) (rest : List (PtpMsg × List Byte × Nat))
    (t1 t2 t3 : Gt) (cs : Int) (y : Option Gt),
    let u := s.at k
    let v := u.review i
    let now := u.instNow c
    let quiet : Prop := (∀ g ∈ s.ptp.grants, g.inst = i.val → now < g.time + g.dur * fuSec)
      ∧ ∀ f ∈ (s.inst i).foreign, now < f.times.headD 0 + c.annTimeout * logIval f.log
    let ready : Prop := (s.inst i).cfg = some c ∧ u.instFault c = 0 ∧ u.qbvNow c.port = none ∧ (s.port c.port).tx = [] ∧ quiet
    let live : Prop := ready ∧ c.auth = 0
    let master : Prop := live ∧ s.instSt i = 3
    let next (ty : Nat) : Nat := (tabGet 0 (s.inst i).seqs ty + 1) % 65536
    let sends (t : State) (to_ : List Byte) (P : PtpMsg → Prop) : Prop := ∃ x m, (t.port c.port).tx = [x] ∧ x.body = .ptp i m to_
      ∧ x.owner = .engine ∧ m.major = 2 ∧ m.domain = c.domain ∧ m.clock = s.clockId ∧ m.port = s.portNo i
      ∧ m.unicast = !to_.isEmpty ∧ m.auth = none ∧ P m
    let once (t : State) (ty : Nat) : Prop := tabGet none (t.inst i).served ty = some n
    let no : Prop := (s.inst i).cfg = none ∨ s.instSt i = 0
    let pmc := 288 + 32 * i.val
    let cls := if msg.type < 4 then 0 else 1
    let got : Prop := live ∧ 2 ≤ s.instSt i ∧ (s.port c.port).rx.find? (fun r => r.cls == cls) = some r
    let left (t : State) : Prop := (t.port c.port).rx = dropFirst cls (s.port c.port).rx
    let mine : Prop := got ∧ msg.major = 2 ∧ msg.minor ≤ 1 ∧ msg.domain = c.domain
    let rx := r.stamp.on (u.instVc c)
    let ask : Prop := mine ∧ msg.type = 12 ∧ msg.tlvs = [.request type log dur] ∧ c.role = 0 ∧ c.mode = 1 ∧ (type = 0 ∨ type = 9 ∨ type = 11)
    let least := if type = 0 then c.logSync else if type = 11 then c.logAnnounce else c.logDelay
    let ck : GrantKey := ⟨type, addr, msg.clock, msg.port⟩
    let fits : Prop := grantRate type log = 0 ∨ s.rateFits c.port (grantRate type log) = true
    let granted (t : State) (d : Nat) : Prop := sends t addr (fun m => m.type = 12 ∧ m.tlvs = [.grant type log d])
    let slave : Prop := mine ∧ c.role = 1 ∧ 5 ≤ s.instSt i ∧ (s.inst i).sel = some (msg.clock, msg.port) ∧ msg.tlvs = []
    let d1 := fuToPs (t2 - t1) - corrPs cs
    let d2 := fuToPs (msg.time - t3) - corrPs msg.corr
    let done : Prop := slave ∧ c.profile ≠ 1 ∧ msg.type = 9 ∧ msg.reqClock = s.clockId ∧ msg.reqPort = s.portNo i ∧ msg.seq = tick
      ∧ (s.inst i).sync = some ⟨seq, some t1, some t2, cs⟩ ∧ (s.inst i).dreq = some ⟨tick, some t3, none, 0⟩
    (master → c.mode ≠ 1 → u.ivalDue i 0 c c.logSync = some n → Yields (.syncTx i k) s (fun t => once t 0
        ∧ sends t [] (fun m => m.type = 0 ∧ m.seq = next 0 ∧ m.log = c.logSync ∧ m.twoStep = c.twoStep
          ∧ (c.twoStep = true ∨ c.boundTlv < 2 → m.tlvs = []))))
    ∧ (ready → c.auth = 2 → s.instSt i = 3 → c.mode ≠ 1 → u.ivalDue i 0 c c.logSync = some n → c.authSlot = some slot →
        s.keyFor slot [ptpAuthUse] = .inl e →
      Yields (.syncTx i k) s (fun t => (t.port c.port).tx = [] ∧ Counted s t (pmc + 12) 1))
    ∧ (master → u.ivalDue i 0 c c.logSync = none ∨ c.mode = 1 → Yields (.syncTx i k) s (fun t => t = v))
    ∧ (master → c.mode ≠ 1 → u.ivalDue i 11 c c.logAnnounce = some n → Yields (.announceTx i k) s (fun t => once t 11
        ∧ sends t [] (fun m => m.type = 11 ∧ m.seq = next 11 ∧ m.log = c.logAnnounce ∧ m.ann = some (v.announceOf c).1
          ∧ m.flags = (v.announceOf c).2)))
    ∧ (master → u.ivalDue i 11 c c.logAnnounce = none → Yields (.announceTx i k) s (fun t => t = v))
    ∧ (master → s.grantOf i key = some g → key.type = 0 ∨ key.type = 11 → n = ivalNo (u.instNow c) g.log ((g.phi : Int) * 1000 * fuNs) →
        (∀ d, g.served = some d → d < n) →
      Yields (.unicastTx i key k) s (fun t => (∃ h, t.grantOf i key = some h ∧ h.served = some n ∧ (s.cachedGrants < 65536 → h.dram = false))
        ∧ sends t key.addr (fun m => m.type = key.type ∧ m.seq = next key.type ∧ m.log = g.log)))
    ∧ (live → s.grantOf i key = none → Yields (.unicastTx i key k) s (fun t => t = v))
    ∧ (live → 5 ≤ s.instSt i → c.role = 1 → c.profile ≠ 1 → s.selected i = some f → u.ivalDue i 1 c c.logDelay = some n →
        c.mode = 0 ∨ (s.inst i).asks.any (fun a => a.addr == f.addr && a.type == 9 && a.st == 1) = true →
      Yields (.delayReqTx i k) s (fun t => once t 1
        ∧ sends t (if c.mode = 0 then [] else f.addr) (fun m => m.type = 1 ∧ m.seq = next 1 ∧ m.log = 127)))
    ∧ (live → 2 ≤ s.instSt i → c.role = 1 → c.profile = 1 → u.ivalDue i 1 c c.logDelay = some n →
      Yields (.delayReqTx i k) s (fun t => once t 1 ∧ sends t [] (fun m => m.type = 2 ∧ m.seq = next 2 ∧ m.log = c.logDelay)))
    ∧ (live → u.ivalDue i 1 c c.logDelay = none ∨ c.role = 0 → 2 ≤ s.instSt i → Yields (.delayReqTx i k) s (fun t => t = v))
    ∧ (live → 2 ≤ s.instSt i → (s.inst i).follow = (o, a, tick) :: rest → o.tlvs = [] →
      Yields (.followUpTx i k) s (fun t => (t.inst i).follow = rest
        ∧ ∃ x, (t.port c.port).tx = [x] ∧ x.body = .ptp i { v.ptpFresh c o with auth := none, unicast := !a.isEmpty } a))
    ∧ (live → 2 ≤ s.instSt i → (s.inst i).follow = [] → Yields (.followUpTx i k) s (fun t => t = v))
    ∧ (no → Yields (.syncTx i k) s (fun t => t = v) ∧ Yields (.announceTx i k) s (fun t => t = v)
        ∧ Yields (.unicastTx i key k) s (fun t => t = v) ∧ Yields (.delayReqTx i k) s (fun t => t = v)
        ∧ Yields (.followUpTx i k) s (fun t => t = v))
    ∧ (got → msg.major ≠ 2 ∨ 1 < msg.minor → Yields (.ptpMessageRx i msg addr k) s (fun t => left t ∧ t.ptp = s.ptp ∧ Counted s t pmc 1))
    ∧ (got → msg.major = 2 → msg.minor ≤ 1 → msg.domain ≠ c.domain → Yields (.ptpMessageRx i msg addr k) s (fun t => left t ∧ t.ptp = s.ptp))
    ∧ (mine → msg.type = 13 → Yields (.ptpMessageRx i msg addr k) s (fun t => left t ∧ t.ptp = s.ptp ∧ Counted s t (pmc + 1) 1))
    ∧ (mine → msg.type = 11 → msg.ann = some ann → msg.clock = s.clockId →
      Yields (.ptpMessageRx i msg addr k) s (fun t => left t ∧ t.ptp = s.ptp))
    ∧ (mine → msg.type = 11 → msg.ann = some ann → msg.clock ≠ s.clockId → c.role = 0 → c.masterOnly = true →
      Yields (.ptpMessageRx i msg addr k) s (fun t => left t ∧ t.instSt i = s.instSt i
        ∧ ∃ f ∈ (t.inst i).foreign, f.clock = msg.clock ∧ f.port = msg.port ∧ f.ann = ann ∧ f.addr = addr ∧ f.log = msg.log))
    ∧ (mine → msg.type = 1 → c.profile ≠ 1 → s.instSt i = 3 → c.mode = 0 →
      Yields (.ptpMessageRx i msg addr k) s (fun t => left t ∧ sends t [] (fun m => m.type = 9 ∧ m.seq = msg.seq ∧ m.log = c.logDelay
        ∧ m.time = (msgTime rx).1 ∧ m.corr = msg.corr - (msgTime rx).2 ∧ m.reqClock = msg.clock ∧ m.reqPort = msg.port)))
    ∧ (slave → msg.type = 0 → msg.twoStep = false → c.profile ≠ 1 → (s.inst i).dreq = none →
      Yields (.ptpMessageRx i msg addr k) s (fun t => left t
        ∧ t.inst i = { s.inst i with sync := some ⟨msg.seq, some msg.time, some rx, msg.corr⟩ }))
    ∧ (slave → msg.type = 8 → c.profile ≠ 1 → (s.inst i).dreq = none → (s.inst i).sync = some ⟨msg.seq, none, y, cs⟩ →
      Yields (.ptpMessageRx i msg addr k) s (fun t => left t
        ∧ t.inst i = { s.inst i with sync := some ⟨msg.seq, some msg.time, y, cs + msg.corr⟩ }))
    ∧ (done → Yields (.ptpMessageRx i msg addr k) s (fun t => left t ∧ (t.inst i).exchanges = (s.inst i).exchanges + 1
        ∧ (t.inst i).offs = (s.inst i).offs ++ [(gtSec now, (d1 + d2) / 2, (d1 - d2) / 2 - s.asym c.port)]
        ∧ t.instSt i = (if s.instSt i = 5 ∧ 16 ≤ (s.inst i).exchanges + 1 then 6 else s.instSt i)))
    ∧ (ask → s.instSt i = 3 ∨ s.instSt i = 4 → least ≤ log → s.grantOf i ck = none → fits → s.ptp.grants.length < 1048576 →
      Yields (.requestUnicastTransmission i msg addr k) s (fun t => left t ∧ granted t (min c.grantMaxDur (max 10 dur))
        ∧ t.ptp.grants.length = s.ptp.grants.length + 1
        ∧ ∃ h, t.grantOf i ck = some h ∧ h.log = log ∧ h.time = now ∧ h.dur = min c.grantMaxDur (max 10 dur)
          ∧ h.dram = (slowestCached s.ptp.grants).any (fun o => decide (65536 ≤ s.cachedGrants ∧ o.log ≤ log))
          ∧ (s.cachedGrants < 65536 → t.ptp.grants = s.ptp.grants ++ [h])))
    ∧ (ask → s.instSt i = 3 ∨ s.instSt i = 4 → log < least →
      Yields (.requestUnicastTransmission i msg addr k) s (fun t => left t ∧ granted t 0 ∧ t.ptp.grants = s.ptp.grants
        ∧ Counted s t (pmc + 6) 1))
    ∧ (ask → s.instSt i ≠ 3 → s.instSt i ≠ 4 →
      Yields (.requestUnicastTransmission i msg addr k) s (fun t => left t ∧ t.ptp = s.ptp ∧ Counted s t (pmc + 5) 1))
    ∧ (mine → msg.type = 12 → msg.tlvs = [.cancel type] → c.role = 0 →
      Yields (.cancelUnicastTransmission i msg addr k) s (fun t => left t ∧ t.grantOf i ck = none
        ∧ sends t addr (fun m => m.type = 12 ∧ m.tlvs = [.ack type])))
    ∧ (msg.type ≠ 12 → Yields (.requestUnicastTransmission i msg addr k) s (fun t => t = u)
        ∧ Yields (.cancelUnicastTransmission i msg addr k) s (fun t => t = u))

/-- R279, R284, R288, R290: grants end with their duration; a SLAVE instance renews a grant at half of it, gives a request up after 1 s and asks again after 10 s;
a master that no longer announces is forgotten; a LISTENING master instance takes over; each whole second of a SLAVE instance gives its pulse, or
counts a missing one. -/
def Obligations.PtpTimeouts : Prop :=
  ∀ (s : State) (i : InstId) (k type clock port : Nat) (c : PtpCfg) (key : GrantKey) (g : PtpGrant) (f : Foreign) (b : SlaveGrant)
    (addr : List Byte) (sec : Int),
    let u := s.at k
    let v := u.review i
    let live : Prop := (s.inst i).cfg = some c ∧ u.instFault c = 0 ∧ 2 ≤ s.instSt i
    let sends : Prop := u.qbvNow c.port = none ∧ (s.port c.port).tx = [] ∧ c.auth = 0
    let now := u.instNow c
    let quiet (now : Gt) : Prop := (∀ g ∈ s.ptp.grants, g.inst = i.val → now < g.time + g.dur * fuSec)
      ∧ ∀ f ∈ (s.inst i).foreign, now < f.times.headD 0 + c.annTimeout * logIval f.log
    let calm : Prop := live ∧ quiet now
    let ends : Prop := g.time + g.dur * fuSec ≤ now
    let asks (t : State) : Prop := (∃ h, t.askOf i addr type = some h ∧ h.st = 0 ∧ h.at' = now ∧ h.dur = b.dur)
      ∧ ∃ x m n, (t.port c.port).tx = [x] ∧ x.body = .ptp i m addr ∧ m.type = 12 ∧ m.tlvs = [.request type n c.grantReqDur]
    let late : Prop := f.times.headD 0 + c.annTimeout * logIval f.log ≤ now
    let only : Prop := (s.inst i).foreign = [f] ∧ f.clock = clock ∧ f.port = port
    let to_ (t : State) (st cause : Nat) : Prop := t.instSt i = st ∧ t.fld (Reg.PTP_INST_STAT i) Reg.PTP_INST_STAT_CAUSE = cause
    let waited : Prop := (s.inst i).listen + c.annTimeout * logIval c.logAnnounce ≤ now
    let fresh : Prop := c.role = 1 ∧ sec * fuSec ≤ s.instNow c ∧ ∀ d, tabGet none (s.inst i).served 0x100 = some d → d < sec
    let second : Prop := (s.inst i).cfg = some c ∧ 2 ≤ s.instSt i ∧ s.instFault c = 0 ∧ quiet (s.instNow c) ∧ fresh
    let l := ((s.inst i).offs.filter (fun x => decide (x.1 = sec - 1))).map (·.2)
    let rest := (s.inst i).offs.filter (fun x => decide (sec ≤ x.1))
    let o := secondOffset c.profile l
    let w := nearest (o / 1000000000000)
    let known := (s.selected i).any (fun f => decide (f.flags / 8 % 2 = 1))
    let misses (t : State) : Prop := (t.inst i).pulses = (s.inst i).pulses ∧ Counted s t (288 + 32 * i.val + 4) 1
    ((s.inst i).cfg = some c → s.grantOf i key = some g → ends → Yields (.grantExpire i key k) s (fun t => t.grantOf i key = none
        ∧ t.ptp.grants = s.ptp.grants.filter (fun g => !(g.inst == i.val && g.key == key))))
    ∧ ((s.inst i).cfg = some c → s.grantOf i key = some g → ¬ ends → Yields (.grantExpire i key k) s (fun t => t = u))
    ∧ (s.grantOf i key = none → Yields (.grantExpire i key k) s (fun t => t = u))
    ∧ (calm → sends → s.askOf i addr type = some b → b.st = 1 → b.at' + b.dur * fuSec / 2 ≤ now → Yields (.grantRenew i addr type k) s asks)
    ∧ (calm → s.askOf i addr type = some b → b.st ≠ 1 ∨ now < b.at' + b.dur * fuSec / 2 →
      Yields (.grantRenew i addr type k) s (fun t => t = v))
    ∧ (calm → s.askOf i addr type = some b → b.st = 0 → b.at' + fuSec ≤ now →
      Yields (.grantRequestTimeout i addr type k) s (fun t => Counted s t (288 + 32 * i.val + 9) 1
        ∧ t.askOf i addr type = some { b with st := 2, at' := now }))
    ∧ (calm → s.askOf i addr type = some b → b.st ≠ 0 ∨ now < b.at' + fuSec → Yields (.grantRequestTimeout i addr type k) s (fun t => t = v))
    ∧ (calm → sends → s.askOf i addr type = some b → b.st = 2 → b.at' + 10 * fuSec ≤ now → Yields (.grantRetry i addr type k) s asks)
    ∧ (calm → s.askOf i addr type = some b → b.st ≠ 2 ∨ now < b.at' + 10 * fuSec → Yields (.grantRetry i addr type k) s (fun t => t = v))
    ∧ (live → only → late → c.role = 1 → 5 ≤ s.instSt i → Yields (.announceReceiptTimeout i clock port k) s (fun t => to_ t 2 5
        ∧ (t.inst i).foreign = [] ∧ (t.inst i).sel = none ∧ (t.inst i).listen = now))
    ∧ (live → only → late → c.role = 0 → c.masterOnly = false → s.instSt i = 4 → Yields (.announceReceiptTimeout i clock port k) s (fun t =>
        to_ t 3 0 ∧ (t.inst i).foreign = []))
    ∧ (calm → only → ¬ late → Yields (.announceReceiptTimeout i clock port k) s (fun t => t = v))
    ∧ (calm → c.role = 0 → s.instSt i = 2 → waited → (s.inst i).foreign = [] → Yields (.listeningTimeout i k) s (fun t => to_ t 3 0))
    ∧ (calm → c.role ≠ 0 ∨ s.instSt i ≠ 2 ∨ ¬ waited → Yields (.listeningTimeout i k) s (fun t => t = v))
    ∧ (second → s.instSt i = 6 → l ≠ [] → Yields (.psPps i sec) s (fun t => (t.inst i).offs = rest
        ∧ (t.inst i).pulses = ((sec + 1) * fuSec + psToFu (o - w * 1000000000000), sec + 1 - w, known) :: (s.inst i).pulses.take 1))
    ∧ (second → s.instSt i ≠ 6 ∨ l = [] → Yields (.psPps i sec) s (fun t => (t.inst i).offs = rest ∧ misses t))
    ∧ ((s.inst i).cfg = some c → s.instSt i = 1 → s.instFault c ≠ 0 → fresh → Yields (.psPps i sec) s misses)
    ∧ ((s.inst i).cfg = some c → 2 ≤ s.instSt i → s.instFault c = 0 → quiet (s.instNow c) → c.role = 0 ∨ s.instNow c < sec * fuSec →
      Yields (.psPps i sec) s (fun t => t = s.review i))

/-- R299, R303, R305 to R308, R310, R311, R313, R315, R316, R319, R320: a request goes to the host, is dropped as malformed, is shed where its completion is predicted
later than LIMIT, or is answered with its identity served; what the steps of NTS find is counted and answered, and waits for committed sealing counts; cookie keys are
set and dropped; a minting gives cookies of the next counts; the ledger is read, freed and written from its queue; Pod 4 reviews the key and
the requests shed. That a request waits for the counts is the model's reading (notes/assumptions/7). -/
def Obligations.TimeService : Prop :=
  ∀ (s : State) (p : PortId) (w : NseLoad) (k q slot alg ident count n ign e id idgen opened fresh : Nat) (x : RxItem) (d : Udp) (a : Accepted)
    (uid c2s s2c key : List Byte) (rec : LedgerRec) (rest : List (Nat × LedgerRec)) (ks : List Nat) (at_ : Nat),
    let u := s.at k
    let front (cls : Nat) : Prop := (s.port p).rx.find? (fun r => r.cls == cls) = some x
    let left (t : State) (cls : Nat) : Prop := (t.port p).rx = dropFirst cls (s.port p).rx
    let off : Prop := s.halfDuplex p = true ∨ s.fld Reg.NSE_CFG Reg.NSE_CFG_EN = 0
    let b := sliceAt x.bytes d.off d.len
    let sheds (cls : Nat) : Prop := u.nseSheds p cls w x b = true
    let sound : Prop := ¬ off ∧ udpOf x.bytes (ethOf x.bytes) = some d ∧ legacyMac b = false ∧ (ntpFields b).2 = true
    let open_ (len : Nat) : Prop := u.portUp p = true ∧ u.qbvNow p = none ∧ (s.port p).tx = [] ∧ u.prpOn p = false ∧ s.twinService p = false
      ∧ (ethOf x.bytes).off + 52 + len ≤ u.maxFrame p
    let answers (t : State) (kind : NseKind) : Prop := ∃ y, (t.port p).tx = [y] ∧ y.body = .nse ⟨x.bytes, x.stamp, kind⟩ ∧ y.owner = .engine
    let nts : Prop := front 2 ∧ sound ∧ ¬ sheds 2
    let sealer := s.freshSlot opened
    let kind (slot gen first : Nat) : NseKind := .nts uid opened alg ident idgen c2s s2c fresh slot gen first
    let served : Prop := nts ∧ u.ntsSteps b = .serve ign n (kind 0 0 0)
    let gives (t : State) (op st : Nat) : Prop := Answered t q ∧ t.nse = s.nse
      ∧ (s.ringRoom 1 = false → t.hif.held = s.hif.held ++ [⟨q, op, st, [], 0, 0⟩])
    let room (m : Nat) : Prop := s.hif.accepted.find? (fun a => a.hseq = q) = some a ∧ m ≤ a.resLen ∧ a.resErr = false
    let mint : Prop := Starts s q 0x0400 ∧ room (6 + min 8 count * (40 + 2 * algLen alg))
    let sane : Prop := (alg = 15 ∨ alg = 17) ∧ c2s.length = algLen alg ∧ s2c.length = algLen alg ∧ 1 ≤ count ∧ count ≤ 8
    let known : Prop := ident < s.ledgerCap ∧ (s.ledgerNow ident).kind = 1
    let entry := s.ledgerNow ident
    let waits (t : State) (slot : Nat) : Prop := ∃ r ∈ t.mram.queue, r.rid = ridSeal slot
    let held : Prop := ident < s.ledgerCap ∧ entry.kind ≠ 0
    let cmd := Instr.ntsMint q alg ident c2s s2c count
    ((s.port p).rx.find? (fun r => r.cls == 3) = none → Yields (.ntpRequest p w k) s (fun t => t = u))
    ∧ ((s.port p).rx.find? (fun r => r.cls == 2) = none → Yields (.ntsRequest p w k) s (fun t => t = u))
    ∧ (front 3 → off → Yields (.ntpRequest p w k) s (fun t => left t 3 ∧ Counted s t 546 1 ∧ t.nse = s.nse))
    ∧ (front 2 → off → Yields (.ntsRequest p w k) s (fun t => left t 2 ∧ Counted s t 546 1 ∧ t.nse = s.nse))
    ∧ (front 3 → ¬ off → udpOf x.bytes (ethOf x.bytes) = some d → legacyMac b = false → (ntpFields b).2 = false →
      Yields (.ntpRequest p w k) s (fun t => left t 3 ∧ Counted s t 547 1 ∧ t.nse = s.nse))
    ∧ (front 3 → sound → sheds 3 → s.fld Reg.NSE_ADMIT Reg.NSE_ADMIT_KOD_EN = 0 →
      Yields (.ntpRequest p w k) s (fun t => left t 3 ∧ Counted s t 556 1 ∧ Counted s t (32 * p + 27) 1
        ∧ t.nse.shed = s.nse.shed + 1 ∧ t.nse.received = s.nse.received + 1 ∧ (t.port p).tx = (s.port p).tx))
    ∧ (front 3 → sound → sheds 3 → s.fld Reg.NSE_ADMIT Reg.NSE_ADMIT_KOD_EN = 1 → u.ntpIdent d.src = none →
        tabGet 0 s.nse.kods (Config.kodHash (2 ^ 32 + beNat d.src) % 65536) = 0 → open_ 76 →
      Yields (.ntpRequest p w k) s (fun t => left t 3 ∧ Counted s t 558 1 ∧ answers t .kod))
    ∧ (front 2 → sound → sheds 2 → Yields (.ntsRequest p w k) s (fun t => left t 2 ∧ Counted s t 556 1
        ∧ Counted s t (32 * p + 27) 1 ∧ t.nse = { s.nse with shed := s.nse.shed + 1, received := s.nse.received + 1 } ∧ t.mac.next = s.mac.next))
    ∧ (front 3 → sound → ¬ sheds 3 → open_ 76 → Yields (.ntpRequest p w k) s (fun t => left t 3 ∧ Counted s t 544 1
        ∧ Counted s t (32 * p + 28) 1 ∧ t.nse.received = s.nse.received + 1 ∧ answers t .ntp))
    ∧ (nts → u.ntsSteps b = .drop 3 n → Yields (.ntsRequest p w k) s (fun t => left t 2 ∧ Counted s t 547 1 ∧ t.mac.next = s.mac.next))
    ∧ (nts → u.ntsSteps b = .drop 4 n → Yields (.ntsRequest p w k) s (fun t => left t 2 ∧ Counted s t 548 1 ∧ t.mac.next = s.mac.next))
    ∧ (nts → u.ntsSteps b = .nak e uid n none → e ≤ 8 → open_ (replyLen (.nak uid)) →
      Yields (.ntsRequest p w k) s (fun t => left t 2 ∧ Counted s t (544 + e) 1 ∧ answers t (.nak uid)))
    ∧ (served → s.sealReady sealer fresh = true → open_ (replyLen (kind 0 0 0)) →
      Yields (.ntsRequest p w k) s (fun t => left t 2 ∧ Counted s t 545 1 ∧ Counted s t 553 ign
        ∧ answers t (kind sealer (s.keyGen sealer) (s.sealNext sealer)) ∧ t.sealNext sealer = s.sealNext sealer + fresh))
    ∧ (served → s.sealReady sealer fresh = false →
      Yields (.ntsRequest p w k) s (fun t => t = { u with mram := t.mram } ∧ waits t sealer))
    ∧ (s.nse.updq = (id, rec) :: rest → s.dramUp = true → s.tel.shortAt ≠ some s.tkp.rawcnt →
      Yields .ledgerUpdateWrite s (fun t => t.nse.updq = rest
        ∧ (s.dramTurn.1 = true → tabGet LedgerRec.reset t.nse.ledger id = rec
          ∧ ∀ j, j ≠ id → tabGet LedgerRec.reset t.nse.ledger j = tabGet LedgerRec.reset s.nse.ledger j)
        ∧ (s.dramTurn.1 = false → t.nse.ledger = s.nse.ledger ∧ Counted s t 564 1)))
    ∧ (s.nse.updq = [] ∨ s.dramUp = false ∨ s.tel.shortAt = some s.tkp.rawcnt → Yields .ledgerUpdateWrite s (fun t => t = s))
    ∧ (mint → alg ≠ 15 → alg ≠ 17 → Yields cmd s (fun t => gives t 0x0400 1))
    ∧ (mint → alg = 15 ∨ alg = 17 → c2s.length ≠ algLen alg ∨ s2c.length ≠ algLen alg → Yields cmd s (fun t => gives t 0x0400 2))
    ∧ (mint → alg = 15 ∨ alg = 17 → c2s.length = algLen alg → s2c.length = algLen alg → count = 0 ∨ 8 < count →
      Yields cmd s (fun t => gives t 0x0400 3))
    ∧ (mint → sane → ident ≠ 0xFFFFFFFF → ¬ known → Yields cmd s (fun t => gives t 0x0400 4))
    ∧ (mint → sane → known → ident ≠ 0xFFFFFFFF → s.sealSlot = none → Yields cmd s (fun t => gives t 0x0400 5))
    ∧ (mint → sane → known → ident ≠ 0xFFFFFFFF → s.sealSlot = some slot → s.sealReady slot count = false →
      Yields cmd s (fun t => t = { s with mram := t.mram } ∧ waits t slot))
    ∧ (mint → sane → known → ident ≠ 0xFFFFFFFF → s.sealSlot = some slot → s.sealReady slot count = true → s.cached ident = some rec →
      Yields cmd s (fun t => Answered t q ∧ t.sealNext slot = s.sealNext slot + count ∧ Counted s t 555 count
        ∧ t.ledgerNow ident = { rec with mints := rec.mints + count }
        ∧ t.hif.result = natLe 4 ident ++ natLe 2 rec.idgen
          ++ (s.cookies slot (s.sealNext slot) count alg ident rec.idgen c2s s2c).flatten))
    ∧ (Starts s q 0x0401 → s.keyFor slot [cookieUse] = .inr key → Yields (.ntsCkeySet q slot) s (fun t => Answered t q
        ∧ t.ckeys = (slot :: s.ckeys.filter (· ≠ slot)).take 4 ∧ t.nse.ckeyAt = some s.tkp.rawcnt ∧ t.nse.ckeyDue = false ∧ 101 ∉ t.flt.cond))
    ∧ (Starts s q 0x0401 → s.keyFor slot [cookieUse] = .inl e → Yields (.ntsCkeySet q slot) s (fun t => t.ckeys = s.ckeys
        ∧ gives t 0x0401 (if e = 3 then 1 else if e = 2 then 3 else 2)))
    ∧ (Starts s q 0x0402 → s.ckeys = id :: ks → slot ∈ ks → slot ≠ id → Yields (.ntsCkeyDrop q slot) s (fun t => Answered t q
        ∧ t.ckeys = id :: ks.filter (· ≠ slot)))
    ∧ (Starts s q 0x0402 → s.ckeys = slot :: ks → Yields (.ntsCkeyDrop q slot) s (fun t => gives t 0x0402 2 ∧ t.ckeys = s.ckeys))
    ∧ (Starts s q 0x0402 → slot ∉ s.ckeys → Yields (.ntsCkeyDrop q slot) s (fun t => gives t 0x0402 1 ∧ t.ckeys = s.ckeys))
    ∧ (Starts s q 0x0403 → room 256 → held → Yields (.nseLedgerRead q ident) s (fun t => Answered t q ∧ t.nse = s.nse
        ∧ t.hif.result = ledgerBytes ident entry))
    ∧ (Starts s q 0x0403 → room 256 → ¬ held → Yields (.nseLedgerRead q ident) s (fun t => gives t 0x0403 1))
    ∧ (Starts s q 0x0404 → held → Yields (.nseLedgerFree q ident) s (fun t => Answered t q ∧ t.ledgerNow ident = { entry with kind := 0 }))
    ∧ (Starts s q 0x0404 → ¬ held → Yields (.nseLedgerFree q ident) s (fun t => gives t 0x0404 1))
    ∧ (s.ckeys = id :: ks → s.nse.ckeyAt = some at_ → s.runsResident 4 = true → s.nse.ckeyDue = false →
        at_ + s.paramN 0x401 * 1250000 ≤ u.tkp.rawcnt → Yields (.ckeyDue k) s (fun t => t.nse = { s.nse with ckeyDue := true }))
    ∧ (s.ckeys = [] ∨ s.nse.ckeyAt = none ∨ s.nse.ckeyDue = true → Yields (.ckeyDue k) s (fun t => t = u))
    ∧ (s.nse.secAt = some u.vc0Sec → Yields (.shedHigh k) s (fun t => t = u))
    ∧ (s.nse.secAt ≠ some u.vc0Sec → Yields (.shedHigh k) s (fun t => t.nse = { s.nse with secAt := some u.vc0Sec, shed := 0, received := 0 }))

/-- R454, R456, R457, R459 to R462: a clear takes its groups 1 µs after it was written and no other counter; a window latches every counter with its time, its number
and its length, and the first boundary only opens one; the oldest staged record goes to the ring or into the datagram, which closes 100 µs
after its first record. Whether the archive finds bandwidth is a free value (notes/assumptions/171). -/
def Obligations.CountersAndTelemetry : Prop :=
  ∀ (s : State) (m : Master) (data k mask tick first n : Nat) (rest : List (Nat × Nat)) (l : Gt) (r : TelRec) (recs : List Byte)
    (more : List TelRec) (x : MeasRec),
    let u := s.at k
    let hit (i : Nat) : Prop := ∃ g < 6, mask / 2 ^ g % 2 = 1 ∧ (pmcGroup g).1 ≤ i ∧ i < (pmcGroup g).1 + (pmcGroup g).2
    let len : Gt := s.pmcLen * 1000000 * fuNs
    let c := s.vcSet 0
    let since := max (vcRead c s.pmc.lenAt 1) (vcRead c (s.reg (Reg.TKP_VC_EFF 0)) 1 - 1)
    let b := (s.pmc.last.elim since (fun l => max l since) / len + 1) * len
    let tk := tickOf c b
    let due : Prop := len ≠ 0 ∧ tk ≤ u.tkp.rawcnt
    let first' : Prop := s.windowDue (tick + 1250) = false ∧ s.hif.snap.any (fun x => decide (x.1 ≤ tick + 1250)) = false
    let ns := (tk - s.pmc.tick) * 4 / 5
    let now : PmcState := { s.pmc with last := some b, tick := tk, tally := [] }
    let on := s.fld Reg.TEL_CFG Reg.TEL_CFG_EN
    let staged : Prop := s.tdc.qTel = [] ∧ s.tel.staging = r :: more ∧ on ≠ 0
    let taken := (s.at s.tel.next).tkp.rawcnt
    let tel : TelState := { s.tel with staging := more, next := taken + 313 }
    let joins : TelState := { tel with dseq := (s.tel.dseq + 1) % 2 ^ 32 }
    let archives : Prop := s.fld Reg.TEL_ARCH_CFG Reg.TEL_ARCH_CFG_EN = 1
    let dest := s.fld Reg.TEL_CFG Reg.TEL_CFG_DEST
    let small : Prop := r.gap = 0 ∧ r.payload.length ≤ 48
    let pad := List.replicate ((8 - r.payload.length % 8) % 8) (0 : Byte)
    let entry := natLe 2 r.type ++ natLe 2 r.payload.length ++ natLe 4 s.tel.dseq ++ r.payload ++ pad
    let port := s.fld Reg.TEL_UDP_CTRL Reg.TEL_UDP_CTRL_PORT
    let plain : Prop := u.portUp port = true ∧ u.qbvNow port = none ∧ (s.port port).tx = [] ∧ u.prpOn port = false ∧ u.halfDuplex port = false
      ∧ recs.length ≤ 1400
    (MayWrite s m Reg.PMC_CTRL → data % 2 = 1 → Yields (.pmcClear m data) s (fun t =>
        t = { s with pmc := { s.pmc with clear := s.pmc.clear ++ [(data / 256 % 64, s.tkp.rawcnt)] } }))
    ∧ (MayWrite s m Reg.PMC_CTRL → data % 2 = 0 → Yields (.pmcClear m data) s (fun t => t = s))
    ∧ (s.pmc.clear = (mask, tick) :: rest → first' → Yields .pmcClearApply s (fun t => t.pmc = { s.pmc with clear := rest }
        ∧ t.tkp = (s.at (tick + 1250)).tkp ∧ ∀ i < 882, (hit i → t.pmcCnt i = 0) ∧ (¬ hit i → t.pmcCnt i = s.pmcCnt i)))
    ∧ (s.pmc.clear = [] ∨ (s.pmc.clear = (mask, tick) :: rest ∧ ¬ first') → Yields .pmcClearApply s (fun t => t = s))
    ∧ (due → s.pmc.last = none → Yields (.pmcWindowBoundary k) s (fun t => t = { u with pmc := now }))
    ∧ (due → s.pmc.last = some l → Yields (.pmcWindowBoundary k) s (fun t => t.pmc = now
        ∧ (∀ i < 882, t.reg (Reg.PMC_WCNT i) = s.pmcCnt i) ∧ t.reg Reg.PMC_WSEQ = (s.reg Reg.PMC_WSEQ + 1) % 2 ^ 32
        ∧ t.reg Reg.PMC_WTIME = gtToRaw b ∧ t.reg Reg.PMC_WDUR = ns
        ∧ ∀ p : PortId, t.reg (Reg.PMC_BW p) = s.tally p 0 * 8 * 1000000 / ns % 2 ^ 32 + 2 ^ 32 * (s.tally p 1 * 8 * 1000000 / ns % 2 ^ 32)
          ∧ t.reg (Reg.PMC_BWF p) = s.tally p 2 % 2 ^ 32 + 2 ^ 32 * (s.tally p 3 % 2 ^ 32)))
    ∧ (¬ due → Yields (.pmcWindowBoundary k) s (fun t => t = u))
    ∧ (staged → dest = 0 → small → ¬ archives → s.ringRoom 3 = true → tabGet none s.hif.loss 3 = none →
      Yields .telDrain s (fun t => t.tel = tel ∧ t.reg (Reg.HIF_RING_PI 3) = (s.reg (Reg.HIF_RING_PI 3) + 1) % 2 ^ 32))
    ∧ (staged → dest = 0 → small → ¬ archives → s.ringEn 3 = false →
      Yields .telDrain s (fun t => t.tel = tel ∧ t.reg (Reg.HIF_RING_PI 3) = s.reg (Reg.HIF_RING_PI 3)))
    ∧ (staged → dest ≠ 0 → small → ¬ archives → s.tel.dgram = none →
      Yields .telDrain s (fun t => t.tel = { joins with dgram := some (entry, 1, s.tel.dseq, taken) }))
    ∧ (staged → dest ≠ 0 → small → archives → s.tel.dgram = none → Yields .telDrain s (fun t =>
        (s.dramTurn.1 = false → Counted s t 587 1 ∧ t.tel = { joins with dgram := some (entry, 1, s.tel.dseq, taken), shortAt := some taken })
        ∧ (s.dramTurn.1 = true → s.dramUp = true → s.dramFree s.archBase s.archSize = true →
          t.tel = { joins with dgram := some (entry, 1, s.tel.dseq, taken), archIdx := s.tel.archIdx + 1 })))
    ∧ (s.tdc.qTel = [] → s.tel.staging = [] ∨ on = 0 → Yields .telDrain s (fun t => t = s))
    ∧ (s.tdc.qTel = [x] → getBits (s.reg Reg.TEL_MEAS) x.chan 1 = 0 → s.tel.staging = [] → Yields .telDrain s (fun t => t.tdc.qTel = [] ∧ t.tel = s.tel))
    ∧ (s.tel.dgram = some (recs, n, first, tick) → tick + 125000 ≤ u.tkp.rawcnt → plain → Yields (.telDatagramClose k) s (fun t =>
        t.tel = { s.tel with dgram := none, dgseq := (s.tel.dgseq + 1) % 2 ^ 32 } ∧ ∃ y b, (t.port port).tx = [y] ∧ y.owner = .engine ∧ y.body = .raw b))
    ∧ (s.tel.dgram = some (recs, n, first, tick) → u.tkp.rawcnt < tick + 125000 → Yields (.telDatagramClose k) s (fun t => t = u))
    ∧ (s.tel.dgram = none → Yields (.telDatagramClose k) s (fun t => t = u))
end

