-- ==== Sys2Proof/Laws/Tab.lean ====
section
/-! SUPPORT. The laws of sparse tables and of bit fields: what a read gives after a write at the same key and at another, that
the canonical form is kept, and what a field reads after a field is set. -/

namespace Sys2Proof.Machine

variable {α : Type} [DecidableEq α]

omit [DecidableEq α] in
@[simp] theorem tabGet_nil (d : α) (k : Nat) : tabGet d [] k = d := rfl

omit [DecidableEq α] in
theorem tabGet_erase_self (d : α) (t : Tab α) (k : Nat) : tabGet d (tabErase t k) k = d := by
  induction t with
  | nil => rfl
  | cons x rest ih =>
    by_cases h : x.1 = k
    · simpa [tabErase, h] using ih
    · simpa [tabErase, tabGet, h] using ih

omit [DecidableEq α] in
theorem tabGet_erase_ne (d : α) (t : Tab α) {k j : Nat} (h : j ≠ k) : tabGet d (tabErase t k) j = tabGet d t j := by
  induction t with
  | nil => rfl
  | cons x rest ih =>
    by_cases hk : x.1 = k
    · have : x.1 ≠ j := fun e => h (e ▸ hk)
      simpa [tabErase, tabGet, hk, this, Ne.symm h] using ih
    · by_cases hj : x.1 = j
      · simp [tabErase, tabGet, hj, h]
      · simpa [tabErase, tabGet, hk, hj] using ih

omit [DecidableEq α] in
theorem tabGet_put_self (d : α) (t : Tab α) (k : Nat) (v : α) : tabGet d (tabPut t k v) k = v := by
  induction t with
  | nil => simp [tabPut, tabGet]
  | cons x rest ih =>
    obtain ⟨a, w⟩ := x
    by_cases h1 : k < a
    · simp [tabPut, tabGet, h1]
    · by_cases h2 : a = k
      · simp [tabPut, tabGet, h2]
      · simpa [tabPut, tabGet, h1, h2] using ih

omit [DecidableEq α] in
theorem tabGet_put_ne (d : α) (t : Tab α) {k j : Nat} (v : α) (h : j ≠ k) :
    tabGet d (tabPut t k v) j = tabGet d t j := by
  induction t with
  | nil => simp [tabPut, tabGet, Ne.symm h]
  | cons x rest ih =>
    obtain ⟨a, w⟩ := x
    by_cases h1 : k < a
    · simp [tabPut, tabGet, h1, Ne.symm h]
    · by_cases h2 : a = k
      · simp [tabPut, tabGet, h2, Ne.symm h]
      · by_cases h3 : a = j
        · subst h3; simp only [tabPut, if_neg h1, if_neg h2, tabGet, if_true]
        · simpa [tabPut, tabGet, h1, h2, h3] using ih

/-- A read of the key that was written gives the value written. -/
@[simp] theorem tabGet_set_self (d : α) (t : Tab α) (k : Nat) (v : α) : tabGet d (tabSet d t k v) k = v := by
  unfold tabSet
  split
  · rename_i h; rw [h]; exact tabGet_erase_self d t k
  · exact tabGet_put_self d t k v

/-- A write leaves every other key alone, whatever an unlisted key reads as there. -/
theorem tabGet_set_ne (d e : α) (t : Tab α) {k j : Nat} (v : α) (h : j ≠ k) :
    tabGet e (tabSet d t k v) j = tabGet e t j := by
  unfold tabSet
  split
  · exact tabGet_erase_ne e t h
  · exact tabGet_put_ne e t v h

theorem tabGet_set (d : α) (t : Tab α) (k j : Nat) (v : α) :
    tabGet d (tabSet d t k v) j = if j = k then v else tabGet d t j := by
  by_cases h : j = k
  · subst h; simp
  · simp [h, tabGet_set_ne d d t v h]

theorem tabGet_mod (d : α) (t : Tab α) (k j : Nat) (f : α → α) :
    tabGet d (tabMod d t k f) j = if j = k then f (tabGet d t k) else tabGet d t j := tabGet_set d t k j _

/-! ### The canonical form -/

theorem tabWfFrom_mono (d : Nat → α) {lo lo' : Nat} (t : Tab α) (h : tabWfFrom d lo t = true) (hle : lo' ≤ lo) :
    tabWfFrom d lo' t = true := by
  cases t with
  | nil => rfl
  | cons x rest =>
    simp only [tabWfFrom, Bool.and_eq_true, decide_eq_true_eq] at h ⊢
    exact ⟨⟨le_trans hle h.1.1, h.1.2⟩, h.2⟩

theorem tabWfFrom_erase (d : Nat → α) (k : Nat) : ∀ (t : Tab α) (lo : Nat), tabWfFrom d lo t = true →
    tabWfFrom d lo (tabErase t k) = true
  | [], _, _ => rfl
  | (a, w) :: rest, lo, h => by
    simp only [tabWfFrom, Bool.and_eq_true, decide_eq_true_eq] at h
    have ih := tabWfFrom_erase d k rest (a + 1) h.2
    by_cases hk : a = k
    · have e : tabErase ((a, w) :: rest) k = tabErase rest k := by simp [tabErase, hk]
      rw [e]; exact tabWfFrom_mono d _ ih (by omega)
    · have e : tabErase ((a, w) :: rest) k = (a, w) :: tabErase rest k := by simp [tabErase, hk]
      rw [e]; simp [tabWfFrom, h.1.1, h.1.2, ih]

theorem tabWfFrom_put (d : Nat → α) (k : Nat) (v : α) (hv : v ≠ d k) : ∀ (t : Tab α) (lo : Nat), lo ≤ k →
    tabWfFrom d lo t = true → tabWfFrom d lo (tabPut t k v) = true
  | [], lo, hlo, _ => by simp [tabPut, tabWfFrom, hlo, hv]
  | (a, w) :: rest, lo, hlo, h => by
    simp only [tabWfFrom, Bool.and_eq_true, decide_eq_true_eq] at h
    by_cases h1 : k < a
    · simp only [tabPut, h1, if_true, tabWfFrom, Bool.and_eq_true, decide_eq_true_eq]
      exact ⟨⟨hlo, hv⟩, ⟨⟨by omega, h.1.2⟩, h.2⟩⟩
    · by_cases h2 : a = k
      · subst h2
        simp only [tabPut, lt_irrefl, if_false, if_true, tabWfFrom, Bool.and_eq_true, decide_eq_true_eq]
        exact ⟨⟨hlo, hv⟩, h.2⟩
      · simp only [tabPut, h1, h2, if_false, tabWfFrom, Bool.and_eq_true, decide_eq_true_eq]
        exact ⟨h.1, tabWfFrom_put d k v hv rest (a + 1) (by omega) h.2⟩

/-- A write keeps the canonical form. -/
theorem tabWf_set (d : Nat → α) (t : Tab α) (k : Nat) (v : α) (h : tabWf d t = true) : tabWf d (tabSet (d k) t k v) = true := by
  unfold tabSet tabWf
  split
  · exact tabWfFrom_erase d k t 0 h
  · rename_i hv; exact tabWfFrom_put d k v hv t 0 (Nat.zero_le _) h

/-! ### Memories -/

/-- Writing bytes keeps a memory in canonical form. -/
theorem tabWf_putBytes (d : Nat → Byte) : ∀ (bs : List Byte) (m : Tab Byte) (a : Nat), tabWf d m = true →
    tabWf d (putBytes d m a bs) = true
  | [], _, _, h => h
  | b :: bs, m, a, h => tabWf_putBytes d bs _ (a + 1) (tabWf_set d m a b h)

/-- Writing bytes leaves every other address alone. -/
theorem byteAt_putBytes_out (d : Nat → Byte) : ∀ (bs : List Byte) (m : Tab Byte) (a x : Nat), x < a ∨ a + bs.length ≤ x →
    byteAt d (putBytes d m a bs) x = byteAt d m x
  | [], _, _, _, _ => rfl
  | b :: bs, m, a, x, h => by
    simp only [List.length_cons] at h
    rw [putBytes, byteAt_putBytes_out d bs _ (a + 1) x (by omega)]
    exact tabGet_set_ne _ _ _ _ (by omega)

/-- A byte that was written reads back. -/
theorem byteAt_putBytes_in (d : Nat → Byte) : ∀ (bs : List Byte) (m : Tab Byte) (a i : Nat) (h : i < bs.length),
    byteAt d (putBytes d m a bs) (a + i) = bs[i]
  | b :: bs, m, a, 0, _ => by
    rw [putBytes, byteAt_putBytes_out d bs _ (a + 1) (a + 0) (by omega)]
    simp [byteAt]
  | b :: bs, m, a, i + 1, h => by
    have := byteAt_putBytes_in d bs (tabSet (d a) m a b) (a + 1) i (by simpa using h)
    rw [putBytes]
    have e : a + (i + 1) = a + 1 + i := by omega
    rw [e, this]; simp

/-- What was written to a memory reads back. -/
theorem bytesAt_putBytes_self (d : Nat → Byte) (bs : List Byte) (m : Tab Byte) (a : Nat) :
    bytesAt d (putBytes d m a bs) a bs.length = bs := by
  apply List.ext_getElem
  · simp [bytesAt]
  · intro i h1 h2; simp [bytesAt, byteAt_putBytes_in d bs m a i h2]

@[simp] theorem natLe_length (n v : Nat) : (natLe n v).length = n := by
  induction n generalizing v with
  | zero => rfl
  | succ n ih => simp [natLe, ih]

/-- A number of `n` bytes is spelled by its bytes. -/
theorem leNat_natLe (n v : Nat) : leNat (natLe n v) = v % 256 ^ n := by
  induction n generalizing v with
  | zero => simp [natLe, leNat, Nat.mod_one]
  | succ n ih =>
    have h := Nat.mod_mul (x := v) (a := 256) (b := 256 ^ n)
    rw [pow_succ' 256, h, natLe, leNat, ih]
    simp

/-! ### Bit fields -/

theorem setBits_parts (v lo len x : Nat) :
    setBits v lo len x = v % 2 ^ lo + (x % 2 ^ len * 2 ^ lo + v / 2 ^ lo / 2 ^ len * 2 ^ len * 2 ^ lo) := by
  unfold setBits
  have h1 : v = v % 2 ^ lo + v / 2 ^ lo * 2 ^ lo := by rw [Nat.mul_comm]; exact (Nat.mod_add_div v _).symm
  have h2 : v / 2 ^ lo = v / 2 ^ lo % 2 ^ len + v / 2 ^ lo / 2 ^ len * 2 ^ len := by
    rw [Nat.mul_comm]; exact (Nat.mod_add_div _ _).symm
  have h3 : v / 2 ^ lo * 2 ^ lo = v / 2 ^ lo % 2 ^ len * 2 ^ lo + v / 2 ^ lo / 2 ^ len * 2 ^ len * 2 ^ lo := by
    rw [← Nat.add_mul, ← h2]
  omega

/-- A field that was set reads the value set, as far as it fits. -/
@[simp] theorem getBits_setBits_self (v lo len x : Nat) : getBits (setBits v lo len x) lo len = x % 2 ^ len := by
  have hp : 0 < 2 ^ lo := Nat.two_pow_pos lo
  unfold getBits
  rw [setBits_parts, ← Nat.add_mul, Nat.add_mul_div_right _ _ hp, Nat.div_eq_of_lt (Nat.mod_lt _ hp), Nat.zero_add,
    Nat.add_mul_mod_self_right, Nat.mod_mod]

theorem getBits_eq_testBit (v lo len i : Nat) : (getBits v lo len).testBit i = (decide (i < len) && v.testBit (lo + i)) := by
  unfold getBits
  rw [Nat.testBit_mod_two_pow, Nat.testBit_div_two_pow, Nat.add_comm]

theorem setBits_testBit (v lo len x i : Nat) :
    (setBits v lo len x).testBit i = if lo ≤ i ∧ i < lo + len then x.testBit (i - lo) else v.testBit i := by
  rw [setBits_parts]
  have hx : x % 2 ^ len * 2 ^ lo + v / 2 ^ lo / 2 ^ len * 2 ^ len * 2 ^ lo
      = 2 ^ lo * (x % 2 ^ len + 2 ^ len * (v / 2 ^ lo / 2 ^ len)) := by ring
  rw [hx, Nat.add_comm, Nat.testBit_two_pow_mul_add _ (Nat.mod_lt _ (Nat.two_pow_pos lo))]
  by_cases h1 : i < lo
  · have : ¬ (lo ≤ i ∧ i < lo + len) := by omega
    simp [h1, this, Nat.testBit_mod_two_pow]
  · rw [if_neg h1, Nat.add_comm (x % 2 ^ len), Nat.testBit_two_pow_mul_add _ (Nat.mod_lt _ (Nat.two_pow_pos len))]
    by_cases h2 : i - lo < len
    · have : lo ≤ i ∧ i < lo + len := by omega
      simp [h2, this, Nat.testBit_mod_two_pow]
    · have : ¬ (lo ≤ i ∧ i < lo + len) := by omega
      rw [if_neg h2, if_neg this, Nat.testBit_div_two_pow, Nat.testBit_div_two_pow]
      congr 1; omega

/-- Setting a field leaves every field beside it alone. -/
theorem getBits_setBits_disjoint (v lo len x lo' len' : Nat) (h : lo + len ≤ lo' ∨ lo' + len' ≤ lo) :
    getBits (setBits v lo len x) lo' len' = getBits v lo' len' := by
  apply Nat.eq_of_testBit_eq
  intro i
  rw [getBits_eq_testBit, getBits_eq_testBit, setBits_testBit]
  by_cases hi : i < len'
  · have : ¬ (lo ≤ lo' + i ∧ lo' + i < lo + len) := by omega
    simp [this]
  · simp [hi]

/-- A field of a field. -/
theorem getBits_lt (v lo len : Nat) : getBits v lo len < 2 ^ len := Nat.mod_lt _ (Nat.two_pow_pos len)

theorem getBits_le (v lo len : Nat) : getBits v lo len ≤ v := le_trans (Nat.mod_le _ _) (Nat.div_le_self _ _)

end Sys2Proof.Machine
end

