-- ==== Sys2Proof/Laws/State.lean ====
section
/-! SUPPORT. What each named operation leaves alone, one lemma per operation and field of State, and what a register and a Pod
read after an operation. -/

namespace Sys2Proof.Machine

/-! ### Fields that an operation leaves alone -/

namespace State

variable {s : State}

section

variable {a v : Nat}

@[simp] theorem setReg_tkp : tkp (s.setReg a v) = tkp s := by rfl
@[simp] theorem setReg_tdc : tdc (s.setReg a v) = tdc s := by rfl
@[simp] theorem setReg_pods : pods (s.setReg a v) = pods s := by rfl
@[simp] theorem setReg_params : params (s.setReg a v) = params s := by rfl
@[simp] theorem setReg_commons : commons (s.setReg a v) = commons s := by rfl
@[simp] theorem setReg_ref : ref (s.setReg a v) = ref s := by rfl
@[simp] theorem setReg_ens : ens (s.setReg a v) = ens s := by rfl
@[simp] theorem setReg_bound : bound (s.setReg a v) = bound s := by rfl
@[simp] theorem setReg_jrn : jrn (s.setReg a v) = jrn s := by rfl
@[simp] theorem setReg_hif : hif (s.setReg a v) = hif s := by rfl
@[simp] theorem setReg_flt : flt (s.setReg a v) = flt s := by rfl
@[simp] theorem setReg_syn : syn (s.setReg a v) = syn s := by rfl
@[simp] theorem setReg_clk : clk (s.setReg a v) = clk s := by rfl
@[simp] theorem setReg_mram : mram (s.setReg a v) = mram s := by rfl
@[simp] theorem setReg_key : key (s.setReg a v) = key s := by rfl
@[simp] theorem setReg_twn : twn (s.setReg a v) = twn s := by rfl
@[simp] theorem setReg_mac : mac (s.setReg a v) = mac s := by rfl
@[simp] theorem setReg_ptp : ptp (s.setReg a v) = ptp s := by rfl
@[simp] theorem setReg_nse : nse (s.setReg a v) = nse s := by rfl
@[simp] theorem setReg_gns : gns (s.setReg a v) = gns s := by rfl
@[simp] theorem setReg_tel : tel (s.setReg a v) = tel s := by rfl
@[simp] theorem setReg_pmc : pmc (s.setReg a v) = pmc s := by rfl
@[simp] theorem setReg_chk : chk (s.setReg a v) = chk s := by rfl
@[simp] theorem setReg_dram : dram (s.setReg a v) = dram s := by rfl
@[simp] theorem setReg_sram : sram (s.setReg a v) = sram s := by rfl
@[simp] theorem setReg_flash : flash (s.setReg a v) = flash s := by rfl
@[simp] theorem setReg_free : free (s.setReg a v) = free s := by rfl
@[simp] theorem setReg_pending : pending (s.setReg a v) = pending s := by rfl

end

section

variable {a : Nat} {f : Fld} {x : Nat}

@[simp] theorem setFld_tkp : tkp (s.setFld a f x) = tkp s := by rfl
@[simp] theorem setFld_tdc : tdc (s.setFld a f x) = tdc s := by rfl
@[simp] theorem setFld_pods : pods (s.setFld a f x) = pods s := by rfl
@[simp] theorem setFld_params : params (s.setFld a f x) = params s := by rfl
@[simp] theorem setFld_commons : commons (s.setFld a f x) = commons s := by rfl
@[simp] theorem setFld_ref : ref (s.setFld a f x) = ref s := by rfl
@[simp] theorem setFld_ens : ens (s.setFld a f x) = ens s := by rfl
@[simp] theorem setFld_bound : bound (s.setFld a f x) = bound s := by rfl
@[simp] theorem setFld_jrn : jrn (s.setFld a f x) = jrn s := by rfl
@[simp] theorem setFld_hif : hif (s.setFld a f x) = hif s := by rfl
@[simp] theorem setFld_flt : flt (s.setFld a f x) = flt s := by rfl
@[simp] theorem setFld_syn : syn (s.setFld a f x) = syn s := by rfl
@[simp] theorem setFld_clk : clk (s.setFld a f x) = clk s := by rfl
@[simp] theorem setFld_mram : mram (s.setFld a f x) = mram s := by rfl
@[simp] theorem setFld_key : key (s.setFld a f x) = key s := by rfl
@[simp] theorem setFld_twn : twn (s.setFld a f x) = twn s := by rfl
@[simp] theorem setFld_mac : mac (s.setFld a f x) = mac s := by rfl
@[simp] theorem setFld_ptp : ptp (s.setFld a f x) = ptp s := by rfl
@[simp] theorem setFld_nse : nse (s.setFld a f x) = nse s := by rfl
@[simp] theorem setFld_gns : gns (s.setFld a f x) = gns s := by rfl
@[simp] theorem setFld_tel : tel (s.setFld a f x) = tel s := by rfl
@[simp] theorem setFld_pmc : pmc (s.setFld a f x) = pmc s := by rfl
@[simp] theorem setFld_chk : chk (s.setFld a f x) = chk s := by rfl
@[simp] theorem setFld_dram : dram (s.setFld a f x) = dram s := by rfl
@[simp] theorem setFld_sram : sram (s.setFld a f x) = sram s := by rfl
@[simp] theorem setFld_flash : flash (s.setFld a f x) = flash s := by rfl
@[simp] theorem setFld_free : free (s.setFld a f x) = free s := by rfl
@[simp] theorem setFld_pending : pending (s.setFld a f x) = pending s := by rfl

end

section

variable {a : Nat} {f : Fld} {k : Nat}

@[simp] theorem incFld_tkp : tkp (s.incFld a f k) = tkp s := by rfl
@[simp] theorem incFld_tdc : tdc (s.incFld a f k) = tdc s := by rfl
@[simp] theorem incFld_pods : pods (s.incFld a f k) = pods s := by rfl
@[simp] theorem incFld_params : params (s.incFld a f k) = params s := by rfl
@[simp] theorem incFld_commons : commons (s.incFld a f k) = commons s := by rfl
@[simp] theorem incFld_ref : ref (s.incFld a f k) = ref s := by rfl
@[simp] theorem incFld_ens : ens (s.incFld a f k) = ens s := by rfl
@[simp] theorem incFld_bound : bound (s.incFld a f k) = bound s := by rfl
@[simp] theorem incFld_jrn : jrn (s.incFld a f k) = jrn s := by rfl
@[simp] theorem incFld_hif : hif (s.incFld a f k) = hif s := by rfl
@[simp] theorem incFld_flt : flt (s.incFld a f k) = flt s := by rfl
@[simp] theorem incFld_syn : syn (s.incFld a f k) = syn s := by rfl
@[simp] theorem incFld_clk : clk (s.incFld a f k) = clk s := by rfl
@[simp] theorem incFld_mram : mram (s.incFld a f k) = mram s := by rfl
@[simp] theorem incFld_key : key (s.incFld a f k) = key s := by rfl
@[simp] theorem incFld_twn : twn (s.incFld a f k) = twn s := by rfl
@[simp] theorem incFld_mac : mac (s.incFld a f k) = mac s := by rfl
@[simp] theorem incFld_ptp : ptp (s.incFld a f k) = ptp s := by rfl
@[simp] theorem incFld_nse : nse (s.incFld a f k) = nse s := by rfl
@[simp] theorem incFld_gns : gns (s.incFld a f k) = gns s := by rfl
@[simp] theorem incFld_tel : tel (s.incFld a f k) = tel s := by rfl
@[simp] theorem incFld_pmc : pmc (s.incFld a f k) = pmc s := by rfl
@[simp] theorem incFld_chk : chk (s.incFld a f k) = chk s := by rfl
@[simp] theorem incFld_dram : dram (s.incFld a f k) = dram s := by rfl
@[simp] theorem incFld_sram : sram (s.incFld a f k) = sram s := by rfl
@[simp] theorem incFld_flash : flash (s.incFld a f k) = flash s := by rfl
@[simp] theorem incFld_free : free (s.incFld a f k) = free s := by rfl
@[simp] theorem incFld_pending : pending (s.incFld a f k) = pending s := by rfl

end

section

variable {i k : Nat}

@[simp] theorem countBy_tkp : tkp (s.countBy i k) = tkp s := by rfl
@[simp] theorem countBy_tdc : tdc (s.countBy i k) = tdc s := by rfl
@[simp] theorem countBy_pods : pods (s.countBy i k) = pods s := by rfl
@[simp] theorem countBy_params : params (s.countBy i k) = params s := by rfl
@[simp] theorem countBy_commons : commons (s.countBy i k) = commons s := by rfl
@[simp] theorem countBy_ref : ref (s.countBy i k) = ref s := by rfl
@[simp] theorem countBy_ens : ens (s.countBy i k) = ens s := by rfl
@[simp] theorem countBy_bound : bound (s.countBy i k) = bound s := by rfl
@[simp] theorem countBy_jrn : jrn (s.countBy i k) = jrn s := by rfl
@[simp] theorem countBy_hif : hif (s.countBy i k) = hif s := by rfl
@[simp] theorem countBy_flt : flt (s.countBy i k) = flt s := by rfl
@[simp] theorem countBy_syn : syn (s.countBy i k) = syn s := by rfl
@[simp] theorem countBy_clk : clk (s.countBy i k) = clk s := by rfl
@[simp] theorem countBy_mram : mram (s.countBy i k) = mram s := by rfl
@[simp] theorem countBy_key : key (s.countBy i k) = key s := by rfl
@[simp] theorem countBy_twn : twn (s.countBy i k) = twn s := by rfl
@[simp] theorem countBy_mac : mac (s.countBy i k) = mac s := by rfl
@[simp] theorem countBy_ptp : ptp (s.countBy i k) = ptp s := by rfl
@[simp] theorem countBy_nse : nse (s.countBy i k) = nse s := by rfl
@[simp] theorem countBy_gns : gns (s.countBy i k) = gns s := by rfl
@[simp] theorem countBy_tel : tel (s.countBy i k) = tel s := by rfl
@[simp] theorem countBy_pmc : pmc (s.countBy i k) = pmc s := by rfl
@[simp] theorem countBy_chk : chk (s.countBy i k) = chk s := by rfl
@[simp] theorem countBy_dram : dram (s.countBy i k) = dram s := by rfl
@[simp] theorem countBy_sram : sram (s.countBy i k) = sram s := by rfl
@[simp] theorem countBy_flash : flash (s.countBy i k) = flash s := by rfl
@[simp] theorem countBy_free : free (s.countBy i k) = free s := by rfl
@[simp] theorem countBy_pending : pending (s.countBy i k) = pending s := by rfl

end

section

variable {i : Nat}

@[simp] theorem count_tkp : tkp (s.count i) = tkp s := by rfl
@[simp] theorem count_tdc : tdc (s.count i) = tdc s := by rfl
@[simp] theorem count_pods : pods (s.count i) = pods s := by rfl
@[simp] theorem count_params : params (s.count i) = params s := by rfl
@[simp] theorem count_commons : commons (s.count i) = commons s := by rfl
@[simp] theorem count_ref : ref (s.count i) = ref s := by rfl
@[simp] theorem count_ens : ens (s.count i) = ens s := by rfl
@[simp] theorem count_bound : bound (s.count i) = bound s := by rfl
@[simp] theorem count_jrn : jrn (s.count i) = jrn s := by rfl
@[simp] theorem count_hif : hif (s.count i) = hif s := by rfl
@[simp] theorem count_flt : flt (s.count i) = flt s := by rfl
@[simp] theorem count_syn : syn (s.count i) = syn s := by rfl
@[simp] theorem count_clk : clk (s.count i) = clk s := by rfl
@[simp] theorem count_mram : mram (s.count i) = mram s := by rfl
@[simp] theorem count_key : key (s.count i) = key s := by rfl
@[simp] theorem count_twn : twn (s.count i) = twn s := by rfl
@[simp] theorem count_mac : mac (s.count i) = mac s := by rfl
@[simp] theorem count_ptp : ptp (s.count i) = ptp s := by rfl
@[simp] theorem count_nse : nse (s.count i) = nse s := by rfl
@[simp] theorem count_gns : gns (s.count i) = gns s := by rfl
@[simp] theorem count_tel : tel (s.count i) = tel s := by rfl
@[simp] theorem count_pmc : pmc (s.count i) = pmc s := by rfl
@[simp] theorem count_chk : chk (s.count i) = chk s := by rfl
@[simp] theorem count_dram : dram (s.count i) = dram s := by rfl
@[simp] theorem count_sram : sram (s.count i) = sram s := by rfl
@[simp] theorem count_flash : flash (s.count i) = flash s := by rfl
@[simp] theorem count_free : free (s.count i) = free s := by rfl
@[simp] theorem count_pending : pending (s.count i) = pending s := by rfl

end

section

variable {p x : Nat}

@[simp] theorem setPodSt_tkp : tkp (s.setPodSt p x) = tkp s := by rfl
@[simp] theorem setPodSt_tdc : tdc (s.setPodSt p x) = tdc s := by rfl
@[simp] theorem setPodSt_pods : pods (s.setPodSt p x) = pods s := by rfl
@[simp] theorem setPodSt_params : params (s.setPodSt p x) = params s := by rfl
@[simp] theorem setPodSt_commons : commons (s.setPodSt p x) = commons s := by rfl
@[simp] theorem setPodSt_ref : ref (s.setPodSt p x) = ref s := by rfl
@[simp] theorem setPodSt_ens : ens (s.setPodSt p x) = ens s := by rfl
@[simp] theorem setPodSt_bound : bound (s.setPodSt p x) = bound s := by rfl
@[simp] theorem setPodSt_jrn : jrn (s.setPodSt p x) = jrn s := by rfl
@[simp] theorem setPodSt_hif : hif (s.setPodSt p x) = hif s := by rfl
@[simp] theorem setPodSt_flt : flt (s.setPodSt p x) = flt s := by rfl
@[simp] theorem setPodSt_syn : syn (s.setPodSt p x) = syn s := by rfl
@[simp] theorem setPodSt_clk : clk (s.setPodSt p x) = clk s := by rfl
@[simp] theorem setPodSt_mram : mram (s.setPodSt p x) = mram s := by rfl
@[simp] theorem setPodSt_key : key (s.setPodSt p x) = key s := by rfl
@[simp] theorem setPodSt_twn : twn (s.setPodSt p x) = twn s := by rfl
@[simp] theorem setPodSt_mac : mac (s.setPodSt p x) = mac s := by rfl
@[simp] theorem setPodSt_ptp : ptp (s.setPodSt p x) = ptp s := by rfl
@[simp] theorem setPodSt_nse : nse (s.setPodSt p x) = nse s := by rfl
@[simp] theorem setPodSt_gns : gns (s.setPodSt p x) = gns s := by rfl
@[simp] theorem setPodSt_tel : tel (s.setPodSt p x) = tel s := by rfl
@[simp] theorem setPodSt_pmc : pmc (s.setPodSt p x) = pmc s := by rfl
@[simp] theorem setPodSt_chk : chk (s.setPodSt p x) = chk s := by rfl
@[simp] theorem setPodSt_dram : dram (s.setPodSt p x) = dram s := by rfl
@[simp] theorem setPodSt_sram : sram (s.setPodSt p x) = sram s := by rfl
@[simp] theorem setPodSt_flash : flash (s.setPodSt p x) = flash s := by rfl
@[simp] theorem setPodSt_free : free (s.setPodSt p x) = free s := by rfl
@[simp] theorem setPodSt_pending : pending (s.setPodSt p x) = pending s := by rfl

end

section

variable {a : Nat}

@[simp] theorem busyDone_tkp : tkp (s.busyDone a) = tkp s := by rfl
@[simp] theorem busyDone_tdc : tdc (s.busyDone a) = tdc s := by rfl
@[simp] theorem busyDone_pods : pods (s.busyDone a) = pods s := by rfl
@[simp] theorem busyDone_params : params (s.busyDone a) = params s := by rfl
@[simp] theorem busyDone_commons : commons (s.busyDone a) = commons s := by rfl
@[simp] theorem busyDone_ref : ref (s.busyDone a) = ref s := by rfl
@[simp] theorem busyDone_ens : ens (s.busyDone a) = ens s := by rfl
@[simp] theorem busyDone_bound : bound (s.busyDone a) = bound s := by rfl
@[simp] theorem busyDone_jrn : jrn (s.busyDone a) = jrn s := by rfl
@[simp] theorem busyDone_hif : hif (s.busyDone a) = hif s := by rfl
@[simp] theorem busyDone_flt : flt (s.busyDone a) = flt s := by rfl
@[simp] theorem busyDone_syn : syn (s.busyDone a) = syn s := by rfl
@[simp] theorem busyDone_clk : clk (s.busyDone a) = clk s := by rfl
@[simp] theorem busyDone_mram : mram (s.busyDone a) = mram s := by rfl
@[simp] theorem busyDone_key : key (s.busyDone a) = key s := by rfl
@[simp] theorem busyDone_twn : twn (s.busyDone a) = twn s := by rfl
@[simp] theorem busyDone_mac : mac (s.busyDone a) = mac s := by rfl
@[simp] theorem busyDone_ptp : ptp (s.busyDone a) = ptp s := by rfl
@[simp] theorem busyDone_nse : nse (s.busyDone a) = nse s := by rfl
@[simp] theorem busyDone_gns : gns (s.busyDone a) = gns s := by rfl
@[simp] theorem busyDone_tel : tel (s.busyDone a) = tel s := by rfl
@[simp] theorem busyDone_pmc : pmc (s.busyDone a) = pmc s := by rfl
@[simp] theorem busyDone_chk : chk (s.busyDone a) = chk s := by rfl
@[simp] theorem busyDone_dram : dram (s.busyDone a) = dram s := by rfl
@[simp] theorem busyDone_sram : sram (s.busyDone a) = sram s := by rfl
@[simp] theorem busyDone_flash : flash (s.busyDone a) = flash s := by rfl
@[simp] theorem busyDone_free : free (s.busyDone a) = free s := by rfl
@[simp] theorem busyDone_pending : pending (s.busyDone a) = pending s := by rfl

end

section

variable {n : Nat}

@[simp] theorem raise_regs : regs (s.raise n) = regs s := by rfl
@[simp] theorem raise_upset1 : upset1 (s.raise n) = upset1 s := by rfl
@[simp] theorem raise_upset2 : upset2 (s.raise n) = upset2 s := by rfl
@[simp] theorem raise_tkp : tkp (s.raise n) = tkp s := by rfl
@[simp] theorem raise_tdc : tdc (s.raise n) = tdc s := by rfl
@[simp] theorem raise_pods : pods (s.raise n) = pods s := by rfl
@[simp] theorem raise_params : params (s.raise n) = params s := by rfl
@[simp] theorem raise_commons : commons (s.raise n) = commons s := by rfl
@[simp] theorem raise_ref : ref (s.raise n) = ref s := by rfl
@[simp] theorem raise_ens : ens (s.raise n) = ens s := by rfl
@[simp] theorem raise_bound : bound (s.raise n) = bound s := by rfl
@[simp] theorem raise_jrn : jrn (s.raise n) = jrn s := by rfl
@[simp] theorem raise_hif : hif (s.raise n) = hif s := by rfl
@[simp] theorem raise_syn : syn (s.raise n) = syn s := by rfl
@[simp] theorem raise_clk : clk (s.raise n) = clk s := by rfl
@[simp] theorem raise_mram : mram (s.raise n) = mram s := by rfl
@[simp] theorem raise_key : key (s.raise n) = key s := by rfl
@[simp] theorem raise_twn : twn (s.raise n) = twn s := by rfl
@[simp] theorem raise_mac : mac (s.raise n) = mac s := by rfl
@[simp] theorem raise_ptp : ptp (s.raise n) = ptp s := by rfl
@[simp] theorem raise_nse : nse (s.raise n) = nse s := by rfl
@[simp] theorem raise_gns : gns (s.raise n) = gns s := by rfl
@[simp] theorem raise_tel : tel (s.raise n) = tel s := by rfl
@[simp] theorem raise_pmc : pmc (s.raise n) = pmc s := by rfl
@[simp] theorem raise_chk : chk (s.raise n) = chk s := by rfl
@[simp] theorem raise_dram : dram (s.raise n) = dram s := by rfl
@[simp] theorem raise_sram : sram (s.raise n) = sram s := by rfl
@[simp] theorem raise_flash : flash (s.raise n) = flash s := by rfl
@[simp] theorem raise_free : free (s.raise n) = free s := by rfl
@[simp] theorem raise_pending : pending (s.raise n) = pending s := by rfl

end

section

variable {n : Nat}

@[simp] theorem condOff_regs : regs (s.condOff n) = regs s := by rfl
@[simp] theorem condOff_upset1 : upset1 (s.condOff n) = upset1 s := by rfl
@[simp] theorem condOff_upset2 : upset2 (s.condOff n) = upset2 s := by rfl
@[simp] theorem condOff_tkp : tkp (s.condOff n) = tkp s := by rfl
@[simp] theorem condOff_tdc : tdc (s.condOff n) = tdc s := by rfl
@[simp] theorem condOff_pods : pods (s.condOff n) = pods s := by rfl
@[simp] theorem condOff_params : params (s.condOff n) = params s := by rfl
@[simp] theorem condOff_commons : commons (s.condOff n) = commons s := by rfl
@[simp] theorem condOff_ref : ref (s.condOff n) = ref s := by rfl
@[simp] theorem condOff_ens : ens (s.condOff n) = ens s := by rfl
@[simp] theorem condOff_bound : bound (s.condOff n) = bound s := by rfl
@[simp] theorem condOff_jrn : jrn (s.condOff n) = jrn s := by rfl
@[simp] theorem condOff_hif : hif (s.condOff n) = hif s := by rfl
@[simp] theorem condOff_syn : syn (s.condOff n) = syn s := by rfl
@[simp] theorem condOff_clk : clk (s.condOff n) = clk s := by rfl
@[simp] theorem condOff_mram : mram (s.condOff n) = mram s := by rfl
@[simp] theorem condOff_key : key (s.condOff n) = key s := by rfl
@[simp] theorem condOff_twn : twn (s.condOff n) = twn s := by rfl
@[simp] theorem condOff_mac : mac (s.condOff n) = mac s := by rfl
@[simp] theorem condOff_ptp : ptp (s.condOff n) = ptp s := by rfl
@[simp] theorem condOff_nse : nse (s.condOff n) = nse s := by rfl
@[simp] theorem condOff_gns : gns (s.condOff n) = gns s := by rfl
@[simp] theorem condOff_tel : tel (s.condOff n) = tel s := by rfl
@[simp] theorem condOff_pmc : pmc (s.condOff n) = pmc s := by rfl
@[simp] theorem condOff_chk : chk (s.condOff n) = chk s := by rfl
@[simp] theorem condOff_dram : dram (s.condOff n) = dram s := by rfl
@[simp] theorem condOff_sram : sram (s.condOff n) = sram s := by rfl
@[simp] theorem condOff_flash : flash (s.condOff n) = flash s := by rfl
@[simp] theorem condOff_free : free (s.condOff n) = free s := by rfl
@[simp] theorem condOff_pending : pending (s.condOff n) = pending s := by rfl

end

section

variable {i : BoundInput}

@[simp] theorem boundIn_regs : regs (s.boundIn i) = regs s := by rfl
@[simp] theorem boundIn_upset1 : upset1 (s.boundIn i) = upset1 s := by rfl
@[simp] theorem boundIn_upset2 : upset2 (s.boundIn i) = upset2 s := by rfl
@[simp] theorem boundIn_tkp : tkp (s.boundIn i) = tkp s := by rfl
@[simp] theorem boundIn_tdc : tdc (s.boundIn i) = tdc s := by rfl
@[simp] theorem boundIn_pods : pods (s.boundIn i) = pods s := by rfl
@[simp] theorem boundIn_params : params (s.boundIn i) = params s := by rfl
@[simp] theorem boundIn_commons : commons (s.boundIn i) = commons s := by rfl
@[simp] theorem boundIn_ref : ref (s.boundIn i) = ref s := by rfl
@[simp] theorem boundIn_ens : ens (s.boundIn i) = ens s := by rfl
@[simp] theorem boundIn_jrn : jrn (s.boundIn i) = jrn s := by rfl
@[simp] theorem boundIn_hif : hif (s.boundIn i) = hif s := by rfl
@[simp] theorem boundIn_flt : flt (s.boundIn i) = flt s := by rfl
@[simp] theorem boundIn_syn : syn (s.boundIn i) = syn s := by rfl
@[simp] theorem boundIn_clk : clk (s.boundIn i) = clk s := by rfl
@[simp] theorem boundIn_mram : mram (s.boundIn i) = mram s := by rfl
@[simp] theorem boundIn_key : key (s.boundIn i) = key s := by rfl
@[simp] theorem boundIn_twn : twn (s.boundIn i) = twn s := by rfl
@[simp] theorem boundIn_mac : mac (s.boundIn i) = mac s := by rfl
@[simp] theorem boundIn_ptp : ptp (s.boundIn i) = ptp s := by rfl
@[simp] theorem boundIn_nse : nse (s.boundIn i) = nse s := by rfl
@[simp] theorem boundIn_gns : gns (s.boundIn i) = gns s := by rfl
@[simp] theorem boundIn_tel : tel (s.boundIn i) = tel s := by rfl
@[simp] theorem boundIn_pmc : pmc (s.boundIn i) = pmc s := by rfl
@[simp] theorem boundIn_chk : chk (s.boundIn i) = chk s := by rfl
@[simp] theorem boundIn_dram : dram (s.boundIn i) = dram s := by rfl
@[simp] theorem boundIn_sram : sram (s.boundIn i) = sram s := by rfl
@[simp] theorem boundIn_flash : flash (s.boundIn i) = flash s := by rfl
@[simp] theorem boundIn_free : free (s.boundIn i) = free s := by rfl
@[simp] theorem boundIn_pending : pending (s.boundIn i) = pending s := by rfl

end

section

variable {p : Nat} {f : PodState → PodState}

@[simp] theorem modPod_regs : regs (s.modPod p f) = regs s := by rfl
@[simp] theorem modPod_upset1 : upset1 (s.modPod p f) = upset1 s := by rfl
@[simp] theorem modPod_upset2 : upset2 (s.modPod p f) = upset2 s := by rfl
@[simp] theorem modPod_tkp : tkp (s.modPod p f) = tkp s := by rfl
@[simp] theorem modPod_tdc : tdc (s.modPod p f) = tdc s := by rfl
@[simp] theorem modPod_params : params (s.modPod p f) = params s := by rfl
@[simp] theorem modPod_commons : commons (s.modPod p f) = commons s := by rfl
@[simp] theorem modPod_ref : ref (s.modPod p f) = ref s := by rfl
@[simp] theorem modPod_ens : ens (s.modPod p f) = ens s := by rfl
@[simp] theorem modPod_bound : bound (s.modPod p f) = bound s := by rfl
@[simp] theorem modPod_jrn : jrn (s.modPod p f) = jrn s := by rfl
@[simp] theorem modPod_hif : hif (s.modPod p f) = hif s := by rfl
@[simp] theorem modPod_flt : flt (s.modPod p f) = flt s := by rfl
@[simp] theorem modPod_syn : syn (s.modPod p f) = syn s := by rfl
@[simp] theorem modPod_clk : clk (s.modPod p f) = clk s := by rfl
@[simp] theorem modPod_mram : mram (s.modPod p f) = mram s := by rfl
@[simp] theorem modPod_key : key (s.modPod p f) = key s := by rfl
@[simp] theorem modPod_twn : twn (s.modPod p f) = twn s := by rfl
@[simp] theorem modPod_mac : mac (s.modPod p f) = mac s := by rfl
@[simp] theorem modPod_ptp : ptp (s.modPod p f) = ptp s := by rfl
@[simp] theorem modPod_nse : nse (s.modPod p f) = nse s := by rfl
@[simp] theorem modPod_gns : gns (s.modPod p f) = gns s := by rfl
@[simp] theorem modPod_tel : tel (s.modPod p f) = tel s := by rfl
@[simp] theorem modPod_pmc : pmc (s.modPod p f) = pmc s := by rfl
@[simp] theorem modPod_chk : chk (s.modPod p f) = chk s := by rfl
@[simp] theorem modPod_dram : dram (s.modPod p f) = dram s := by rfl
@[simp] theorem modPod_sram : sram (s.modPod p f) = sram s := by rfl
@[simp] theorem modPod_flash : flash (s.modPod p f) = flash s := by rfl
@[simp] theorem modPod_free : free (s.modPod p f) = free s := by rfl
@[simp] theorem modPod_pending : pending (s.modPod p f) = pending s := by rfl

end

section

variable {a : Nat} {bs : List Byte}

@[simp] theorem comWrite_regs : regs (s.comWrite a bs) = regs s := by rfl
@[simp] theorem comWrite_upset1 : upset1 (s.comWrite a bs) = upset1 s := by rfl
@[simp] theorem comWrite_upset2 : upset2 (s.comWrite a bs) = upset2 s := by rfl
@[simp] theorem comWrite_tkp : tkp (s.comWrite a bs) = tkp s := by rfl
@[simp] theorem comWrite_tdc : tdc (s.comWrite a bs) = tdc s := by rfl
@[simp] theorem comWrite_pods : pods (s.comWrite a bs) = pods s := by rfl
@[simp] theorem comWrite_params : params (s.comWrite a bs) = params s := by rfl
@[simp] theorem comWrite_ref : ref (s.comWrite a bs) = ref s := by rfl
@[simp] theorem comWrite_ens : ens (s.comWrite a bs) = ens s := by rfl
@[simp] theorem comWrite_bound : bound (s.comWrite a bs) = bound s := by rfl
@[simp] theorem comWrite_jrn : jrn (s.comWrite a bs) = jrn s := by rfl
@[simp] theorem comWrite_hif : hif (s.comWrite a bs) = hif s := by rfl
@[simp] theorem comWrite_flt : flt (s.comWrite a bs) = flt s := by rfl
@[simp] theorem comWrite_syn : syn (s.comWrite a bs) = syn s := by rfl
@[simp] theorem comWrite_clk : clk (s.comWrite a bs) = clk s := by rfl
@[simp] theorem comWrite_mram : mram (s.comWrite a bs) = mram s := by rfl
@[simp] theorem comWrite_key : key (s.comWrite a bs) = key s := by rfl
@[simp] theorem comWrite_twn : twn (s.comWrite a bs) = twn s := by rfl
@[simp] theorem comWrite_mac : mac (s.comWrite a bs) = mac s := by rfl
@[simp] theorem comWrite_ptp : ptp (s.comWrite a bs) = ptp s := by rfl
@[simp] theorem comWrite_nse : nse (s.comWrite a bs) = nse s := by rfl
@[simp] theorem comWrite_gns : gns (s.comWrite a bs) = gns s := by rfl
@[simp] theorem comWrite_tel : tel (s.comWrite a bs) = tel s := by rfl
@[simp] theorem comWrite_pmc : pmc (s.comWrite a bs) = pmc s := by rfl
@[simp] theorem comWrite_chk : chk (s.comWrite a bs) = chk s := by rfl
@[simp] theorem comWrite_dram : dram (s.comWrite a bs) = dram s := by rfl
@[simp] theorem comWrite_sram : sram (s.comWrite a bs) = sram s := by rfl
@[simp] theorem comWrite_flash : flash (s.comWrite a bs) = flash s := by rfl
@[simp] theorem comWrite_free : free (s.comWrite a bs) = free s := by rfl
@[simp] theorem comWrite_pending : pending (s.comWrite a bs) = pending s := by rfl

end

section

variable {p a : Nat} {bs : List Byte}

@[simp] theorem dmemWrite_regs : regs (s.dmemWrite p a bs) = regs s := by rfl
@[simp] theorem dmemWrite_upset1 : upset1 (s.dmemWrite p a bs) = upset1 s := by rfl
@[simp] theorem dmemWrite_upset2 : upset2 (s.dmemWrite p a bs) = upset2 s := by rfl
@[simp] theorem dmemWrite_tkp : tkp (s.dmemWrite p a bs) = tkp s := by rfl
@[simp] theorem dmemWrite_tdc : tdc (s.dmemWrite p a bs) = tdc s := by rfl
@[simp] theorem dmemWrite_params : params (s.dmemWrite p a bs) = params s := by rfl
@[simp] theorem dmemWrite_commons : commons (s.dmemWrite p a bs) = commons s := by rfl
@[simp] theorem dmemWrite_ref : ref (s.dmemWrite p a bs) = ref s := by rfl
@[simp] theorem dmemWrite_ens : ens (s.dmemWrite p a bs) = ens s := by rfl
@[simp] theorem dmemWrite_bound : bound (s.dmemWrite p a bs) = bound s := by rfl
@[simp] theorem dmemWrite_jrn : jrn (s.dmemWrite p a bs) = jrn s := by rfl
@[simp] theorem dmemWrite_hif : hif (s.dmemWrite p a bs) = hif s := by rfl
@[simp] theorem dmemWrite_flt : flt (s.dmemWrite p a bs) = flt s := by rfl
@[simp] theorem dmemWrite_syn : syn (s.dmemWrite p a bs) = syn s := by rfl
@[simp] theorem dmemWrite_clk : clk (s.dmemWrite p a bs) = clk s := by rfl
@[simp] theorem dmemWrite_mram : mram (s.dmemWrite p a bs) = mram s := by rfl
@[simp] theorem dmemWrite_key : key (s.dmemWrite p a bs) = key s := by rfl
@[simp] theorem dmemWrite_twn : twn (s.dmemWrite p a bs) = twn s := by rfl
@[simp] theorem dmemWrite_mac : mac (s.dmemWrite p a bs) = mac s := by rfl
@[simp] theorem dmemWrite_ptp : ptp (s.dmemWrite p a bs) = ptp s := by rfl
@[simp] theorem dmemWrite_nse : nse (s.dmemWrite p a bs) = nse s := by rfl
@[simp] theorem dmemWrite_gns : gns (s.dmemWrite p a bs) = gns s := by rfl
@[simp] theorem dmemWrite_tel : tel (s.dmemWrite p a bs) = tel s := by rfl
@[simp] theorem dmemWrite_pmc : pmc (s.dmemWrite p a bs) = pmc s := by rfl
@[simp] theorem dmemWrite_chk : chk (s.dmemWrite p a bs) = chk s := by rfl
@[simp] theorem dmemWrite_dram : dram (s.dmemWrite p a bs) = dram s := by rfl
@[simp] theorem dmemWrite_sram : sram (s.dmemWrite p a bs) = sram s := by rfl
@[simp] theorem dmemWrite_flash : flash (s.dmemWrite p a bs) = flash s := by rfl
@[simp] theorem dmemWrite_free : free (s.dmemWrite p a bs) = free s := by rfl
@[simp] theorem dmemWrite_pending : pending (s.dmemWrite p a bs) = pending s := by rfl

end

section

variable {p kind status tag : Nat}

@[simp] theorem complete_regs : regs (s.complete p kind status tag) = regs s := by rfl
@[simp] theorem complete_upset1 : upset1 (s.complete p kind status tag) = upset1 s := by rfl
@[simp] theorem complete_upset2 : upset2 (s.complete p kind status tag) = upset2 s := by rfl
@[simp] theorem complete_tkp : tkp (s.complete p kind status tag) = tkp s := by rfl
@[simp] theorem complete_tdc : tdc (s.complete p kind status tag) = tdc s := by rfl
@[simp] theorem complete_params : params (s.complete p kind status tag) = params s := by rfl
@[simp] theorem complete_commons : commons (s.complete p kind status tag) = commons s := by rfl
@[simp] theorem complete_ref : ref (s.complete p kind status tag) = ref s := by rfl
@[simp] theorem complete_ens : ens (s.complete p kind status tag) = ens s := by rfl
@[simp] theorem complete_bound : bound (s.complete p kind status tag) = bound s := by rfl
@[simp] theorem complete_jrn : jrn (s.complete p kind status tag) = jrn s := by rfl
@[simp] theorem complete_hif : hif (s.complete p kind status tag) = hif s := by rfl
@[simp] theorem complete_flt : flt (s.complete p kind status tag) = flt s := by rfl
@[simp] theorem complete_syn : syn (s.complete p kind status tag) = syn s := by rfl
@[simp] theorem complete_clk : clk (s.complete p kind status tag) = clk s := by rfl
@[simp] theorem complete_mram : mram (s.complete p kind status tag) = mram s := by rfl
@[simp] theorem complete_key : key (s.complete p kind status tag) = key s := by rfl
@[simp] theorem complete_twn : twn (s.complete p kind status tag) = twn s := by rfl
@[simp] theorem complete_mac : mac (s.complete p kind status tag) = mac s := by rfl
@[simp] theorem complete_ptp : ptp (s.complete p kind status tag) = ptp s := by rfl
@[simp] theorem complete_nse : nse (s.complete p kind status tag) = nse s := by rfl
@[simp] theorem complete_gns : gns (s.complete p kind status tag) = gns s := by rfl
@[simp] theorem complete_tel : tel (s.complete p kind status tag) = tel s := by rfl
@[simp] theorem complete_pmc : pmc (s.complete p kind status tag) = pmc s := by rfl
@[simp] theorem complete_chk : chk (s.complete p kind status tag) = chk s := by rfl
@[simp] theorem complete_dram : dram (s.complete p kind status tag) = dram s := by rfl
@[simp] theorem complete_sram : sram (s.complete p kind status tag) = sram s := by rfl
@[simp] theorem complete_flash : flash (s.complete p kind status tag) = flash s := by rfl
@[simp] theorem complete_free : free (s.complete p kind status tag) = free s := by rfl
@[simp] theorem complete_pending : pending (s.complete p kind status tag) = pending s := by rfl

end

section

@[simp] theorem fresh_regs : regs (s.fresh.2) = regs s := by rfl
@[simp] theorem fresh_upset1 : upset1 (s.fresh.2) = upset1 s := by rfl
@[simp] theorem fresh_upset2 : upset2 (s.fresh.2) = upset2 s := by rfl
@[simp] theorem fresh_tkp : tkp (s.fresh.2) = tkp s := by rfl
@[simp] theorem fresh_tdc : tdc (s.fresh.2) = tdc s := by rfl
@[simp] theorem fresh_pods : pods (s.fresh.2) = pods s := by rfl
@[simp] theorem fresh_params : params (s.fresh.2) = params s := by rfl
@[simp] theorem fresh_commons : commons (s.fresh.2) = commons s := by rfl
@[simp] theorem fresh_ref : ref (s.fresh.2) = ref s := by rfl
@[simp] theorem fresh_ens : ens (s.fresh.2) = ens s := by rfl
@[simp] theorem fresh_bound : bound (s.fresh.2) = bound s := by rfl
@[simp] theorem fresh_jrn : jrn (s.fresh.2) = jrn s := by rfl
@[simp] theorem fresh_hif : hif (s.fresh.2) = hif s := by rfl
@[simp] theorem fresh_flt : flt (s.fresh.2) = flt s := by rfl
@[simp] theorem fresh_syn : syn (s.fresh.2) = syn s := by rfl
@[simp] theorem fresh_clk : clk (s.fresh.2) = clk s := by rfl
@[simp] theorem fresh_mram : mram (s.fresh.2) = mram s := by rfl
@[simp] theorem fresh_key : key (s.fresh.2) = key s := by rfl
@[simp] theorem fresh_twn : twn (s.fresh.2) = twn s := by rfl
@[simp] theorem fresh_mac : mac (s.fresh.2) = mac s := by rfl
@[simp] theorem fresh_ptp : ptp (s.fresh.2) = ptp s := by rfl
@[simp] theorem fresh_nse : nse (s.fresh.2) = nse s := by rfl
@[simp] theorem fresh_gns : gns (s.fresh.2) = gns s := by rfl
@[simp] theorem fresh_tel : tel (s.fresh.2) = tel s := by rfl
@[simp] theorem fresh_pmc : pmc (s.fresh.2) = pmc s := by rfl
@[simp] theorem fresh_chk : chk (s.fresh.2) = chk s := by rfl
@[simp] theorem fresh_dram : dram (s.fresh.2) = dram s := by rfl
@[simp] theorem fresh_sram : sram (s.fresh.2) = sram s := by rfl
@[simp] theorem fresh_flash : flash (s.fresh.2) = flash s := by rfl
@[simp] theorem fresh_pending : pending (s.fresh.2) = pending s := by rfl

end

section

@[simp] theorem dramTurn_regs : regs (s.dramTurn.2) = regs s := by rfl
@[simp] theorem dramTurn_upset1 : upset1 (s.dramTurn.2) = upset1 s := by rfl
@[simp] theorem dramTurn_upset2 : upset2 (s.dramTurn.2) = upset2 s := by rfl
@[simp] theorem dramTurn_tkp : tkp (s.dramTurn.2) = tkp s := by rfl
@[simp] theorem dramTurn_tdc : tdc (s.dramTurn.2) = tdc s := by rfl
@[simp] theorem dramTurn_pods : pods (s.dramTurn.2) = pods s := by rfl
@[simp] theorem dramTurn_params : params (s.dramTurn.2) = params s := by rfl
@[simp] theorem dramTurn_commons : commons (s.dramTurn.2) = commons s := by rfl
@[simp] theorem dramTurn_ref : ref (s.dramTurn.2) = ref s := by rfl
@[simp] theorem dramTurn_ens : ens (s.dramTurn.2) = ens s := by rfl
@[simp] theorem dramTurn_bound : bound (s.dramTurn.2) = bound s := by rfl
@[simp] theorem dramTurn_jrn : jrn (s.dramTurn.2) = jrn s := by rfl
@[simp] theorem dramTurn_hif : hif (s.dramTurn.2) = hif s := by rfl
@[simp] theorem dramTurn_flt : flt (s.dramTurn.2) = flt s := by rfl
@[simp] theorem dramTurn_syn : syn (s.dramTurn.2) = syn s := by rfl
@[simp] theorem dramTurn_clk : clk (s.dramTurn.2) = clk s := by rfl
@[simp] theorem dramTurn_mram : mram (s.dramTurn.2) = mram s := by rfl
@[simp] theorem dramTurn_key : key (s.dramTurn.2) = key s := by rfl
@[simp] theorem dramTurn_twn : twn (s.dramTurn.2) = twn s := by rfl
@[simp] theorem dramTurn_mac : mac (s.dramTurn.2) = mac s := by rfl
@[simp] theorem dramTurn_ptp : ptp (s.dramTurn.2) = ptp s := by rfl
@[simp] theorem dramTurn_nse : nse (s.dramTurn.2) = nse s := by rfl
@[simp] theorem dramTurn_gns : gns (s.dramTurn.2) = gns s := by rfl
@[simp] theorem dramTurn_tel : tel (s.dramTurn.2) = tel s := by rfl
@[simp] theorem dramTurn_pmc : pmc (s.dramTurn.2) = pmc s := by rfl
@[simp] theorem dramTurn_chk : chk (s.dramTurn.2) = chk s := by rfl
@[simp] theorem dramTurn_dram : dram (s.dramTurn.2) = dram s := by rfl
@[simp] theorem dramTurn_sram : sram (s.dramTurn.2) = sram s := by rfl
@[simp] theorem dramTurn_flash : flash (s.dramTurn.2) = flash s := by rfl
@[simp] theorem dramTurn_pending : pending (s.dramTurn.2) = pending s := by rfl

end

section

variable {p : Nat} {f : PodState → PodState}

@[simp] theorem finish_regs : regs (s.finish p f) = regs s := by rfl
@[simp] theorem finish_upset1 : upset1 (s.finish p f) = upset1 s := by rfl
@[simp] theorem finish_upset2 : upset2 (s.finish p f) = upset2 s := by rfl
@[simp] theorem finish_tkp : tkp (s.finish p f) = tkp s := by rfl
@[simp] theorem finish_tdc : tdc (s.finish p f) = tdc s := by rfl
@[simp] theorem finish_params : params (s.finish p f) = params s := by rfl
@[simp] theorem finish_commons : commons (s.finish p f) = commons s := by rfl
@[simp] theorem finish_ref : ref (s.finish p f) = ref s := by rfl
@[simp] theorem finish_ens : ens (s.finish p f) = ens s := by rfl
@[simp] theorem finish_bound : bound (s.finish p f) = bound s := by rfl
@[simp] theorem finish_jrn : jrn (s.finish p f) = jrn s := by rfl
@[simp] theorem finish_hif : hif (s.finish p f) = hif s := by rfl
@[simp] theorem finish_flt : flt (s.finish p f) = flt s := by rfl
@[simp] theorem finish_syn : syn (s.finish p f) = syn s := by rfl
@[simp] theorem finish_clk : clk (s.finish p f) = clk s := by rfl
@[simp] theorem finish_mram : mram (s.finish p f) = mram s := by rfl
@[simp] theorem finish_key : key (s.finish p f) = key s := by rfl
@[simp] theorem finish_twn : twn (s.finish p f) = twn s := by rfl
@[simp] theorem finish_mac : mac (s.finish p f) = mac s := by rfl
@[simp] theorem finish_ptp : ptp (s.finish p f) = ptp s := by rfl
@[simp] theorem finish_nse : nse (s.finish p f) = nse s := by rfl
@[simp] theorem finish_gns : gns (s.finish p f) = gns s := by rfl
@[simp] theorem finish_tel : tel (s.finish p f) = tel s := by rfl
@[simp] theorem finish_pmc : pmc (s.finish p f) = pmc s := by rfl
@[simp] theorem finish_chk : chk (s.finish p f) = chk s := by rfl
@[simp] theorem finish_dram : dram (s.finish p f) = dram s := by rfl
@[simp] theorem finish_sram : sram (s.finish p f) = sram s := by rfl
@[simp] theorem finish_flash : flash (s.finish p f) = flash s := by rfl
@[simp] theorem finish_free : free (s.finish p f) = free s := by rfl
@[simp] theorem finish_pending : pending (s.finish p f) = pending s := by rfl

end

section

variable {n : Nat}

@[simp] theorem condOn_regs : regs (s.condOn n) = regs s := by rw [State.condOn]; split <;> rfl
@[simp] theorem condOn_upset1 : upset1 (s.condOn n) = upset1 s := by rw [State.condOn]; split <;> rfl
@[simp] theorem condOn_upset2 : upset2 (s.condOn n) = upset2 s := by rw [State.condOn]; split <;> rfl
@[simp] theorem condOn_tkp : tkp (s.condOn n) = tkp s := by rw [State.condOn]; split <;> rfl
@[simp] theorem condOn_tdc : tdc (s.condOn n) = tdc s := by rw [State.condOn]; split <;> rfl
@[simp] theorem condOn_pods : pods (s.condOn n) = pods s := by rw [State.condOn]; split <;> rfl
@[simp] theorem condOn_params : params (s.condOn n) = params s := by rw [State.condOn]; split <;> rfl
@[simp] theorem condOn_commons : commons (s.condOn n) = commons s := by rw [State.condOn]; split <;> rfl
@[simp] theorem condOn_ref : ref (s.condOn n) = ref s := by rw [State.condOn]; split <;> rfl
@[simp] theorem condOn_ens : ens (s.condOn n) = ens s := by rw [State.condOn]; split <;> rfl
@[simp] theorem condOn_bound : bound (s.condOn n) = bound s := by rw [State.condOn]; split <;> rfl
@[simp] theorem condOn_jrn : jrn (s.condOn n) = jrn s := by rw [State.condOn]; split <;> rfl
@[simp] theorem condOn_hif : hif (s.condOn n) = hif s := by rw [State.condOn]; split <;> rfl
@[simp] theorem condOn_syn : syn (s.condOn n) = syn s := by rw [State.condOn]; split <;> rfl
@[simp] theorem condOn_clk : clk (s.condOn n) = clk s := by rw [State.condOn]; split <;> rfl
@[simp] theorem condOn_mram : mram (s.condOn n) = mram s := by rw [State.condOn]; split <;> rfl
@[simp] theorem condOn_key : key (s.condOn n) = key s := by rw [State.condOn]; split <;> rfl
@[simp] theorem condOn_twn : twn (s.condOn n) = twn s := by rw [State.condOn]; split <;> rfl
@[simp] theorem condOn_mac : mac (s.condOn n) = mac s := by rw [State.condOn]; split <;> rfl
@[simp] theorem condOn_ptp : ptp (s.condOn n) = ptp s := by rw [State.condOn]; split <;> rfl
@[simp] theorem condOn_nse : nse (s.condOn n) = nse s := by rw [State.condOn]; split <;> rfl
@[simp] theorem condOn_gns : gns (s.condOn n) = gns s := by rw [State.condOn]; split <;> rfl
@[simp] theorem condOn_tel : tel (s.condOn n) = tel s := by rw [State.condOn]; split <;> rfl
@[simp] theorem condOn_pmc : pmc (s.condOn n) = pmc s := by rw [State.condOn]; split <;> rfl
@[simp] theorem condOn_chk : chk (s.condOn n) = chk s := by rw [State.condOn]; split <;> rfl
@[simp] theorem condOn_dram : dram (s.condOn n) = dram s := by rw [State.condOn]; split <;> rfl
@[simp] theorem condOn_sram : sram (s.condOn n) = sram s := by rw [State.condOn]; split <;> rfl
@[simp] theorem condOn_flash : flash (s.condOn n) = flash s := by rw [State.condOn]; split <;> rfl
@[simp] theorem condOn_free : free (s.condOn n) = free s := by rw [State.condOn]; split <;> rfl
@[simp] theorem condOn_pending : pending (s.condOn n) = pending s := by rw [State.condOn]; split <;> rfl

end

section

variable {t : Nat}

@[simp] theorem at_regs : regs (s.at t) = regs s := by rw [State.at]; split <;> rfl
@[simp] theorem at_upset1 : upset1 (s.at t) = upset1 s := by rw [State.at]; split <;> rfl
@[simp] theorem at_upset2 : upset2 (s.at t) = upset2 s := by rw [State.at]; split <;> rfl
@[simp] theorem at_tdc : tdc (s.at t) = tdc s := by rw [State.at]; split <;> rfl
@[simp] theorem at_pods : pods (s.at t) = pods s := by rw [State.at]; split <;> rfl
@[simp] theorem at_params : params (s.at t) = params s := by rw [State.at]; split <;> rfl
@[simp] theorem at_commons : commons (s.at t) = commons s := by rw [State.at]; split <;> rfl
@[simp] theorem at_ref : ref (s.at t) = ref s := by rw [State.at]; split <;> rfl
@[simp] theorem at_ens : ens (s.at t) = ens s := by rw [State.at]; split <;> rfl
@[simp] theorem at_bound : bound (s.at t) = bound s := by rw [State.at]; split <;> rfl
@[simp] theorem at_jrn : jrn (s.at t) = jrn s := by rw [State.at]; split <;> rfl
@[simp] theorem at_hif : hif (s.at t) = hif s := by rw [State.at]; split <;> rfl
@[simp] theorem at_flt : flt (s.at t) = flt s := by rw [State.at]; split <;> rfl
@[simp] theorem at_syn : syn (s.at t) = syn s := by rw [State.at]; split <;> rfl
@[simp] theorem at_clk : clk (s.at t) = clk s := by rw [State.at]; split <;> rfl
@[simp] theorem at_mram : mram (s.at t) = mram s := by rw [State.at]; split <;> rfl
@[simp] theorem at_key : key (s.at t) = key s := by rw [State.at]; split <;> rfl
@[simp] theorem at_twn : twn (s.at t) = twn s := by rw [State.at]; split <;> rfl
@[simp] theorem at_mac : mac (s.at t) = mac s := by rw [State.at]; split <;> rfl
@[simp] theorem at_ptp : ptp (s.at t) = ptp s := by rw [State.at]; split <;> rfl
@[simp] theorem at_nse : nse (s.at t) = nse s := by rw [State.at]; split <;> rfl
@[simp] theorem at_gns : gns (s.at t) = gns s := by rw [State.at]; split <;> rfl
@[simp] theorem at_tel : tel (s.at t) = tel s := by rw [State.at]; split <;> rfl
@[simp] theorem at_pmc : pmc (s.at t) = pmc s := by rw [State.at]; split <;> rfl
@[simp] theorem at_chk : chk (s.at t) = chk s := by rw [State.at]; split <;> rfl
@[simp] theorem at_dram : dram (s.at t) = dram s := by rw [State.at]; split <;> rfl
@[simp] theorem at_sram : sram (s.at t) = sram s := by rw [State.at]; split <;> rfl
@[simp] theorem at_flash : flash (s.at t) = flash s := by rw [State.at]; split <;> rfl
@[simp] theorem at_free : free (s.at t) = free s := by rw [State.at]; split <;> rfl
@[simp] theorem at_pending : pending (s.at t) = pending s := by rw [State.at]; split <;> rfl

end

end State


/-! ### Registers -/

/-- The value of a register in three tables. -/
def regIn (r u1 u2 : Tab Nat) (a : Nat) : Nat := tabGet (resetVal a) r a ^^^ (tabGet 0 u1 a &&& tabGet 0 u2 a)

theorem State.reg_eq (s : State) (a : Nat) : s.reg a = regIn s.regs s.upset1 s.upset2 a := rfl

/-- A register depends on the register tables alone. -/
theorem State.reg_congr {s t : State} (h1 : t.regs = s.regs) (h2 : t.upset1 = s.upset1) (h3 : t.upset2 = s.upset2)
    (a : Nat) : t.reg a = s.reg a := by
  unfold State.reg; rw [h1, h2, h3]

@[simp] theorem State.setReg_reg_self (s : State) (a v : Nat) : (s.setReg a v).reg a = v := by
  simp [State.reg, State.setReg, tabGet_erase_self]

theorem State.setReg_reg_ne (s : State) {a b : Nat} (v : Nat) (h : b ≠ a) : (s.setReg a v).reg b = s.reg b := by
  simp only [State.reg, State.setReg]
  rw [tabGet_set_ne _ _ _ _ h, tabGet_erase_ne _ _ h, tabGet_erase_ne _ _ h]

theorem State.setReg_reg (s : State) (a b v : Nat) : (s.setReg a v).reg b = if b = a then v else s.reg b := by
  by_cases h : b = a
  · subst h; simp
  · simp [h, State.setReg_reg_ne s v h]

theorem State.setFld_reg (s : State) (a b : Nat) (f : Fld) (x : Nat) :
    (s.setFld a f x).reg b = if b = a then setBits (s.reg a) f.lo f.len x else s.reg b := State.setReg_reg s a b _

theorem State.setFld_reg_ne (s : State) {a b : Nat} (f : Fld) (x : Nat) (h : b ≠ a) : (s.setFld a f x).reg b = s.reg b :=
  State.setReg_reg_ne s _ h

/-- A field that was set reads the value set, as far as it fits. -/
@[simp] theorem State.setFld_fld_self (s : State) (a : Nat) (f : Fld) (x : Nat) :
    (s.setFld a f x).fld a f = x % 2 ^ f.len := by
  simp [State.fld, State.setFld]

/-- Setting a field leaves every field beside it alone. -/
theorem State.setFld_fld_disjoint (s : State) (a : Nat) (f g : Fld) (x : Nat)
    (h : f.lo + f.len ≤ g.lo ∨ g.lo + g.len ≤ f.lo) : (s.setFld a f x).fld a g = s.fld a g := by
  simp [State.fld, State.setFld, getBits_setBits_disjoint _ _ _ _ _ _ h]

theorem State.setFld_fld_ne (s : State) {a b : Nat} (f g : Fld) (x : Nat) (h : b ≠ a) :
    (s.setFld a f x).fld b g = s.fld b g := by
  simp [State.fld, State.setFld_reg_ne s f x h]

theorem State.setReg_fld (s : State) (a b v : Nat) (g : Fld) :
    (s.setReg a v).fld b g = if b = a then getBits v g.lo g.len else s.fld b g := by
  unfold State.fld; rw [State.setReg_reg]; split <;> rfl

/-! The operations that touch no register. -/
@[simp] theorem State.raise_reg (s : State) (n : Nat) (r : Nat) : (s.raise n).reg r = s.reg r := rfl
@[simp] theorem State.raise_fld (s : State) (n : Nat) (r : Nat) (g : Fld) : (s.raise n).fld r g = s.fld r g := by simp [State.fld]
@[simp] theorem State.condOff_reg (s : State) (n : Nat) (r : Nat) : (s.condOff n).reg r = s.reg r := rfl
@[simp] theorem State.condOff_fld (s : State) (n : Nat) (r : Nat) (g : Fld) : (s.condOff n).fld r g = s.fld r g := by simp [State.fld]
@[simp] theorem State.boundIn_reg (s : State) (i : BoundInput) (r : Nat) : (s.boundIn i).reg r = s.reg r := rfl
@[simp] theorem State.boundIn_fld (s : State) (i : BoundInput) (r : Nat) (g : Fld) : (s.boundIn i).fld r g = s.fld r g := by simp [State.fld]
@[simp] theorem State.modPod_reg (s : State) (p : Nat) (f : PodState → PodState) (r : Nat) : (s.modPod p f).reg r = s.reg r := rfl
@[simp] theorem State.modPod_fld (s : State) (p : Nat) (f : PodState → PodState) (r : Nat) (g : Fld) : (s.modPod p f).fld r g = s.fld r g := by simp [State.fld]
@[simp] theorem State.comWrite_reg (s : State) (a : Nat) (bs : List Byte) (r : Nat) : (s.comWrite a bs).reg r = s.reg r := rfl
@[simp] theorem State.comWrite_fld (s : State) (a : Nat) (bs : List Byte) (r : Nat) (g : Fld) : (s.comWrite a bs).fld r g = s.fld r g := by simp [State.fld]
@[simp] theorem State.dmemWrite_reg (s : State) (p a : Nat) (bs : List Byte) (r : Nat) : (s.dmemWrite p a bs).reg r = s.reg r := rfl
@[simp] theorem State.dmemWrite_fld (s : State) (p a : Nat) (bs : List Byte) (r : Nat) (g : Fld) : (s.dmemWrite p a bs).fld r g = s.fld r g := by simp [State.fld]
@[simp] theorem State.complete_reg (s : State) (p kind status tag : Nat) (r : Nat) : (s.complete p kind status tag).reg r = s.reg r := rfl
@[simp] theorem State.complete_fld (s : State) (p kind status tag : Nat) (r : Nat) (g : Fld) : (s.complete p kind status tag).fld r g = s.fld r g := by simp [State.fld]
@[simp] theorem State.finish_reg (s : State) (p : Nat) (f : PodState → PodState) (r : Nat) : (s.finish p f).reg r = s.reg r := rfl
@[simp] theorem State.finish_fld (s : State) (p : Nat) (f : PodState → PodState) (r : Nat) (g : Fld) : (s.finish p f).fld r g = s.fld r g := by simp [State.fld]
@[simp] theorem State.condOn_reg (s : State) (n : Nat) (r : Nat) : (s.condOn n).reg r = s.reg r := State.reg_congr (by simp) (by simp) (by simp) r
@[simp] theorem State.condOn_fld (s : State) (n : Nat) (r : Nat) (g : Fld) : (s.condOn n).fld r g = s.fld r g := by simp [State.fld]
@[simp] theorem State.at_reg (s : State) (t : Nat) (r : Nat) : (s.at t).reg r = s.reg r := State.reg_congr (by simp) (by simp) (by simp) r
@[simp] theorem State.at_fld (s : State) (t : Nat) (r : Nat) (g : Fld) : (s.at t).fld r g = s.fld r g := by simp [State.fld]

/-! ### The answer of a command -/

@[simp] theorem State.reg_pending (s : State) (l : List Instr) (a : Nat) : ({ s with pending := l } : State).reg a = s.reg a := rfl
@[simp] theorem State.fld_pending (s : State) (l : List Instr) (a : Nat) (f : Fld) :
    ({ s with pending := l } : State).fld a f = s.fld a f := rfl

/-- A command answers a next state, and leaves the queue as it stood. -/
theorem act_next (f : State → State) (s : State) : act f s = .next { f s with pending := s.pending } := rfl

theorem act_answers (f : State → State) (s : State) : ∃ t, act f s = .next t ∧ t.pending = s.pending := ⟨_, rfl, rfl⟩

theorem actAt_answers (n : Nat) (f : State → State) (s : State) : ∃ t, actAt n f s = .next t ∧ t.pending = s.pending := ⟨_, rfl, rfl⟩

theorem fin_answers (p : Nat) (f : State → State) (s : State) : ∃ t, fin p f s = .next t ∧ t.pending = s.pending := ⟨_, rfl, rfl⟩

theorem finPod_answers (p : Nat) (f : PodState → PodState) (s : State) :
    ∃ t, finPod p f s = .next t ∧ t.pending = s.pending := ⟨_, rfl, rfl⟩

/-! ### Pods -/

theorem State.modPod_pod (s : State) (p q : Nat) (f : PodState → PodState) :
    (s.modPod p f).pod q = if q = p then f (s.pod p) else s.pod q := tabGet_mod _ _ _ _ _

@[simp] theorem State.modPod_pod_self (s : State) (p : Nat) (f : PodState → PodState) : (s.modPod p f).pod p = f (s.pod p) := by
  simp [State.modPod_pod]

theorem State.modPod_pod_ne (s : State) {p q : Nat} (f : PodState → PodState) (h : q ≠ p) : (s.modPod p f).pod q = s.pod q := by
  simp [State.modPod_pod, h]

@[simp] theorem State.setReg_pod (s : State) (a v p : Nat) : (s.setReg a v).pod p = s.pod p := rfl
@[simp] theorem State.setFld_pod (s : State) (a : Nat) (f : Fld) (x p : Nat) : (s.setFld a f x).pod p = s.pod p := rfl
@[simp] theorem State.raise_pod (s : State) (n p : Nat) : (s.raise n).pod p = s.pod p := rfl
@[simp] theorem State.at_pod (s : State) (n p : Nat) : (s.at n).pod p = s.pod p := by simp [State.pod]
@[simp] theorem State.condOn_pod (s : State) (n p : Nat) : (s.condOn n).pod p = s.pod p := by simp [State.pod]

/-- A condition that has begun is present. -/
theorem State.condOn_mem (s : State) (n : Nat) : n ∈ (s.condOn n).flt.cond := by
  unfold State.condOn
  split
  · assumption
  · simp [State.raise]

/-- A condition that has ended is absent. -/
theorem State.condOff_not_mem (s : State) (n : Nat) : n ∉ (s.condOff n).flt.cond := by simp [State.condOff]

/-- A condition that was absent raises its source. -/
theorem State.condOn_raised (s : State) {n : Nat} (h : n ∉ s.flt.cond) : (s.condOn n).flt.raised = s.flt.raised ++ [n] := by
  simp [State.condOn, h, State.raise]

/-- RAWCNT never goes back. -/
theorem State.at_rawcnt (s : State) (t : Nat) (h : s.tbRuns = true) : (s.at t).tkp.rawcnt = max s.tkp.rawcnt t := by
  simp [State.at, h]

theorem State.at_rawcnt_le (s : State) (t : Nat) : s.tkp.rawcnt ≤ (s.at t).tkp.rawcnt := by
  unfold State.at; split <;> simp

end Sys2Proof.Machine
end

