-- ==== Sys2Proof/Laws/Ops.lean ====
section
/-! SUPPORT. What the shared operations may touch: the registers of which islands each of them writes, and that none of them
touches the queue of waiting commands. The island of a register is its address divided by 0x10000 (R399). -/

namespace Sys2Proof.Machine

/-- Closes `a ≠ r` for a register `r` of another island. -/
theorem ne_of_island {a r : Nat} (n : Nat) (h : a / 0x10000 ≠ n) (hr : r / 0x10000 = n) : a ≠ r := by
  rintro rfl; exact h hr

/-! ### The journal: island 0x4039 -/

theorem State.incFld_reg_ne (s : State) {a b : Nat} (f : Fld) (k : Nat) (h : b ≠ a) : (s.incFld a f k).reg b = s.reg b :=
  State.setReg_reg_ne s _ h

theorem State.stage_reg (s : State) (time : Gt) (src type : Nat) (pl : List Byte) {a : Nat} (h : a / 0x10000 ≠ 0x4039) :
    (s.stage time src type pl).1.reg a = s.reg a := by
  have hn : a ≠ Reg.JRN_LOST := ne_of_island _ h rfl
  unfold State.stage
  dsimp only
  split
  · split
    · exact State.incFld_reg_ne s _ _ hn
    · rfl
  · split
    · exact State.incFld_reg_ne _ _ _ hn
    · rfl

theorem State.journal_reg (s : State) (src type : Nat) (pl : List Byte) {a : Nat} (h : a / 0x10000 ≠ 0x4039) :
    (s.journal src type pl).reg a = s.reg a := State.stage_reg s _ _ _ _ h

theorem State.stage_pending (s : State) (time : Gt) (src type : Nat) (pl : List Byte) :
    (s.stage time src type pl).1.pending = s.pending := by
  unfold State.stage; dsimp only; split <;> split <;> rfl

@[simp] theorem State.journal_pending (s : State) (src type : Nat) (pl : List Byte) :
    (s.journal src type pl).pending = s.pending := State.stage_pending s _ _ _ _

theorem State.stage_pods (s : State) (time : Gt) (src type : Nat) (pl : List Byte) :
    (s.stage time src type pl).1.pods = s.pods := by
  unfold State.stage; dsimp only; split <;> split <;> rfl

@[simp] theorem State.journal_pods (s : State) (src type : Nat) (pl : List Byte) :
    (s.journal src type pl).pods = s.pods := State.stage_pods s _ _ _ _

/-! ### The counters: island 0x4035 -/

theorem State.countBy_reg (s : State) {i k a : Nat} (h : a ≠ Reg.PMC_CNT i) : (s.countBy i k).reg a = s.reg a :=
  State.incFld_reg_ne s _ _ h

/-! ### Permits and timed actions: islands 0x4001 and 0x4039 -/

theorem State.setPermit_reg (s : State) (v : Nat) (on : Bool) (x : Nat) {a : Nat} (h : a / 0x10000 ≠ 0x4001) :
    (s.setPermit v on x).reg a = s.reg a := by
  have hn : a ≠ Reg.TKP_STEP_PERMIT := ne_of_island _ h rfl
  unfold State.setPermit; rw [State.setReg_reg_ne _ _ hn]; rfl

theorem State.restore_reg (s : State) {v : Nat} (hv : v < 8) (k : Took) {a : Nat} (h1 : a / 0x10000 ≠ 0x4001)
    (h9 : a / 0x10000 ≠ 0x4039) : (s.restore v k).reg a = s.reg a := by
  have hn : a ≠ Reg.TKP_VC_STATUS v := ne_of_island _ h1 (by unfold Reg.TKP_VC_STATUS; omega)
  cases k with
  | nothing => rfl
  | free =>
    simp only [State.restore, State.jPermit]
    rw [State.journal_reg _ _ _ _ h9, State.setFld_reg_ne _ _ _ hn]
  | permit e =>
    simp only [State.restore, State.jPermit]
    split
    · exact State.journal_reg _ _ _ _ h9
    · split <;> rw [State.journal_reg _ _ _ _ h9, State.setPermit_reg _ _ _ _ h1]

theorem State.endAction_reg (s : State) (p : Nat) (x : TimedAction) (st : Nat) {a : Nat} (h1 : a / 0x10000 ≠ 0x4001)
    (h9 : a / 0x10000 ≠ 0x4039) : (s.endAction p x st).reg a = s.reg a := by
  unfold State.endAction
  dsimp only
  split
  · simp
  · rw [State.restore_reg _ (Nat.mod_lt _ (by omega)) _ h1 h9]; simp

theorem foldl_reg {β : Type} (f : State → β → State) (a : Nat) (hf : ∀ s b, (f s b).reg a = s.reg a) (l : List β) (s : State) :
    (l.foldl f s).reg a = s.reg a := by
  induction l generalizing s with
  | nil => rfl
  | cons b l ih => rw [List.foldl_cons, ih, hf]

theorem foldl_pending {β : Type} (f : State → β → State) (hf : ∀ s b, (f s b).pending = s.pending) (l : List β) (s : State) :
    (l.foldl f s).pending = s.pending := by
  induction l generalizing s with
  | nil => rfl
  | cons b l ih => rw [List.foldl_cons, ih, hf]

theorem State.cancelAll_reg (s : State) (p : Nat) {a : Nat} (h1 : a / 0x10000 ≠ 0x4001) (h9 : a / 0x10000 ≠ 0x4039) :
    (s.cancelAll p).reg a = s.reg a := foldl_reg _ a (fun s x => State.endAction_reg s p x 3 h1 h9) _ s

/-! ### The channels of the TDC: island 0x4002 -/

theorem State.showChan_reg (s : State) {c : Nat} (hc : c < 32) {a : Nat} (h : a / 0x10000 ≠ 0x4002) :
    (s.showChan c).reg a = s.reg a := by
  have h1 : a ≠ Reg.TDC_CH_STATUS c := ne_of_island _ h (by unfold Reg.TDC_CH_STATUS; omega)
  have h2 : a ≠ Reg.TDC_CLAIM := ne_of_island _ h rfl
  unfold State.showChan
  simp only [State.setReg_reg_ne _ _ h2, State.setFld_reg_ne _ _ _ h1]

theorem State.modChan_reg (s : State) {c : Nat} (hc : c < 32) (f : ChanState → ChanState) {a : Nat} (h : a / 0x10000 ≠ 0x4002) :
    (s.modChan c f).reg a = s.reg a := by
  unfold State.modChan; rw [State.showChan_reg _ hc h]; rfl

theorem State.gateCond_reg (s : State) (a : Nat) : s.gateCond.reg a = s.reg a := by
  unfold State.gateCond; split <;> rfl

theorem State.chanStop_reg (s : State) {c : Nat} (hc : c < 32) {a : Nat} (h : a / 0x10000 ≠ 0x4002) :
    (s.chanStop c).reg a = s.reg a := by
  have h1 : a ≠ Reg.TDC_CH_STATUS c := ne_of_island _ h (by unfold Reg.TDC_CH_STATUS; omega)
  unfold State.chanStop
  dsimp only
  rw [State.gateCond_reg, State.modChan_reg _ hc _ h, State.setFld_reg_ne _ _ _ h1]

theorem State.releaseChan_reg (s : State) {c : Nat} (hc : c < 32) {a : Nat} (h : a / 0x10000 ≠ 0x4002) :
    (s.releaseChan c).reg a = s.reg a := by
  have h1 : a ≠ Reg.TDC_CH_CTRL c := ne_of_island _ h (by unfold Reg.TDC_CH_CTRL; omega)
  unfold State.releaseChan
  rw [State.modChan_reg _ hc _ h, State.chanStop_reg _ hc h, State.setFld_reg_ne _ _ _ h1]

theorem State.releaseClaims_reg (s : State) (p : Nat) {a : Nat} (h : a / 0x10000 ≠ 0x4002) :
    (s.releaseClaims p).reg a = s.reg a := by
  unfold State.releaseClaims
  have : ∀ l : List Nat, (∀ c ∈ l, c < 32) → ∀ s : State,
      (l.foldl (fun s c => if (s.chan c).owner = p + 1 then s.releaseChan c else s) s).reg a = s.reg a := by
    intro l
    induction l with
    | nil => intros; rfl
    | cons c l ih =>
      intro hl s
      rw [List.foldl_cons, ih (fun x hx => hl x (List.mem_cons_of_mem _ hx))]
      split
      · exact State.releaseChan_reg s (hl c (List.mem_cons_self ..)) h
      · rfl
  exact this _ (fun c hc => List.mem_range.mp hc) s

/-! ### The host rings: island 0x4038 -/

/-- A vector of a ring is host-interface state alone. -/
theorem State.ringVector_hif (s : State) (v : Nat) : ∃ h, s.ringVector v = { s with hif := h } := by
  unfold State.ringVector
  dsimp only
  split <;> exact ⟨_, rfl⟩

@[simp] theorem State.ringVector_reg (s : State) (v a : Nat) : (s.ringVector v).reg a = s.reg a := by
  obtain ⟨h, e⟩ := s.ringVector_hif v; rw [e]; rfl

@[simp] theorem State.ringVector_pods (s : State) (v : Nat) : (s.ringVector v).pods = s.pods := by
  obtain ⟨h, e⟩ := s.ringVector_hif v; rw [e]

theorem State.ringPut_reg (s : State) {r : Nat} (hr : r < 4) (d : Nat) (e : RingEntry) {a : Nat} (h : a / 0x10000 ≠ 0x4038) :
    (s.ringPut r d e).reg a = s.reg a := by
  have h1 : a ≠ Reg.HIF_RING_PI r := ne_of_island _ h (by unfold Reg.HIF_RING_PI; omega)
  unfold State.ringPut
  dsimp only
  rw [State.ringVector_reg, State.setReg_reg_ne _ _ h1]; rfl

theorem State.ringPut_pods (s : State) (r d : Nat) (e : RingEntry) : (s.ringPut r d e).pods = s.pods :=
  State.ringVector_pods _ _

theorem State.ringRecord_reg (s : State) {r : Nat} (hr : r < 4) (l : List RingEntry) {a : Nat} (h : a / 0x10000 ≠ 0x4038) :
    (s.ringRecord r l).reg a = s.reg a := by
  have h2 : a ≠ Reg.HIF_SEQ_STATUS := ne_of_island _ h rfl
  have hl : ∀ (d : Nat) (l : List RingEntry) (s : State), (l.foldl (fun s e => s.ringPut r d e) s).reg a = s.reg a := by
    intro d l
    induction l with
    | nil => intro _; rfl
    | cons e l ih => intro s; rw [List.foldl_cons, ih, State.ringPut_reg _ hr _ _ h]
  unfold State.ringRecord
  dsimp only
  rw [State.setFld_reg_ne _ _ _ h2]
  exact hl _ l s

theorem State.ringWrite_reg (s : State) {r : Nat} (hr : r < 4) (e : RingEntry) {a : Nat} (h : a / 0x10000 ≠ 0x4038) :
    (s.ringWrite r e).reg a = s.reg a := State.ringRecord_reg s hr [e] h

theorem State.ringLose_reg (s : State) {r : Nat} (hr : r < 4) {a : Nat} (h : a / 0x10000 ≠ 0x4038) :
    (s.ringLose r).reg a = s.reg a := by
  have h1 : a ≠ Reg.HIF_RING_LOST r := ne_of_island _ h (by unfold Reg.HIF_RING_LOST; omega)
  unfold State.ringLose
  dsimp only
  rw [State.incFld_reg_ne _ _ _ h1]; rfl

theorem State.ringFlush_reg (s : State) {r : Nat} (hr : r < 4) {a : Nat} (h : a / 0x10000 ≠ 0x4038) :
    (s.ringFlush r).reg a = s.reg a := by
  unfold State.ringFlush
  split
  · rfl
  · split
    · rw [State.ringWrite_reg _ hr _ h]; rfl
    · rfl

theorem State.ringPost_reg (s : State) {r : Nat} (hr : r < 4) (type source : Nat) (pl : List Byte) {a : Nat}
    (h : a / 0x10000 ≠ 0x4038) : (s.ringPost r type source pl).reg a = s.reg a := by
  unfold State.ringPost
  dsimp only
  split
  · rw [State.ringRecord_reg _ hr _ h, State.ringFlush_reg _ hr h]
  · rw [State.ringLose_reg _ hr h, State.ringFlush_reg _ hr h]

theorem State.event_reg (s : State) (type source : Nat) (pl : List Byte) {a : Nat} (h : a / 0x10000 ≠ 0x4038) :
    (s.event type source pl).reg a = s.reg a := State.ringPost_reg s (by omega) _ _ _ h

theorem State.answerEntry_reg (s : State) (e : RingEntry) {a : Nat} (h : a / 0x10000 ≠ 0x4038) :
    (s.answerEntry e).reg a = s.reg a := by
  unfold State.answerEntry
  split
  · exact State.ringWrite_reg _ (by omega) _ h
  · rfl

theorem State.respond_reg (s : State) (q op st : Nat) (res : List Byte) {a : Nat} (h : a / 0x10000 ≠ 0x4038) :
    (s.respond q op st res).reg a = s.reg a := by
  unfold State.respond State.respondEntry
  dsimp only
  split
  · rw [State.answerEntry_reg _ _ h]; rfl
  · split
    · rw [State.answerEntry_reg _ _ h]; rfl
    · rw [State.answerEntry_reg _ _ h]; rfl

theorem State.ringRecord_pods (s : State) (r : Nat) (l : List RingEntry) : (s.ringRecord r l).pods = s.pods := by
  have hl : ∀ (d : Nat) (l : List RingEntry) (s : State), (l.foldl (fun s e => s.ringPut r d e) s).pods = s.pods := by
    intro d l
    induction l with
    | nil => intro _; rfl
    | cons e l ih => intro s; rw [List.foldl_cons, ih, State.ringPut_pods]
  exact hl _ l s

theorem State.ringWrite_pods (s : State) (r : Nat) (e : RingEntry) : (s.ringWrite r e).pods = s.pods :=
  State.ringRecord_pods s r [e]

theorem State.answerEntry_pods (s : State) (e : RingEntry) : (s.answerEntry e).pods = s.pods := by
  unfold State.answerEntry
  split
  · exact State.ringWrite_pods s 1 e
  · rfl

@[simp] theorem State.respond_pods (s : State) (q op st : Nat) (res : List Byte) : (s.respond q op st res).pods = s.pods := by
  unfold State.respond State.respondEntry
  dsimp only
  split
  · exact State.answerEntry_pods _ _
  · split <;> exact State.answerEntry_pods _ _

@[simp] theorem State.respond_pod (s : State) (q op st : Nat) (res : List Byte) (p : Nat) : (s.respond q op st res).pod p = s.pod p := by
  unfold State.pod; rw [State.respond_pods]

@[simp] theorem State.event_pods (s : State) (type source : Nat) (pl : List Byte) : (s.event type source pl).pods = s.pods := by
  have hf : ∀ r, (s.ringFlush r).pods = s.pods := by
    intro r
    unfold State.ringFlush
    split
    · rfl
    · split
      · exact State.ringWrite_pods _ _ _
      · rfl
  unfold State.event State.ringPost
  dsimp only
  split
  · rw [State.ringRecord_pods, hf]
  · exact hf 2

/-! ### The end of a Pod's run -/

/-- A Pod that leaves RUNNING touches registers of the islands TKP, TDC and JRN alone. -/
theorem State.podLeave_reg (s : State) (p : Nat) {a : Nat} (h1 : a / 0x10000 ≠ 0x4001) (h2 : a / 0x10000 ≠ 0x4002)
    (h9 : a / 0x10000 ≠ 0x4039) : (s.podLeave p).reg a = s.reg a := by
  unfold State.podLeave
  rw [State.releaseClaims_reg _ _ h2, State.cancelAll_reg _ _ h1 h9]; rfl

theorem State.podEvent_reg (s : State) (p c : Nat) {a : Nat} (h : a / 0x10000 ≠ 0x4038) : (s.podEvent p c).reg a = s.reg a :=
  State.event_reg s _ _ _ h

theorem pod_island {p : Nat} : Reg.POD_STATUS p / 0x10000 = 0x4042 + 4 * p := by
  unfold Reg.POD_STATUS; omega

/-- A faulted Pod: FAULTED with its cause, and the index of the instruction in POD_FPC (R56, R361). -/
theorem State.podFault_status (s : State) {p : Nat} (hp : p < 8) {c : Nat} (hc : c < 16) :
    (s.podFault p c).podSt p = 3 ∧ (s.podFault p c).fld (Reg.POD_STATUS p) Reg.POD_STATUS_FCAUSE = c
      ∧ (s.podFault p c).fld (Reg.POD_FPC p) Reg.POD_FPC_PC = (s.pod p).pc % 2 ^ 14 := by
  have i1 := @pod_island p
  have i2 : Reg.POD_FPC p / 0x10000 = 0x4042 + 4 * p := by unfold Reg.POD_FPC; omega
  have key : ∀ a, a / 0x10000 = 0x4042 + 4 * p → (s.podFault p c).reg a
      = ((((s.setFld (Reg.POD_FPC p) Reg.POD_FPC_PC (s.pod p).pc).setFld (Reg.POD_STATUS p) Reg.POD_STATUS_FCAUSE c).setPodSt p 3).reg a) := by
    intro a ha
    unfold State.podFault
    dsimp only
    rw [State.podEvent_reg _ _ _ (by omega), State.raise_reg, State.podLeave_reg _ _ (by omega) (by omega) (by omega)]
  have hne : Reg.POD_FPC p ≠ Reg.POD_STATUS p := by unfold Reg.POD_FPC Reg.POD_STATUS; omega
  refine ⟨?_, ?_, ?_⟩
  · unfold State.podSt State.fld
    rw [key _ i1]
    exact (State.setFld_fld_self _ _ _ _).trans rfl
  · unfold State.fld
    rw [key _ i1]
    have := State.setFld_fld_disjoint ((s.setFld (Reg.POD_FPC p) Reg.POD_FPC_PC (s.pod p).pc).setFld (Reg.POD_STATUS p) Reg.POD_STATUS_FCAUSE c)
      (Reg.POD_STATUS p) Reg.POD_STATUS_STATE Reg.POD_STATUS_FCAUSE 3 (by decide)
    refine this.trans ((State.setFld_fld_self _ _ _ _).trans ?_)
    exact Nat.mod_eq_of_lt hc
  · unfold State.fld
    rw [key _ i2]
    refine (State.setFld_fld_ne _ _ _ _ hne).trans ((State.setFld_fld_ne _ _ _ _ hne).trans (State.setFld_fld_self _ _ _ _))

end Sys2Proof.Machine
end

