-- ==== Sys2Proof/Laws/Fin.lean ====
section
/-! SUPPORT. What a FIN instruction that executes answers: the state of its Pod alone changes, and how the flag computations of
R362 relate to the sums and differences of words. -/

namespace Sys2Proof.Laws

open Sys2Proof Sys2Proof.Machine

/-- A command that keeps the queue answers what its effect leaves. -/
theorem act_eq {f : State → State} {s : State} (h : (f s).pending = s.pending) : act f s = .next (f s) := by
  unfold act; rw [← h]

/-- An instruction that executes. -/
theorem fin_eq {s : State} {p : PodId} (h : Executes s p) (f : State → State) :
    fin p f s = .next { f s with pending := s.pending } := by
  unfold fin act
  simp only [h.1, h.2.1, h.2.2, if_true, Bool.false_eq_true, if_false]

/-- An instruction that executes and keeps the queue. -/
theorem fin_eq' {s : State} {p : PodId} (h : Executes s p) {f : State → State} (hp : (f s).pending = s.pending) :
    fin p f s = .next (f s) := by
  rw [fin_eq h, ← hp]

/-- An instruction that faults its Pod (R361). -/
theorem fin_faults {s : State} {p : PodId} (h : Executes s p) (f : State → State) {c : Nat} (hc : c < 16)
    (hf : f s = s.podFault p c) : ∃ t, fin p f s = .next t ∧ Faulted s t p c := by
  refine ⟨_, fin_eq h f, ?_⟩
  rw [hf]
  exact State.podFault_status s p.isLt hc

/-- An instruction that an access of it faults (R361, R366). -/
theorem fin_unlessFault {s : State} {p : PodId} (h : Executes s p) (g : State → Option Nat) (k : State → State → State) {c : Nat}
    (hc : c < 16) (hg : g s = some c) : ∃ t, fin p (fun s => s.unlessFault p (g s) (k s)) s = .next t ∧ Faulted s t p c := by
  refine fin_faults h _ hc ?_
  simp only [hg]; rfl

/-- An instruction that changes its own Pod alone. -/
theorem finPod_eq {s : State} {p : PodId} (h : Executes s p) (f : PodState → PodState) :
    finPod p f s = .next (s.modPod p (fun q => (f q).advance)) := by
  unfold finPod fin
  rw [act_eq]
  · simp only [h.1, h.2.1, h.2.2, if_true, Bool.false_eq_true, if_false]
  · simp only [h.1, h.2.1, h.2.2, if_true, Bool.false_eq_true, if_false]; rfl

/-- A change of one Pod changes nothing else. -/
theorem onlyPod_modPod (s : State) (p : PodId) (f : PodState → PodState) : OnlyPod s (s.modPod p f) p :=
  ⟨rfl, fun _ h => State.modPod_pod_ne s f h⟩

/-- What a write of rd reads; g0 reads 0 (R32). -/
theorem rg_wg (q : PodState) (rd : GReg) (r : Word) : (q.wg rd r).rg rd = if rd = 0 then 0 else r := by
  unfold PodState.wg PodState.rg
  by_cases h : rd = 0
  · simp [h]
  · have : (rd : Nat) ≠ 0 := fun e => h (Fin.ext e)
    simp [h, this]

/-- A write of rd leaves the other registers alone. -/
theorem rg_wg_ne (q : PodState) (rd j : GReg) (r : Word) (h : j ≠ rd) : (q.wg rd r).rg j = q.rg j := by
  have hj : (j : Nat) ≠ rd := fun e => h (Fin.ext e)
  unfold PodState.wg PodState.rg
  by_cases h0 : (rd : Nat) = 0
  · rw [if_pos h0]
  · rw [if_neg h0]; simp only [tabGet_set_ne _ _ _ _ hj]

/-- An instruction that writes rd and all four flags. -/
theorem wrote {s : State} {p : PodId} (h : Executes s p) (f : PodState → PodState) (rd : GReg) (r : Word) (z n c v : Bool)
    (hf : f (s.pod p) = ((s.pod p).wg rd r).setFlags z n c v) :
    ∃ t, finPod p f s = .next t ∧ Wrote s t p rd r z n c v := by
  refine ⟨_, finPod_eq h f, onlyPod_modPod _ _ _, ?_, ?_, ?_⟩
  · rw [State.modPod_pod_self, hf]; exact rg_wg _ rd r
  · intro j hj; rw [State.modPod_pod_self, hf]; exact rg_wg_ne _ rd j r hj
  · rw [State.modPod_pod_self, hf]
    unfold PodState.wg; split <;> rfl

theorem setFlags_same (q : PodState) : q.setFlags q.z q.n q.c q.v = q := rfl

theorem wg_flags (q : PodState) (rd : Nat) (r : Word) : (q.wg rd r) = (q.wg rd r).setFlags q.z q.n q.c q.v := by
  unfold PodState.wg; split <;> rfl

/-- An instruction that writes rd and no flag. -/
theorem wroteOnly {s : State} {p : PodId} (h : Executes s p) (f : PodState → PodState) (rd : GReg) (r : Word)
    (hf : f (s.pod p) = (s.pod p).wg rd r) : ∃ t, finPod p f s = .next t ∧ WroteOnly s t p rd r := by
  apply wrote h f
  rw [hf]; exact wg_flags _ _ _

/-- Saturation clamps, and reports what lay outside. -/
theorem saturate_eq (x : Int) : saturate x = (clamp x, beyond x) := by
  unfold saturate clamp beyond
  norm_num
  split
  · rw [max_eq_right (by simp; omega), min_eq_left (by omega)]
    simp; omega
  · split
    · rw [max_eq_left (by simp; omega)]
      simp; omega
    · rw [max_eq_right (by simp; omega), min_eq_right (by omega)]
      simp; omega

/-- The flags of a sum (R362). -/
theorem addFlags_false (a b : Word) : addFlags a b false = (a + b, a.uaddOverflow b, a.saddOverflow b) := by
  have hr : BitVec.ofNat 64 (a.toNat + b.toNat + 0) = a + b := by apply BitVec.eq_of_toNat_eq; simp [BitVec.toNat_add]
  simp only [addFlags, carryIn, Bool.false_eq_true, if_false, hr, Prod.mk.injEq, true_and]
  refine ⟨by simp [BitVec.uaddOverflow], ?_⟩
  simp only [BitVec.saddOverflow, BitVec.toInt_add]
  have ha := BitVec.toInt_lt (x := a); have ha' := BitVec.le_toInt (x := a)
  have hb := BitVec.toInt_lt (x := b); have hb' := BitVec.le_toInt (x := b)
  rw [Bool.eq_iff_iff]; simp [Int.bmod]; norm_num at *; split <;> omega
/-- The flags of a difference (R362). -/
theorem subFlags_false (a b : Word) : subFlags a b false = (a - b, a.usubOverflow b, a.ssubOverflow b) := by
  have hr : BitVec.ofInt 64 ((a.toNat : Int) - b.toNat - 0) = a - b := by
    apply BitVec.eq_of_toNat_eq; simp [BitVec.toNat_sub, BitVec.toNat_ofInt]
    have := b.isLt; have := a.isLt; omega
  simp only [subFlags, carryIn, Bool.false_eq_true, if_false, Nat.cast_zero, hr, Prod.mk.injEq, true_and]
  refine ⟨by simp [BitVec.usubOverflow], ?_⟩
  simp only [BitVec.ssubOverflow, BitVec.toInt_sub]
  have ha := BitVec.toInt_lt (x := a); have ha' := BitVec.le_toInt (x := a)
  have hb := BitVec.toInt_lt (x := b); have hb' := BitVec.le_toInt (x := b)
  rw [Bool.eq_iff_iff]; simp [Int.bmod]; norm_num at *; split <;> omega

end Sys2Proof.Laws
end

