-- ==== Sys2Proof/Laws/Memory.lean ====
section
/-! SUPPORT. The memories keep their canonical form: at reset every memory has it, and every operation that writes bytes into a
memory keeps it, so that equal contents are equal data. -/

namespace Sys2Proof.Machine

/-- What the canonical form of every memory says, memory by memory. -/
theorem State.memWf_iff (s : State) : s.memWf = true ↔
    (∀ p < 8, Memory.wf (s.imemDef p) (s.pod p).imem = true ∧ Memory.wf (s.dmemDef p) (s.pod p).dmem = true)
      ∧ Memory.wf zeros s.commons = true ∧ Memory.wf zeros s.dram = true ∧ Memory.wf zeros s.sram = true
      ∧ Memory.wf zeros s.flash = true ∧ Memory.wf zeros s.hif.mem = true := by
  simp [State.memWf, and_assoc]

/-- No memory lists anything at reset. -/
theorem State.memWf_reset : State.reset.memWf = true := by
  rw [State.memWf_iff]
  refine ⟨fun p hp => ?_, rfl, rfl, rfl, rfl, rfl⟩
  have h : (State.reset.pod p).imem = [] ∧ (State.reset.pod p).dmem = [] := by
    interval_cases p <;> exact ⟨rfl, rfl⟩
  rw [h.1, h.2]
  exact ⟨rfl, rfl⟩

/-- A write of bytes into a memory keeps its form. -/
theorem Memory.wf_putBytes (d : Nat → Byte) (m : Tab Byte) (a : Nat) (bs : List Byte) (h : Memory.wf d m = true) :
    Memory.wf d (putBytes d m a bs) = true := tabWf_putBytes d bs m a h

/-- A change of one Pod that keeps the form of its two memories keeps that of all. -/
theorem State.memWf_modPod (s : State) (p : Nat) (f : PodState → PodState) (h : s.memWf = true)
    (hi : Memory.wf (s.imemDef p) (s.pod p).imem = true → Memory.wf (s.imemDef p) (f (s.pod p)).imem = true)
    (hd : Memory.wf (s.dmemDef p) (s.pod p).dmem = true → Memory.wf (s.dmemDef p) (f (s.pod p)).dmem = true) :
    (s.modPod p f).memWf = true := by
  rw [State.memWf_iff] at h ⊢
  refine ⟨fun q hq => ?_, h.2⟩
  by_cases e : q = p
  · subst e
    rw [State.modPod_pod_self]
    exact ⟨hi (h.1 q hq).1, hd (h.1 q hq).2⟩
  · rw [State.modPod_pod_ne s f e]
    exact h.1 q hq

/-- A write of DMEM keeps the form. -/
theorem State.memWf_dmemWrite (s : State) (p a : Nat) (bs : List Byte) (h : s.memWf = true) : (s.dmemWrite p a bs).memWf = true :=
  s.memWf_modPod p _ h id (Memory.wf_putBytes _ _ a bs)

/-- A write of IMEM keeps the form. -/
theorem State.memWf_imemWrite (s : State) (p a : Nat) (bs : List Byte) (h : s.memWf = true) :
    (s.modPod p (fun q => { q with imem := putBytes (s.imemDef p) q.imem a bs })).memWf = true :=
  s.memWf_modPod p _ h (Memory.wf_putBytes _ _ a bs) id

/-- A write of the commons keeps the form. -/
theorem State.memWf_comWrite (s : State) (a : Nat) (bs : List Byte) (h : s.memWf = true) : (s.comWrite a bs).memWf = true := by
  rw [State.memWf_iff] at h ⊢
  exact ⟨h.1, Memory.wf_putBytes zeros _ a bs h.2.1, h.2.2⟩

/-- A write of a performance counter touches no memory. -/
theorem State.memWf_countBy (s : State) (i k : Nat) (h : s.memWf = true) (hi : ∀ p < 8, Reg.PMC_CNT i ≠ Reg.POD_STATUS p) :
    (s.countBy i k).memWf = true := by
  rw [State.memWf_iff] at h ⊢
  refine ⟨fun p hp => ?_, h.2⟩
  have e : (s.countBy i k).reg (Reg.POD_STATUS p) = s.reg (Reg.POD_STATUS p) := State.setReg_reg_ne s _ (Ne.symm (hi p hp))
  have e1 : (s.countBy i k).imemDef p = s.imemDef p := by unfold State.imemDef State.fld; rw [e]
  have e2 : (s.countBy i k).dmemDef p = s.dmemDef p := by unfold State.dmemDef State.fld; rw [e]
  rw [e1, e2]
  exact h.1 p hp

/-- A write of DRAM keeps the form. -/
theorem State.memWf_dramWrite (s : State) (a cls : Nat) (bs : List Byte) (hc : cls < 5) (h : s.memWf = true) :
    (s.dramWrite a cls bs).memWf = true := by
  have hp : ({ s with dram := putBytes zeros s.dram a bs } : State).memWf = true := by
    rw [State.memWf_iff] at h ⊢
    exact ⟨h.1, h.2.1, Memory.wf_putBytes zeros _ a bs h.2.2.1, h.2.2.2⟩
  refine State.memWf_countBy _ _ _ hp fun p hp => ?_
  have hch : ({ s with dram := putBytes zeros s.dram a bs } : State).dramChan a < 2 := by
    unfold State.dramChan
    dsimp only
    split
    · exact Nat.mod_lt _ (by decide)
    · split <;> decide
  simp only [Reg.PMC_CNT, Reg.POD_STATUS]
  omega

/-- A write into the host's memory keeps the form. -/
theorem State.memWf_hostWrite (s : State) (a : Nat) (bs : List Byte) (h : s.memWf = true) :
    ({ s with hif := { s.hif with mem := putBytes zeros s.hif.mem a bs } } : State).memWf = true := by
  rw [State.memWf_iff] at h ⊢
  exact ⟨h.1, h.2.1, h.2.2.1, h.2.2.2.1, h.2.2.2.2.1, Memory.wf_putBytes zeros _ a bs h.2.2.2.2.2⟩

/-- A write into the SRAM of the shared memory keeps the form. -/
theorem State.memWf_sramWrite (s : State) (a : Nat) (bs : List Byte) (h : s.memWf = true) :
    ({ s with sram := putBytes zeros s.sram a bs } : State).memWf = true := by
  rw [State.memWf_iff] at h ⊢
  exact ⟨h.1, h.2.1, h.2.2.1, Memory.wf_putBytes zeros _ a bs h.2.2.2.1, h.2.2.2.2⟩

end Sys2Proof.Machine
end

