-- ==== Sys2Proof/Machine/Jtag.lean ====
section
/-! DEFINITION. The JTAG TAP: the controller of IEEE 1149.1 with BYPASS, IDCODE and boundary scan (R478). The opcode table has no row for a
clock of TCK, so that no command reaches it (notes/assumptions/175). -/

namespace Sys2Proof.Machine

/-- The next state of the controller at a rising edge of TCK (IEEE 1149.1). -/
def TapPhase.next (x : TapPhase) (tms : Bool) : TapPhase :=
  match x, tms with
  | .reset, true => .reset
  | .reset, false => .idle
  | .idle, true => .selectDr
  | .idle, false => .idle
  | .selectDr, true => .selectIr
  | .selectDr, false => .captureDr
  | .captureDr, true => .exit1Dr
  | .captureDr, false => .shiftDr
  | .shiftDr, true => .exit1Dr
  | .shiftDr, false => .shiftDr
  | .exit1Dr, true => .updateDr
  | .exit1Dr, false => .pauseDr
  | .pauseDr, true => .exit2Dr
  | .pauseDr, false => .pauseDr
  | .exit2Dr, true => .updateDr
  | .exit2Dr, false => .shiftDr
  | .updateDr, true => .selectDr
  | .updateDr, false => .idle
  | .selectIr, true => .reset
  | .selectIr, false => .captureIr
  | .captureIr, true => .exit1Ir
  | .captureIr, false => .shiftIr
  | .shiftIr, true => .exit1Ir
  | .shiftIr, false => .shiftIr
  | .exit1Ir, true => .updateIr
  | .exit1Ir, false => .pauseIr
  | .pauseIr, true => .exit2Ir
  | .pauseIr, false => .pauseIr
  | .exit2Ir, true => .updateIr
  | .exit2Ir, false => .shiftIr
  | .updateIr, true => .selectDr
  | .updateIr, false => .idle

/-- The bits of IDCODE 0x2940_0A6D, the least significant first (R478). -/
def tapIdcode : List Bool := (List.range 32).map (fun k => (0x29400A6D / 2 ^ k) % 2 = 1)

/-- A shift: the bit nearest TDO leaves and TDI enters at the far end. -/
def shiftIn (l : List Bool) (tdi : Bool) : List Bool := l.drop 1 ++ [tdi]

/-- The instruction of a number of Config.tapOp; one that the TAP does not offer is BYPASS (R478). -/
def tapOpOf : Option Nat → TapOp
  | some 1 => .idcode
  | some 2 => .boundary
  | _ => .bypass

/-- A rising edge of TCK: the answer holds the level of TDO. It changes nothing but the TAP: none of its instructions reaches the vault, the Pods
or the bus matrix (R478). -/
def State.tapClock (s : State) (tms tdi : Bool) : State × Bool :=
  let x := s.tap
  let tap (y : TapState) : State := { s with tap := { y with phase := x.phase.next tms } }
  match x.phase with
  | .reset => (tap { x with op := .idcode }, false)
  | .captureIr => (tap { x with ir := true :: List.replicate (Config.tapIrLen - 1) false }, false)
  | .shiftIr => (tap { x with ir := shiftIn x.ir tdi }, x.ir.headD false)
  | .updateIr => (tap { x with op := tapOpOf (Config.tapOp x.ir) }, false)
  | .captureDr => match x.op with
    | .bypass => (tap { x with dr := [false] }, false)
    | .idcode => (tap { x with dr := tapIdcode }, false)
    | .boundary => ({ tap { x with dr := Config.tapPins s.free } with free := s.free + 1 }, false)
  | .shiftDr => (tap { x with dr := shiftIn x.dr tdi }, x.dr.headD false)
  | .updateDr => (tap (if x.op = .boundary then { x with cells := x.dr } else x), false)
  | _ => (tap x, false)

/-- TRST_N low: the controller returns to Test-Logic-Reset (R478). -/
def State.tapReset (s : State) : State := { s with tap := { s.tap with phase := .reset, op := .idcode } }

end Sys2Proof.Machine
end

