-- ==== Sys2Proof/Tests/Slice0.lean ====
section
/-! SUPPORT. Tests. For every statement with hypotheses, the states and operands that meet the hypotheses of each of its clauses
together; what the checks of WellFormed refuse; words of FIN written out from the encodings; and single steps with results worked out from
the specification. -/

namespace Sys2Proof.Machine

/-- Registers over those of a state. -/
def State.put (s : State) (l : List (Nat × Nat)) : State := l.foldl (fun s x => s.setReg x.1 x.2) s

/-- An open vault in which a slot, whose parent is slot 0, holds a key of a use and a type. -/
def State.keyed (s : State) (slot use type : Nat) (key : List Byte) : State :=
  let s := s.put [(Reg.KEY_STATUS, 1), (Reg.KEY_SLOT_META 0, 2 ^ 16 + 2 ^ 12),
    (Reg.KEY_SLOT_META slot, 2 ^ 16 + 2 * 2 ^ 12 + use * 2 ^ 8 + type * 2 ^ 4 + 7 * 2 ^ 32)]
  { s with key := { s.key with slots := tabSet ⟨[], [], 0, 0⟩ s.key.slots slot ⟨key, [], 0, 0⟩ } }

/-- A port that is enabled with its link up. -/
def State.up (s : State) (p : Nat) : State :=
  s.put [(Reg.MAC_PORT_CFG p, s.reg (Reg.MAC_PORT_CFG p) / 2 * 2 + 1), (Reg.MAC_PORT_STATUS p, s.reg (Reg.MAC_PORT_STATUS p) / 2 * 2 + 1)]

/-- The engine has passed CP4, and the host command `q` waits. -/
def State.ready (s : State) (q op : Nat) (len : Nat := 4096) : State :=
  let s := s.put [(Reg.PWR_BOOT, 4 * 256)]
  { s with hif := { s.hif with accepted := [⟨q, op, false, 0x1000, len, false⟩] } }

/-- A ring that is enabled. -/
def State.ring (s : State) (r : Nat) : State := s.put [(Reg.HIF_RING_CFG r, 1), (Reg.HIF_RING_BASE r, 0x100000 * (r + 1))]

/-- A committed leap-second table. -/
def State.leaps (s : State) (l : List LeapEntry) : State :=
  { s with mram := { s.mram with pairs := tabSet ⟨none, none⟩ s.mram.pairs ridLeap ⟨some (0, .leap l), none⟩ } }

end Sys2Proof.Machine

namespace Sys2Proof.Tests

set_option Elab.async false

open Sys2Proof Sys2Proof.Machine

/-! ### Small states -/

/-- Registers over those of reset. -/
def put (l : List (Nat × Nat)) : State := State.reset.put l

/-- An image of 100 words. -/
def img : ImageInfo := ⟨0, 100, 0, 0⟩

/-- Pod p runs with every capability and every VC. -/
def runS (p : Nat) (f : PodState → PodState) (l : List (Nat × Nat) := []) : State :=
  (put ([(Reg.POD_STATUS p, 2), (Reg.POD_CAP p, 0xFFFF), (Reg.POD_VCOWN p, 0xFF)] ++ l)).modPod p (fun q => f { q with image := some img })

/-- General registers of a Pod. -/
def regsG (l : List (Nat × Nat)) (q : PodState) : PodState := l.foldl (fun q x => q.wg (Fin.ofNat 32 x.1) (BitVec.ofNat 64 x.2)) q

/-- The timebase counts. -/
def ticking (s : State) : State := { s with clk := { s.clk with up := true, counts := true } }

/-- BUS_DRAM of a trained DRAM. -/
def dramCfg : Nat := 4 * 2 ^ 54 + 4 * 2 ^ 48 + (2 ^ 16 + 6144) * 2 ^ 20

def zAct : TimedAction := ⟨0, false, 0, 0, 0, 0, 0, 0, 0, 0, 0, .nothing, 0⟩
def zMeas : MeasRec := ⟨0, 0, 0, 0, 0, 0, 0, 0⟩
def zJRec : JRec := ⟨0, 0, 0, 0, []⟩
def zLeap : LeapEntry := ⟨0, 0, 0, false⟩
def zStamp : Stamp := ⟨0, 0, [], 0, false⟩
def zUdp : Udp := ⟨false, 0, [], [], 0, 0, 0, 0⟩
def zCfg : PtpCfg := ⟨0, 0, 0, 0, 0, 0, [], 0, 0, 0, false, 0, 0, 0, 0, 0, 0, 0, false, 0, 0, 0, 0, none, 0, 0, 0⟩

/-! ### The hypotheses of the statements -/

namespace BusAccesses

def row (a : Nat) : RegRow := match regAt a with | some (r, _) => r | none => ⟨0, 0, 0, 0, 0, 0, []⟩
def wb (a d : Nat) (bad : Nat := 0) : Nat × List Byte := let h := [0x02] ++ natBe 5 a ++ natLe 4 d; let c := (crc8 h + bad) % 256; (c, h ++ [BitVec.ofNat 8 c])
def rb (a : Nat) : List Byte := let h := [0x0B] ++ natBe 5 a; h ++ [BitVec.ofNat 8 (crc8 h)]
def d0 : State := put [(Reg.BUS_DRAM, dramCfg)]

theorem test_BusAccesses_hypotheses :
    (let s : State := d0
     let m : Master := 0
     let a : Nat := 0x1000000008
     let n : Nat := 8
     let o : Nat := 0x1000000008
     let ok (wr : Bool) : Prop := s.busCause m a n wr = 0
     (ok true) ∧ (s.target a n = some (.dram, o))) ∧
    (let s : State := d0
     let m : Master := 11
     let a : Nat := 0x10000004
     let n : Nat := 8
     let o : Nat := 4
     let ok (wr : Bool) : Prop := s.busCause m a n wr = 0
     (ok true) ∧ (s.target a n = some (.sram, o))) ∧
    (let s : State := put [(Reg.POD_STATUS 2, 0)]
     let m : Master := 0
     let p : PodId := 2
     let a : Nat := 0x40490008
     let n : Nat := 8
     let o : Nat := 8
     let ok (wr : Bool) : Prop := s.busCause m a n wr = 0
     (ok true) ∧ (s.target a n = some (.reg, a)) ∧ (podMemAt a = some (p.val, o, true))) ∧
    (let s : State := put []
     let m : Master := 0
     let a : Nat := 0x40000058
     let n : Nat := 4
     let r : RegRow := row 0x40000058
     let ok (wr : Bool) : Prop := s.busCause m a n wr = 0
     let sys : Prop := a / 0x10000 = 0x4000 ∧ a ≠ Reg.SYS_SNAP ∧ regAt a = some (r, a) ∧ r.bytes = 4 ∧ n = 4 ∧ s.reg a < 2 ^ 32
     (ok true) ∧ (sys) ∧ (s.islBusy a = false)) ∧
    (let s : State := put [(Reg.SYS_ISL_STATUS, 1)]
     let m : Master := 0
     let a : Nat := 0x40000050
     let n : Nat := 4
     let r : RegRow := row 0x40000050
     let ok (wr : Bool) : Prop := s.busCause m a n wr = 0
     let sys : Prop := a / 0x10000 = 0x4000 ∧ a ≠ Reg.SYS_SNAP ∧ regAt a = some (r, a) ∧ r.bytes = 4 ∧ n = 4 ∧ s.reg a < 2 ^ 32
     (ok true) ∧ (sys) ∧ (s.islBusy a = true) ∧ (r.postsIn 0 32 = true)) ∧
    (let s : State := let s := put [(Reg.SYS_SNAP_TIME, 77 * 2^64 + 5)]; {s with hif := {s.hif with hold := [(Reg.SYS_SNAP_TIME, 2^70)]}}
     let m : Master := 4
     let a : Nat := Reg.SYS_SNAP_TIME + 8
     let n : Nat := 4
     let cause := s.busCause m a n true
     (cause ≠ 0)) ∧
    (let s : State := put [(Reg.SYS_GPIO_CTRL, 0xFFFF1234)]
     let m : Master := 0
     let a : Nat := 0x40010000
     let rcause := s.busCause m a 4 false
     (rcause ≠ 0)) ∧
    (let s : State := let s := put [(Reg.SYS_SNAP_TIME, 77 * 2^64 + 5)]; {s with hif := {s.hif with hold := [(Reg.SYS_SNAP_TIME, 2^70)]}}
     let m : Master := 4
     let a : Nat := Reg.SYS_SNAP_TIME + 8
     let x : Nat := Reg.SYS_SNAP_TIME
     let r : RegRow := row (Reg.SYS_SNAP_TIME + 8)
     let rcause := s.busCause m a 4 false
     (rcause = 0) ∧ (s.target a 4 = some (.reg, a)) ∧ (podMemAt a = none) ∧ (regAt a = some (r, x)) ∧ (a ≠ x)) ∧
    (let s : State := let s := put [(Reg.SYS_SNAP_TIME, 77 * 2^64 + 5)]; {s with hif := {s.hif with hold := [(Reg.SYS_SNAP_TIME, 2^70)]}}
     let m : Master := 4
     let a : Nat := Reg.SYS_SNAP_TIME
     let r : RegRow := row (Reg.SYS_SNAP_TIME)
     let rcause := s.busCause m a 4 false
     (rcause = 0) ∧ (s.target a 4 = some (.reg, a)) ∧ (podMemAt a = none) ∧ (regAt a = some (r, a)) ∧ (r.bytes ≠ 4) ∧ (nth a (Reg.MAC_TSQ_ENTRY 0) 0x10000 9 = none)) ∧
    (let a : Nat := 0x40000050
     let data : Nat := 0x44556677
     let bytes : List Byte := (wb 0x40000050 0x44556677).2
     let c : Nat := (wb 0x40000050 0x44556677).1
     let wr (good : Prop) : Prop := bytes = [0x02] ++ natBe 5 a ++ natLe 4 data ++ [BitVec.ofNat 8 c] ∧ c < 256 ∧ a < 2 ^ 40 ∧ data < 2 ^ 32
      ∧ (c = crc8 ([0x02] ++ natBe 5 a ++ natLe 4 data) ↔ good)
     (wr True)) ∧
    (let a : Nat := 0x40000050
     let data : Nat := 0x44556677
     let bytes : List Byte := (wb 0x40000050 0x44556677).2
     let c : Nat := (wb 0x40000050 0x44556677).1
     let wr (good : Prop) : Prop := bytes = [0x02] ++ natBe 5 a ++ natLe 4 data ++ [BitVec.ofNat 8 c] ∧ c < 256 ∧ a < 2 ^ 40 ∧ data < 2 ^ 32
      ∧ (c = crc8 ([0x02] ++ natBe 5 a ++ natLe 4 data) ↔ good)
     (wr True) ∧ (i2cDenied a 4 = false)) ∧
    (let a : Nat := Reg.TKP_STEP_PERMIT
     let data : Nat := 0x44556677
     let bytes : List Byte := (wb Reg.TKP_STEP_PERMIT 0x44556677).2
     let c : Nat := (wb Reg.TKP_STEP_PERMIT 0x44556677).1
     let wr (good : Prop) : Prop := bytes = [0x02] ++ natBe 5 a ++ natLe 4 data ++ [BitVec.ofNat 8 c] ∧ c < 256 ∧ a < 2 ^ 40 ∧ data < 2 ^ 32
      ∧ (c = crc8 ([0x02] ++ natBe 5 a ++ natLe 4 data) ↔ good)
     (wr True) ∧ (i2cDenied a 4 = true)) ∧
    (let a : Nat := 0x40000050
     let data : Nat := 0x44556677
     let bytes : List Byte := (wb 0x40000050 0x44556677 1).2
     let c : Nat := (wb 0x40000050 0x44556677 1).1
     let wr (good : Prop) : Prop := bytes = [0x02] ++ natBe 5 a ++ natLe 4 data ++ [BitVec.ofNat 8 c] ∧ c < 256 ∧ a < 2 ^ 40 ∧ data < 2 ^ 32
      ∧ (c = crc8 ([0x02] ++ natBe 5 a ++ natLe 4 data) ↔ good)
     (wr False)) ∧
    (let s : State := put [(Reg.SYS_GPIO_CTRL, 0xFFFF1234)]
     let a : Nat := Reg.SYS_GPIO_CTRL
     let bytes : List Byte := rb Reg.SYS_GPIO_CTRL
     let c : Nat := 0
     let v : Nat := 0xFFFF1234
     let mm : Nat := 1
     let rd : Prop := bytes.take 6 = [0x0B] ++ natBe 5 a ∧ a < 2 ^ 40 ∧ 6 ≤ bytes.length ∧ (s.busGet 1 a 4).hif.lastRead = some (mm, v, c)
     (rd)) ∧
    (let s : State := put [(Reg.SYS_GPIO_CTRL, 0xFFFF1234)]
     let a : Nat := Reg.SYS_GPIO_CTRL
     let bytes : List Byte := rb Reg.SYS_GPIO_CTRL
     let c : Nat := 0
     let v : Nat := 0xFFFF1234
     let mm : Nat := 1
     let rd : Prop := bytes.take 6 = [0x0B] ++ natBe 5 a ∧ a < 2 ^ 40 ∧ 6 ≤ bytes.length ∧ (s.busGet 1 a 4).hif.lastRead = some (mm, v, c)
     (rd) ∧ (bytes[6]? = some (BitVec.ofNat 8 (crc8 (bytes.take 6))))) :=
  by repeat' first | decide +kernel | apply And.intro

end BusAccesses

namespace ClocksAndGates

def ck (tbp : Nat) (l : List (Nat × Nat) := []) (f : ClkState → ClkState := id) (g : State → State := id) : State :=
  let s := (((ticking State.reset).ring 1).ring 2).put ([(Reg.CLK_STATUS, tbp + 0x18), (Reg.SYN_CTRL 2, 0x100), (Reg.SYN_STATUS 2, 3), (Reg.CLK_TRIM, 4095 * 2^Reg.CLK_TRIM_SLOW.lo)] ++ l)
  g {s with clk := f s.clk}

theorem test_ClocksAndGates_hypotheses :
    (let s : State := ck 2 [] (fun c => {c with counts := false})
     (s.tbLocked = true)) ∧
    (let s : State := ck 1 [(Reg.MAC_PORT_CFG 4, 1)]
     (s.tbLocked = false)) ∧
    (let s : State := ck 2 [(Reg.ENS_ISL_STATUS, 1)] id (fun s => {s with bound := {s.bound with latch := some 77}})
     (s.clk.counts = true) ∧ (1 ≤ s.tbp) ∧ (s.tbp ≤ 3)) ∧
    (let s : State := ck 4 [(Reg.CLK_GATE, 0x10), (Reg.CLK_GATE_STATUS, 0x10)] (fun c => {c with quiesce := 0x10})
     (s.clk.counts = true) ∧ (s.tbp = 4)) ∧
    (let s : State := ck 2 [] (fun c => {c with counts := false})
     (s.clk.counts = false ∨ s.tbStopped = true)) ∧
    (let s : State := ck 1 [(Reg.MAC_PORT_CFG 4, 1)]
     let runs : Prop := s.clk.counts = true ∧ (s.tbp = 1 ∨ s.tbp = 3)
     (runs)) ∧
    (let s : State := ck 2 [] (fun c => {c with counts := false})
     let runs : Prop := s.clk.counts = true ∧ (s.tbp = 1 ∨ s.tbp = 3)
     (¬ runs)) ∧
    (let s : State := ck 2 [(Reg.ENS_ISL_STATUS, 1)] id (fun s => {s with bound := {s.bound with latch := some 77}})
     (s.tbRuns = true)) ∧
    (let s : State := ck 2 [] (fun c => {c with counts := false})
     (s.tbRuns = false)) ∧
    (let s : State := ck 5 [(Reg.SYN_STATUS 2, 6), (Reg.CLK_STATUS, 5 + 0x210)]
     (s.tbStopped = true)) ∧
    (let s : State := ck 2 [] (fun c => {c with counts := false})
     (s.tbStopped = false)) ∧
    (let s : State := ck 2 [(Reg.ENS_ISL_STATUS, 1)] id (fun s => {s with bound := {s.bound with latch := some 77}})
     let tb := s.fld Reg.CLK_STATUS Reg.CLK_STATUS_BOOTCLK_TB
     (s.tbLocked = true) ∧ (s.clk.counts = true) ∧ (tb = 0)) ∧
    (let s : State := ck 5 [(Reg.SYN_STATUS 2, 6), (Reg.CLK_STATUS, 5 + 0x210)]
     let tb := s.fld Reg.CLK_STATUS Reg.CLK_STATUS_BOOTCLK_TB
     (s.tbStopped = true) ∧ (tb = 1)) ∧
    (let s : State := ck 2 [(Reg.CLK_STATUS, 2 + 0x218)]
     let tb := s.fld Reg.CLK_STATUS Reg.CLK_STATUS_BOOTCLK_TB
     (s.tbLocked = true) ∧ (tb = 1)) ∧
    (let s : State := ck 2 [] (fun c => {c with counts := false})
     let m : Master := 0
     let data : Nat := 0x10
     let d : Fin 17 := 4
     let g (t : State) : Nat := getBits (t.reg Reg.CLK_GATE) d 1
     let asks (want : Nat) : Prop := MayPost s m Reg.CLK_GATE ∧ d.val ∈ gateDomains ∧ data / 2 ^ d.val % 2 = want ∧ g s ≠ want
     let mayGate : Prop := ∀ e ∈ gateDomains, data / 2 ^ e % 2 = 1 → getBits (s.reg Reg.CLK_GATE) e 1 = 0 → s.domainOn e = false
     (asks 1) ∧ (mayGate)) ∧
    (let s : State := ck 1 [(Reg.MAC_PORT_CFG 4, 1)]
     let m : Master := 0
     let data : Nat := 0x10
     let d : Fin 17 := 4
     let g (t : State) : Nat := getBits (t.reg Reg.CLK_GATE) d 1
     let asks (want : Nat) : Prop := MayPost s m Reg.CLK_GATE ∧ d.val ∈ gateDomains ∧ data / 2 ^ d.val % 2 = want ∧ g s ≠ want
     (asks 1) ∧ (s.domainOn d = true)) ∧
    (let s : State := ck 3 [(Reg.CLK_GATE, 0x10), (Reg.CLK_GATE_STATUS, 0x10)]
     let m : Master := 0
     let data : Nat := 0
     let d : Fin 17 := 4
     let g (t : State) : Nat := getBits (t.reg Reg.CLK_GATE) d 1
     let q (t : State) : Nat := getBits t.clk.quiesce d 1
     let asks (want : Nat) : Prop := MayPost s m Reg.CLK_GATE ∧ d.val ∈ gateDomains ∧ data / 2 ^ d.val % 2 = want ∧ g s ≠ want
     let mayGate : Prop := ∀ e ∈ gateDomains, data / 2 ^ e % 2 = 1 → getBits (s.reg Reg.CLK_GATE) e 1 = 0 → s.domainOn e = false
     (asks 0) ∧ (mayGate) ∧ (q s = 0)) ∧
    (let s : State := ck 4 [(Reg.CLK_GATE, 0x10), (Reg.CLK_GATE_STATUS, 0x10)] (fun c => {c with quiesce := 0x10})
     let d : Fin 17 := 4
     let q (t : State) : Nat := getBits t.clk.quiesce d 1
     let quietEnd := tabGet 0 s.clk.quiesceAt d + 2500
     (q s = 1) ∧ (s.tkp.rawcnt ≤ quietEnd)) ∧
    (let s : State := (ck 4 [(Reg.CLK_GATE, 0x10), (Reg.CLK_GATE_STATUS, 0x10)] (fun c => {c with quiesce := 0x10, quiesceAt := [(4, 500)]})).at 3001
     let d : Fin 17 := 4
     let q (t : State) : Nat := getBits t.clk.quiesce d 1
     let quietEnd := tabGet 0 s.clk.quiesceAt d + 2500
     (q s = 1) ∧ (quietEnd < s.tkp.rawcnt)) ∧
    (let s : State := ck 4 [(Reg.CLK_GATE, 0x10), (Reg.CLK_GATE_STATUS, 0x10)] (fun c => {c with quiesce := 0x10})
     let d : Fin 17 := 4
     let q (t : State) : Nat := getBits t.clk.quiesce d 1
     (q s = 1)) ∧
    (let s : State := ck 2 [] (fun c => {c with counts := false})
     let d : Fin 17 := 4
     let q (t : State) : Nat := getBits t.clk.quiesce d 1
     (q s = 0)) ∧
    (let s : State := ck 2 [(Reg.ENS_ISL_STATUS, 1)] id (fun s => {s with bound := {s.bound with latch := some 77}})
     let addr : Nat := 0x40040010
     let free : Prop := s.islBusy addr = true ∧ s.opUnderWay (addr / 0x10000) = false
     (free)) ∧
    (let s : State := ck 2 [] (fun c => {c with counts := false})
     let addr : Nat := 0x40040010
     let free : Prop := s.islBusy addr = true ∧ s.opUnderWay (addr / 0x10000) = false
     (¬ free)) :=
  by repeat' first | decide +kernel | apply And.intro

end ClocksAndGates

namespace CountersAndTelemetry

def tk (l : List (Nat × Nat) := []) (f : TelState → TelState := id) (g : PmcState → PmcState := id) : State := let s := ((((ticking State.reset).ring 1).ring 3).up 3).put ([(Reg.TEL_CFG, 1)] ++ l); {s with tel := f s.tel, pmc := g s.pmc}
def r0 : TelRec := ⟨3, 0x1C, [1,2,3,4,5], 0⟩
def mr : MeasRec := { zMeas with chan := 5 }
def len10 : List (Nat × Nat) := [(Reg.PMC_WIN, 10 * 2^Reg.PMC_WIN_LEN.lo)]

theorem test_CountersAndTelemetry_hypotheses :
    (let s : State := tk
     let m : Master := 0
     let data : Nat := 0x2A01
     (MayWrite s m Reg.PMC_CTRL) ∧ (data % 2 = 1)) ∧
    (let s : State := tk [(Reg.TEL_UDP_CTRL, 3 * 2^Reg.TEL_UDP_CTRL_PORT.lo)] (fun t => {t with dgram := some ([1,2,3], 1, 5, 77)})
     let m : Master := 0
     let data : Nat := 0
     (MayWrite s m Reg.PMC_CTRL) ∧ (data % 2 = 0)) ∧
    (let s : State := tk [(Reg.PMC_CNT 300, 7), (Reg.PMC_CNT 800, 7), (Reg.PMC_CNT 3, 7)] id (fun p => {p with clear := [(0x12, 5000), (1, 6000)]})
     let mask : Nat := 0x12
     let tick : Nat := 5000
     let rest : List (Nat × Nat) := [(1, 6000)]
     let first' : Prop := s.windowDue (tick + 1250) = false ∧ s.hif.snap.any (fun x => decide (x.1 ≤ tick + 1250)) = false
     (s.pmc.clear = (mask, tick) :: rest) ∧ (first')) ∧
    (let s : State := tk [(Reg.TEL_UDP_CTRL, 3 * 2^Reg.TEL_UDP_CTRL_PORT.lo)] (fun t => {t with dgram := some ([1,2,3], 1, 5, 77)})
     let mask : Nat := 0
     let tick : Nat := 77
     let rest : List (Nat × Nat) := []
     let first' : Prop := s.windowDue (tick + 1250) = false ∧ s.hif.snap.any (fun x => decide (x.1 ≤ tick + 1250)) = false
     (s.pmc.clear = [] ∨ (s.pmc.clear = (mask, tick) :: rest ∧ ¬ first'))) ∧
    (let s : State := tk len10
     let k : Nat := 15000000
     let u := s.at k
     let len : Gt := s.pmcLen * 1000000 * fuNs
     let c := s.vcSet 0
     let since := max (vcRead c s.pmc.lenAt 1) (vcRead c (s.reg (Reg.TKP_VC_EFF 0)) 1 - 1)
     let b := (s.pmc.last.elim since (fun l => max l since) / len + 1) * len
     let tk := tickOf c b
     let due : Prop := len ≠ 0 ∧ tk ≤ u.tkp.rawcnt
     (due) ∧ (s.pmc.last = none)) ∧
    (let s : State := tk (len10 ++ [(Reg.PMC_CNT 300, 7)]) id (fun p => {p with last := some 0, tick := 0, tally := [(13, 5000000)]})
     let k : Nat := 15000000
     let l : Gt := 0
     let u := s.at k
     let len : Gt := s.pmcLen * 1000000 * fuNs
     let c := s.vcSet 0
     let since := max (vcRead c s.pmc.lenAt 1) (vcRead c (s.reg (Reg.TKP_VC_EFF 0)) 1 - 1)
     let b := (s.pmc.last.elim since (fun l => max l since) / len + 1) * len
     let tk := tickOf c b
     let due : Prop := len ≠ 0 ∧ tk ≤ u.tkp.rawcnt
     (due) ∧ (s.pmc.last = some l)) ∧
    (let s : State := tk [(Reg.TEL_UDP_CTRL, 3 * 2^Reg.TEL_UDP_CTRL_PORT.lo)] (fun t => {t with dgram := some ([1,2,3], 1, 5, 77)})
     let k : Nat := 126000
     let u := s.at k
     let len : Gt := s.pmcLen * 1000000 * fuNs
     let c := s.vcSet 0
     let since := max (vcRead c s.pmc.lenAt 1) (vcRead c (s.reg (Reg.TKP_VC_EFF 0)) 1 - 1)
     let b := (s.pmc.last.elim since (fun l => max l since) / len + 1) * len
     let tk := tickOf c b
     let due : Prop := len ≠ 0 ∧ tk ≤ u.tkp.rawcnt
     (¬ due)) ∧
    (let s : State := tk [] (fun t => {t with staging := [r0]})
     let r : TelRec := r0
     let more : List TelRec := []
     let on := s.fld Reg.TEL_CFG Reg.TEL_CFG_EN
     let staged : Prop := s.tdc.qTel = [] ∧ s.tel.staging = r :: more ∧ on ≠ 0
     let archives : Prop := s.fld Reg.TEL_ARCH_CFG Reg.TEL_ARCH_CFG_EN = 1
     let dest := s.fld Reg.TEL_CFG Reg.TEL_CFG_DEST
     let small : Prop := r.gap = 0 ∧ r.payload.length ≤ 48
     (staged) ∧ (dest = 0) ∧ (small) ∧ (¬ archives) ∧ (s.ringRoom 3 = true) ∧ (tabGet none s.hif.loss 3 = none)) ∧
    (let s : State := (tk [] (fun t => {t with staging := [r0]})).put [(Reg.HIF_RING_CFG 3, 0)]
     let r : TelRec := r0
     let more : List TelRec := []
     let on := s.fld Reg.TEL_CFG Reg.TEL_CFG_EN
     let staged : Prop := s.tdc.qTel = [] ∧ s.tel.staging = r :: more ∧ on ≠ 0
     let archives : Prop := s.fld Reg.TEL_ARCH_CFG Reg.TEL_ARCH_CFG_EN = 1
     let dest := s.fld Reg.TEL_CFG Reg.TEL_CFG_DEST
     let small : Prop := r.gap = 0 ∧ r.payload.length ≤ 48
     (staged) ∧ (dest = 0) ∧ (small) ∧ (¬ archives) ∧ (s.ringEn 3 = false)) ∧
    (let s : State := tk [(Reg.TEL_CFG, 1 + 2^Reg.TEL_CFG_DEST.lo)] (fun t => {t with staging := [r0]})
     let r : TelRec := r0
     let more : List TelRec := []
     let on := s.fld Reg.TEL_CFG Reg.TEL_CFG_EN
     let staged : Prop := s.tdc.qTel = [] ∧ s.tel.staging = r :: more ∧ on ≠ 0
     let archives : Prop := s.fld Reg.TEL_ARCH_CFG Reg.TEL_ARCH_CFG_EN = 1
     let dest := s.fld Reg.TEL_CFG Reg.TEL_CFG_DEST
     let small : Prop := r.gap = 0 ∧ r.payload.length ≤ 48
     (staged) ∧ (dest ≠ 0) ∧ (small) ∧ (¬ archives) ∧ (s.tel.dgram = none)) ∧
    (let s : State := tk [(Reg.TEL_CFG, 1 + 2^Reg.TEL_CFG_DEST.lo), (Reg.TEL_ARCH_CFG, 1)] (fun t => {t with staging := [r0], next := 700})
     let r : TelRec := r0
     let more : List TelRec := []
     let on := s.fld Reg.TEL_CFG Reg.TEL_CFG_EN
     let staged : Prop := s.tdc.qTel = [] ∧ s.tel.staging = r :: more ∧ on ≠ 0
     let archives : Prop := s.fld Reg.TEL_ARCH_CFG Reg.TEL_ARCH_CFG_EN = 1
     let dest := s.fld Reg.TEL_CFG Reg.TEL_CFG_DEST
     let small : Prop := r.gap = 0 ∧ r.payload.length ≤ 48
     (staged) ∧ (dest ≠ 0) ∧ (small) ∧ (archives) ∧ (s.tel.dgram = none)) ∧
    (let s : State := tk [(Reg.TEL_UDP_CTRL, 3 * 2^Reg.TEL_UDP_CTRL_PORT.lo)] (fun t => {t with dgram := some ([1,2,3], 1, 5, 77)})
     let on := s.fld Reg.TEL_CFG Reg.TEL_CFG_EN
     (s.tdc.qTel = []) ∧ (s.tel.staging = [] ∨ on = 0)) ∧
    (let s : State := let s := tk; {s with tdc := {s.tdc with qTel := [mr]}}
     let x : MeasRec := mr
     (s.tdc.qTel = [x]) ∧ (getBits (s.reg Reg.TEL_MEAS) x.chan 1 = 0) ∧ (s.tel.staging = [])) ∧
    (let s : State := tk [(Reg.TEL_UDP_CTRL, 3 * 2^Reg.TEL_UDP_CTRL_PORT.lo)] (fun t => {t with dgram := some ([1,2,3], 1, 5, 77)})
     let k : Nat := 126000
     let tick : Nat := 77
     let first : Nat := 5
     let n : Nat := 1
     let recs : List Byte := [1,2,3]
     let u := s.at k
     let port := s.fld Reg.TEL_UDP_CTRL Reg.TEL_UDP_CTRL_PORT
     let plain : Prop := u.portUp port = true ∧ u.qbvNow port = none ∧ (s.port port).tx = [] ∧ u.prpOn port = false ∧ u.halfDuplex port = false
      ∧ recs.length ≤ 1400
     (s.tel.dgram = some (recs, n, first, tick)) ∧ (tick + 125000 ≤ u.tkp.rawcnt) ∧ (plain)) ∧
    (let s : State := tk [(Reg.TEL_UDP_CTRL, 3 * 2^Reg.TEL_UDP_CTRL_PORT.lo)] (fun t => {t with dgram := some ([1,2,3], 1, 5, 77)})
     let k : Nat := 124999
     let tick : Nat := 77
     let first : Nat := 5
     let n : Nat := 1
     let recs : List Byte := [1,2,3]
     let u := s.at k
     (s.tel.dgram = some (recs, n, first, tick)) ∧ (u.tkp.rawcnt < tick + 125000)) ∧
    (let s : State := tk len10 id (fun p => {p with clear := [(0x12, 13000000)], last := some 0})
     (s.tel.dgram = none)) :=
  by repeat' first | decide +kernel | apply And.intro

end CountersAndTelemetry

namespace EnsembleUpdates

def R0 : List (Nat × Nat) := [(Reg.POD_STATUS 0, 2 + 2^Reg.POD_STATUS_RESIDENT.lo)]
def es (f : EnsState → EnsState) (l : List (Nat × Nat) := []) : State := let s := (((ticking State.reset).ring 1).put l); {s with ens := f s.ens}
def mb (type : Nat) (pl : List Byte) : MboxEntry := ⟨3, type, 5, pl, 0⟩
def me (l : List (Nat × Nat)) (e : List MboxEntry) : State := (es id ([(Reg.TKP_STEP_PERMIT, 2^8 - 1)] ++ l)).modPod 0 (fun q => {q with mbox := e})
def stp (raw : Nat) (sec : Int) : List Byte := natLe 16 raw ++ intLe 8 sec

theorem test_EnsembleUpdates_hypotheses :
    (let s : State := es id
     let k : Nat := 1268750000
     let u := s.at k
     let v := u.ensInterval
     let bv := v.ensBoundary
     let eauDue : Prop := s.tbRuns = true ∧ bv + 10 ≤ v.nowMs ∧ v.ens.eauAt ≠ some bv
     (eauDue)) ∧
    (let s : State := es (fun e => {e with eauAt := some 1000}) R0
     let k : Nat := 1268750000
     let u := s.at k
     let v := u.ensInterval
     let bv := v.ensBoundary
     let eauDue : Prop := s.tbRuns = true ∧ bv + 10 ≤ v.nowMs ∧ v.ens.eauAt ≠ some bv
     (¬ eauDue)) ∧
    (let s : State := es (fun e => {e with eauAt := some 1000}) R0
     let k : Nat := 1268750000
     let b : Int := 1000
     let u := s.at k
     let ensDue : Prop := s.ens.eauAt = some b ∧ s.runsResident 0 = true ∧ s.tbRuns = true ∧ s.ens.updAt ≠ some b ∧ b = u.ensBoundary
     (ensDue)) ∧
    (let s : State := es id
     let k : Nat := 1268750000
     let b : Int := 1000
     let u := s.at k
     let ensDue : Prop := s.ens.eauAt = some b ∧ s.runsResident 0 = true ∧ s.tbRuns = true ∧ s.ens.updAt ≠ some b ∧ b = u.ensBoundary
     (¬ ensDue)) ∧
    (let s : State := es (fun e => {e with eauAt := some 1000}) (R0 ++ [(Reg.PWR_STATUS, 1)])
     let k : Nat := 1308750000
     let u := s.at k
     let dog : Prop := s.tbRuns = true ∧ u.ensBoundary + 30 ≤ u.nowMs ∧ s.ens.dogAt ≠ some u.ensBoundary
     let missed : Prop := s.ens.doneInInterval = false ∧ s.pwrWarn = false
     (dog) ∧ (¬ missed)) ∧
    (let s : State := es (fun e => {e with eauAt := some 1000}) (R0 ++ [(Reg.ENS_SWDOG, 0x300304)])
     let k : Nat := 1308750000
     let u := s.at k
     let dog : Prop := s.tbRuns = true ∧ u.ensBoundary + 30 ≤ u.nowMs ∧ s.ens.dogAt ≠ some u.ensBoundary
     let stall := s.fld Reg.ENS_ISL_STATUS Reg.ENS_ISL_STATUS_STALL
     let cnt := min (2 ^ Reg.ENS_SWDOG_COUNT.len - 1) (s.fld Reg.ENS_SWDOG Reg.ENS_SWDOG_COUNT + 1)
     let lim := min 64 (max 2 (s.fld Reg.ENS_SWDOG Reg.ENS_SWDOG_LIMIT))
     let missed : Prop := s.ens.doneInInterval = false ∧ s.pwrWarn = false
     (dog) ∧ (missed) ∧ (stall = 0) ∧ (lim ≤ cnt)) ∧
    (let s : State := es (fun e => {e with eauAt := some 1000}) (R0 ++ [(Reg.ENS_SWDOG, 0x300204)])
     let k : Nat := 1308750000
     let u := s.at k
     let dog : Prop := s.tbRuns = true ∧ u.ensBoundary + 30 ≤ u.nowMs ∧ s.ens.dogAt ≠ some u.ensBoundary
     let stall := s.fld Reg.ENS_ISL_STATUS Reg.ENS_ISL_STATUS_STALL
     let cnt := min (2 ^ Reg.ENS_SWDOG_COUNT.len - 1) (s.fld Reg.ENS_SWDOG Reg.ENS_SWDOG_COUNT + 1)
     let lim := min 64 (max 2 (s.fld Reg.ENS_SWDOG Reg.ENS_SWDOG_LIMIT))
     let missed : Prop := s.ens.doneInInterval = false ∧ s.pwrWarn = false
     (dog) ∧ (missed) ∧ (stall = 1 ∨ cnt < lim)) ∧
    (let s : State := es id
     let k : Nat := 1268750000
     let u := s.at k
     let dog : Prop := s.tbRuns = true ∧ u.ensBoundary + 30 ≤ u.nowMs ∧ s.ens.dogAt ≠ some u.ensBoundary
     (¬ dog)) ∧
    (let s : State := es (fun e => {e with eauAt := some 1000}) (R0 ++ [(Reg.ENS_ISL_STATUS, 4), (Reg.TKP_VC_STATUS 0, 2^30+3), (Reg.ENS_TS, 3), (Reg.ENS_BLIMIT, 0)])
     let k : Nat := 1308750000
     let u := s.at k
     let stall := s.fld Reg.ENS_ISL_STATUS Reg.ENS_ISL_STATUS_STALL
     let checks : Prop := stall = 1 ∧ s.bound.stallAt ≠ some u.vc0Sec ∧ s.tbRuns = true
     let lostDue : Prop := (s.tsSt = 3 ∨ s.tsSt = 0) ∧ s.timeSet = true ∧ s.overLimit = true
     (checks) ∧ (lostDue)) ∧
    (let s : State := let s := es (fun e => {e with eauAt := some 1000}) (R0 ++ [(Reg.ENS_ISL_STATUS, 4), (Reg.ENS_TS, 2)]); s
     let k : Nat := 1308750000
     let u := s.at k
     let stall := s.fld Reg.ENS_ISL_STATUS Reg.ENS_ISL_STATUS_STALL
     let checks : Prop := stall = 1 ∧ s.bound.stallAt ≠ some u.vc0Sec ∧ s.tbRuns = true
     let lostDue : Prop := (s.tsSt = 3 ∨ s.tsSt = 0) ∧ s.timeSet = true ∧ s.overLimit = true
     (checks) ∧ (¬ lostDue)) ∧
    (let s : State := es id
     let k : Nat := 1268750000
     let u := s.at k
     let stall := s.fld Reg.ENS_ISL_STATUS Reg.ENS_ISL_STATUS_STALL
     let checks : Prop := stall = 1 ∧ s.bound.stallAt ≠ some u.vc0Sec ∧ s.tbRuns = true
     (¬ checks)) ∧
    (let s : State := me R0 [mb 1 (stp (77 * 2^64) 5)]
     let e : MboxEntry := mb 1 (stp (77 * 2^64) 5)
     let rest : List MboxEntry := []
     let front (type : Nat) : Prop := (s.pod 0).mbox = e :: rest ∧ s.runsResident 0 = true ∧ e.type = type
     let raw := leNat (e.payload.take 16)
     let sec := toSigned 64 (leNat ((e.payload.drop 16).take 8))
     let late : Prop := sec * fuSec < s.vcNow 0 + fuSec / 10
     let far : Prop := gtRawOk raw = false ∨ s.vcNow 0 + 1000 * fuSec < sec * fuSec
     let room : Prop := (s.pod 0).complRoom = true ∧ (s.pod 0).acts.length < 64
     (front 1) ∧ (¬ late) ∧ (s.stepRefused 0 = false) ∧ (¬ far) ∧ (room)) ∧
    (let s : State := me R0 [mb 1 (stp (77 * 2^64) 0)]
     let e : MboxEntry := mb 1 (stp (77 * 2^64) 0)
     let rest : List MboxEntry := []
     let front (type : Nat) : Prop := (s.pod 0).mbox = e :: rest ∧ s.runsResident 0 = true ∧ e.type = type
     let raw := leNat (e.payload.take 16)
     let sec := toSigned 64 (leNat ((e.payload.drop 16).take 8))
     let late : Prop := sec * fuSec < s.vcNow 0 + fuSec / 10
     let far : Prop := gtRawOk raw = false ∨ s.vcNow 0 + 1000 * fuSec < sec * fuSec
     (front 1) ∧ (late ∨ s.stepRefused 0 = true ∨ far)) ∧
    (let s : State := es id
     ((s.pod 0).mbox = [] ∨ s.runsResident 0 = false)) ∧
    (let s : State := me R0 [mb 2 [3]]
     let e : MboxEntry := mb 2 [3]
     let rest : List MboxEntry := []
     let front (type : Nat) : Prop := (s.pod 0).mbox = e :: rest ∧ s.runsResident 0 = true ∧ e.type = type
     let which := (e.payload.headD 0).toNat
     (front 2) ∧ (8 ≤ which ∨ s.memStat which < 2)) ∧
    (let s : State := me (R0 ++ [(Reg.ENS_MEM_STAT 3, 4)]) [mb 2 [3]]
     let i : MemberId := 3
     let e : MboxEntry := mb 2 [3]
     let rest : List MboxEntry := []
     let front (type : Nat) : Prop := (s.pod 0).mbox = e :: rest ∧ s.runsResident 0 = true ∧ e.type = type
     let which := (e.payload.headD 0).toNat
     (front 2) ∧ (which = i.val) ∧ (2 ≤ s.memStat i)) ∧
    (let s : State := es (fun e => {e with mem := tabMod Member.reset e.mem 3 (fun m => {m with resetDue := true})}) (R0 ++ [(Reg.ENS_MEM_STAT 3, 4)])
     let i : MemberId := 3
     ((s.mem i).resetDue = true) ∧ (2 ≤ s.memStat i)) :=
  by repeat' first | decide +kernel | apply And.intro

end EnsembleUpdates

namespace FaultReactions

def fs (f : FltState → FltState) (l : List (Nat × Nat) := []) : State := let s := (((ticking State.reset).ring 1).put [(Reg.POD_STATUS 3, 2 + 2^Reg.POD_STATUS_RESIDENT.lo)]).put l; {s with flt := f s.flt}
def fp (s : State) : State := {s with params := [(0x301, 0xFF), (0x304, 1000)]}
def rec3 : Nat := 77 + 5 * 2^32 + 2^40 * 10 + 2^48 * 4 + 2^(160+57) + 2^(160+83) + 2^162

theorem test_FaultReactions_hypotheses :
    (let s : State := fs id [(Reg.FLT_STATUS, 1), (Reg.FLT_REC, rec3)]
     let m : Master := 0
     let data : Nat := 5
     (MayWrite s m Reg.FLT_ACK) ∧ (data % 2 = 1) ∧ (s.fltLatched = true)) ∧
    (let s : State := fs (fun f => {f with tbWatch := some 50}) [(Reg.SYN_OUT_CTRL 3, 1), (Reg.CLK_STATUS, 0x300)]
     let m : Master := 0
     let data : Nat := 2
     (MayWrite s m Reg.FLT_ACK) ∧ (data % 2 = 0 ∨ s.fltLatched = false)) ∧
    (let s : State := fs (fun f => {f with tbWatch := some 50}) [(Reg.SYN_OUT_CTRL 3, 1), (Reg.CLK_STATUS, 0x300)]
     let m : Master := 0
     let w : Fin 5 := 1
     (MayWrite s m (Reg.FLT_PEND w))) ∧
    (let s : State := fs id [(Reg.FLT_STATUS, 1), (Reg.FLT_REC, rec3)]
     let m : Master := 0
     let src : Fin 160 := 57
     let data : Nat := 5
     (MayWrite s m (Reg.FLT_CLASS src)) ∧ (src.val < 128) ∧ (fltDefaultClass src ≠ 3) ∧ (data % 4 ≠ 3)) ∧
    (let s : State := fs (fun f => {f with tbWatch := some 50}) [(Reg.SYN_OUT_CTRL 3, 1), (Reg.CLK_STATUS, 0x300)]
     let m : Master := 0
     let src : Fin 160 := 140
     let data : Nat := 2
     (MayWrite s m (Reg.FLT_CLASS src)) ∧ (128 ≤ src.val ∨ fltDefaultClass src = 3 ∨ data % 4 = 3)) ∧
    (let s : State := fs id [(Reg.FLT_STATUS, 1), (Reg.FLT_REC, rec3)]
     (s.runsResident 3 = true) ∧ (s.fltLatched = true ∨ s.fltSeen.isSome = true)) ∧
    (let s : State := fs (fun f => {f with tbWatch := some 50}) [(Reg.SYN_OUT_CTRL 3, 1), (Reg.CLK_STATUS, 0x300)]
     let v := s.reg Reg.FLT_REC
     (s.flt.noted = some (recFseq v, recSrc v) ∨ (s.fltLatched = false ∧ s.fltSeen = none))) ∧
    (let s : State := fs id [(Reg.FLT_STATUS, 1), (Reg.FLT_REC, rec3)]
     let open_ : Prop := s.runsResident 3 = true ∧ s.fltLatched = true
     (open_)) ∧
    (let s : State := fs (fun f => {f with clearAt := 501, cond := [10]}) [(Reg.FLT_PEND 0, 2^10+2^2)]
     (s.runsResident 3 = true) ∧ (s.flt.clearAt ≠ 0) ∧ (s.paramN 0x301 ≠ 0xFF)) ∧
    (let s : State := fp (fs (fun f => {f with clearAt := 501, cond := [10]}) [(Reg.FLT_PEND 0, 2^10+2^2)])
     (s.runsResident 3 = true) ∧ (s.flt.clearAt ≠ 0) ∧ (s.paramN 0x301 = 0xFF)) ∧
    (let s : State := fs (fun f => {f with tbWatch := some 50}) [(Reg.SYN_OUT_CTRL 3, 1), (Reg.CLK_STATUS, 0x300)]
     (s.runsResident 3 = false ∨ s.flt.clearAt = 0)) ∧
    (let s : State := fs (fun f => {f with relock := [(2, 100)]}) [(Reg.SYN_CTRL 2, 0x100), (Reg.SYN_STATUS 2, 4)]
     let n : SynId := 2
     let due := tabGet 0 s.flt.relock n
     (due ≠ 0) ∧ (s.runsResident 3 = true) ∧ (s.fld (Reg.SYN_CTRL n) Reg.SYN_CTRL_EN = 1) ∧ (s.synSt n ≠ 3) ∧ (s.synSt n ≠ 6)) ∧
    (let s : State := fs (fun f => {f with relock := [(2, 100)]}) [(Reg.SYN_CTRL 2, 0x100), (Reg.SYN_STATUS 2, 3)]
     let n : SynId := 2
     let due := tabGet 0 s.flt.relock n
     (due ≠ 0) ∧ (s.runsResident 3 = true) ∧ (s.synSt n = 3)) ∧
    (let s : State := fp (fs (fun f => {f with tbWatch := some 50}) [(Reg.SYN_OUT_CTRL 3, 1), (Reg.CLK_STATUS, 0x300)])
     let k : Nat := 50
     let safe : Prop := s.flt.tbWatch = some k ∧ s.runsResident 3 = true ∧ s.tbLocked = false ∧ s.paramN 0x304 ≠ 0
     (safe)) ∧
    (let s : State := fp (fs (fun f => {f with tbWatch := some 50}) [(Reg.SYN_OUT_CTRL 3, 1), (Reg.CLK_STATUS, 2)])
     let k : Nat := 50
     (s.flt.tbWatch = some k) ∧ (s.tbLocked = true)) :=
  by decide +kernel

end FaultReactions

namespace FaultRecords

def fs (f : FltState → FltState) (l : List (Nat × Nat) := []) : State := let s := ((ticking State.reset).ring 1).put l; {s with flt := f s.flt}

theorem test_FaultRecords_hypotheses :
    (let s : State := fs (fun f => {f with clears := [(57, 3)], cond := [57]}) [(Reg.FLT_PEND 1, 2^25+1)]
     let known : Prop := ∀ k ∈ s.flt.raised, k < 128
     (known)) ∧
    (let s : State := fs (fun f => {f with raised := [57, 105], noted := some (4, 2^57 + 2^58)})
     let known : Prop := ∀ k ∈ s.flt.raised, k < 128
     let only : Prop := known ∧ s.flt.raised ≠ [] ∧ s.flt.clears = [] ∧ s.flt.ack = none
     (only) ∧ (s.fltLatched = false) ∧ (s.flt.fseq < 2 ^ 32)) ∧
    (let s : State := fs (fun f => {f with raised := [105, 57, 5]}) [(Reg.FLT_STATUS, 1), (Reg.FLT_REC, 77 + 5 * 2^32 + 2^40 * 10 + 2^48 * 65534 + 2^165)]
     let known : Prop := ∀ k ∈ s.flt.raised, k < 128
     let only : Prop := known ∧ s.flt.raised ≠ [] ∧ s.flt.clears = [] ∧ s.flt.ack = none
     (only) ∧ (s.fltLatched = true)) ∧
    (let s : State := fs (fun f => {f with clears := [(57, 0)]}) [(Reg.FLT_PEND 1, 2^25+1)]
     let n : Nat := 57
     let b : Nat := 0
     let quiet : Prop := s.flt.raised = [] ∧ n < 128 ∧ s.flt.clears = [(n, b)] ∧ s.flt.ack = none
     (quiet) ∧ (s.fltCause n = false) ∧ (s.fltClass n < 3)) ∧
    (let s : State := fs (fun f => {f with clears := [(57, 3)], cond := [57]}) [(Reg.FLT_PEND 1, 2^25+1)]
     let n : Nat := 57
     let b : Nat := 3
     let quiet : Prop := s.flt.raised = [] ∧ n < 128 ∧ s.flt.clears = [(n, b)] ∧ s.flt.ack = none
     (quiet) ∧ (s.fltCause n = true ∨ s.fltClass n = 3)) ∧
    (let s : State := fs (fun f => {f with ack := some 2}) [(Reg.FLT_STATUS, 1), (Reg.FLT_REC, 77 + 5 * 2^32 + 2^40 * 10 + 2^48 * 4 + 2^165), (Reg.FLT_PEND 1, 2^25+1)]
     let b : Nat := 2
     (s.flt.raised = []) ∧ (s.flt.clears = []) ∧ (s.flt.ack = some b) ∧ (s.fltLatched = true)) ∧
    (let s : State := fs (fun f => {f with raised := [57, 105], noted := some (4, 2^57 + 2^58)})
     let n : Nat := 4
     let b : Nat := 2^57 + 2^58
     let known : Prop := ∀ k ∈ s.flt.raised, k < 128
     (known) ∧ (s.flt.noted = some (n, b))) :=
  by decide +kernel

end FaultRecords

namespace FinBinary64Table



theorem test_FinBinary64Table_hypotheses :
    (let s : State := runS 2 (regsG [(3, 0x3FF0000000000000), (5, 0x4000000000000000), (4, 0xC008000000000000)])
     let p : PodId := 2
     (Executes s p)) ∧
    (let s : State := runS 2 (regsG [(3, 0x7FF8000000000000), (5, 0x4000000000000000), (4, 0xC008000000000000)])
     let p : PodId := 2
     let ra : GReg := 3
     let rb : GReg := 4
     let q := s.pod p
     let a := q.rg ra
     let b := q.rg rb
     (Executes s p) ∧ (fpCompare a b = none)) ∧
    (let s : State := runS 2 (regsG [(3, 0x3FF0000000000000), (5, 0x4000000000000000), (4, 0xC008000000000000)])
     let p : PodId := 2
     let ra : GReg := 3
     let rb : GReg := 4
     let q := s.pod p
     let a := q.rg ra
     let b := q.rg rb
     (Executes s p) ∧ ((fpCompare a b).isSome = true)) :=
  by decide +kernel

end FinBinary64Table

namespace FinBusAndBlockPort



theorem test_FinBusAndBlockPort_hypotheses :
    (let s : State := runS 2 (fun q => regsG [(3, 0x1000000008), (4, 0x1122334455667788)] q) [(Reg.BUS_DRAM, dramCfg)]
     let p : PodId := 2
     let ra : GReg := 3
     let off : Nat := 0x1000000008
     let q := s.pod p
     let a := (q.rg ra).toNat % 2 ^ 40
     let outside : Prop := 0x41000000 ≤ a ∧ s.dramDenied (2 + p) a 8 true = false
     (Executes s p) ∧ (outside) ∧ (s.target a 8 = some (.dram, off))) ∧
    (let s : State := runS 2 (fun q => regsG [(3, 0x4100000008), (4, 0x1122334455667788)] q) [(Reg.BUS_DRAM, 0x0404)]
     let p : PodId := 2
     let ra : GReg := 3
     let q := s.pod p
     let a := (q.rg ra).toNat % 2 ^ 40
     (Executes s p) ∧ (s.target a 4 = none)) ∧
    (let s : State := runS 2 (fun q => regsG [(3, 0x40000000), (4, 0x1122334455667788)] q) [(Reg.BUS_DRAM, 0x0404)]
     let p : PodId := 2
     let ra : GReg := 3
     let off : Nat := 0x40000000
     let q := s.pod p
     let a := (q.rg ra).toNat % 2 ^ 40
     (Executes s p) ∧ (s.target a 4 = some (.reg, off))) ∧
    (let s : State := runS 2 (fun q => regsG [(3, Reg.TKP_VC_STATUS 3 - 0x40000000), (4, 0x1122334455667788)] q) [(Reg.BUS_DRAM, 0x0404)]
     let p : PodId := 2
     let ra : GReg := 3
     let n : Fin 8 := 3
     let q := s.pod p
     let x := (q.rg ra).toNat
     (Executes s p) ∧ (x = Reg.TKP_VC_STATUS n - 0x40000000) ∧ (s.upset1 = [])) ∧
    (let s : State := runS 2 (fun q => regsG [(3, Reg.ENS_MEM_W 3 - 0x40000000), (4, 0x1122334455667788)] q) [(Reg.BUS_DRAM, 0x0404)]
     let p : PodId := 2
     let ra : GReg := 3
     let n : Fin 8 := 3
     let q := s.pod p
     let x := (q.rg ra).toNat
     (Executes s p) ∧ (x = Reg.ENS_MEM_W n - 0x40000000) ∧ (s.hasCap p 5 = true)) ∧
    (let s : State := runS 2 (fun q => regsG [(3, Reg.REF_STATE 3 - 0x40000000), (4, 0x1122334455667788)] q) [(Reg.POD_CAP 2, 0)]
     let p : PodId := 2
     let ra : GReg := 3
     let j : Fin 18 := 3
     let q := s.pod p
     let x := (q.rg ra).toNat
     (Executes s p) ∧ (x = Reg.REF_STATE j - 0x40000000) ∧ (s.hasCap p 6 = false)) ∧
    (let s : State := runS 2 (fun q => regsG [(3, Reg.TKP_STEP_PERMIT - 0x40000000), (4, 0x1122334455667788)] q) [(Reg.POD_CAP 2, 0)]
     let p : PodId := 2
     let ra : GReg := 3
     let q := s.pod p
     let x := (q.rg ra).toNat
     (Executes s p) ∧ (x = Reg.TKP_STEP_PERMIT - 0x40000000)) :=
  by decide +kernel

end FinBusAndBlockPort

namespace FinCommons



theorem test_FinCommons_hypotheses :
    (let s : State := runS 2 (regsG [(3, 0x10020), (4, 0), (5, 77), (6,0)]) [(Reg.POD_CAP 2, 0)]
     let p : PodId := 2
     let ra : GReg := 3
     let imm : BitVec 14 := -8
     let q := s.pod p
     let a := (q.rg ra + imm.signExtend 64).toNat
     (Executes s p) ∧ (a % 8 = 0) ∧ (a < 0x100000)) ∧
    (let s : State := runS 2 (regsG [(3, 0x50020), (4, 0xC008000000000000), (5, 77), (6,0)])
     let p : PodId := 2
     let ra : GReg := 3
     let imm : BitVec 14 := -8
     let q := s.pod p
     let a := (q.rg ra + imm.signExtend 64).toNat
     (Executes s p) ∧ (a % 8 = 0) ∧ (a < 0x100000) ∧ (0x10000 ≤ a) ∧ ((0x50000 ≤ a ∨ s.hasCap p 14 = true))) ∧
    (let s : State := runS 2 (regsG [(3, 0x50020), (4, 0), (5, 77), (6,0)])
     let p : PodId := 2
     let ra : GReg := 3
     let q := s.pod p
     let e := (q.rg ra).toNat
     (Executes s p) ∧ (e % 8 = 0) ∧ (e < 0x100000) ∧ (0x10000 ≤ e) ∧ ((0x50000 ≤ e ∨ s.hasCap p 14 = true))) ∧
    (let s : State := runS 2 (regsG [(3, 0x50020), (4, 0), (5, 77), (6,0)])
     let p : PodId := 2
     let ra : GReg := 3
     let imm : BitVec 14 := -7
     let q := s.pod p
     let a := (q.rg ra + imm.signExtend 64).toNat
     (Executes s p) ∧ (a % 8 ≠ 0)) ∧
    (let s : State := runS 2 (regsG [(3, 0x100020), (4, 0), (5, 77), (6,0)])
     let p : PodId := 2
     let ra : GReg := 3
     let imm : BitVec 14 := -8
     let q := s.pod p
     let a := (q.rg ra + imm.signExtend 64).toNat
     (Executes s p) ∧ (a % 8 = 0) ∧ (0x100000 ≤ a)) ∧
    (let s : State := runS 2 (regsG [(3, 0x20), (4, 0), (5, 77), (6,0)])
     let p : PodId := 2
     let ra : GReg := 3
     let imm : BitVec 14 := -8
     let q := s.pod p
     let a := (q.rg ra + imm.signExtend 64).toNat
     (Executes s p) ∧ (a % 8 = 0) ∧ (a < 0x10000)) ∧
    (let s : State := runS 2 (regsG [(3, 0x10020), (4, 0), (5, 77), (6,0)]) [(Reg.POD_CAP 2, 0)]
     let p : PodId := 2
     let ra : GReg := 3
     let imm : BitVec 14 := -8
     let q := s.pod p
     let a := (q.rg ra + imm.signExtend 64).toNat
     (Executes s p) ∧ (a % 8 = 0) ∧ (0x10000 ≤ a) ∧ (a < 0x50000) ∧ (s.hasCap p 14 = false)) ∧
    (let s : State := runS 2 (regsG [(3, 0x20), (4, 0), (5, 77), (6,0)])
     let p : PodId := 2
     let ra : GReg := 3
     let q := s.pod p
     let e := (q.rg ra).toNat
     (Executes s p) ∧ (e % 8 = 0) ∧ (e < 0x10000)) :=
  by decide +kernel

end FinCommons

namespace FinCompareBranchTable



theorem test_FinCompareBranchTable_hypotheses :
    (let s : State := runS 2 (fun q => regsG [(3, 0x20), (4, 0xC008000000000000)] {q with z := true, pc := 10})
     let p : PodId := 2
     (Executes s p)) ∧
    (let s : State := runS 2 (fun q => regsG [(3, 0x20), (4, 0xC008000000000000)] {q with z := true, pc := 10})
     let p : PodId := 2
     let c : Fin 15 := 1
     let off : BitVec 20 := -3
     let q := s.pod p
     let dest : Int := q.pc + off.toInt
     (Executes s p) ∧ (CondHolds q c) ∧ (0 ≤ dest) ∧ (dest < s.imemWords p)) ∧
    (let s : State := runS 2 (fun q => regsG [(3, 0x64), (4, 0xC008000000000000)] {q with z := true, pc := 10})
     let p : PodId := 2
     let c : Fin 15 := 2
     let q := s.pod p
     (Executes s p) ∧ (¬ CondHolds q c)) ∧
    (let s : State := runS 2 (fun q => regsG [(3, 0x63), (4, 0x63)] {q with z := true, pc := 10})
     let p : PodId := 2
     let c : Fin 15 := 0
     let off : BitVec 20 := -11
     let q := s.pod p
     let dest : Int := q.pc + off.toInt
     (Executes s p) ∧ (CondHolds q c) ∧ (dest < 0 ∨ (s.imemWords p : Int) ≤ dest)) ∧
    (let s : State := runS 2 (fun q => regsG [(3, 0x20), (4, 0xC008000000000000)] {q with z := true, pc := 10})
     let p : PodId := 2
     let ra : GReg := 3
     let q := s.pod p
     let a := q.rg ra
     (Executes s p) ∧ (a.toNat < s.imemWords p)) ∧
    (let s : State := runS 2 (fun q => regsG [(3, 0x64), (4, 0xC008000000000000)] {q with z := true, pc := 10})
     let p : PodId := 2
     let ra : GReg := 3
     let q := s.pod p
     let a := q.rg ra
     (Executes s p) ∧ (s.imemWords p ≤ a.toNat)) :=
  by repeat' first | decide +kernel | apply And.intro

end FinCompareBranchTable

namespace FinControlInstructions



theorem test_FinControlInstructions_hypotheses :
    (let s : State := runS 2 (fun q => {q with pc := 99, compl := [5,6]}) [(Reg.POD_WDOG 2, 0xFFFF0050)]
     let p : PodId := 2
     (Executes s p)) ∧
    (let s : State := runS 2 (fun q => {q with pc := 99, compl := []}) [(Reg.POD_WDOG 2, 0xFFFF0050)]
     let p : PodId := 2
     let q := s.pod p
     (Executes s p) ∧ (q.compl = [])) ∧
    (let s : State := runS 2 (fun q => {q with pc := 99, compl := [5,6]}) [(Reg.POD_WDOG 2, 0xFFFF0050)]
     let p : PodId := 2
     let q := s.pod p
     (Executes s p) ∧ (q.compl ≠ [])) :=
  by decide +kernel

end FinControlInstructions

namespace FinEnsembleAssist



theorem test_FinEnsembleAssist_hypotheses :
    (let s : State := runS 2 (regsG [(3, 7), (4, 0x4008000000000000)])
     let p : PodId := 2
     let ra : GReg := 3
     let rb : GReg := 4
     let q := s.pod p
     let i := (q.rg ra).toNat
     let v := q.rg rb
     (Executes s p) ∧ (s.hasCap p 5 = true) ∧ (i ≤ 7) ∧ (fpFinite v = true)) ∧
    (let s : State := runS 2 (regsG [(3, 8), (4, 0x4008000000000013)])
     let p : PodId := 2
     let ra : GReg := 3
     let q := s.pod p
     let i := (q.rg ra).toNat
     (Executes s p) ∧ (s.hasCap p 5 = true) ∧ (7 < i)) ∧
    (let s : State := runS 2 (regsG [(3, 8), (4, 0x4008000000000013)])
     let p : PodId := 2
     let ra : GReg := 3
     let q := s.pod p
     (Executes s p) ∧ (s.hasCap p 5 = true) ∧ (fpFinite (q.rg ra) = true)) ∧
    (let s : State := runS 2 (regsG [(3, 0x7FF8000000000001), (4, 0x4008000000000013)])
     let p : PodId := 2
     let ra : GReg := 3
     let q := s.pod p
     (Executes s p) ∧ (s.hasCap p 5 = true) ∧ (fpFinite (q.rg ra) = false)) ∧
    (let s : State := runS 2 (regsG [(3, 7), (4, 0x4008000000000000)])
     let p : PodId := 2
     let ra : GReg := 3
     let q := s.pod p
     let i := (q.rg ra).toNat
     (Executes s p) ∧ (s.hasCap p 5 = true) ∧ (i ≤ 7)) ∧
    (let s : State := runS 2 (regsG [(3, 8), (4, 0x4008000000000013)])
     let p : PodId := 2
     (Executes s p) ∧ (s.hasCap p 5 = true)) :=
  by decide +kernel

end FinEnsembleAssist

namespace FinFetchBeyondImemFaults



theorem test_FinFetchBeyondImemFaults_hypotheses :
    (let s : State := runS 2 (fun q => {q with pc := 100, compl := [5,6]}) [(Reg.POD_WDOG 2, 0xFFFF0050)]
     let p : PodId := 2
     (s.podRuns p = true) ∧ (s.wdogDue p = false) ∧ (s.imemWords p ≤ (s.pod p).pc)) ∧
    (let s : State := (ticking (runS 2 (fun q => {q with pc := 4, wdog := 80, wdogAt := 1000}))).at 101000
     let p : PodId := 2
     (s.podRuns p = true) ∧ (s.wdogDue p = true)) :=
  by decide +kernel

end FinFetchBeyondImemFaults

namespace FinGnssCommands

def de (l : List Byte) (q : PodState) : PodState := regsG [(3, 0x100)] {q with dmem := putBytes zeros [] 0x100 l}
def ks (c st : Nat) : List (Nat × Nat) := [(Reg.GNS_CH_STAT c, st)]

theorem test_FinGnssCommands_hypotheses :
    (let s : State := runS 2 (de [3, 0, 0,0,0,0,0,0,0,0,0,0, 20, 64, 3])
     let p : PodId := 2
     let ra : GReg := 3
     let q := s.pod p
     let a := (q.rg ra).toNat
     let d := s.dmemRead p a 32
     let f (off n : Nat) : Nat := leNat ((d.drop off).take n)
     let c := f 0 1
     let acqOk : Prop := c < 20 ∧ 1 ≤ f 12 1 ∧ f 12 1 ≤ 20 ∧ 1 ≤ f 13 1 ∧ f 13 1 ≤ 64 ∧ f 14 1 < 4
     (Executes s p) ∧ (s.hasCap p 7 = true) ∧ (a % 8 = 0) ∧ (a + 32 ≤ 0x10000) ∧ (acqOk) ∧ (s.gns.acq.length < 8) ∧ (q.compl.length + q.reserved < 128)) ∧
    (let s : State := runS 2 (de [20, 0, 0,0,0,0,0,0,0,0,0,0, 20, 64, 3])
     let p : PodId := 2
     let ra : GReg := 3
     let q := s.pod p
     let a := (q.rg ra).toNat
     let d := s.dmemRead p a 32
     let f (off n : Nat) : Nat := leNat ((d.drop off).take n)
     let c := f 0 1
     let acqOk : Prop := c < 20 ∧ 1 ≤ f 12 1 ∧ f 12 1 ≤ 20 ∧ 1 ≤ f 13 1 ∧ f 13 1 ≤ 64 ∧ f 14 1 < 4
     (Executes s p) ∧ (s.hasCap p 7 = true) ∧ (a % 8 = 0) ∧ (a + 32 ≤ 0x10000) ∧ (¬ acqOk ∨ 8 ≤ s.gns.acq.length ∨ 128 ≤ q.compl.length + q.reserved)) ∧
    (let s : State := runS 2 (de [5, 0, 19, 0, 3, 64, 0x80, 0xFF, 0xF0, 0xFF, 0xFF, 0xFF])
     let p : PodId := 2
     let ra : GReg := 3
     let q := s.pod p
     let a := (q.rg ra).toNat
     let d := s.dmemRead p a 32
     let f (off n : Nat) : Nat := leNat ((d.drop off).take n)
     let chanOk : Prop := f 2 1 < 20 ∧ f 4 1 < 4 ∧ 1 ≤ f 5 1 ∧ f 5 1 ≤ 64 ∧ -128 ≤ toSigned 16 (f 6 2) ∧ toSigned 16 (f 6 2) ≤ 128
     (Executes s p) ∧ (s.hasCap p 7 = true) ∧ (a % 8 = 0) ∧ (a + 32 ≤ 0x10000) ∧ (chanOk) ∧ (f 1 1 = 0)) ∧
    (let s : State := runS 2 (de [5, 1, 19, 0, 3, 64, 0x80, 0x00, 0xF0, 0xFF, 0xFF, 0xFF])
     let p : PodId := 2
     let ra : GReg := 3
     let q := s.pod p
     let a := (q.rg ra).toNat
     let d := s.dmemRead p a 32
     let f (off n : Nat) : Nat := leNat ((d.drop off).take n)
     let c := f 0 1
     let chanOk : Prop := f 2 1 < 20 ∧ f 4 1 < 4 ∧ 1 ≤ f 5 1 ∧ f 5 1 ≤ 64 ∧ -128 ≤ toSigned 16 (f 6 2) ∧ toSigned 16 (f 6 2) ≤ 128
     (Executes s p) ∧ (s.hasCap p 7 = true) ∧ (a % 8 = 0) ∧ (a + 32 ≤ 0x10000) ∧ (chanOk) ∧ (f 1 1 = 1) ∧ (s.gnCh c = 0 ∨ s.gnCh c = 3)) ∧
    (let s : State := runS 2 (de [1, 1, 19, 0, 3, 64, 0x80, 0x00, 0xF0, 0xFF, 0xFF, 0xFF]) (ks 1 2)
     let p : PodId := 2
     let ra : GReg := 3
     let q := s.pod p
     let a := (q.rg ra).toNat
     let d := s.dmemRead p a 32
     let f (off n : Nat) : Nat := leNat ((d.drop off).take n)
     let c := f 0 1
     (Executes s p) ∧ (s.hasCap p 7 = true) ∧ (a % 8 = 0) ∧ (a + 32 ≤ 0x10000) ∧ (f 1 1 = 1) ∧ (s.gnCh c = 1 ∨ s.gnCh c = 2)) ∧
    (let s : State := runS 2 (de [3, 0, 0,0,0,0,0,0,0,0,0,0, 20, 64, 3])
     let p : PodId := 2
     let ra : GReg := 3
     let q := s.pod p
     let a := (q.rg ra).toNat
     let d := s.dmemRead p a 32
     let f (off n : Nat) : Nat := leNat ((d.drop off).take n)
     (Executes s p) ∧ (s.hasCap p 7 = true) ∧ (a % 8 = 0) ∧ (a + 32 ≤ 0x10000) ∧ (-500000000000 ≤ toSigned 64 (f 0 8)) ∧ (toSigned 64 (f 0 8) ≤ 499999999999)) ∧
    (let s : State := runS 2 (de [0, 0, 0, 0, 0, 0, 0, 0xFF])
     let p : PodId := 2
     let ra : GReg := 3
     let q := s.pod p
     let a := (q.rg ra).toNat
     let d := s.dmemRead p a 32
     let f (off n : Nat) : Nat := leNat ((d.drop off).take n)
     (Executes s p) ∧ (s.hasCap p 7 = true) ∧ (a % 8 = 0) ∧ (a + 32 ≤ 0x10000) ∧ (toSigned 64 (f 0 8) < -500000000000 ∨ 499999999999 < toSigned 64 (f 0 8))) ∧
    (let s : State := runS 2 (de [1, 1, 19, 0, 3, 64, 0x80, 0x00, 0xF0, 0xFF, 0xFF, 0xFF]) (ks 1 2)
     let p : PodId := 2
     let ra : GReg := 3
     let q := s.pod p
     let a := (q.rg ra).toNat
     let d := s.dmemRead p a 32
     let f (off n : Nat) : Nat := leNat ((d.drop off).take n)
     let c := f 0 1
     (Executes s p) ∧ (s.hasCap p 7 = true) ∧ (a % 8 = 0) ∧ (a + 32 ≤ 0x10000) ∧ (c = 1)) ∧
    (let s : State := runS 2 (de [0, 0, 0, 0, 0, 0, 0, 0xFF])
     let p : PodId := 2
     let ra : GReg := 3
     let q := s.pod p
     let a := (q.rg ra).toNat
     let d := s.dmemRead p a 32
     let f (off n : Nat) : Nat := leNat ((d.drop off).take n)
     let c := f 0 1
     (Executes s p) ∧ (s.hasCap p 7 = true) ∧ (a % 8 = 0) ∧ (a + 32 ≤ 0x10000) ∧ (c = 0)) ∧
    (let s : State := runS 2 (de [3, 0, 0,0,0,0,0,0,0,0,0,0, 20, 64, 3])
     let p : PodId := 2
     let ra : GReg := 3
     let q := s.pod p
     let a := (q.rg ra).toNat
     let d := s.dmemRead p a 32
     let f (off n : Nat) : Nat := leNat ((d.drop off).take n)
     let c := f 0 1
     (Executes s p) ∧ (s.hasCap p 7 = true) ∧ (a % 8 = 0) ∧ (a + 32 ≤ 0x10000) ∧ (2 ≤ c)) ∧
    (let s : State := runS 2 (de [3, 0, 0,0,0,0,0,0,0,0,0,0, 20, 64, 3])
     let p : PodId := 2
     let ra : GReg := 3
     let q := s.pod p
     let a := (q.rg ra).toNat
     (Executes s p) ∧ (s.hasCap p 7 = true) ∧ (a % 8 = 0) ∧ (a + 32 ≤ 0x10000)) ∧
    (let s : State := let s := runS 2 (de [9, 0]); {s with gns := {s.gns with chan := [(9, {GnChan.reset with obs := some ⟨9, -5, 7, -9, 4400⟩, st := 2})]}}
     let p : PodId := 2
     let ra : GReg := 3
     let q := s.pod p
     let a := (q.rg ra).toNat
     let d := s.dmemRead p a 32
     let f (off n : Nat) : Nat := leNat ((d.drop off).take n)
     let c := f 0 1
     let k := tabGet GnChan.reset s.gns.chan c
     (Executes s p) ∧ (s.hasCap p 7 = true) ∧ (a % 8 = 0) ∧ (a + 32 ≤ 0x10000) ∧ (k.obs.isSome = true)) :=
  by repeat' first | decide +kernel | apply And.intro

end FinGnssCommands

namespace FinIntegerTable



theorem test_FinIntegerTable_hypotheses :
    (let s : State := runS 2 (regsG [(3, 0x7FFFFFFFFFFFFFF0), (5, 0x123456789ABCDEF0), (4, 100)])
     let p : PodId := 2
     (Executes s p)) ∧
    (let s : State := runS 2 (regsG [(3, 0x7FFFFFFFFFFFFFF0), (5, 0x123456789ABCDEF0), (4, 100)])
     let p : PodId := 2
     let ra : GReg := 3
     let lz : Nat := 1
     let q := s.pod p
     let a := q.rg ra
     (Executes s p) ∧ (lz ≤ 64) ∧ (a.toNat < 2 ^ (64 - lz)) ∧ ((lz = 64 ∨ 2 ^ (63 - lz) ≤ a.toNat))) :=
  by decide +kernel

end FinIntegerTable

namespace FinIssueOutcomes

def t3 : Tab Nat := [(1, 5*2^64+7*2^32+3), (3, 2*2^64+4*2^32), (4, 2000*2^64), (5, 2^32*1000000000)]

theorem test_FinIssueOutcomes_hypotheses :
    (let s : State := runS 2 (fun q => regsG [(3, 0x302), (4, 0x12345)] {q with t := t3})
     let p : PodId := 2
     let tA : TReg := 4
     let vc : VcId := 1
     let q := s.pod p
     let tgt := q.rt tA
     let room := q.compl.length + q.reserved < 128
     let far := s.vcNow vc + 1000 * fuSec < gtOfRaw tgt
     (Executes s p) ∧ (s.hasCap p 2 = true) ∧ (room) ∧ (far)) ∧
    (let s : State := runS 2 (fun q => regsG [(3, 0x302), (4, 0x12345)] {q with t := t3, acts := List.replicate 64 zAct})
     let p : PodId := 2
     let tA : TReg := 1
     let vc : VcId := 1
     let q := s.pod p
     let tgt := q.rt tA
     let room := q.compl.length + q.reserved < 128
     let far := s.vcNow vc + 1000 * fuSec < gtOfRaw tgt
     (Executes s p) ∧ (s.hasCap p 2 = true) ∧ (room) ∧ (¬ far) ∧ (64 ≤ q.acts.length)) ∧
    (let s : State := runS 2 (fun q => regsG [(3, 0x302), (4, 0x12345)] {q with t := t3, reserved := 128})
     let p : PodId := 2
     let q := s.pod p
     let room := q.compl.length + q.reserved < 128
     (Executes s p) ∧ (s.hasCap p 2 = true) ∧ (¬ room)) ∧
    (let s : State := runS 2 (fun q => regsG [(3, 0x302), (4, 0x12345)] {q with t := t3})
     let p : PodId := 2
     let tA : TReg := 5
     let vc : VcId := 1
     let q := s.pod p
     let tgt := q.rt tA
     let room := q.compl.length + q.reserved < 128
     let far := s.vcNow vc + 1000 * fuSec < gtOfRaw tgt
     (Executes s p) ∧ (s.hasCap p 2 = true) ∧ (room) ∧ (¬ far) ∧ (q.acts.length < 64) ∧ (999999999 < tgt / 2 ^ 32 % 2 ^ 32)) ∧
    (let s : State := runS 2 (fun q => regsG [(3, 0x302), (4, 0x12345)] {q with t := t3}) [(Reg.TKP_VC_STATUS 2, 2^(Reg.TKP_VC_STATUS_FIRST_DONE).lo)]
     let p : PodId := 2
     let tA : TReg := 1
     let ga : GReg := 3
     let vc : VcId := 1
     let q := s.pod p
     let v := (q.rg ga).toNat % 8
     let tgt := q.rt tA
     let room := q.compl.length + q.reserved < 128
     let far := s.vcNow vc + 1000 * fuSec < gtOfRaw tgt
     (Executes s p) ∧ (s.hasCap p 1 = true) ∧ (s.ownsVc p v = true) ∧ (s.fld (Reg.TKP_VC_STATUS v) Reg.TKP_VC_STATUS_MODE = 0) ∧ (room) ∧ (¬ far) ∧ (q.acts.length < 64) ∧ (s.firstDone v = true) ∧ (s.permit v = false)) ∧
    (let s : State := runS 2 (fun q => regsG [(3, 0x302), (4, 0x12345)] {q with t := t3}) [(Reg.POD_CAP 2, 2),(Reg.POD_VCOWN 2, 1)]
     let p : PodId := 2
     (Executes s p) ∧ (s.hasCap p 2 = false)) ∧
    (let s : State := runS 2 (fun q => regsG [(3, 0x302), (4, 0x12345)] {q with t := t3}) [(Reg.POD_CAP 2, 2),(Reg.POD_VCOWN 2, 1)]
     let p : PodId := 2
     let ga : GReg := 3
     let q := s.pod p
     let v := (q.rg ga).toNat % 8
     (Executes s p) ∧ (s.hasCap p 1 = true) ∧ (s.ownsVc p v = false)) :=
  by decide +kernel

end FinIssueOutcomes

namespace FinLoads



theorem test_FinLoads_hypotheses :
    (let s : State := runS 2 (fun q => regsG [(3, 0x20), (4, 0xC008000000000000)] {q with dmem := putBytes zeros [] 0x18 [0x81, 2,3,0x84,5,6,7,0x88]})
     let p : PodId := 2
     let ra : GReg := 3
     let imm : BitVec 14 := -8
     let a := ((s.pod p).rg ra + imm.signExtend 64).toNat
     (Executes s p) ∧ (a < 0x10000)) ∧
    (let s : State := runS 2 (fun q => regsG [(3, 0x20), (4, 0xC008000000000000)] {q with dmem := putBytes zeros [] 0x18 [0x81, 2,3,0x84,5,6,7,0x88]})
     let p : PodId := 2
     let ra : GReg := 3
     let imm : BitVec 14 := -8
     let a := ((s.pod p).rg ra + imm.signExtend 64).toNat
     (Executes s p) ∧ (a % 2 = 0) ∧ (a < 0x10000)) ∧
    (let s : State := runS 2 (fun q => regsG [(3, 0x20), (4, 0xC008000000000000)] {q with dmem := putBytes zeros [] 0x18 [0x81, 2,3,0x84,5,6,7,0x88]})
     let p : PodId := 2
     let ra : GReg := 3
     let imm : BitVec 14 := -8
     let a := ((s.pod p).rg ra + imm.signExtend 64).toNat
     (Executes s p) ∧ (a % 4 = 0) ∧ (a < 0x10000)) ∧
    (let s : State := runS 2 (fun q => regsG [(3, 0x20), (4, 0xC008000000000000)] {q with dmem := putBytes zeros [] 0x18 [0x81, 2,3,0x84,5,6,7,0x88]})
     let p : PodId := 2
     let ra : GReg := 3
     let imm : BitVec 14 := -8
     let a := ((s.pod p).rg ra + imm.signExtend 64).toNat
     (Executes s p) ∧ (a % 8 = 0) ∧ (a < 0x10000)) ∧
    (let s : State := runS 2 (fun q => regsG [(3, 0x21), (4, 0xC008000000000000)] {q with dmem := putBytes zeros [] 0x18 [0x81, 2,3,0x84,5,6,7,0x88]})
     let p : PodId := 2
     let ra : GReg := 3
     let imm : BitVec 14 := -8
     let a := ((s.pod p).rg ra + imm.signExtend 64).toNat
     (Executes s p) ∧ (a % 2 ≠ 0)) ∧
    (let s : State := runS 2 (fun q => regsG [(3, 0x21), (4, 0xC008000000000000)] {q with dmem := putBytes zeros [] 0x18 [0x81, 2,3,0x84,5,6,7,0x88]})
     let p : PodId := 2
     let ra : GReg := 3
     let imm : BitVec 14 := -8
     let a := ((s.pod p).rg ra + imm.signExtend 64).toNat
     (Executes s p) ∧ (a % 4 ≠ 0)) ∧
    (let s : State := runS 2 (fun q => regsG [(3, 0x21), (4, 0xC008000000000000)] {q with dmem := putBytes zeros [] 0x18 [0x81, 2,3,0x84,5,6,7,0x88]})
     let p : PodId := 2
     let ra : GReg := 3
     let imm : BitVec 14 := -8
     let a := ((s.pod p).rg ra + imm.signExtend 64).toNat
     (Executes s p) ∧ (a % 8 ≠ 0)) ∧
    (let s : State := runS 2 (fun q => regsG [(3, 0x10010), (4, 0xC008000000000000)] {q with dmem := putBytes zeros [] 0x18 [0x81, 2,3,0x84,5,6,7,0x88]})
     let p : PodId := 2
     let ra : GReg := 3
     let imm : BitVec 14 := -8
     let a := ((s.pod p).rg ra + imm.signExtend 64).toNat
     (Executes s p) ∧ (a % 8 = 0) ∧ (0x10000 ≤ a)) :=
  by decide +kernel

end FinLoads

namespace FinMeasurement

def own (o : Nat) : Nat → Tab ChanState := fun c => [(c, {ChanState.reset with owner := o})]
def rec1 : MeasRec := ⟨12345678901234, 5, 77, 300, 3, 1, 9, 5⟩

theorem test_FinMeasurement_hypotheses :
    (let s : State := {runS 2 (regsG [(3, 0x105), (4, 0x0102031F), (6, 0x25)]) with tdc := {State.reset.tdc with chan := own 3 5}}
     let p : PodId := 2
     let ra : GReg := 3
     let q := s.pod p
     let c := (q.rg ra).toNat % 32
     let free (c : Nat) : Prop := (s.chan c).owner = 0 ∨ (s.chan c).owner = p.val + 1
     (Executes s p) ∧ (s.hasCap p 3 = true) ∧ (free c) ∧ (s.chanEn c = false) ∧ (s.tdc.skewRun = false)) ∧
    (let s : State := {runS 2 (regsG [(3, 0x105), (4, 0x0102031F), (6, 0x25)]) with tdc := {State.reset.tdc with chan := own 3 5}}
     let p : PodId := 2
     let gX : GReg := 6
     let tA : TReg := 1
     let q := s.pod p
     let cx := (q.rg gX).toNat % 32
     let free (c : Nat) : Prop := (s.chan c).owner = 0 ∨ (s.chan c).owner = p.val + 1
     (Executes s p) ∧ (s.hasCap p 3 = true) ∧ (free cx) ∧ (s.chanEn cx = false) ∧ (gtRawOk (q.rt tA) = true)) ∧
    (let s : State := {runS 2 (fun q => {regsG [(3, 0x105), (6, 0x25)] q with t := [(1, 2^63)]}) with tdc := {State.reset.tdc with chan := own 3 5}}
     let p : PodId := 2
     let gX : GReg := 6
     let tA : TReg := 1
     let q := s.pod p
     let cx := (q.rg gX).toNat % 32
     let free (c : Nat) : Prop := (s.chan c).owner = 0 ∨ (s.chan c).owner = p.val + 1
     (Executes s p) ∧ (s.hasCap p 3 = true) ∧ (free cx) ∧ (gtRawOk (q.rt tA) = false)) ∧
    (let s : State := {runS 2 (regsG [(3, 0x105), (4, 0x0102031F), (6, 0x25)]) with tdc := {State.reset.tdc with chan := own 4 5}}
     let p : PodId := 2
     let ra : GReg := 3
     let q := s.pod p
     let c := (q.rg ra).toNat % 32
     let free (c : Nat) : Prop := (s.chan c).owner = 0 ∨ (s.chan c).owner = p.val + 1
     (Executes s p) ∧ (s.hasCap p 3 = true) ∧ (¬ free c)) ∧
    (let s : State := {runS 2 (regsG [(3, 0x105), (4, 0x0102031F), (6, 0x25)]) with tdc := {State.reset.tdc with chan := own 3 5}}
     let p : PodId := 2
     let ra : GReg := 3
     let q := s.pod p
     let c := (q.rg ra).toNat % 32
     (Executes s p) ∧ (s.hasCap p 3 = true) ∧ ((s.chan c).owner = p.val + 1)) ∧
    (let s : State := {runS 2 (regsG [(3, 0x105), (4, 0x0102031F), (6, 0x25)]) with tdc := {State.reset.tdc with chan := own 4 5}}
     let p : PodId := 2
     let ra : GReg := 3
     let q := s.pod p
     let c := (q.rg ra).toNat % 32
     (Executes s p) ∧ (s.hasCap p 3 = true) ∧ ((s.chan c).owner ≠ p.val + 1)) ∧
    (let s : State := {runS 2 (regsG [(3, 0x105), (4, 0x0102031F), (6, 0x25)]) with tdc := {State.reset.tdc with chan := own 4 5}}
     let p : PodId := 2
     (Executes s p) ∧ (s.hasCap p 3 = true)) ∧
    (let s : State := {runS 2 (regsG [(3, 0x100), (4, 0x0102031F), (6, 0x25)]) with tdc := {State.reset.tdc with qOwn := []}}
     let p : PodId := 2
     let ra : GReg := 3
     let q := s.pod p
     let at_ := (q.rg ra).toNat
     (Executes s p) ∧ (s.hasCap p 3 = true) ∧ (at_ % 8 = 0) ∧ (at_ + 32 ≤ 0x10000) ∧ (tabGet [] s.tdc.qOwn p = [])) ∧
    (let s : State := {runS 2 (regsG [(3, 0x100), (4, 0x0102031F), (6, 0x25)]) with tdc := {State.reset.tdc with qOwn := [(2,[rec1, rec1])], qPod1 := [rec1]}}
     let p : PodId := 2
     let ra : GReg := 3
     let q := s.pod p
     let at_ := (q.rg ra).toNat
     (Executes s p) ∧ (s.hasCap p 3 = true) ∧ (at_ % 8 = 0) ∧ (at_ + 32 ≤ 0x10000) ∧ (tabGet [] s.tdc.qOwn p ≠ [])) ∧
    (let s : State := {runS 2 (regsG [(3, 0x100), (4, 0x0102031F), (6, 0x25)]) with tdc := {State.reset.tdc with qOwn := [(2,[rec1, rec1])], qPod1 := [rec1]}}
     let p : PodId := 2
     let ra : GReg := 3
     let q := s.pod p
     let at_ := (q.rg ra).toNat
     (Executes s p) ∧ (s.hasCap p 3 = true) ∧ (s.hasCap p 4 = true) ∧ (at_ % 8 = 0) ∧ (at_ + 32 ≤ 0x10000) ∧ (s.tdc.qPod1 ≠ [])) :=
  by repeat' first | decide +kernel | apply And.intro

end FinMeasurement

namespace FinMessages

def ent : MboxEntry := ⟨4, 9, 3, List.replicate 24 5, 0⟩
def ent2 : MboxEntry := { ent with crc := crc16 (mboxBody ent) }

theorem test_FinMessages_hypotheses :
    (let s : State := runS 2 (fun q => regsG [(3, 0x105), (4, 0x40)] {q with dmem := putBytes zeros [] 0x40 [1,2,3]})
     let p : PodId := 2
     let ra : GReg := 3
     let rb : GReg := 4
     let q := s.pod p
     let a := (q.rg ra).toNat
     let b := (q.rg rb).toNat
     let dest := a % 8
     (Executes s p) ∧ (b % 8 = 0) ∧ (b + 24 ≤ 0x10000) ∧ ((s.pod dest).mbox.length < 32)) ∧
    (let s : State := (runS 2 (fun q => regsG [(3, 0x105), (4, 0x40)] {q with dmem := putBytes zeros [] 0x40 [1,2,3]})).modPod 5 (fun q => {q with mbox := List.replicate 32 ent})
     let p : PodId := 2
     let ra : GReg := 3
     let rb : GReg := 4
     let q := s.pod p
     let a := (q.rg ra).toNat
     let b := (q.rg rb).toNat
     let dest := a % 8
     (Executes s p) ∧ (b % 8 = 0) ∧ (b + 24 ≤ 0x10000) ∧ (32 ≤ (s.pod dest).mbox.length)) ∧
    (let s : State := (runS 2 (fun q => regsG [(3, 0x50008), (4, 3 * 2^20 + 8 * 2^16 + 100)] q)).up 8
     let p : PodId := 2
     (Executes s p)) ∧
    (let s : State := (runS 2 (fun q => regsG [(3, 0x50008), (4, 3 * 2^20 + 8 * 2^16 + 100)] q)).up 8
     let p : PodId := 2
     let q := s.pod p
     (Executes s p) ∧ (q.param = none)) ∧
    (let s : State := (runS 2 (fun q => regsG [(3, 0x100), (4, 48)] q)).ring 2
     let p : PodId := 2
     let ra : GReg := 3
     let rb : GReg := 4
     let q := s.pod p
     let a := (q.rg ra).toNat
     let b := (q.rg rb).toNat
     (Executes s p) ∧ (s.hasCap p 13 = true) ∧ (1 ≤ b) ∧ (b ≤ 48) ∧ (a + b ≤ 0x10000) ∧ (s.ringRoom 2 = true) ∧ (tabGet none s.hif.loss 2 = none)) ∧
    (let s : State := (runS 2 (fun q => regsG [(3, 0x100), (4, 1)] q))
     let p : PodId := 2
     let ra : GReg := 3
     let rb : GReg := 4
     let q := s.pod p
     let a := (q.rg ra).toNat
     let b := (q.rg rb).toNat
     (Executes s p) ∧ (s.hasCap p 13 = true) ∧ (1 ≤ b) ∧ (b ≤ 48) ∧ (a + b ≤ 0x10000) ∧ (s.ringEn 2 = false)) ∧
    (let s : State := (runS 2 (fun q => regsG [(3, 0x50008), (4, 3 * 2^20 + 8 * 2^16 + 100)] q)).up 8
     let p : PodId := 2
     let rb : GReg := 4
     let q := s.pod p
     let b := (q.rg rb).toNat
     (Executes s p) ∧ (s.hasCap p 13 = true) ∧ ((b = 0 ∨ 48 < b))) ∧
    (let s : State := (runS 2 (fun q => regsG [(3, 0x100), (4, 1)] q))
     let p : PodId := 2
     let rb : GReg := 4
     let q := s.pod p
     let b := (q.rg rb).toNat
     (Executes s p) ∧ (s.hasCap p 11 = true) ∧ (b + 40 ≤ 0x10000) ∧ (s.jrn.staging.length < 31744)) ∧
    (let s : State := {runS 2 (fun q => regsG [(3, 0x100), (4, 49)] q) with jrn := {State.reset.jrn with staging := List.replicate 31744 zJRec}}
     let p : PodId := 2
     let rb : GReg := 4
     let q := s.pod p
     let b := (q.rg rb).toNat
     (Executes s p) ∧ (s.hasCap p 11 = true) ∧ (b + 40 ≤ 0x10000) ∧ (31744 ≤ s.jrn.staging.length)) ∧
    (let s : State := (runS 2 (fun q => regsG [(3, 0x50008), (4, 3 * 2^20 + 8 * 2^16 + 100)] q)).up 8
     let p : PodId := 2
     let ra : GReg := 3
     let rb : GReg := 4
     let q := s.pod p
     let a := (q.rg ra).toNat
     let b := (q.rg rb).toNat
     let len := b % 2 ^ 14
     let port := b / 2 ^ 16 % 16
     (Executes s p) ∧ (s.hasCap p 10 = true) ∧ (a % 8 = 0) ∧ (0x50000 ≤ a) ∧ (a + (len - 4) ≤ 0x100000) ∧ (port ≤ 8) ∧ (q.netOut.length < 16) ∧ (q.compl.length + q.reserved < 128) ∧ (s.portUp port = true) ∧ (s.prpOn port = false) ∧ (max 64 len ≤ s.maxFrame port) ∧ (s.qbvNow port = none) ∧ ((s.port port).tx = [])) ∧
    (let s : State := (runS 2 (fun q => regsG [(3, 0x50008), (4, 3 * 2^20 + 2 * 2^16 + 20)] q))
     let p : PodId := 2
     let ra : GReg := 3
     let rb : GReg := 4
     let q := s.pod p
     let a := (q.rg ra).toNat
     let b := (q.rg rb).toNat
     let len := b % 2 ^ 14
     let port := b / 2 ^ 16 % 16
     (Executes s p) ∧ (s.hasCap p 10 = true) ∧ (a % 8 = 0) ∧ (0x50000 ≤ a) ∧ (a + (len - 4) ≤ 0x100000) ∧ (port ≤ 8) ∧ (q.netOut.length < 16) ∧ (q.compl.length + q.reserved < 128) ∧ (s.portUp port = false) ∧ (s.prpOn port = false)) ∧
    (let s : State := (runS 2 (fun q => regsG [(3, 0x100), (4, 1)] q))
     let p : PodId := 2
     let rd : GReg := 7
     let ra : GReg := 3
     let rb : GReg := 4
     let q := s.pod p
     let a := (q.rg ra).toNat
     let b := (q.rg rb).toNat
     (Executes s p) ∧ (s.hasCap p 9 = true) ∧ (rd ≠ 0) ∧ (rd ≠ 31) ∧ (b + a / 2 ^ 16 % 2 ^ 12 ≤ 0x10000) ∧ (a / 2 ^ 16 % 2 ^ 12 = 0)) ∧
    (let s : State := (runS 2 (fun q => regsG [(3, 0x100005), (4, 0x40)] q)).keyed 5 3 1 [1,2,3,4]
     let p : PodId := 2
     let rd : GReg := 30
     let ra : GReg := 3
     let rb : GReg := 4
     let k : List Byte := [1,2,3,4]
     let q := s.pod p
     let a := (q.rg ra).toNat
     let b := (q.rg rb).toNat
     (Executes s p) ∧ (s.hasCap p 9 = true) ∧ (rd ≠ 0) ∧ (rd ≠ 31) ∧ (b + a / 2 ^ 16 % 2 ^ 12 ≤ 0x10000) ∧ (a / 2 ^ 16 % 2 ^ 12 ≠ 0) ∧ (s.keyFor (a % 2 ^ 12) [2, 3] = .inr k)) ∧
    (let s : State := runS 2 (fun q => regsG [(3, 0x100), (4, 0x0)] {q with mbox := [ent, ent2], param := some ⟨33, 0x100, 4⟩ })
     let p : PodId := 2
     let ra : GReg := 3
     let q := s.pod p
     let a := (q.rg ra).toNat
     (Executes s p) ∧ (a % 8 = 0) ∧ (a + 32 ≤ 0x10000) ∧ (q.mbox ≠ [])) ∧
    (let s : State := {runS 2 (fun q => regsG [(3, 0x100), (4, 0x0)] {q with param := some ⟨33, 0x100, 4⟩ }) with tkp := {State.reset.tkp with rawcnt := 125000001}}
     let p : PodId := 2
     let q := s.pod p
     (Executes s p) ∧ (q.param.isSome = true) ∧ (q.paramTick + 100000 * ticksPerUs < s.tkp.rawcnt)) ∧
    (let s : State := runS 2 (fun q => regsG [(3, 0x100), (4, 0x0)] {q with mbox := [ent, ent2], param := some ⟨33, 0x100, 4⟩ })
     let p : PodId := 2
     let ra : GReg := 3
     let rb : GReg := 4
     let q := s.pod p
     let a := (q.rg ra).toNat
     let b := (q.rg rb).toNat
     (Executes s p) ∧ (q.param.any (fun r => decide (r.id = a)) = true) ∧ (b = 0) ∧ (s.tkp.rawcnt ≤ q.paramTick + 100000 * ticksPerUs)) :=
  by repeat' first | decide +kernel | apply And.intro

end FinMessages

namespace FinStores



theorem test_FinStores_hypotheses :
    (let s : State := runS 2 (regsG [(3, 0x100), (5, 0x123456789ABCDEF0)])
     let p : PodId := 2
     let ra : GReg := 3
     let imm : BitVec 14 := 8
     let a := ((s.pod p).rg ra + imm.signExtend 64).toNat
     (Executes s p) ∧ (a < 0x10000)) ∧
    (let s : State := runS 2 (regsG [(3, 0x100), (5, 0x123456789ABCDEF0)])
     let p : PodId := 2
     let ra : GReg := 3
     let imm : BitVec 14 := 8
     let a := ((s.pod p).rg ra + imm.signExtend 64).toNat
     (Executes s p) ∧ (a % 2 = 0) ∧ (a < 0x10000)) ∧
    (let s : State := runS 2 (regsG [(3, 0x100), (5, 0x123456789ABCDEF0)])
     let p : PodId := 2
     let ra : GReg := 3
     let imm : BitVec 14 := 8
     let a := ((s.pod p).rg ra + imm.signExtend 64).toNat
     (Executes s p) ∧ (a % 4 = 0) ∧ (a < 0x10000)) ∧
    (let s : State := runS 2 (regsG [(3, 0x100), (5, 0x123456789ABCDEF0)])
     let p : PodId := 2
     let ra : GReg := 3
     let imm : BitVec 14 := 8
     let a := ((s.pod p).rg ra + imm.signExtend 64).toNat
     (Executes s p) ∧ (a % 8 = 0) ∧ (a < 0x10000)) ∧
    (let s : State := runS 2 (regsG [(3, 0x101), (5, 0x123456789ABCDEF0)])
     let p : PodId := 2
     let ra : GReg := 3
     let imm : BitVec 14 := 8
     let a := ((s.pod p).rg ra + imm.signExtend 64).toNat
     (Executes s p) ∧ (a % 2 ≠ 0)) ∧
    (let s : State := runS 2 (regsG [(3, 0x101), (5, 0x123456789ABCDEF0)])
     let p : PodId := 2
     let ra : GReg := 3
     let imm : BitVec 14 := 8
     let a := ((s.pod p).rg ra + imm.signExtend 64).toNat
     (Executes s p) ∧ (a % 4 ≠ 0)) ∧
    (let s : State := runS 2 (regsG [(3, 0x101), (5, 0x123456789ABCDEF0)])
     let p : PodId := 2
     let ra : GReg := 3
     let imm : BitVec 14 := 8
     let a := ((s.pod p).rg ra + imm.signExtend 64).toNat
     (Executes s p) ∧ (a % 8 ≠ 0)) ∧
    (let s : State := runS 2 (regsG [(3, 0x10000), (5, 0x123456789ABCDEF0)])
     let p : PodId := 2
     let ra : GReg := 3
     let imm : BitVec 14 := 8
     let a := ((s.pod p).rg ra + imm.signExtend 64).toNat
     (Executes s p) ∧ (a % 8 = 0) ∧ (0x10000 ≤ a)) :=
  by decide +kernel

end FinStores

namespace FinTimeTable



theorem test_FinTimeTable_hypotheses :
    (let s : State := runS 2 (fun q => regsG [(3, 0x121), (4, 0xF2345678FFFFFFFF)] {q with t := [(1, 2^127), (2, 9*2^64+999999999*2^32+5)]})
     let p : PodId := 2
     (Executes s p)) ∧
    (let s : State := runS 2 (fun q => regsG [(3, 0x120), (4, 0xF2345678FFFFFFFF)] {q with t := [(1, 5*2^64+7*2^32+3), (2, (2^63-1)*2^64+999999999*2^32+5)]})
     let p : PodId := 2
     let gX : GReg := 3
     let q := s.pod p
     let at_ := (q.rg gX).toNat
     (Executes s p) ∧ (at_ % 8 = 0) ∧ (at_ + 16 ≤ 0x10000)) ∧
    (let s : State := runS 2 (fun q => regsG [(3, 0x50020), (4, 0x12345678)] {q with t := [(1, 5*2^64+7*2^32+3), (2, 9*2^64+999999999*2^32+5)]}) [(Reg.TKP_VC_STATUS 3, 0xFFFFFFFF)]
     let p : PodId := 2
     let gX : GReg := 3
     let q := s.pod p
     let at_ := (q.rg gX).toNat
     (Executes s p) ∧ (at_ % 8 = 0) ∧ (at_ + 16 ≤ 0x100000)) ∧
    (let s : State := runS 2 (fun q => regsG [(3, 0x50020), (4, 0x12345678)] {q with t := [(1, 5*2^64+7*2^32+3), (2, 9*2^64+999999999*2^32+5)]}) [(Reg.TKP_VC_STATUS 3, 0xFFFFFFFF)]
     let p : PodId := 2
     let gX : GReg := 3
     let q := s.pod p
     let at_ := (q.rg gX).toNat
     (Executes s p) ∧ (at_ % 8 = 0) ∧ (at_ + 16 ≤ 0x100000) ∧ (0x50000 ≤ at_)) ∧
    (let s : State := runS 2 (fun q => regsG [(3, 0x121), (4, 0xF2345678FFFFFFFF)] {q with t := [(1, 2^127), (2, 9*2^64+999999999*2^32+5)]})
     let p : PodId := 2
     let gX : GReg := 3
     let q := s.pod p
     let at_ := (q.rg gX).toNat
     (Executes s p) ∧ (at_ % 8 ≠ 0)) ∧
    (let s : State := runS 2 (fun q => regsG [(3, 0x121), (4, 0xF2345678FFFFFFFF)] {q with t := [(1, 2^127), (2, 9*2^64+999999999*2^32+5)]})
     let p : PodId := 2
     let v : VcId := 3
     let inRange (g : Int) : Bool := decide (-(2 ^ 63) ≤ g / 4294967296000000000 ∧ g / 4294967296000000000 < 2 ^ 63)
     (Executes s p) ∧ (inRange (s.vcNow v) = true)) ∧
    (let s : State := runS 2 (fun q => regsG [(3, 0x121), (4, 0xF2345678FFFFFFFF)] {q with t := [(1, 2^127), (2, 9*2^64+999999999*2^32+5)]})
     let p : PodId := 2
     let gX : GReg := 3
     let gY : GReg := 4
     (Executes s p) ∧ (gX ≠ 0) ∧ (gY ≠ 0) ∧ (gX ≠ gY)) :=
  by decide +kernel

end FinTimeTable

namespace FinTimedIssueQueued

def t3 : Tab Nat := [(1, 5*2^64+7*2^32+3), (3, 2*2^64+4*2^32)]

theorem test_FinTimedIssueQueued_hypotheses :
    (let s : State := runS 2 (fun q => regsG [(3, 0x202), (4, 0x7FFFFFFFFFFFFFFF)] {q with t := t3, tag := 0xFFFE})
     let p : PodId := 2
     let tA : TReg := 1
     let ga : GReg := 3
     let vc : VcId := 1
     let q := s.pod p
     let a := q.rg ga
     let v := a.toNat % 8
     let tgt := q.rt tA
     (Executes s p) ∧ (q.compl.length + q.reserved < 128) ∧ (q.acts.length < 64) ∧ (tgt / 2 ^ 32 % 2 ^ 32 ≤ 999999999) ∧ (gtOfRaw tgt ≤ s.vcNow vc + 1000 * fuSec) ∧ (s.hasCap p 0 = true) ∧ (s.ownsVc p v = true) ∧ (a.toNat / 256 % 2 = s.fld (Reg.TKP_VC_STATUS v) Reg.TKP_VC_STATUS_MODE)) ∧
    (let s : State := runS 2 (fun q => regsG [(3, 0x312), (4, 0x12345)] {q with t := t3})
     let p : PodId := 2
     let tA : TReg := 1
     let ga : GReg := 3
     let vc : VcId := 1
     let q := s.pod p
     let a := q.rg ga
     let v := a.toNat % 8
     let tgt := q.rt tA
     let gt := q.rt (a.toNat / 256 % 8)
     (Executes s p) ∧ (q.compl.length + q.reserved < 128) ∧ (q.acts.length < 64) ∧ (tgt / 2 ^ 32 % 2 ^ 32 ≤ 999999999) ∧ (gtOfRaw tgt ≤ s.vcNow vc + 1000 * fuSec) ∧ (s.hasCap p 1 = true) ∧ (s.ownsVc p v = true) ∧ (s.fld (Reg.TKP_VC_STATUS v) Reg.TKP_VC_STATUS_MODE = 0) ∧ (gt / 2 ^ 32 % 2 ^ 32 ≤ 999999999) ∧ (s.firstDone v = false)) ∧
    (let s : State := {runS 2 (fun q => regsG [(3, 0x302), (4, 0x12345)] {q with t := t3}) [(Reg.TKP_VC_STATUS 2, 1), (Reg.TKP_STEP_PERMIT, 4)] with tkp := {State.reset.tkp with permitExp := [(2, 500)]}}
     let p : PodId := 2
     let tA : TReg := 1
     let ga : GReg := 3
     let vc : VcId := 1
     let q := s.pod p
     let a := q.rg ga
     let v := a.toNat % 8
     let tgt := q.rt tA
     let gt := q.rt (a.toNat / 256 % 8)
     (Executes s p) ∧ (q.compl.length + q.reserved < 128) ∧ (q.acts.length < 64) ∧ (tgt / 2 ^ 32 % 2 ^ 32 ≤ 999999999) ∧ (gtOfRaw tgt ≤ s.vcNow vc + 1000 * fuSec) ∧ (s.hasCap p 1 = true) ∧ (s.ownsVc p v = true) ∧ (s.fld (Reg.TKP_VC_STATUS v) Reg.TKP_VC_STATUS_MODE = 0) ∧ (gt / 2 ^ 32 % 2 ^ 32 ≤ 999999999) ∧ (s.firstDone v = true) ∧ (s.permit v = true)) ∧
    (let s : State := runS 2 (fun q => regsG [(3, 0x312), (4, 0x12345)] {q with t := t3})
     let p : PodId := 2
     let tA : TReg := 1
     let vc : VcId := 1
     let q := s.pod p
     let tgt := q.rt tA
     (Executes s p) ∧ (q.compl.length + q.reserved < 128) ∧ (q.acts.length < 64) ∧ (tgt / 2 ^ 32 % 2 ^ 32 ≤ 999999999) ∧ (gtOfRaw tgt ≤ s.vcNow vc + 1000 * fuSec) ∧ (s.hasCap p 2 = true)) ∧
    (let s : State := {{runS 2 (fun q => regsG [(3, 0x302), (4, 0x12345)] {q with t := t3})  with tdc := {State.reset.tdc with chan := [(2, {ChanState.reset with owner := 3})]}}with free := 0}
     let p : PodId := 2
     let tA : TReg := 1
     let ga : GReg := 3
     let vc : VcId := 1
     let q := s.pod p
     let a := q.rg ga
     let tgt := q.rt tA
     (Executes s p) ∧ (q.compl.length + q.reserved < 128) ∧ (q.acts.length < 64) ∧ (tgt / 2 ^ 32 % 2 ^ 32 ≤ 999999999) ∧ (gtOfRaw tgt ≤ s.vcNow vc + 1000 * fuSec) ∧ (s.hasCap p 3 = true) ∧ ((s.chan (a.toNat % 32)).owner = p.val + 1)) ∧
    (let s : State := runS 2 (fun q => regsG [(3, 0x312), (4, 0x12345)] {q with t := t3})
     let p : PodId := 2
     let tA : TReg := 1
     let vc : VcId := 1
     let q := s.pod p
     let tgt := q.rt tA
     (Executes s p) ∧ (q.compl.length + q.reserved < 128) ∧ (q.acts.length < 64) ∧ (tgt / 2 ^ 32 % 2 ^ 32 ≤ 999999999) ∧ (gtOfRaw tgt ≤ s.vcNow vc + 1000 * fuSec) ∧ (s.hasCap p 8 = true)) :=
  by decide +kernel

end FinTimedIssueQueued

namespace FinTwinAndFaults



theorem test_FinTwinAndFaults_hypotheses :
    (let s : State := ticking (runS 2 (fun q => regsG [(3, 20)] q) [(Reg.TWN_STATUS, 2 + 16), (Reg.FLT_STATUS, 1), (Reg.FLT_CLASS 20, 1)])
     let p : PodId := 2
     let st := s.fld Reg.TWN_STATUS Reg.TWN_STATUS_STATE
     (Executes s p) ∧ (s.hasCap p 15 = true) ∧ (2 ≤ st) ∧ (s.mayClaim = true)) ∧
    (let s : State := {ticking (runS 2 (fun q => regsG [(3, 160)] q) [(Reg.TWN_STATUS, 1 + 16)]) with twn := {TwnState.reset with pull := true}}
     let p : PodId := 2
     let st := s.fld Reg.TWN_STATUS Reg.TWN_STATUS_STATE
     (Executes s p) ∧ (s.hasCap p 15 = true) ∧ (st < 2)) ∧
    (let s : State := ticking (runS 2 (fun q => regsG [(3, 20)] q) [(Reg.TWN_STATUS, 2 + 16), (Reg.FLT_STATUS, 1), (Reg.FLT_CLASS 20, 1)])
     let p : PodId := 2
     (Executes s p) ∧ (s.hasCap p 15 = true)) ∧
    (let s : State := {ticking (runS 2 (fun q => regsG [(3, 160)] q) [(Reg.POD_CAP 2, 0)]) with twn := {TwnState.reset with pull := true}}
     let p : PodId := 2
     (Executes s p) ∧ (s.hasCap p 15 = false)) ∧
    (let s : State := ticking (runS 2 (fun q => regsG [(3, 20)] q) [(Reg.TWN_STATUS, 2 + 16), (Reg.FLT_STATUS, 1), (Reg.FLT_CLASS 20, 1)])
     let p : PodId := 2
     (Executes s p) ∧ (s.hasCap p 12 = true) ∧ (s.fltLatched = true)) ∧
    (let s : State := {ticking (runS 2 (fun q => regsG [(3, 160)] q) [(Reg.TWN_STATUS, 1 + 16)]) with twn := {TwnState.reset with pull := true}}
     let p : PodId := 2
     (Executes s p) ∧ (s.hasCap p 12 = true) ∧ (s.fltLatched = false)) ∧
    (let s : State := ticking (runS 2 (fun q => regsG [(3, 20)] q) [(Reg.TWN_STATUS, 2 + 16), (Reg.FLT_STATUS, 1), (Reg.FLT_CLASS 20, 1)])
     let p : PodId := 2
     let ra : GReg := 3
     let q := s.pod p
     let n := (q.rg ra).toNat
     (Executes s p) ∧ (s.hasCap p 12 = true) ∧ (n ≤ 159) ∧ (s.fltCause n = false) ∧ (s.fltClass n < 3)) ∧
    (let s : State := {ticking (runS 2 (fun q => regsG [(3, 160)] q) [(Reg.TWN_STATUS, 1 + 16)]) with twn := {TwnState.reset with pull := true}}
     let p : PodId := 2
     let ra : GReg := 3
     let q := s.pod p
     let n := (q.rg ra).toNat
     (Executes s p) ∧ (s.hasCap p 12 = true) ∧ (159 < n ∨ s.fltCause n = true ∨ s.fltClass n = 3)) :=
  by decide +kernel

end FinTwinAndFaults

namespace FinWaits

def fut : Nat := 9*2^64

theorem test_FinWaits_hypotheses :
    (let s : State := runS 2 (fun q => regsG [(3, 0), (4, 0x12)] {q with events := 16})
     let p : PodId := 2
     let tA : TReg := 1
     let v : VcId := 0
     let q := s.pod p
     let target := gtOfRaw (q.rt tA)
     (Executes s p) ∧ (target ≤ s.vcNow v)) ∧
    (let s : State := runS 2 (fun q => regsG [(3, 0), (4, 0x12)] {q with t := [(1,fut)]})
     let p : PodId := 2
     let tA : TReg := 1
     let gT : GReg := 3
     let v : VcId := 0
     let q := s.pod p
     let target := gtOfRaw (q.rt tA)
     let ns := (q.rg gT).toNat
     (Executes s p) ∧ (s.vcNow v < target) ∧ (ns = 0)) ∧
    (let s : State := runS 2 (fun q => regsG [(3, 77), (4, 0x12)] {q with t := [(1,fut)]})
     let p : PodId := 2
     let tA : TReg := 1
     let gT : GReg := 3
     let v : VcId := 0
     let q := s.pod p
     let target := gtOfRaw (q.rt tA)
     let ns := (q.rg gT).toNat
     (Executes s p) ∧ (s.vcNow v < target) ∧ (0 < ns)) ∧
    (let s : State := runS 2 (fun q => regsG [(3, 0), (4, 0x12)] {q with events := 16})
     let p : PodId := 2
     let gM : GReg := 4
     let q := s.pod p
     let mask := (q.rg gM).toNat
     (Executes s p) ∧ (s.podEvents p &&& mask ≠ 0)) ∧
    (let s : State := runS 2 (fun q => regsG [(3, 77), (4, 0x12)] {q with t := [(1,fut)]})
     let p : PodId := 2
     let gT : GReg := 3
     let gM : GReg := 4
     let q := s.pod p
     let mask := (q.rg gM).toNat
     let ns := (q.rg gT).toNat
     (Executes s p) ∧ (s.podEvents p &&& mask = 0) ∧ (0 < ns)) ∧
    (let s : State := runS 2 (fun q => regsG [(3, 77), (4, 0x12)] {q with wait := some ⟨.time 1 (-5), 99, 7⟩})
     let p : PodId := 2
     let n : Nat := 5
     let c : Nat := 1
     let dl : Nat := 99
     let since : Nat := 7
     let at_ : Gt := -5
     let q := s.pod p
     (s.podSt p = 2) ∧ (q.wait = some ⟨.time c at_, dl, since⟩) ∧ (at_ ≤ (s.at n).vcNow c) ∧ (tickOf (s.vcSet c) at_ ≤ dl)) ∧
    (let s : State := runS 2 (fun q => regsG [(3, 77), (4, 0x12)] {q with events := 16, wait := some ⟨.event 17 1, 99, 7⟩})
     let p : PodId := 2
     let gD : GReg := 1
     let dl : Nat := 99
     let k : Nat := 17
     let since : Nat := 7
     let q := s.pod p
     (s.podSt p = 2) ∧ (q.wait = some ⟨.event k gD, dl, since⟩) ∧ (s.podEvents p &&& k ≠ 0) ∧ (s.tkp.rawcnt ≤ dl)) ∧
    (let s : State := runS 2 (fun q => regsG [(3, 77), (4, 0x12)] {q with wait := some ⟨.time 1 500000000, 99, 7⟩})
     let p : PodId := 2
     let n : Nat := 0
     let c : Nat := 1
     let dl : Nat := 99
     let since : Nat := 7
     let at_ : Gt := 500000000
     let q := s.pod p
     (s.podSt p = 2) ∧ (q.wait = some ⟨.time c at_, dl, since⟩) ∧ ((s.at n).vcNow c < at_) ∧ ((s.at n).tkp.rawcnt < dl)) ∧
    (let s : State := ticking (runS 2 (fun q => regsG [(3, 77), (4, 0x12)] {q with wait := some ⟨.time 1 fuSec, 9, 7⟩}))
     let p : PodId := 2
     let n : Nat := 10
     let c : Nat := 1
     let dl : Nat := 9
     let since : Nat := 7
     let at_ : Gt := fuSec
     let q := s.pod p
     (s.podSt p = 2) ∧ (q.wait = some ⟨.time c at_, dl, since⟩) ∧ (dl < tickOf (s.vcSet c) at_) ∧ (dl ≤ (s.at n).tkp.rawcnt)) ∧
    (let s : State := ticking (runS 2 (fun q => regsG [(3, 77), (4, 0x12)] {q with wait := some ⟨.time 1 fuSec, 9, 7⟩}))
     let p : PodId := 2
     let w : Wait := ⟨.time 1 fuSec, 9, 7⟩
     let n : Nat := 10
     let q := s.pod p
     (s.podSt p = 2) ∧ (q.wait = some w) ∧ ((s.at n).waitMet p w.on = none) ∧ (w.deadline ≤ (s.at n).tkp.rawcnt)) :=
  by decide +kernel

end FinWaits

namespace GnssSignals

def gs (f : GnsState → GnsState) (l : List (Nat × Nat) := []) (h : State → State := id) : State := let s := ((ticking State.reset).ring 1).put ([(Reg.POD_STATUS 2, 2 + 2^Reg.POD_STATUS_RESIDENT.lo), (Reg.POD_STATUS 1, 2 + 2^Reg.POD_STATUS_RESIDENT.lo), (Reg.GNS_PORT_CTRL 2, 1), (Reg.GNS_PORT_CENTER 2, 1575420000000)] ++ l); h {s with gns := f s.gns}
def prm (l : List (Nat × Nat)) (s : State) : State := {s with params := l}
def mbx (type : Nat) : MboxEntry := ⟨8, type, 5, [], 0⟩
def ob : GnObs := ⟨4, 1, 2, 3, 4470⟩
def rq : AcqReq := ⟨3, 9, 0x100, [0, 7] ++ intLe 4 (-1000) ++ natLe 2 995 ++ natLe 4 0 ++ [1, 1, 2, 0]⟩
def ch (st : Nat) : List (Nat × Nat) := [(Reg.GNS_CH_STAT 4, st * 2^Reg.GNS_CH_STAT_STATE.lo + 2 * 2^Reg.GNS_CH_STAT_PORT.lo)]
def stamped : State := gs (fun g => {g with port := [(2, ⟨70000, some (0, 1249990000, 1000), some (1, 1250090000, 1500)⟩)]}) (ch 2)

theorem test_GnssSignals_hypotheses :
    (let s : State := gs (fun g => {g with noClk := true, acq := [rq]}) [(Reg.GNS_PORT_STATUS 2, 4)]
     (s.gns.noClk = true)) ∧
    (let s : State := gs (fun g => {g with acq := [rq, rq], asleep := false, slMode := 1, slOn := 0, slPeriod := 10000, slAt := some 0}) (ch 1 ++ [(Reg.ENS_TS, 2^Reg.ENS_TS_LEARNED.lo)])
     (s.gns.noClk = false)) ∧
    (let s : State := gs (fun g => {g with acq := [rq, rq], asleep := false, slMode := 1, slOn := 0, slPeriod := 10000, slAt := some 0}) (ch 1 ++ [(Reg.ENS_TS, 2^Reg.ENS_TS_LEARNED.lo)])
     let p : Fin 4 := 2
     let awake : Prop := s.gnAwake = true
     let hears : Prop := s.gnPort p = true ∧ awake
     (hears)) ∧
    (let s : State := gs (fun g => {g with hold := some (1,2,3), surN := 4, gap := 4}) (ch 2 ++ [(Reg.GNS_FESPI_DATA, 0xABCDEF12)]) (fun s => s.modPod 2 (fun q => {q with mbox := [mbx 2]}))
     let p : Fin 4 := 0
     let awake : Prop := s.gnAwake = true
     let hears : Prop := s.gnPort p = true ∧ awake
     (¬ hears)) ∧
    (let s : State := gs (fun g => {g with acq := [rq, rq], asleep := false, slMode := 1, slOn := 0, slPeriod := 10000, slAt := some 0}) (ch 1 ++ [(Reg.ENS_TS, 2^Reg.ENS_TS_LEARNED.lo)])
     let pod : PodId := 3
     let i : Fin 8 := 1
     let r : AcqReq := rq
     let cell : Int × Nat × Nat := (-5, 77, 4400)
     let awake : Prop := s.gnAwake = true
     let searched : Prop := s.gns.acq[i.val]? = some r ∧ awake ∧ r.pod = pod.val
     (searched) ∧ (s.acqFinds r cell.1 = true)) ∧
    (let s : State := gs (fun g => {g with acq := [rq]}) (ch 1)
     let pod : PodId := 3
     let i : Fin 8 := 0
     let r : AcqReq := rq
     let cell : Int × Nat × Nat := (-4, 77, 4400)
     let awake : Prop := s.gnAwake = true
     let searched : Prop := s.gns.acq[i.val]? = some r ∧ awake ∧ r.pod = pod.val
     (searched) ∧ (s.acqFinds r cell.1 = false)) ∧
    (let s : State := gs (fun g => {g with acq := [rq, rq], asleep := false, slMode := 1, slOn := 0, slPeriod := 10000, slAt := some 0}) (ch 1 ++ [(Reg.ENS_TS, 2^Reg.ENS_TS_LEARNED.lo)])
     let pod : PodId := 3
     let i : Fin 8 := 1
     let r : AcqReq := rq
     let awake : Prop := s.gnAwake = true
     let searched : Prop := s.gns.acq[i.val]? = some r ∧ awake ∧ r.pod = pod.val
     (searched)) ∧
    (let s : State := gs (fun g => {g with hold := some (1,2,3), surN := 4, gap := 4}) (ch 2 ++ [(Reg.GNS_FESPI_DATA, 0xABCDEF12)]) (fun s => s.modPod 2 (fun q => {q with mbox := [mbx 2]}))
     let i : Fin 8 := 0
     let awake : Prop := s.gnAwake = true
     (s.gns.acq[i.val]? = none ∨ ¬ awake)) ∧
    (let s : State := gs (fun g => {g with acq := [rq, rq], asleep := false, slMode := 1, slOn := 0, slPeriod := 10000, slAt := some 0}) (ch 1 ++ [(Reg.ENS_TS, 2^Reg.ENS_TS_LEARNED.lo)])
     let c : Fin 256 := 4
     let k : Nat := 250000000
     let u := s.at k
     let awake : Prop := s.gnAwake = true
     let port := s.gnChPort c
     let served : Prop := s.gnHears port (s.gnChSig c) = true
     let since := (s.gnChan c).since
     let second := 1000000 * ticksPerUs
     (s.gnCh c = 1) ∧ (awake) ∧ (served) ∧ (since + second / 5 ≤ u.tkp.rawcnt) ∧ (u.tkp.rawcnt ≤ since + 2 * second)) ∧
    (let s : State := gs (fun g => {g with acq := [rq]}) (ch 1)
     let c : Fin 256 := 4
     let k : Nat := 249999999
     let u := s.at k
     let awake : Prop := s.gnAwake = true
     let port := s.gnChPort c
     let served : Prop := s.gnHears port (s.gnChSig c) = true
     let since := (s.gnChan c).since
     let second := 1000000 * ticksPerUs
     (s.gnCh c ≠ 1 ∨ ¬ awake ∨ ¬ served ∨ u.tkp.rawcnt < since + second / 5 ∨ since + 2 * second < u.tkp.rawcnt)) ∧
    (let s : State := gs (fun g => {g with acq := [rq, rq], asleep := false, slMode := 1, slOn := 0, slPeriod := 10000, slAt := some 0}) (ch 1 ++ [(Reg.ENS_TS, 2^Reg.ENS_TS_LEARNED.lo)])
     let c : Fin 256 := 4
     let awake : Prop := s.gnAwake = true
     (s.gnCh c = 1) ∧ (awake)) ∧
    (let s : State := gs (fun g => {g with hold := some (1,2,3), surN := 4, gap := 4}) (ch 2 ++ [(Reg.GNS_FESPI_DATA, 0xABCDEF12)]) (fun s => s.modPod 2 (fun q => {q with mbox := [mbx 2]}))
     let c : Fin 256 := 4
     let awake : Prop := s.gnAwake = true
     (s.gnCh c ≠ 1 ∨ ¬ awake)) ∧
    (let s : State := gs id (ch 2)
     let c : Fin 256 := 4
     let k : Nat := 1250000000
     let u := s.at k
     let awake : Prop := s.gnAwake = true
     let since := (s.gnChan c).since
     let second := 1000000 * ticksPerUs
     (s.gnCh c = 2) ∧ (awake) ∧ (since + second ≤ u.tkp.rawcnt)) ∧
    (let s : State := gs (fun g => {g with acq := [rq, rq], asleep := false, slMode := 1, slOn := 0, slPeriod := 10000, slAt := some 0}) (ch 1 ++ [(Reg.ENS_TS, 2^Reg.ENS_TS_LEARNED.lo)])
     let c : Fin 256 := 4
     let k : Nat := 250000000
     let u := s.at k
     let awake : Prop := s.gnAwake = true
     let since := (s.gnChan c).since
     let second := 1000000 * ticksPerUs
     (s.gnCh c ≠ 2 ∨ ¬ awake ∨ u.tkp.rawcnt < since + second)) ∧
    (let s : State := gs (fun g => {g with acq := [rq, rq], asleep := false, slMode := 1, slOn := 0, slPeriod := 10000, slAt := some 0}) (ch 1 ++ [(Reg.ENS_TS, 2^Reg.ENS_TS_LEARNED.lo)])
     let k : Nat := 250000000
     let u := s.at k
     let awake : Prop := s.gnAwake = true
     let latches : Prop := s.gns.latchAt ≠ some u.vc0Sec ∧ awake
     (latches)) ∧
    (let s : State := gs (fun g => {g with noClk := true, acq := [rq]}) [(Reg.GNS_PORT_STATUS 2, 4)]
     let k : Nat := 5000
     let u := s.at k
     let awake : Prop := s.gnAwake = true
     let latches : Prop := s.gns.latchAt ≠ some u.vc0Sec ∧ awake
     (¬ latches)) ∧
    (let s : State := gs (fun g => {g with acq := [rq, rq], asleep := false, slMode := 1, slOn := 0, slPeriod := 10000, slAt := some 0}) (ch 1 ++ [(Reg.ENS_TS, 2^Reg.ENS_TS_LEARNED.lo)])
     let k : Nat := 250000000
     let u := s.at k
     let w := u.slTake
     let sleeps : Prop := s.runsResident 2 = true ∧ s.gns.asleep = false ∧ w.gns.slMode = 1 ∧ (w.gns.slOn : Int) ≤ w.nowMs - w.slBoundary
      ∧ s.fld Reg.ENS_TS Reg.ENS_TS_LEARNED = 1
     (sleeps)) ∧
    (let s : State := gs (fun g => {g with acq := [], asleep := true, slMode := 1, slOn := 3, slPeriod := 10000, slAt := some (-5), keptAt := -700, gap := 4}) (ch 2 ++ [(Reg.ENS_TS, 2^Reg.ENS_TS_LEARNED.lo)])
     (s.runsResident 2 = false ∨ s.gns.asleep = true)) ∧
    (let s : State := gs (fun g => {g with acq := [], asleep := true, slMode := 1, slOn := 3, slPeriod := 10000, slAt := some (-5), keptAt := -700, gap := 4}) (ch 2 ++ [(Reg.ENS_TS, 2^Reg.ENS_TS_LEARNED.lo)])
     let k : Nat := 1250000
     let u := s.at k
     (s.runsResident 2 = true) ∧ (s.gns.asleep = true) ∧ (s.gns.slAt ≠ some u.slBoundary)) ∧
    (let s : State := gs (fun g => {g with acq := [rq, rq], asleep := false, slMode := 1, slOn := 0, slPeriod := 10000, slAt := some 0}) (ch 1 ++ [(Reg.ENS_TS, 2^Reg.ENS_TS_LEARNED.lo)])
     let k : Nat := 250000000
     let u := s.at k
     (s.runsResident 2 = false ∨ s.gns.asleep = false ∨ s.gns.slAt = some u.slBoundary)) ∧
    (let s : State := gs (fun g => {g with acq := [], asleep := true, slMode := 1, slOn := 3, slPeriod := 10000, slAt := some (-5), keptAt := -700, gap := 4}) (ch 2 ++ [(Reg.ENS_TS, 2^Reg.ENS_TS_LEARNED.lo)])
     let k : Nat := 1250000
     let u := s.at k
     (s.runsResident 2 = true) ∧ (600 ≤ u.vc0Sec - s.gns.keptAt)) ∧
    (let s : State := gs (fun g => {g with acq := [rq, rq], asleep := false, slMode := 1, slOn := 0, slPeriod := 10000, slAt := some 0}) (ch 1 ++ [(Reg.ENS_TS, 2^Reg.ENS_TS_LEARNED.lo)])
     let k : Nat := 250000000
     let u := s.at k
     (s.runsResident 2 = false ∨ u.vc0Sec - s.gns.keptAt < 600)) ∧
    (let s : State := gs (fun g => {g with hold := some (1,2,3), surN := 4}) [] (fun s => s.modPod 2 (fun q => {q with mbox := [mbx 1]}))
     let e : MboxEntry := mbx 1
     let es : List MboxEntry := []
     let front (type : Nat) : Prop := (s.pod 2).mbox = e :: es ∧ s.runsResident 2 = true ∧ e.type = type
     (front 1) ∧ (s.param 0x206 ≠ 1) ∧ (s.gns.asleep = false)) ∧
    (let s : State := gs (fun g => {g with hold := some (1,2,3), surN := 4, asleep := true}) [] (fun s => s.modPod 2 (fun q => {q with mbox := [mbx 1]}))
     let e : MboxEntry := mbx 1
     let es : List MboxEntry := []
     let front (type : Nat) : Prop := (s.pod 2).mbox = e :: es ∧ s.runsResident 2 = true ∧ e.type = type
     (front 1) ∧ (s.param 0x206 ≠ 1) ∧ (s.gns.asleep = true)) ∧
    (let s : State := prm [(0x206, 1)] (gs (fun g => {g with hold := some (1,2,3), surN := 4, asleep := true}) [] (fun s => s.modPod 2 (fun q => {q with mbox := [mbx 1]})))
     let e : MboxEntry := mbx 1
     let es : List MboxEntry := []
     let front (type : Nat) : Prop := (s.pod 2).mbox = e :: es ∧ s.runsResident 2 = true ∧ e.type = type
     (front 1) ∧ (s.param 0x206 = 1)) ∧
    (let s : State := gs (fun g => {g with hold := some (1,2,3), surN := 4, gap := 4}) (ch 2 ++ [(Reg.GNS_FESPI_DATA, 0xABCDEF12)]) (fun s => s.modPod 2 (fun q => {q with mbox := [mbx 2]}))
     let e : MboxEntry := mbx 2
     let es : List MboxEntry := []
     let front (type : Nat) : Prop := (s.pod 2).mbox = e :: es ∧ s.runsResident 2 = true ∧ e.type = type
     (front 2)) ∧
    (let s : State := gs (fun g => {g with hold := some (1,2,3), surN := 4, gap := 4}) (ch 2 ++ [(Reg.GNS_FESPI_DATA, 0xABCDEF12)]) (fun s => s.modPod 2 (fun q => {q with mbox := [mbx 2]}))
     let m : Master := 0
     let data : Nat := 0x14F
     let ctl := Reg.GNS_FESPI_CTRL
     (MayPost s m ctl) ∧ (getBits data 8 1 = 1)) ∧
    (let s : State := gs (fun g => {g with acq := [rq, rq], asleep := false, slMode := 1, slOn := 0, slPeriod := 10000, slAt := some 0}) (ch 1 ++ [(Reg.ENS_TS, 2^Reg.ENS_TS_LEARNED.lo)])
     let m : Master := 0
     let data : Nat := 0
     let ctl := Reg.GNS_FESPI_CTRL
     (MayPost s m ctl) ∧ (getBits data 8 1 = 0)) ∧
    (let s : State := stamped
     let c : Fin 256 := 4
     let k : Nat := 1250000010
     let o : GnObs := ob
     let g : Gt := ((stamped.at 1250000010).gnTime 2 1).getD 0
     let u := s.at k
     let awake : Prop := s.gnAwake = true
     let latches : Prop := s.gns.latchAt ≠ some u.vc0Sec ∧ awake
     let port := s.gnChPort c
     let served : Prop := s.gnHears port (s.gnChSig c) = true
     let heard : Prop := s.gnCh c = 2 ∧ served ∧ s.gns.gap / 2 ^ port % 2 = 0
     (latches) ∧ (o.chan = c.val) ∧ (heard) ∧ (u.gnTime port u.vc0Sec = some g)) ∧
    (let s : State := gs (fun g => {g with acq := [rq, rq], asleep := false, slMode := 1, slOn := 0, slPeriod := 10000, slAt := some 0}) (ch 1 ++ [(Reg.ENS_TS, 2^Reg.ENS_TS_LEARNED.lo)])
     let c : Fin 256 := 4
     let k : Nat := 250000000
     let u := s.at k
     let awake : Prop := s.gnAwake = true
     let latches : Prop := s.gns.latchAt ≠ some u.vc0Sec ∧ awake
     let port := s.gnChPort c
     let served : Prop := s.gnHears port (s.gnChSig c) = true
     let heard : Prop := s.gnCh c = 2 ∧ served ∧ s.gns.gap / 2 ^ port % 2 = 0
     (latches) ∧ (¬ heard)) ∧
    (let s : State := gs (fun g => {g with noClk := true, acq := [rq]}) [(Reg.GNS_PORT_STATUS 2, 4)]
     let starts : Prop := s.runsResident 2 = true ∧ s.gns.asleep = false
     (s.gns.noClk = true) ∧ (starts)) ∧
    (let s : State := gs (fun g => {g with noClk := true, asleep := true, acq := [rq]}) [(Reg.GNS_PORT_STATUS 2, 4)]
     let starts : Prop := s.runsResident 2 = true ∧ s.gns.asleep = false
     (s.gns.noClk = true) ∧ (¬ starts)) :=
  by repeat' first | decide +kernel | apply And.intro

end GnssSignals

namespace GnssTiming

def gs (f : GnsState → GnsState) (l : List (Nat × Nat) := []) (h : State → State := id) : State := let s := (((ticking State.reset).ring 1).ring 2).put ([(Reg.POD_STATUS 2, 2 + 2^Reg.POD_STATUS_RESIDENT.lo), (Reg.POD_STATUS 1, 2 + 2^Reg.POD_STATUS_RESIDENT.lo), (Reg.GNS_PORT_CTRL 2, 1), (Reg.GNS_PORT_CENTER 2, 1575420000000)] ++ l); h {s with gns := f s.gns}
def prm (l : List (Nat × Nat)) (s : State) : State := {s with params := l}
def vb : MboxEntry := ⟨2, 0x20, 5, [3, 8] ++ natLe 2 0 ++ natLe 4 1000 ++ intLe 8 555 ++ intLe 4 42 ++ [2,3,0,0], 0⟩
def sv (n : Nat) : GnSat := ⟨0, n, 4500, false, 0⟩
def sol1 : GnSol := ⟨true, (List.range 5).map sv, 900, 5*10^12+3, 0, 0, 4, [], [], some (1,2,3), [], [], false, none⟩
def four : List (Nat × Nat) := (List.range 4).map (fun c => (Reg.GNS_CH_STAT c, 2 * 2^Reg.GNS_CH_STAT_STATE.lo + c * 2^Reg.GNS_CH_STAT_SV.lo + 2 * 2^Reg.GNS_CH_STAT_PORT.lo))
def latched (g : GnsState) : GnsState := {g with latchAt := some 1, chan := (List.range 4).map (fun c => (c, {GnChan.reset with st := 2, obs := some ⟨c, 0, 0, 0, 4500⟩})), kept := {g.kept with eph := (List.range 4).map (fun c => (0, c, 0))}}
def mbxs (n : Nat) (s : State) : State := s.modPod 1 (fun q => {q with mbox := List.replicate n vb})
def trk (p : Option Int) (s : State) : State := s.modTrack 12 (fun r => {r with lastPulse := p})
def cg (f : GnsState → GnsState := id) (l : List (Nat × Nat) := [(Reg.SYN_PPS_CTRL 3, 1)]) : State := prm [(0x21E, 1), (0x21F, 3)] (gs f l)
def cgk : Nat := (877 + 785) * 1250000000

theorem test_GnssTiming_hypotheses :
    (let s : State := (gs (fun g => {g with ppsf := some (-500, 2, 1000)})).at 4500000000
     ((s.pod 1).mbox.length < 32)) ∧
    (let s : State := mbxs 32 (gs id)
     (32 ≤ (s.pod 1).mbox.length)) ∧
    (let s : State := (gs (fun g => {g with ppsf := some (-500, 2, 1000)})).at 4500000000
     let k : Nat := 0
     let u := s.at k
     let now := u.vc0Sec
     let due : Prop := s.runsResident 2 = true ∧ s.gns.solAt ≠ some now ∧ u.vcNow 0 ≤ now * fuSec + 400000000 * fuNs
     (¬ due)) ∧
    (let s : State := mbxs 32 (gs id)
     let e : MboxEntry := vb
     let es : List MboxEntry := List.replicate 31 vb
     let front : Prop := (s.pod 1).mbox = e :: es ∧ s.runsResident 1 = true ∧ e.type = 0x20
     (front)) ∧
    (let s : State := (gs (fun g => {g with ppsf := some (-500, 2, 1000)})).at 4500000000
     ((s.pod 1).mbox = [])) ∧
    (let s : State := gs (fun g => {g with ppsf := some (-500, 3, 1000)})
     let tick : Nat := 1000
     let sec : Int := 3
     let f : Int := -500
     let runs : Prop := s.gns.ppsAt ≠ some sec ∧ s.gns.asleep = false ∧ s.tbRuns = true
     let g : Gt := sec * fuSec + psToFu (f : Rat)
     let v := s.at (tickOf (s.vcSet 0) g)
     (runs) ∧ (s.gns.ppsf = some (f, sec, tick)) ∧ (v.vcAt 0 tick + fuSec / 1000 ≤ g)) ∧
    (let s : State := gs (fun g => {g with ppsf := some (-500, 3, 3749999000)})
     let tick : Nat := 3749999000
     let sec : Int := 3
     let f : Int := -500
     let runs : Prop := s.gns.ppsAt ≠ some sec ∧ s.gns.asleep = false ∧ s.tbRuns = true
     let g : Gt := sec * fuSec + psToFu (f : Rat)
     let v := s.at (tickOf (s.vcSet 0) g)
     (runs) ∧ (s.gns.ppsf = some (f, sec, tick)) ∧ (g < v.vcAt 0 tick + fuSec / 1000)) ∧
    (let s : State := (gs (fun g => {g with ppsf := some (-500, 2, 1000)})).at 4500000000
     let tick : Nat := 1000
     let sec : Int := 3
     let n : Int := 2
     let f : Int := -500
     let runs : Prop := s.gns.ppsAt ≠ some sec ∧ s.gns.asleep = false ∧ s.tbRuns = true
     let half : Prop := sec * fuSec + fuSec / 2 ≤ s.vcNow 0
     (runs) ∧ (s.gns.ppsf = none ∨ (s.gns.ppsf = some (f, n, tick) ∧ n < sec)) ∧ (half)) ∧
    (let s : State := mbxs 32 (gs id)
     let tick : Nat := 0
     let sec : Int := 0
     let n : Int := 0
     let f : Int := 0
     let runs : Prop := s.gns.ppsAt ≠ some sec ∧ s.gns.asleep = false ∧ s.tbRuns = true
     let half : Prop := sec * fuSec + fuSec / 2 ≤ s.vcNow 0
     (runs) ∧ (s.gns.ppsf = none ∨ (s.gns.ppsf = some (f, n, tick) ∧ n ≠ sec)) ∧ (¬ half)) ∧
    (let s : State := gs (fun g => {g with ppsf := some (-500, 4, 1000)})
     let tick : Nat := 1000
     let sec : Int := 3
     let n : Int := 4
     let f : Int := -500
     let runs : Prop := s.gns.ppsAt ≠ some sec ∧ s.gns.asleep = false ∧ s.tbRuns = true
     (runs) ∧ (s.gns.ppsf = some (f, n, tick)) ∧ (sec < n)) ∧
    (let s : State := {gs (fun g => {g with asleep := true}) with pending := []}
     let sec : Int := 3
     let runs : Prop := s.gns.ppsAt ≠ some sec ∧ s.gns.asleep = false ∧ s.tbRuns = true
     (¬ runs)) ∧
    (let s : State := cg
     let span : Int := 780
     let l : CggLine := ⟨0, 390, List.replicate 42 5⟩
     let pps := s.paramN 0x21F
     let keeps : Prop := 390 ≤ l.secs ∧ (l.secs : Int) ≤ span ∧ l.const < 3 ∧ getBits (s.paramN 0x21E) l.const 1 = 1
     let pulses : Prop := s.fld (Reg.SYN_PPS_CTRL pps) Reg.SYN_PPS_CTRL_EN = 1 ∧ s.fld (Reg.SYN_PPS_CTRL pps) Reg.SYN_PPS_CTRL_MODE = 0
     (pulses) ∧ (keeps) ∧ (l.line.length ≤ 42) ∧ (s.ringRoom 2 = true) ∧ (tabGet none s.hif.loss 2 = none)) ∧
    (let s : State := cg
     let span : Int := 780
     let l : CggLine := ⟨1, 390, List.replicate 42 5⟩
     let pps := s.paramN 0x21F
     let keeps : Prop := 390 ≤ l.secs ∧ (l.secs : Int) ≤ span ∧ l.const < 3 ∧ getBits (s.paramN 0x21E) l.const 1 = 1
     let pulses : Prop := s.fld (Reg.SYN_PPS_CTRL pps) Reg.SYN_PPS_CTRL_EN = 1 ∧ s.fld (Reg.SYN_PPS_CTRL pps) Reg.SYN_PPS_CTRL_MODE = 0
     (pulses) ∧ (¬ keeps)) ∧
    (let s : State := (gs (fun g => {g with ppsf := some (-500, 2, 1000)})).at 4500000000
     let pps := s.paramN 0x21F
     let pulses : Prop := s.fld (Reg.SYN_PPS_CTRL pps) Reg.SYN_PPS_CTRL_EN = 1 ∧ s.fld (Reg.SYN_PPS_CTRL pps) Reg.SYN_PPS_CTRL_MODE = 0
     (¬ pulses)) ∧
    (let s : State := (gs (fun g => {g with ppsf := some (-500, 2, 1000)})).at 4500000000
     let k : Nat := 0
     let start : Int := 0
     let u := s.at k
     (s.runsResident 2 = false ∨ s.param 0x21E = 0 ∨ cggStart s.leapTable start = false ∨ s.gns.track = some start ∨ u.cggSpan start = none)) ∧
    (let s : State := gs latched four
     let sol : GnSol := sol1
     let k : Nat := 1250000000
     let u := s.at k
     let now := u.vc0Sec
     let due : Prop := s.runsResident 2 = true ∧ s.gns.solAt ≠ some now ∧ u.vcNow 0 ≤ now * fuSec + 400000000 * fuNs
     let w := u.modGns (fun x => { x with solAt := some now })
     let above := (sol.sats.filter (fun x => decide (s.param 0x204 < x.elev))).map (fun x => x.const * 256 + x.sv)
     let w := if s.gns.starting then w.gnStart above else w
     let w := (((w.slTake.gnTakeSig.gnSweep).gnMode).gnCal sol).gnFlat now
     let solved : Prop := w.gnSolves sol now = true
     (due) ∧ (solved)) ∧
    (let s : State := mbxs 32 (gs id)
     let sol : GnSol := sol1
     let k : Nat := 1250000000
     let u := s.at k
     let now := u.vc0Sec
     let due : Prop := s.runsResident 2 = true ∧ s.gns.solAt ≠ some now ∧ u.vcNow 0 ≤ now * fuSec + 400000000 * fuNs
     let w := u.modGns (fun x => { x with solAt := some now })
     let above := (sol.sats.filter (fun x => decide (s.param 0x204 < x.elev))).map (fun x => x.const * 256 + x.sv)
     let w := if s.gns.starting then w.gnStart above else w
     let w := (((w.slTake.gnTakeSig.gnSweep).gnMode).gnCal sol).gnFlat now
     let solved : Prop := w.gnSolves sol now = true
     (due) ∧ (¬ solved)) ∧
    (let s : State := gs (fun g => {latched g with starting := true}) four
     let sol : GnSol := {sol1 with sats := []}
     let k : Nat := 1250000000
     let u := s.at k
     let now := u.vc0Sec
     let due : Prop := s.runsResident 2 = true ∧ s.gns.solAt ≠ some now ∧ u.vcNow 0 ≤ now * fuSec + 400000000 * fuNs
     (due) ∧ (sol.sats = [])) ∧
    (let s : State := cg
     let k : Nat := cgk
     let u := s.at k
     let now := u.vc0Sec
     let due : Prop := s.runsResident 2 = true ∧ s.gns.solAt ≠ some now ∧ u.vcNow 0 ≤ now * fuSec + 400000000 * fuNs
     (due) ∧ ((s.pod 1).mbox.length < 32)) ∧
    (let s : State := mbxs 32 (gs id)
     let k : Nat := 1250000000
     let u := s.at k
     let now := u.vc0Sec
     let due : Prop := s.runsResident 2 = true ∧ s.gns.solAt ≠ some now ∧ u.vcNow 0 ≤ now * fuSec + 400000000 * fuNs
     (due) ∧ (32 ≤ (s.pod 1).mbox.length)) ∧
    (let s : State := cg
     let k : Nat := cgk
     let start : Int := 877
     let span : Int := 780
     let l : CggLine := ⟨0, 390, List.replicate 42 5⟩
     let u := s.at k
     let pps := s.paramN 0x21F
     let cgg : Prop := s.runsResident 2 = true ∧ s.param 0x21E ≠ 0 ∧ cggStart s.leapTable start = true ∧ s.gns.track ≠ some start
      ∧ u.cggSpan start = some span
     let keeps : Prop := 390 ≤ l.secs ∧ (l.secs : Int) ≤ span ∧ l.const < 3 ∧ getBits (s.paramN 0x21E) l.const 1 = 1
     let pulses : Prop := s.fld (Reg.SYN_PPS_CTRL pps) Reg.SYN_PPS_CTRL_EN = 1 ∧ s.fld (Reg.SYN_PPS_CTRL pps) Reg.SYN_PPS_CTRL_MODE = 0
     (cgg) ∧ (pulses) ∧ (keeps) ∧ (l.line.length ≤ 42) ∧ (s.ringRoom 2 = true) ∧ (tabGet none s.hif.loss 2 = none)) ∧
    (let s : State := cg
     let k : Nat := cgk
     let start : Int := 877
     let span : Int := 780
     let l : CggLine := ⟨1, 390, List.replicate 42 5⟩
     let u := s.at k
     let pps := s.paramN 0x21F
     let cgg : Prop := s.runsResident 2 = true ∧ s.param 0x21E ≠ 0 ∧ cggStart s.leapTable start = true ∧ s.gns.track ≠ some start
      ∧ u.cggSpan start = some span
     let keeps : Prop := 390 ≤ l.secs ∧ (l.secs : Int) ≤ span ∧ l.const < 3 ∧ getBits (s.paramN 0x21E) l.const 1 = 1
     let pulses : Prop := s.fld (Reg.SYN_PPS_CTRL pps) Reg.SYN_PPS_CTRL_EN = 1 ∧ s.fld (Reg.SYN_PPS_CTRL pps) Reg.SYN_PPS_CTRL_MODE = 0
     (cgg) ∧ (pulses) ∧ (¬ keeps)) ∧
    (let s : State := cg id [(Reg.SYN_PPS_CTRL 3, 0)]
     let k : Nat := cgk
     let start : Int := 877
     let span : Int := 780
     let u := s.at k
     let pps := s.paramN 0x21F
     let cgg : Prop := s.runsResident 2 = true ∧ s.param 0x21E ≠ 0 ∧ cggStart s.leapTable start = true ∧ s.gns.track ≠ some start
      ∧ u.cggSpan start = some span
     let pulses : Prop := s.fld (Reg.SYN_PPS_CTRL pps) Reg.SYN_PPS_CTRL_EN = 1 ∧ s.fld (Reg.SYN_PPS_CTRL pps) Reg.SYN_PPS_CTRL_MODE = 0
     (cgg) ∧ (¬ pulses)) ∧
    (let s : State := trk (some 42) (mbxs 1 (gs id))
     let e : MboxEntry := vb
     let es : List MboxEntry := []
     let front : Prop := (s.pod 1).mbox = e :: es ∧ s.runsResident 1 = true ∧ e.type = 0x20
     let vcsec : Int := leNat ((e.payload.drop 16).take 4)
     let of' := s.vc0Sec + toSigned 32 (ofSigned 32 (vcsec - s.vc0Sec))
     (front) ∧ ((s.track 12).lastPulse = some of')) ∧
    (let s : State := mbxs 32 (gs id)
     let e : MboxEntry := vb
     let es : List MboxEntry := List.replicate 31 vb
     let front : Prop := (s.pod 1).mbox = e :: es ∧ s.runsResident 1 = true ∧ e.type = 0x20
     let vcsec : Int := leNat ((e.payload.drop 16).take 4)
     let of' := s.vc0Sec + toSigned 32 (ofSigned 32 (vcsec - s.vc0Sec))
     (front) ∧ ((s.track 12).lastPulse ≠ some of')) :=
  by repeat' first | decide +kernel | apply And.intro

end GnssTiming

namespace HostCommands

def hh (f : HifState → HifState) (l : List (Nat × Nat) := []) : State := let s := ((ticking State.reset).ring 1).put l; {s with hif := f s.hif}

theorem test_HostCommands_hypotheses :
    (let s : State := {hh (fun h => {h with accepted := [⟨9, 1, false, 0, 0, false⟩], msixAt := [(0, 1)]}) [(Reg.HIF_IRQ, 10 * 2^Reg.HIF_IRQ_HOLDOFF.lo)] with tkp := {State.reset.tkp with rawcnt := 500}}
     let q : Nat := 9
     let args : List Byte := [1,2,3]
     (s.blocked q 1 = false) ∧ (args.length ≤ 32) ∧ (s.ringRoom 1 = true) ∧ (s.hif.held = [])) ∧
    (let s : State := hh (fun h => {h with accepted := [⟨9, 1, false, 0, 0, false⟩], held := [⟨8, 1, 0, [], 0, 0⟩]}) [(Reg.HIF_RING_CFG 1, 0)]
     let q : Nat := 9
     let args : List Byte := [1,2,3]
     (s.blocked q 1 = false) ∧ (args.length ≤ 32) ∧ (s.ringRoom 1 = false)) ∧
    (let s : State := hh (fun h => {h with bufs := List.replicate 4095 7}) [(Reg.HIF_HWDOG, 0x50000)]
     let q : Nat := 9
     (s.blocked q 1 = true)) ∧
    (let s : State := hh (fun h => {h with accepted := [⟨9, 2, false, 0, 0, false⟩]})
     let q : Nat := 9
     (s.blocked q 2 = false) ∧ (s.hif.snap = none)) ∧
    (let s : State := hh (fun h => {h with accepted := [⟨9, 2, false, 0, 0, false⟩], snap := some (5000, [7, 8])})
     let q : Nat := 9
     let tick : Nat := 5000
     let qs : List Nat := [7, 8]
     (s.blocked q 2 = false) ∧ (s.hif.snap = some (tick, qs)) ∧ (q ∉ qs)) ∧
    (let s : State := hh id
     let m : Master := 0
     let data : Nat := 0x50101
     (MayPost s m Reg.SYS_SNAP) ∧ (getBits data 8 1 = 1) ∧ (s.hif.snap = none)) ∧
    (let s : State := hh (fun h => {h with held := [⟨8, 1, 0, [], 0, 0⟩], snap := some (5000, [7, 8])}) [(Reg.HIF_RING_CFG 1, 0)]
     let m : Master := 0
     let data : Nat := 0x50100
     let tick : Nat := 5000
     let qs : List Nat := [7, 8]
     (MayPost s m Reg.SYS_SNAP) ∧ (getBits data 8 1 = 1) ∧ (s.hif.snap = some (tick, qs))) ∧
    (let s : State := hh (fun h => {h with held := [⟨8, 1, 0, [], 0, 0⟩], snap := some (5000, [7, 8])}) [(Reg.HIF_RING_CFG 1, 0)]
     let tick : Nat := 5000
     let qs : List Nat := [7, 8]
     (s.hif.snap = some (tick, qs))) ∧
    (let s : State := hh (fun h => {h with bufs := List.replicate 4095 7}) [(Reg.HIF_HWDOG, 0x50000)]
     (s.hif.snap = none)) ∧
    (let s : State := hh (fun h => {h with accepted := [⟨9, 3, false, 0, 0, false⟩]})
     let q : Nat := 9
     let a0 : Nat := 5
     let a1 : Nat := 0
     let a2 : Nat := 7
     let a3 : Nat := 0
     let l := [a0, a1, a2, a3].filter (· ≠ 0)
     (s.blocked q 3 = false) ∧ (s.hif.bufs.length + l.length ≤ 4096)) ∧
    (let s : State := hh (fun h => {h with accepted := [⟨9, 3, false, 0, 0, false⟩], bufs := List.replicate 4095 7})
     let q : Nat := 9
     let a0 : Nat := 5
     let a1 : Nat := 0
     let a2 : Nat := 7
     let a3 : Nat := 0
     let l := [a0, a1, a2, a3].filter (· ≠ 0)
     (s.blocked q 3 = false) ∧ (4096 < s.hif.bufs.length + l.length)) ∧
    (let s : State := hh id
     let m : Master := 0
     let data : Nat := 0x50101
     let kicks : Prop := MayPost s m Reg.HIF_HWDOG
     (kicks) ∧ (data % 2 = 1)) ∧
    (let s : State := hh (fun h => {h with held := [⟨8, 1, 0, [], 0, 0⟩], snap := some (5000, [7, 8])}) [(Reg.HIF_RING_CFG 1, 0)]
     let m : Master := 0
     let data : Nat := 0x50100
     let to_ := s.fld Reg.HIF_HWDOG Reg.HIF_HWDOG_TIMEOUT
     let kicks : Prop := MayPost s m Reg.HIF_HWDOG
     (kicks) ∧ (data % 2 = 0) ∧ (to_ = 0)) ∧
    (let s : State := hh (fun h => {h with bufs := List.replicate 4095 7}) [(Reg.HIF_HWDOG, 0x50000)]
     let m : Master := 0
     let data : Nat := 0x50000
     let to_ := s.fld Reg.HIF_HWDOG Reg.HIF_HWDOG_TIMEOUT
     let kicks : Prop := MayPost s m Reg.HIF_HWDOG
     (kicks) ∧ (data % 2 = 0) ∧ (to_ ≠ 0) ∧ (getBits data 16 16 = to_)) ∧
    (let s : State := hh (fun h => {h with bufs := List.replicate 4095 7}) [(Reg.HIF_HWDOG, 0x50000)]
     let to_ := s.fld Reg.HIF_HWDOG Reg.HIF_HWDOG_TIMEOUT
     let lost : Prop := s.fld Reg.HIF_ISL_STATUS Reg.HIF_ISL_STATUS_HOSTLOST = 1
     (to_ ≠ 0) ∧ (¬ lost)) ∧
    (let s : State := hh (fun h => {h with held := [⟨8, 1, 0, [], 0, 0⟩], snap := some (5000, [7, 8])}) [(Reg.HIF_RING_CFG 1, 0)]
     let to_ := s.fld Reg.HIF_HWDOG Reg.HIF_HWDOG_TIMEOUT
     let lost : Prop := s.fld Reg.HIF_ISL_STATUS Reg.HIF_ISL_STATUS_HOSTLOST = 1
     (to_ = 0 ∨ lost)) :=
  by decide +kernel

end HostCommands

namespace HostRings

def ent (q op : Nat) (n : Nat := 0) : List Byte := natLe 4 q ++ natLe 2 op ++ [0, 0] ++ natLe 2 n ++ natLe 2 0 ++ natLe 4 64 ++ natLe 8 0 ++ natLe 8 0x7777 ++ List.replicate 32 0
def hs (l : List (Nat × Nat)) (q op : Nat) (n : Nat := 0) : State :=
  let s := (((ticking State.reset).ring 0).ring 1).put l
  { s with hif := { s.hif with mem := putBytes zeros s.hif.mem 0x100000 (ent q op n) } }

theorem test_HostRings_hypotheses :
    (let s : State := put []
     let m : Master := 0
     let r : Fin 4 := 0
     let data : Nat := 0x301
     let cfg := Reg.HIF_RING_CFG r
     let may : Prop := MayPost s m cfg
     (may) ∧ (s.ringEn r = false) ∧ (data % 2 = 1)) ∧
    (let s : State := hs [] 1 1
     let m : Master := 0
     let r : Fin 4 := 1
     let data : Nat := 0x000
     let cfg := Reg.HIF_RING_CFG r
     let may : Prop := MayPost s m cfg
     (may) ∧ (s.ringEn r = true) ∧ (getBits data 8 5 = s.fld cfg Reg.HIF_RING_CFG_SIZE) ∧ (data % 2 = 0)) ∧
    (let s : State := hs [] 1 1
     let m : Master := 0
     let r : Fin 4 := 1
     let data : Nat := 0x300
     let cfg := Reg.HIF_RING_CFG r
     let may : Prop := MayPost s m cfg
     (may) ∧ (s.ringEn r = true) ∧ (getBits data 8 5 ≠ s.fld cfg Reg.HIF_RING_CFG_SIZE)) ∧
    (let s : State := hs [] 0 0x401 33
     let m : Master := 0
     let data : Nat := 1
     let c0 := s.reg (Reg.HIF_RING_CI 0)
     let used (pi ci : Nat) : Nat := (pi + 2 ^ 32 - ci) % 2 ^ 32
     (MayWrite s m (Reg.HIF_RING_PI 0)) ∧ (used (data % 2 ^ 32) c0 ≤ s.ringSize 0)) ∧
    (let s : State := hs [] 0 1
     let m : Master := 0
     let data : Nat := 17
     let c0 := s.reg (Reg.HIF_RING_CI 0)
     let used (pi ci : Nat) : Nat := (pi + 2 ^ 32 - ci) % 2 ^ 32
     (MayWrite s m (Reg.HIF_RING_PI 0)) ∧ (s.ringSize 0 < used (data % 2 ^ 32) c0)) ∧
    (let s : State := hs [] 0 0x401 33
     let m : Master := 0
     let data : Nat := 1
     let argErr : List Nat := [1]
     let c0 := s.reg (Reg.HIF_RING_CI 0)
     let e := bytesAt zeros s.hif.mem (s.reg (Reg.HIF_RING_BASE 0) + c0 % s.ringSize 0 * 64) 64
     let g (off n : Nat) : Nat := leNat ((e.drop off).take n)
     let one : Prop := MayWrite s m (Reg.HIF_RING_PI 0) ∧ c0 < 2 ^ 32 ∧ data % 2 ^ 32 = (c0 + 1) % 2 ^ 32 ∧ s.ringEn 0 = true ∧ s.ringEn 1 = true
      ∧ s.hif.accepted.length < 64 ∧ s.ringUsed 1 + s.hif.accepted.length + s.hif.held.length < s.ringSize 1
     (one) ∧ (g 0 4 = (s.lastHseq + 1) % 2 ^ 32) ∧ (entryStatus e = 0) ∧ (g 8 2 ≤ 32 ∨ g 0 4 ∉ argErr)) ∧
    (let s : State := hs [] 0 0x401 33
     let m : Master := 0
     let data : Nat := 1
     let argErr : List Nat := [0]
     let c0 := s.reg (Reg.HIF_RING_CI 0)
     let e := bytesAt zeros s.hif.mem (s.reg (Reg.HIF_RING_BASE 0) + c0 % s.ringSize 0 * 64) 64
     let g (off n : Nat) : Nat := leNat ((e.drop off).take n)
     let one : Prop := MayWrite s m (Reg.HIF_RING_PI 0) ∧ c0 < 2 ^ 32 ∧ data % 2 ^ 32 = (c0 + 1) % 2 ^ 32 ∧ s.ringEn 0 = true ∧ s.ringEn 1 = true
      ∧ s.hif.accepted.length < 64 ∧ s.ringUsed 1 + s.hif.accepted.length + s.hif.held.length < s.ringSize 1
     (one) ∧ (g 0 4 = (s.lastHseq + 1) % 2 ^ 32) ∧ (entryStatus e = 0) ∧ (32 < g 8 2) ∧ (g 0 4 ∈ argErr)) ∧
    (let s : State := hs [] 0xFFFFFFFF 1
     let m : Master := 0
     let data : Nat := 1
     let c0 := s.reg (Reg.HIF_RING_CI 0)
     let e := bytesAt zeros s.hif.mem (s.reg (Reg.HIF_RING_BASE 0) + c0 % s.ringSize 0 * 64) 64
     let g (off n : Nat) : Nat := leNat ((e.drop off).take n)
     let one : Prop := MayWrite s m (Reg.HIF_RING_PI 0) ∧ c0 < 2 ^ 32 ∧ data % 2 ^ 32 = (c0 + 1) % 2 ^ 32 ∧ s.ringEn 0 = true ∧ s.ringEn 1 = true
      ∧ s.hif.accepted.length < 64 ∧ s.ringUsed 1 + s.hif.accepted.length + s.hif.held.length < s.ringSize 1
     (one) ∧ (g 0 4 = s.lastHseq)) ∧
    (let s : State := let s := (put [(Reg.HIF_RING_PI 2, 16)]).ring 2; {s with hif := {s.hif with loss := [(2, some (5, 6))]}}
     let m : Master := 0
     let r : Fin 4 := 2
     let data : Nat := 3
     let used (pi ci : Nat) : Nat := (pi + 2 ^ 32 - ci) % 2 ^ 32
     let ci := data % 2 ^ 32
     let fits : Prop := used (s.reg (Reg.HIF_RING_PI r)) ci ≤ s.ringSize r
     let mayCi : Prop := MayWrite s m (Reg.HIF_RING_CI r) ∧ r ≠ 0
     (mayCi) ∧ (fits)) ∧
    (let s : State := (put [(Reg.HIF_RING_PI 2, 26)]).ring 2
     let m : Master := 0
     let r : Fin 4 := 2
     let data : Nat := 3
     let used (pi ci : Nat) : Nat := (pi + 2 ^ 32 - ci) % 2 ^ 32
     let ci := data % 2 ^ 32
     let fits : Prop := used (s.reg (Reg.HIF_RING_PI r)) ci ≤ s.ringSize r
     let mayCi : Prop := MayWrite s m (Reg.HIF_RING_CI r) ∧ r ≠ 0
     (mayCi) ∧ (¬ fits)) ∧
    (let s : State := let s := (put [(Reg.HIF_RING_PI 2, 16)]).ring 2; {s with hif := {s.hif with loss := [(2, some (5, 6))]}}
     let m : Master := 0
     let r : Fin 4 := 2
     let data : Nat := 3
     let f : Nat := 5
     let k : Nat := 6
     let used (pi ci : Nat) : Nat := (pi + 2 ^ 32 - ci) % 2 ^ 32
     let ci := data % 2 ^ 32
     let mayCi : Prop := MayWrite s m (Reg.HIF_RING_CI r) ∧ r ≠ 0
     (mayCi) ∧ (r ≠ 1) ∧ (used (s.reg (Reg.HIF_RING_PI r)) ci < s.ringSize r) ∧ (s.ringEn r = true) ∧ (tabGet none s.hif.loss r = some (f, k))) :=
  by repeat' first | decide +kernel | apply And.intro

end HostRings

namespace JournalRecords

def rj : JRec := ⟨5, 0x25, 1, 3, [1,2,3]⟩
def dr : List (Nat × Nat) := [(Reg.BUS_DRAM, dramCfg), (Reg.JRN_BASE, 65536 * 2^20), (Reg.JRN_CFG, 0x1401)]
def js (f : JrnState → JrnState) (l : List (Nat × Nat) := []) : State := let s := (((ticking State.reset).ring 1).put l); {s with jrn := f s.jrn}
def apd : AttPend := ⟨5, 1, List.replicate 40 1, List.replicate 40 2, List.replicate 39 3, 77, some (3, List.replicate 48 7), false⟩
def ape : AttPend := { apd with key := none }
def kk : List Byte := List.replicate 48 7

theorem test_JournalRecords_hypotheses :
    (let s : State := (js (fun j => {j with att := some apd}) dr)
     let src : Nat := 0
     let id := src % 256
     let n := s.jrn.staging.length
     (n < (if id < 8 then 31744 else 32768))) ∧
    (let s : State := js (fun j => {j with staging := List.replicate 31744 rj}) dr
     let src : Nat := 3
     let id := src % 256
     let n := s.jrn.staging.length
     (id < 8) ∧ (31744 ≤ n)) ∧
    (let s : State := js (fun j => {j with staging := List.replicate 32768 rj}) dr
     let src : Nat := 0x10
     let id := src % 256
     let n := s.jrn.staging.length
     (8 ≤ id) ∧ (32768 ≤ n)) ∧
    (let s : State := js (fun j => {j with staging := [rj, rj], next := 9}) dr
     let r : JRec := rj
     let rest : List JRec := [rj]
     let ready : Prop := s.jrnEn = true ∧ s.dramUp = true ∧ ∀ q ∈ s.mram.queue, q.rid ≠ ridJrn
     let writes : Prop := ready ∧ s.jrn.att = none ∧ s.jrn.start = none ∧ s.jrn.stageLost = 0 ∧ s.jrn.staging = r :: rest
     let d := s.jrn.next
     (writes) ∧ (d % 256 ≠ 255) ∧ (s.jrn.run = none) ∧ (s.unarchived d = false)) ∧
    (let s : State := js (fun j => {j with staging := [rj, rj], next := 255}) dr
     let r : JRec := rj
     let rest : List JRec := [rj]
     let ready : Prop := s.jrnEn = true ∧ s.dramUp = true ∧ ∀ q ∈ s.mram.queue, q.rid ≠ ridJrn
     let writes : Prop := ready ∧ s.jrn.att = none ∧ s.jrn.start = none ∧ s.jrn.stageLost = 0 ∧ s.jrn.staging = r :: rest
     (writes)) ∧
    (let s : State := js (fun j => {j with staging := [rj, rj], next := 9, start := some rj}) dr
     let r : JRec := rj
     let ready : Prop := s.jrnEn = true ∧ s.dramUp = true ∧ ∀ q ∈ s.mram.queue, q.rid ≠ ridJrn
     (ready) ∧ (s.jrn.att = none) ∧ (s.jrn.start = some r)) ∧
    (let s : State := (js (fun j => {j with att := some apd}) dr)
     let ready : Prop := s.jrnEn = true ∧ s.dramUp = true ∧ ∀ q ∈ s.mram.queue, q.rid ≠ ridJrn
     (¬ ready ∨ s.jrn.att ≠ none)) ∧
    (let s : State := js (fun j => {j with staging := [rj, rj], next := 255}) [(Reg.BUS_DRAM, dramCfg), (Reg.JRN_BASE, 65536 * 2^20)]
     let m : Master := 0
     let data : Nat := 0x1401
     let may : Prop := MayPost s m Reg.JRN_CFG
     let size := data / 256 % 32
     let free := s.dramFree s.jrnBase (2 ^ min 30 (max 20 size))
     (may) ∧ (s.jrnEn = false) ∧ (data % 2 = 1) ∧ (free = true)) ∧
    (let s : State := (js (fun j => {j with att := some apd}) dr)
     let m : Master := 0
     let data : Nat := 0
     let may : Prop := MayPost s m Reg.JRN_CFG
     let size := data / 256 % 32
     let free := s.dramFree s.jrnBase (2 ^ min 30 (max 20 size))
     (may) ∧ ((s.jrnEn = false ∧ data % 2 = 1 ∧ free = false) ∨ (s.jrnEn = true ∧ size ≠ s.fld Reg.JRN_CFG Reg.JRN_CFG_SIZE))) ∧
    (let s : State := (js id (dr ++ [(Reg.JRN_ATT, 5 * 2^Reg.JRN_ATT_SLOT.lo + 1 * 2^Reg.JRN_ATT_PERIOD.lo)])).keyed 5 4 4 kk
     let k : Nat := 1268750000
     let key : List Byte := kk
     let ready : Prop := s.jrnEn = true ∧ s.dramUp = true ∧ ∀ q ∈ s.mram.queue, q.rid ≠ ridJrn
     let u := s.at k
     let due : Prop := ready ∧ s.jrn.start = none ∧ s.jrn.att = none ∧ s.jrn.attAt ≠ some u.vc0Sec ∧ u.vc0Sec % s.attPeriod = 0
     let slot := s.fld Reg.JRN_ATT Reg.JRN_ATT_SLOT
     (due) ∧ (s.keyFor slot [4] = .inr key)) ∧
    (let s : State := (js id (dr ++ [(Reg.JRN_ATT, 5 * 2^Reg.JRN_ATT_SLOT.lo + 1 * 2^Reg.JRN_ATT_PERIOD.lo)]))
     let k : Nat := 1268750000
     let e : Nat := 4
     let ready : Prop := s.jrnEn = true ∧ s.dramUp = true ∧ ∀ q ∈ s.mram.queue, q.rid ≠ ridJrn
     let u := s.at k
     let due : Prop := ready ∧ s.jrn.start = none ∧ s.jrn.att = none ∧ s.jrn.attAt ≠ some u.vc0Sec ∧ u.vc0Sec % s.attPeriod = 0
     let slot := s.fld Reg.JRN_ATT Reg.JRN_ATT_SLOT
     (due) ∧ (s.keyFor slot [4] = .inl e)) ∧
    (let s : State := (js (fun j => {j with att := some apd}) dr)
     let k : Nat := 1268750000
     let ready : Prop := s.jrnEn = true ∧ s.dramUp = true ∧ ∀ q ∈ s.mram.queue, q.rid ≠ ridJrn
     let u := s.at k
     let due : Prop := ready ∧ s.jrn.start = none ∧ s.jrn.att = none ∧ s.jrn.attAt ≠ some u.vc0Sec ∧ u.vc0Sec % s.attPeriod = 0
     (¬ due)) ∧
    (let s : State := (js (fun j => {j with att := some apd}) dr)
     let a : AttPend := apd
     let ky : Nat × List Byte := (3, List.replicate 48 7)
     (s.jrn.att = some a) ∧ (a.aborted = false) ∧ (a.key = some ky)) ∧
    (let s : State := (js (fun j => {j with att := some {apd with aborted := true}}) dr)
     let a : AttPend := {apd with aborted := true}
     (s.jrn.att = some a) ∧ (a.aborted = true)) ∧
    (let s : State := (js (fun j => {j with att := some ape}) dr)
     let a : AttPend := ape
     (s.jrn.att = some a) ∧ (a.aborted = false) ∧ (a.key = none) ∧ (s.sgnBusy = false)) ∧
    (let s : State := let s := (js (fun j => {j with att := some ape}) dr); {s with key := {s.key with sgn := [⟨1, 5, [], some (3, kk)⟩]}}
     let a : AttPend := ape
     (s.jrn.att = none ∨ (s.jrn.att = some a ∧ a.aborted = false ∧ a.key = none ∧ s.sgnBusy = true))) :=
  by repeat' first | decide +kernel | apply And.intro

end JournalRecords

namespace KeyService

def kk (n : Nat) : List Byte := List.replicate n 7
def acc (q op : Nat) : Accepted := ⟨q, op, false, 0x1000, 4096, false⟩
def M (slot gen parent st kind use type : Nat) : Nat × Nat := (Reg.KEY_SLOT_META slot, metaWord gen parent st kind use type)
def vs (q op : Nat) (l : List (Nat × Nat) := []) (f : KeySlot → KeySlot := id) : State := ((((ticking State.reset).ready q op).keyed 5 4 3 (kk 48)).put l).modSlot 5 f

theorem test_KeyService_hypotheses :
    (let s : State := vs 33 0x505
     let q : Nat := 33
     (Starts s q 0x0505) ∧ (s.vault ≠ 3)) ∧
    (let s : State := vs 33 0x506 [M 5 7 0 1 2 4 4] (fun k => {k with pub := kk 32})
     let q : Nat := 33
     let slot : Fin 4096 := 5
     let x : Accepted := acc 33 0x506
     let space : Prop := s.hif.accepted.find? (fun a => a.hseq = q) = some x ∧ 97 ≤ x.resLen ∧ x.resErr = false
     let type := s.meta slot Reg.KEY_SLOT_META_TYPE
     let pub := (s.keySlot slot).pub
     let pub0 : Prop := Starts s q 0x0506 ∧ s.vault ≠ 3 ∧ space
     (pub0) ∧ (s.keySt slot = 1) ∧ (s.keyUsable slot = true) ∧ (3 ≤ type) ∧ (pub.length ≤ 48)) ∧
    (let s : State := vs 33 0x506 [M 5 7 0 1 2 4 3] (fun k => {k with pub := kk 97})
     let q : Nat := 33
     let slot : Fin 4096 := 5
     let x : Accepted := acc 33 0x506
     let space : Prop := s.hif.accepted.find? (fun a => a.hseq = q) = some x ∧ 97 ≤ x.resLen ∧ x.resErr = false
     let type := s.meta slot Reg.KEY_SLOT_META_TYPE
     let pub := (s.keySlot slot).pub
     let pub0 : Prop := Starts s q 0x0506 ∧ s.vault ≠ 3 ∧ space
     (pub0) ∧ (s.keySt slot = 1) ∧ (s.keyUsable slot = true) ∧ (3 ≤ type) ∧ (48 < pub.length)) ∧
    (let s : State := vs 33 0x506 [M 5 7 0 2 2 4 3] (fun k => {k with pub := kk 97})
     let q : Nat := 33
     let slot : Fin 4096 := 5
     let x : Accepted := acc 33 0x506
     let space : Prop := s.hif.accepted.find? (fun a => a.hseq = q) = some x ∧ 97 ≤ x.resLen ∧ x.resErr = false
     let pub0 : Prop := Starts s q 0x0506 ∧ s.vault ≠ 3 ∧ space
     (pub0) ∧ (s.keySt slot ≠ 1)) ∧
    (let s : State := vs 33 0x506 [M 5 7 0 1 2 4 3] (fun k => {k with pub := kk 97, pgen := 9})
     let q : Nat := 33
     let slot : Fin 4096 := 5
     let x : Accepted := acc 33 0x506
     let space : Prop := s.hif.accepted.find? (fun a => a.hseq = q) = some x ∧ 97 ≤ x.resLen ∧ x.resErr = false
     let pub0 : Prop := Starts s q 0x0506 ∧ s.vault ≠ 3 ∧ space
     (pub0) ∧ (s.keySt slot = 1) ∧ (s.keyUsable slot = false)) ∧
    (let s : State := vs 33 0x506 [M 5 7 0 1 2 2 2] (fun k => {k with pub := kk 97})
     let q : Nat := 33
     let slot : Fin 4096 := 5
     let x : Accepted := acc 33 0x506
     let space : Prop := s.hif.accepted.find? (fun a => a.hseq = q) = some x ∧ 97 ≤ x.resLen ∧ x.resErr = false
     let type := s.meta slot Reg.KEY_SLOT_META_TYPE
     let pub0 : Prop := Starts s q 0x0506 ∧ s.vault ≠ 3 ∧ space
     (pub0) ∧ (s.keySt slot = 1) ∧ (s.keyUsable slot = true) ∧ (type < 3)) ∧
    (let s : State := let s := vs 33 0x507; {s with key := {s.key with sgn := [⟨3, 5, [], some (3, kk 48)⟩, ⟨4, 5, [], none⟩]}}
     let q : Nat := 33
     let slot : Fin 4096 := 5
     let digest : List Byte := kk 48
     let key : List Byte := kk 48
     let x : Accepted := acc 33 0x507
     let space : Prop := s.hif.accepted.find? (fun a => a.hseq = q) = some x ∧ 97 ≤ x.resLen ∧ x.resErr = false
     let signs : Prop := Starts s q 0x0507 ∧ space ∧ digest.length = 48
     (signs) ∧ (s.keyFor slot [4] = .inr key) ∧ (s.key.sgn.length < 16) ∧ (s.sgnBusy = true ∨ s.jrn.att ≠ none)) ∧
    (let s : State := vs 33 0x507
     let q : Nat := 33
     let slot : Fin 4096 := 5
     let digest : List Byte := kk 48
     let key : List Byte := kk 48
     let x : Accepted := acc 33 0x507
     let space : Prop := s.hif.accepted.find? (fun a => a.hseq = q) = some x ∧ 97 ≤ x.resLen ∧ x.resErr = false
     let signs : Prop := Starts s q 0x0507 ∧ space ∧ digest.length = 48
     (signs) ∧ (s.keyFor slot [4] = .inr key) ∧ (s.key.sgn = []) ∧ (s.jrn.att = none)) ∧
    (let s : State := let s := vs 33 0x507; {s with key := {s.key with sgn := List.replicate 16 ⟨3, 5, [], none⟩}}
     let q : Nat := 33
     let slot : Fin 4096 := 5
     let digest : List Byte := kk 48
     let key : List Byte := kk 48
     let x : Accepted := acc 33 0x507
     let space : Prop := s.hif.accepted.find? (fun a => a.hseq = q) = some x ∧ 97 ≤ x.resLen ∧ x.resErr = false
     let signs : Prop := Starts s q 0x0507 ∧ space ∧ digest.length = 48
     (signs) ∧ (s.keyFor slot [4] = .inr key) ∧ (16 ≤ s.key.sgn.length)) ∧
    (let s : State := vs 33 0x507 [M 5 7 0 1 2 2 2]
     let q : Nat := 33
     let slot : Fin 4096 := 5
     let digest : List Byte := kk 48
     let x : Accepted := acc 33 0x507
     let e : Nat := 3
     let space : Prop := s.hif.accepted.find? (fun a => a.hseq = q) = some x ∧ 97 ≤ x.resLen ∧ x.resErr = false
     let signs : Prop := Starts s q 0x0507 ∧ space ∧ digest.length = 48
     (signs) ∧ (s.keyFor slot [4] = .inl e)) ∧
    (let s : State := let s := vs 33 0x507; {s with key := {s.key with sgn := [⟨3, 5, [], some (3, kk 48)⟩, ⟨4, 5, [], none⟩]}}
     let r : SignReq := ⟨3, 5, [], some (3, kk 48)⟩
     let rest : List SignReq := [⟨4, 5, [], none⟩]
     let ky : Nat × List Byte := (3, kk 48)
     (s.key.sgn = r :: rest) ∧ (r.key = some ky)) ∧
    (let s : State := let s := vs 33 0x507; {s with key := {s.key with sgn := List.replicate 16 ⟨3, 5, [], none⟩}}
     let r : SignReq := ⟨3, 5, [], none⟩
     let rest : List SignReq := List.replicate 15 ⟨3, 5, [], none⟩
     (s.key.sgn = [] ∨ (s.key.sgn = r :: rest ∧ r.key = none))) ∧
    (let s : State := vs 33 0x508 [(Reg.KEY_STATUS, 2), (Reg.KEY_TAMP_CFG 2, 16)]
     let q : Nat := 33
     let pins : Fin 32 := 4
     let status (f : Fld) : Nat := s.fld Reg.KEY_STATUS f
     let plain (op : Nat) : Prop := Starts s q op ∧ status Reg.KEY_STATUS_SIGNED_ADMIN = 0
     let active := (s.setPins pins).tamperActive
     (plain 0x0508) ∧ (s.vault = 2) ∧ (active = false)) ∧
    (let s : State := vs 33 0x508 [(Reg.KEY_STATUS, 2), (Reg.KEY_TAMP_CFG 2, 17)]
     let q : Nat := 33
     let pins : Fin 32 := 4
     let status (f : Fld) : Nat := s.fld Reg.KEY_STATUS f
     let plain (op : Nat) : Prop := Starts s q op ∧ status Reg.KEY_STATUS_SIGNED_ADMIN = 0
     let active := (s.setPins pins).tamperActive
     (plain 0x0508) ∧ (s.vault = 2) ∧ (active = true)) ∧
    (let s : State := vs 33 0x508 [(Reg.KEY_STATUS, 1)]
     let q : Nat := 33
     let status (f : Fld) : Nat := s.fld Reg.KEY_STATUS f
     let plain (op : Nat) : Prop := Starts s q op ∧ status Reg.KEY_STATUS_SIGNED_ADMIN = 0
     (plain 0x0508) ∧ (s.vault = 1)) ∧
    (let s : State := vs 33 0x509 [(Reg.KEY_TAMP_CFG 2, 17)]
     let q : Nat := 33
     let cls : Nat := 1
     let level : Nat := 0
     let filt : Nat := 9
     let pins : Fin 32 := 4
     let input : Fin 5 := 2
     let status (f : Fld) : Nat := s.fld Reg.KEY_STATUS f
     let plain (op : Nat) : Prop := Starts s q op ∧ status Reg.KEY_STATUS_SIGNED_ADMIN = 0
     let shown (i : Fin 5) (level : Nat) : Prop :=
      if i = 4 then decide (pins.val / 16 % 2 = 1) ≠ s.key.meshOut else pins.val / 2 ^ i.val % 2 = level
     let hot : Prop := shown input level
     let okArgs : Prop := cls < 3 ∧ level < 2 ∧ filt < 256
     (plain 0x0509) ∧ (s.vault = 1) ∧ (okArgs) ∧ (cls = 0 ∨ ¬ hot)) ∧
    (let s : State := vs 33 0x509 [(Reg.KEY_TAMP_CFG 2, 17)]
     let q : Nat := 33
     let cls : Nat := 1
     let level : Nat := 1
     let filt : Nat := 9
     let pins : Fin 32 := 4
     let input : Fin 5 := 2
     let status (f : Fld) : Nat := s.fld Reg.KEY_STATUS f
     let plain (op : Nat) : Prop := Starts s q op ∧ status Reg.KEY_STATUS_SIGNED_ADMIN = 0
     let shown (i : Fin 5) (level : Nat) : Prop :=
      if i = 4 then decide (pins.val / 16 % 2 = 1) ≠ s.key.meshOut else pins.val / 2 ^ i.val % 2 = level
     let hot : Prop := shown input level
     let okArgs : Prop := cls < 3 ∧ level < 2 ∧ filt < 256
     (plain 0x0509) ∧ (s.vault = 1) ∧ (okArgs) ∧ (cls ≠ 0) ∧ (hot)) ∧
    (let s : State := vs 33 0x509 [(Reg.KEY_TAMP_CFG 2, 17)]
     let q : Nat := 33
     let cls : Nat := 1
     let level : Nat := 0
     let filt : Nat := 9
     let n : Nat := 6
     let status (f : Fld) : Nat := s.fld Reg.KEY_STATUS f
     let plain (op : Nat) : Prop := Starts s q op ∧ status Reg.KEY_STATUS_SIGNED_ADMIN = 0
     (plain 0x0509) ∧ (s.vault = 1) ∧ (5 ≤ n ∨ 3 ≤ cls ∨ 2 ≤ level ∨ 256 ≤ filt)) ∧
    (let s : State := vs 33 0x50A [M 5 7 0 1 2 6 5]
     let q : Nat := 33
     let sign : Bool := true
     let status (f : Fld) : Nat := s.fld Reg.KEY_STATUS f
     let plain (op : Nat) : Prop := Starts s q op ∧ status Reg.KEY_STATUS_SIGNED_ADMIN = 0
     (plain 0x050A) ∧ (s.vault = 1) ∧ (sign = false ∨ s.verifySlot = true)) ∧
    (let s : State := vs 33 0x50A [(Reg.KEY_TAMP_CFG 2, 33)]
     let q : Nat := 33
     let status (f : Fld) : Nat := s.fld Reg.KEY_STATUS f
     let plain (op : Nat) : Prop := Starts s q op ∧ status Reg.KEY_STATUS_SIGNED_ADMIN = 0
     (plain 0x050A) ∧ (s.vault = 1) ∧ (s.verifySlot = false)) ∧
    (let s : State := vs 33 0x50B [(Reg.KEY_STATUS, 1 + 2^Reg.KEY_STATUS_ROOT_NEW.lo)]
     let q : Nat := 33
     let status (f : Fld) : Nat := s.fld Reg.KEY_STATUS f
     (Starts s q 0x050B) ∧ (s.vault = 1) ∧ (status Reg.KEY_STATUS_ROOT_NEW = 1)) ∧
    (let s : State := vs 33 0x50B [(Reg.KEY_STATUS, 1), (Reg.KEY_TAMP_CFG 2, 17)]
     let q : Nat := 33
     let status (f : Fld) : Nat := s.fld Reg.KEY_STATUS f
     (Starts s q 0x050B) ∧ (s.vault = 1) ∧ (status Reg.KEY_STATUS_ROOT_NEW = 0)) ∧
    (let s : State := vs 33 0x50A [M 5 7 0 1 2 6 5]
     let pins : Fin 32 := 4
     let shown (i : Fin 5) (level : Nat) : Prop :=
      if i = 4 then decide (pins.val / 16 % 2 = 1) ≠ s.key.meshOut else pins.val / 2 ^ i.val % 2 = level
     let run (i : Fin 5) : Nat := s.key.runs.getD i 0
     let armed (i : Fin 5) : Nat := s.fld (Reg.KEY_TAMP_CFG i) Reg.KEY_TAMP_CFG_CLASS
     let last (i : Fin 5) : Prop := (armed i = 1 ∨ armed i = 2) ∧ shown i (s.fld (Reg.KEY_TAMP_CFG i) Reg.KEY_TAMP_CFG_LEVEL)
      ∧ run i + 1 = max (if i = 4 then 2 else 1) (s.fld (Reg.KEY_TAMP_CFG i) Reg.KEY_TAMP_CFG_FILT)
     ((∀ i, ¬ last i))) ∧
    (let s : State := vs 33 0x509 [(Reg.KEY_TAMP_CFG 2, 17)]
     let pins : Fin 32 := 4
     let input : Fin 5 := 2
     let shown (i : Fin 5) (level : Nat) : Prop :=
      if i = 4 then decide (pins.val / 16 % 2 = 1) ≠ s.key.meshOut else pins.val / 2 ^ i.val % 2 = level
     let run (i : Fin 5) : Nat := s.key.runs.getD i 0
     let armed (i : Fin 5) : Nat := s.fld (Reg.KEY_TAMP_CFG i) Reg.KEY_TAMP_CFG_CLASS
     let last (i : Fin 5) : Prop := (armed i = 1 ∨ armed i = 2) ∧ shown i (s.fld (Reg.KEY_TAMP_CFG i) Reg.KEY_TAMP_CFG_LEVEL)
      ∧ run i + 1 = max (if i = 4 then 2 else 1) (s.fld (Reg.KEY_TAMP_CFG i) Reg.KEY_TAMP_CFG_FILT)
     let alarm (c : Nat) : Prop := armed input = c ∧ last input ∧ ∀ i, i ≠ input → ¬ last i
     let started : Prop := s.clk.up = true ∧ s.fld Reg.PWR_BOOT Reg.PWR_BOOT_STAGE = 4
     (alarm 1) ∧ (started)) ∧
    (let s : State := vs 33 0x50A [(Reg.KEY_TAMP_CFG 2, 33)]
     let pins : Fin 32 := 4
     let input : Fin 5 := 2
     let shown (i : Fin 5) (level : Nat) : Prop :=
      if i = 4 then decide (pins.val / 16 % 2 = 1) ≠ s.key.meshOut else pins.val / 2 ^ i.val % 2 = level
     let run (i : Fin 5) : Nat := s.key.runs.getD i 0
     let armed (i : Fin 5) : Nat := s.fld (Reg.KEY_TAMP_CFG i) Reg.KEY_TAMP_CFG_CLASS
     let last (i : Fin 5) : Prop := (armed i = 1 ∨ armed i = 2) ∧ shown i (s.fld (Reg.KEY_TAMP_CFG i) Reg.KEY_TAMP_CFG_LEVEL)
      ∧ run i + 1 = max (if i = 4 then 2 else 1) (s.fld (Reg.KEY_TAMP_CFG i) Reg.KEY_TAMP_CFG_FILT)
     let alarm (c : Nat) : Prop := armed input = c ∧ last input ∧ ∀ i, i ≠ input → ¬ last i
     let started : Prop := s.clk.up = true ∧ s.fld Reg.PWR_BOOT Reg.PWR_BOOT_STAGE = 4
     (alarm 2) ∧ (started) ∧ (s.vault = 1)) ∧
    (let s : State := (vs 33 0x50B [(Reg.KEY_STATUS, 2), (Reg.KEY_TAMP_CFG 2, 33)])
     let pins : Fin 32 := 4
     let input : Fin 5 := 2
     let shown (i : Fin 5) (level : Nat) : Prop :=
      if i = 4 then decide (pins.val / 16 % 2 = 1) ≠ s.key.meshOut else pins.val / 2 ^ i.val % 2 = level
     let run (i : Fin 5) : Nat := s.key.runs.getD i 0
     let armed (i : Fin 5) : Nat := s.fld (Reg.KEY_TAMP_CFG i) Reg.KEY_TAMP_CFG_CLASS
     let last (i : Fin 5) : Prop := (armed i = 1 ∨ armed i = 2) ∧ shown i (s.fld (Reg.KEY_TAMP_CFG i) Reg.KEY_TAMP_CFG_LEVEL)
      ∧ run i + 1 = max (if i = 4 then 2 else 1) (s.fld (Reg.KEY_TAMP_CFG i) Reg.KEY_TAMP_CFG_FILT)
     let alarm (c : Nat) : Prop := armed input = c ∧ last input ∧ ∀ i, i ≠ input → ¬ last i
     let started : Prop := s.clk.up = true ∧ s.fld Reg.PWR_BOOT Reg.PWR_BOOT_STAGE = 4
     (alarm 2) ∧ (started) ∧ (s.vault = 2)) ∧
    (let s : State := (vs 33 0x50B [(Reg.KEY_STATUS, 3), (Reg.KEY_TAMP_CFG 2, 33)])
     let pins : Fin 32 := 4
     let input : Fin 5 := 2
     let shown (i : Fin 5) (level : Nat) : Prop :=
      if i = 4 then decide (pins.val / 16 % 2 = 1) ≠ s.key.meshOut else pins.val / 2 ^ i.val % 2 = level
     let run (i : Fin 5) : Nat := s.key.runs.getD i 0
     let armed (i : Fin 5) : Nat := s.fld (Reg.KEY_TAMP_CFG i) Reg.KEY_TAMP_CFG_CLASS
     let last (i : Fin 5) : Prop := (armed i = 1 ∨ armed i = 2) ∧ shown i (s.fld (Reg.KEY_TAMP_CFG i) Reg.KEY_TAMP_CFG_LEVEL)
      ∧ run i + 1 = max (if i = 4 then 2 else 1) (s.fld (Reg.KEY_TAMP_CFG i) Reg.KEY_TAMP_CFG_FILT)
     let alarm (c : Nat) : Prop := armed input = c ∧ last input ∧ ∀ i, i ≠ input → ¬ last i
     let started : Prop := s.clk.up = true ∧ s.fld Reg.PWR_BOOT Reg.PWR_BOOT_STAGE = 4
     (alarm 2) ∧ (started) ∧ (s.vault ≠ 1) ∧ (s.vault ≠ 2)) :=
  by repeat' first | decide +kernel | apply And.intro

end KeyService

namespace KeyStore

def kk (n : Nat) : List Byte := List.replicate n 7
def vs (q op : Nat) (l : List (Nat × Nat) := []) : State := ((((ticking State.reset).ready q op).keyed 5 2 2 (kk 32)).put l)
def M (slot gen parent st kind use type : Nat) : Nat × Nat := (Reg.KEY_SLOT_META slot, metaWord gen parent st kind use type)
def ka : KeyAuth := ⟨9, [1], [2]⟩
def SA : Nat × Nat := (Reg.KEY_STATUS, 1 + 2^Reg.KEY_STATUS_SIGNED_ADMIN.lo)

theorem test_KeyStore_hypotheses :
    (let s : State := vs 33 0x500
     let q : Nat := 33
     let slot : Nat := 6
     let parent : Nat := 0
     let kind : Nat := 2
     let use : Nat := 2
     let type : Nat := 2
     let key : List Byte := kk 32
     let open_ (op : Nat) : Prop := Starts s q op ∧ s.vault = 1 ∧ s.fld Reg.KEY_STATUS Reg.KEY_STATUS_SIGNED_ADMIN = 0
     let pair : Prop := type = 5 ∨ type = 6
     (open_ 0x0500) ∧ (s.placeFail slot parent kind use type = none) ∧ (key.length = keyLen type) ∧ ((pair → Config.pointOk type key = true))) ∧
    (let s : State := vs 33 0x500
     let q : Nat := 33
     let slot : Nat := 6
     let parent : Nat := 0
     let kind : Nat := 2
     let use : Nat := 0
     let type : Nat := 2
     let e : Nat := 3
     let open_ (op : Nat) : Prop := Starts s q op ∧ s.vault = 1 ∧ s.fld Reg.KEY_STATUS Reg.KEY_STATUS_SIGNED_ADMIN = 0
     (open_ 0x0500) ∧ (s.placeFail slot parent kind use type = some e)) ∧
    (let s : State := vs 33 0x501
     let q : Nat := 33
     let slot : Nat := 6
     let parent : Nat := 0
     let kind : Nat := 2
     let use : Nat := 2
     let type : Nat := 2
     let open_ (op : Nat) : Prop := Starts s q op ∧ s.vault = 1 ∧ s.fld Reg.KEY_STATUS Reg.KEY_STATUS_SIGNED_ADMIN = 0
     let pair : Prop := type = 5 ∨ type = 6
     (open_ 0x0501) ∧ (s.placeFail slot parent kind use type = none) ∧ (¬ pair) ∧ (s.key.rbgFail = false)) ∧
    (let s : State := vs 33 0x501
     let q : Nat := 33
     let slot : Nat := 6
     let parent : Nat := 0
     let kind : Nat := 2
     let use : Nat := 6
     let type : Nat := 5
     let open_ (op : Nat) : Prop := Starts s q op ∧ s.vault = 1 ∧ s.fld Reg.KEY_STATUS Reg.KEY_STATUS_SIGNED_ADMIN = 0
     let pair : Prop := type = 5 ∨ type = 6
     (open_ 0x0501) ∧ (s.placeFail slot parent kind use type = none) ∧ (pair ∨ s.key.rbgFail = true)) ∧
    (let s : State := vs 33 0x502 [M 7 0 0 1 1 0 0]
     let q : Nat := 33
     let slot : Nat := 6
     let parent : Nat := 7
     let use : Nat := 2
     let type : Nat := 2
     let label : List Byte := kk 3
     let open_ (op : Nat) : Prop := Starts s q op ∧ s.vault = 1 ∧ s.fld Reg.KEY_STATUS Reg.KEY_STATUS_SIGNED_ADMIN = 0
     let len := label.length
     (open_ 0x0502) ∧ (s.placeFail slot parent 2 use type = none) ∧ (type = 1 ∨ type = 2) ∧ (s.meta parent Reg.KEY_SLOT_META_KIND = 1) ∧ (1 ≤ len) ∧ (len ≤ 32)) ∧
    (let s : State := vs 33 0x502 [M 7 0 0 1 1 0 0]
     let q : Nat := 33
     let slot : Nat := 6
     let parent : Nat := 9
     let use : Nat := 2
     let type : Nat := 2
     let e : Nat := 5
     let open_ (op : Nat) : Prop := Starts s q op ∧ s.vault = 1 ∧ s.fld Reg.KEY_STATUS Reg.KEY_STATUS_SIGNED_ADMIN = 0
     (open_ 0x0502) ∧ (s.placeFail slot parent 2 use type = some e)) ∧
    (let s : State := vs 33 0x503
     let q : Nat := 33
     let slot : Nat := 5
     let open_ (op : Nat) : Prop := Starts s q op ∧ s.vault = 1 ∧ s.fld Reg.KEY_STATUS Reg.KEY_STATUS_SIGNED_ADMIN = 0
     let live : Prop := 2 ≤ slot ∧ slot < 4096 ∧ s.keySt slot = 1
     (open_ 0x0503) ∧ (live) ∧ (s.keyGen slot ≠ 0xFFFFFFFF)) ∧
    (let s : State := vs 33 0x503
     let q : Nat := 33
     let slot : Nat := 6
     let open_ (op : Nat) : Prop := Starts s q op ∧ s.vault = 1 ∧ s.fld Reg.KEY_STATUS Reg.KEY_STATUS_SIGNED_ADMIN = 0
     let live : Prop := 2 ≤ slot ∧ slot < 4096 ∧ s.keySt slot = 1
     (open_ 0x0503) ∧ (¬ live)) ∧
    (let s : State := vs 33 0x504
     let q : Nat := 33
     let slot : Nat := 6
     let open_ (op : Nat) : Prop := Starts s q op ∧ s.vault = 1 ∧ s.fld Reg.KEY_STATUS Reg.KEY_STATUS_SIGNED_ADMIN = 0
     (open_ 0x0504) ∧ (2 ≤ slot) ∧ (slot < 4096) ∧ (s.keyFound slot ≠ 1)) ∧
    (let s : State := vs 33 0x504
     let q : Nat := 33
     let slot : Nat := 5
     let open_ (op : Nat) : Prop := Starts s q op ∧ s.vault = 1 ∧ s.fld Reg.KEY_STATUS Reg.KEY_STATUS_SIGNED_ADMIN = 0
     (open_ 0x0504) ∧ (slot ≤ 1 ∨ 4096 ≤ slot ∨ s.keyFound slot = 1)) ∧
    (let s : State := (vs 33 0x500 [M 9 0 0 1 2 6 5]).put [SA]
     let q : Nat := 33
     let signed : Prop := Starts s q 0x0500 ∧ s.vault = 1 ∧ s.fld Reg.KEY_STATUS Reg.KEY_STATUS_SIGNED_ADMIN = 1 ∧ s.verifySlot = true
     (signed)) ∧
    (let s : State := (vs 33 0x500 [M 9 0 0 1 2 6 5]).put [SA]
     let q : Nat := 33
     let x : KeyAuth := ⟨5, [1], [2]⟩
     let signed : Prop := Starts s q 0x0500 ∧ s.vault = 1 ∧ s.fld Reg.KEY_STATUS Reg.KEY_STATUS_SIGNED_ADMIN = 1 ∧ s.verifySlot = true
     (signed) ∧ (s.authOk x = false)) ∧
    (let s : State := (vs 33 0x500 []).put [(Reg.KEY_STATUS, 2)]
     let q : Nat := 33
     (Starts s q 0x0500) ∧ (s.vault ≠ 1)) :=
  by repeat' first | decide +kernel | apply And.intro

end KeyStore

namespace LeapTable

def big (n : Nat) : List LeapEntry := ⟨0, 37, 0, true⟩ :: (List.range n).map (fun k => ⟨86400 * (k+1) + (if k % 2 = 0 then 38 else 37) - 86400*1000, if k % 2 = 0 then 38 else 37, 1, false⟩)
def far (n : Nat) : List LeapEntry := ⟨0, 37, 0, true⟩ :: (List.range n).map (fun k => ⟨86400 * (k+1) + (if k % 2 = 0 then 38 else 37), if k % 2 = 0 then 38 else 37, 1, false⟩)

theorem test_LeapTable_hypotheses :
    (let s : State := State.reset.ready 9 0x200
     let q : Nat := 9
     let src : Nat := 1
     let eff : Int := 864038
     let tai : Int := 38
     let e : LeapEntry := ⟨eff, tai, src, false⟩
     let table := s.leapWork
     let rest := table.drop 1
     let now := s.vcNow 0
     let is := fun y : LeapEntry => decide (y.eff = eff)
     let passed := rest.any (fun y => decide (eff < y.eff) && decide (y.eff * fuSec ≤ now))
     (Starts s q 0x200) ∧ (rest.find? is = none) ∧ (leapFits table e = true) ∧ (now + 60 * fuSec ≤ eff * fuSec ∨ passed = true) ∧ (table.length < 64)) ∧
    (let s : State := (State.reset.ready 9 0x200).leaps (big 63)
     let q : Nat := 9
     let src : Nat := 1
     let eff : Int := 864037
     let tai : Int := 37
     let x : LeapEntry := (big 63).getD 1 zLeap
     let e : LeapEntry := ⟨eff, tai, src, false⟩
     let table := s.leapWork
     let rest := table.drop 1
     let now := s.vcNow 0
     let is := fun y : LeapEntry => decide (y.eff = eff)
     let passed := rest.any (fun y => decide (eff < y.eff) && decide (y.eff * fuSec ≤ now))
     (Starts s q 0x200) ∧ (rest.find? is = none) ∧ (leapFits table e = true) ∧ (now + 60 * fuSec ≤ eff * fuSec ∨ passed = true) ∧ (64 ≤ table.length) ∧ (rest.head? = some x) ∧ (x.eff * fuSec < now)) ∧
    (let s : State := (State.reset.ready 9 0x200).leaps (far 63)
     let q : Nat := 9
     let eff : Int := 5
     let x : LeapEntry := (far 63).getD 1 zLeap
     let table := s.leapWork
     let rest := table.drop 1
     let now := s.vcNow 0
     let is := fun y : LeapEntry => decide (y.eff = eff)
     (Starts s q 0x200) ∧ (rest.find? is = none) ∧ (64 ≤ table.length) ∧ (rest.head? = some x) ∧ (now ≤ x.eff * fuSec)) ∧
    (let s : State := (State.reset.ready 9 0x200).leaps (big 5)
     let q : Nat := 9
     let eff : Int := 86400 * 3 + 38 - 86400*1000
     let x : LeapEntry := (big 5).getD 3 zLeap
     let table := s.leapWork
     let rest := table.drop 1
     let is := fun y : LeapEntry => decide (y.eff = eff)
     (Starts s q 0x200) ∧ (rest.find? is = some x)) ∧
    (let s : State := (State.reset.ready 9 0x200).leaps (far 63)
     let q : Nat := 9
     let src : Nat := 1
     let eff : Int := 5
     let tai : Int := 38
     let e : LeapEntry := ⟨eff, tai, src, false⟩
     let table := s.leapWork
     let rest := table.drop 1
     let now := s.vcNow 0
     let is := fun y : LeapEntry => decide (y.eff = eff)
     let passed := rest.any (fun y => decide (eff < y.eff) && decide (y.eff * fuSec ≤ now))
     (Starts s q 0x200) ∧ (rest.find? is = none) ∧ (leapFits table e = false ∨ (eff * fuSec < now + 60 * fuSec ∧ passed = false))) ∧
    (let s : State := (State.reset.ready 9 0x201).leaps [⟨0, 37, 0, true⟩, ⟨864038, 38, 1, false⟩]
     let q : Nat := 9
     let eff : Int := 864038
     let x : LeapEntry := ⟨864038, 38, 1, false⟩
     let table := s.leapWork
     let rest := table.drop 1
     let now := s.vcNow 0
     let is := fun y : LeapEntry => decide (y.eff = eff)
     (Starts s q 0x201) ∧ (rest.find? is = some x) ∧ (now + 60 * fuSec ≤ eff * fuSec)) ∧
    (let s : State := (State.reset.ready 9 0x201).leaps [⟨0, 37, 0, true⟩, ⟨864038, 38, 1, false⟩]
     let q : Nat := 9
     let eff : Int := 864039
     let table := s.leapWork
     let rest := table.drop 1
     let now := s.vcNow 0
     let is := fun y : LeapEntry => decide (y.eff = eff)
     (Starts s q 0x201) ∧ (rest.find? is = none ∨ eff * fuSec < now + 60 * fuSec)) ∧
    (let s : State := (State.reset.ready 9 0x202).leaps [⟨0, 37, 0, true⟩, ⟨864038, 38, 1, false⟩]
     let q : Nat := 9
     let tai : Int := 39
     let x : LeapEntry := ⟨864038, 38, 1, false⟩
     let table := s.leapWork
     let rest := table.drop 1
     (Starts s q 0x202) ∧ (rest.head? = none ∨ (rest.head? = some x ∧ (x.tai - tai).natAbs = 1))) ∧
    (let s : State := (State.reset.ready 9 0x202).leaps [⟨0, 37, 0, true⟩, ⟨864038, 38, 1, false⟩]
     let q : Nat := 9
     let tai : Int := 35
     let x : LeapEntry := ⟨864038, 38, 1, false⟩
     let table := s.leapWork
     let rest := table.drop 1
     (Starts s q 0x202) ∧ (rest.head? = some x) ∧ ((x.tai - tai).natAbs ≠ 1)) ∧
    (let s : State := (State.reset.ready 9 0x203).leaps [⟨0, 37, 0, true⟩, ⟨864038, 38, 1, false⟩]
     let q : Nat := 9
     let idx : Nat := 1
     let x : LeapEntry := ⟨864038, 38, 1, false⟩
     (Starts s q 0x203) ∧ (s.leapTable[idx]? = some x)) ∧
    (let s : State := State.reset.ready 9 0x203
     let q : Nat := 9
     let idx : Nat := 64
     (Starts s q 0x203) ∧ (s.leapTable[idx]? = none)) :=
  by decide +kernel

end LeapTable

namespace LinkAndMemoryErrors



theorem test_LinkAndMemoryErrors_hypotheses :
    (let speed : Nat := 5
     let width : Nat := 8
     let link : Prop := 3 ≤ speed ∧ speed ≤ 5 ∧ (width = 1 ∨ width = 2 ∨ width = 4 ∨ width = 8)
     (link)) ∧
    (let speed : Nat := 5
     let width : Nat := 3
     let link : Prop := 3 ≤ speed ∧ speed ≤ 5 ∧ (width = 1 ∨ width = 2 ∨ width = 4 ∨ width = 8)
     (¬ link)) ∧
    (let s : State := runS 3 id [(Reg.BUS_ELOG, 2^63), (Reg.BUS_ELOG_CNT, 2^32-1)]
     let m : Master := 5
     let p : PodId := 3
     (m.val = p.val + 2) ∧ (s.podRuns p = true)) ∧
    (let s : State := put []
     let m : Master := 11
     let early : Prop := m = 11 ∧ s.fld Reg.PWR_BOOT Reg.PWR_BOOT_STAGE < 4
     (early)) ∧
    (let s : State := put [(Reg.PWR_BOOT, 0x400)]
     let m : Master := 11
     let early : Prop := m = 11 ∧ s.fld Reg.PWR_BOOT Reg.PWR_BOOT_STAGE < 4
     (¬ early)) ∧
    (let mem : Fin 4 := 0
     (mem.val < 2)) ∧
    (let s : State := runS 3 id [(Reg.BUS_ELOG, 2^63), (Reg.BUS_ELOG_CNT, 2^32-1)]
     let m : Master := 5
     let p : PodId := 3
     let mem : Fin 4 := 1
     (m.val = p.val + 2) ∧ (s.podRuns p = true) ∧ (mem ≠ 3)) :=
  by decide +kernel

end LinkAndMemoryErrors

namespace MacConfiguration

def qs : QbvSet := ⟨[(3, 500000), (4, 500000)], -10^30, 1000000⟩
def withQ (s : State) (f : PortState → PortState) : State := s.modPort 3 f

theorem test_MacConfiguration_hypotheses :
    (let s : State := State.reset
     let m : Master := 0
     let p : PortId := 3
     let data : Nat := 5 * 2^24 + 2^18 * 2 + 1
     let g (f : Fld) : Nat := getBits data f.lo f.len
     let cfg := Reg.MAC_PORT_CFG p
     let ok := modeOk p (g Reg.MAC_PORT_CFG_SPEED) (g Reg.MAC_PORT_CFG_ENC) (g Reg.MAC_PORT_CFG_FEC)
     let half := p = 8 ∧ g Reg.MAC_PORT_CFG_DUPLEX = 1
     (MayPost s m cfg) ∧ (ok = true) ∧ (s.portEn p = false) ∧ (¬ half)) ∧
    (let s : State := withQ (ticking State.reset) (fun q => {q with pend := some qs, goTick := 0})
     let m : Master := 11
     let p : PortId := 3
     let data : Nat := 2 * 65536 + 3
     let g (f : Fld) : Nat := getBits data f.lo f.len
     let cfg := Reg.MAC_PORT_CFG p
     let ok := modeOk p (g Reg.MAC_PORT_CFG_SPEED) (g Reg.MAC_PORT_CFG_ENC) (g Reg.MAC_PORT_CFG_FEC)
     (MayPost s m cfg) ∧ (ok = false)) ∧
    (let s : State := withQ (ticking State.reset) (fun q => {q with pend := some qs, goTick := 0})
     let m : Master := 11
     let j : Fin 8 := 3
     let qa := Reg.MAC_QBV_CTRL j
     let qst := Reg.MAC_QBV_STATUS j
     (MayPost s m qa) ∧ (s.fld qst Reg.MAC_QBV_STATUS_PENDING = 0)) ∧
    (let s : State := put [(Reg.MAC_QBV_STATUS 3, 2)]
     let m : Master := 11
     let j : Fin 8 := 3
     let data : Nat := 2 * 65536 + 3
     let g (f : Fld) : Nat := getBits data f.lo f.len
     let qa := Reg.MAC_QBV_CTRL j
     let qst := Reg.MAC_QBV_STATUS j
     (MayPost s m qa) ∧ (s.fld qst Reg.MAC_QBV_STATUS_PENDING = 1) ∧ (g Reg.MAC_QBV_CTRL_LEN ≠ s.fld qa Reg.MAC_QBV_CTRL_LEN)) ∧
    (let s : State := withQ (ticking State.reset) (fun q => {q with pend := some qs, goTick := 0})
     let j : Fin 8 := 3
     let t : Nat := 3000000
     let q : QbvSet := qs
     let u := s.at t
     let now := u.vcNow (u.qbvVc j)
     let start := now - (now - q.base) % (q.cyc * fuNs)
     ((s.port j).pend = some q) ∧ (q.base ≤ now) ∧ ((s.port j).goTick + 1250000 ≤ tickOf (u.vcSet (u.qbvVc j)) start)) ∧
    (let s : State := (withQ (ticking State.reset) (fun q => {q with oper := some qs, goTick := 0})).put [(Reg.MAC_QBV_CTRL 3, 1)]
     let j : Fin 8 := 3
     let t : Nat := 3000700
     let q : QbvSet := qs
     let u := s.at t
     (u.qbvNow j = some q) ∧ (q.gcl ≠ [])) ∧
    (let s : State := State.reset
     let m : Master := 0
     let data : Nat := 2^29 + 2 * 2^30
     let g (f : Fld) : Nat := getBits data f.lo f.len
     (MayPost s m Reg.MAC_MDIO) ∧ (g ⟨29, 1⟩ = 1 ∨ g ⟨30, 2⟩ = 1 ∨ g ⟨30, 2⟩ = 2)) ∧
    (let s : State := withQ (ticking State.reset) (fun q => {q with pend := some qs, goTick := 0})
     let m : Master := 11
     let data : Nat := 2 * 65536 + 3
     let g (f : Fld) : Nat := getBits data f.lo f.len
     (MayPost s m Reg.MAC_MDIO) ∧ (g ⟨29, 1⟩ = 0) ∧ (g ⟨30, 2⟩ = 0 ∨ g ⟨30, 2⟩ = 3)) ∧
    (let s : State := withQ State.reset (fun q => {q with tsq := [[1,2,3,4,5], [6]]})
     let m : Master := 0
     let p : PortId := 3
     let e : List Byte := [1,2,3,4,5]
     let rest : List (List Byte) := [[6]]
     (mayRead m (Reg.MAC_TSQ_ENTRY p) = true) ∧ (s.gated (Reg.MAC_TSQ_ENTRY p) = false) ∧ ((s.port p).tsq = e :: rest) ∧ ((s.port p).tsqLost = none)) :=
  by decide +kernel

end MacConfiguration

namespace MacDepartures

def x1 : TxItem := ⟨4, .pod 2 77, .raw [1,2,3], 64, 2, none, none, none, none, none, none, 3, 0⟩
def x2 : TxItem := ⟨4, .pod 2 77, .raw [1,2,3], 64, 2, none, none, none, some 9, none, none, 2, 0⟩
def withTx (s : State) (p : Nat) (l : List TxItem) (f : PortState → PortState := id) : State := s.modPort p (fun q => f { q with tx := l })
def u3 : State := (ticking State.reset).up 3
def prp : State := (((ticking State.reset).up 2).up 3).put [(Reg.MAC_PRP_CFG 1, 1)]
def hd : State := ((ticking State.reset).up 8).put [(Reg.MAC_PORT_CFG 8, 2^12+1)]

theorem test_MacDepartures_hypotheses :
    (let s : State := withTx u3 3 [x1]
     let p : PortId := 3
     let x : TxItem := x1
     let b : List Byte := [1,2,3]
     let k : Nat := 5
     let fine : Nat := 70000
     let u := s.at k
     let now := k * 65536 + fine % 65536
     let ready (p : Nat) (x : TxItem) (now : Nat) : Prop := (s.port p).tx = [x] ∧ x.tc ≤ 7 ∧ x.launch = none ∧ x.body = .raw b
      ∧ x.oneStep = none ∧ x.twoStep = none ∧ u.portUp p = true ∧ (s.port p).busy ≤ now ∧ tabGet 0 (s.port p).paused x.tc ≤ k
      ∧ x.ready ≤ k ∧ u.qbvNow p = none
     (ready p x now) ∧ (x.prp = none) ∧ (x.late = none)) ∧
    (let s : State := u3
     let p : PortId := 3
     ((s.port p).tx = [])) ∧
    (let s : State := withTx (withTx prp 2 [x2]) 3 [x2] (fun q => {q with busy := 10000000000})
     let p : PortId := 2
     let x : TxItem := x2
     let y : TxItem := x2
     let b : List Byte := [1,2,3]
     let n : Nat := 9
     let k : Nat := 5
     let fine : Nat := 7
     let u := s.at k
     let o := prpPeer p
     let now := k * 65536 + fine % 65536
     let ready (p : Nat) (x : TxItem) (now : Nat) : Prop := (s.port p).tx = [x] ∧ x.tc ≤ 7 ∧ x.launch = none ∧ x.body = .raw b
      ∧ x.oneStep = none ∧ x.twoStep = none ∧ u.portUp p = true ∧ (s.port p).busy ≤ now ∧ tabGet 0 (s.port p).paused x.tc ≤ k
      ∧ x.ready ≤ k ∧ u.qbvNow p = none
     (ready p x now) ∧ (u.prpOn p = true) ∧ (x.prp = some n) ∧ (u.portUp o = true) ∧ ((s.port o).tx = [y]) ∧ (y.id = x.id) ∧ (y.tc = x.tc) ∧ (y.launch = none) ∧ (now + psToPos 20000000 < (s.port o).busy)) ∧
    (let s : State := withTx hd 8 [x1]
     let x : TxItem := x1
     let b : List Byte := [1,2,3]
     let k : Nat := 5
     let u := s.at k
     let ready (p : Nat) (x : TxItem) (now : Nat) : Prop := (s.port p).tx = [x] ∧ x.tc ≤ 7 ∧ x.launch = none ∧ x.body = .raw b
      ∧ x.oneStep = none ∧ x.twoStep = none ∧ u.portUp p = true ∧ (s.port p).busy ≤ now ∧ tabGet 0 (s.port p).paused x.tc ≤ k
      ∧ x.ready ≤ k ∧ u.qbvNow p = none
     (ready 8 x (k * 65536)) ∧ (x.prp = none) ∧ (u.halfDuplex 8 = true) ∧ ((s.port 8).tries + 1 < 16)) ∧
    (let s : State := withTx hd 8 [x1]
     let x : TxItem := x1
     let b : List Byte := [1,2,3]
     let k : Nat := 5
     let u := s.at k
     let ready (p : Nat) (x : TxItem) (now : Nat) : Prop := (s.port p).tx = [x] ∧ x.tc ≤ 7 ∧ x.launch = none ∧ x.body = .raw b
      ∧ x.oneStep = none ∧ x.twoStep = none ∧ u.portUp p = true ∧ (s.port p).busy ≤ now ∧ tabGet 0 (s.port p).paused x.tc ≤ k
      ∧ x.ready ≤ k ∧ u.qbvNow p = none
     (ready 8 x (k * 65536)) ∧ (x.prp = none) ∧ (u.halfDuplex 8 = true)) ∧
    (let s : State := withTx hd 8 [x1] (fun q => {q with tries := 15})
     let x : TxItem := x1
     let b : List Byte := [1,2,3]
     let k : Nat := 5
     let u := s.at k
     let ready (p : Nat) (x : TxItem) (now : Nat) : Prop := (s.port p).tx = [x] ∧ x.tc ≤ 7 ∧ x.launch = none ∧ x.body = .raw b
      ∧ x.oneStep = none ∧ x.twoStep = none ∧ u.portUp p = true ∧ (s.port p).busy ≤ now ∧ tabGet 0 (s.port p).paused x.tc ≤ k
      ∧ x.ready ≤ k ∧ u.qbvNow p = none
     (ready 8 x (k * 65536)) ∧ (x.prp = none) ∧ (u.halfDuplex 8 = true) ∧ (16 ≤ (s.port 8).tries + 1)) :=
  by repeat' first | decide +kernel | apply And.intro

end MacDepartures

namespace MacFlowAndLinks

def u3 (l : List (Nat × Nat)) : State := ((ticking State.reset).up 3).put l
def rxs (n : Nat) (q : PortState) : PortState := {q with rx := [⟨0, 0, List.replicate n 0, zStamp, false⟩]}

theorem test_MacFlowAndLinks_hypotheses :
    (let s : State := (u3 [(Reg.MAC_FC 3, 1 + 100 * 65536), (Reg.MAC_FC_WM 3, 65536)]).modPort 3 (rxs 2000)
     let p : PortId := 3
     let prio : Fin 9 := 8
     let t : Nat := 50
     let u := s.at t
     let wm (f : Fld) : Nat := s.fld (Reg.MAC_FC_WM p) f * 1024
     let occ := (s.port p).occupancy prio
     let last := tabGet 0 (s.port p).pausing prio
     (u.flowOn p prio = true) ∧ (u.halfDuplex p = false) ∧ (last = 0) ∧ (wm Reg.MAC_FC_WM_HIGH < occ)) ∧
    (let s : State := (u3 [(Reg.MAC_FC 3, 1 + 100 * 65536), (Reg.MAC_FC_WM 3, 65536)]).modPort 3 (fun q => {rxs 2000 q with pausing := [(8, 1)]})
     let p : PortId := 3
     let prio : Fin 9 := 8
     let t : Nat := 5000000
     let u := s.at t
     let wm (f : Fld) : Nat := s.fld (Reg.MAC_FC_WM p) f * 1024
     let occ := (s.port p).occupancy prio
     let last := tabGet 0 (s.port p).pausing prio
     let wait := psToTicks (u.quanta p * 256 * u.portBit p)
     (u.flowOn p prio = true) ∧ (u.halfDuplex p = false) ∧ (last ≠ 0) ∧ (wm Reg.MAC_FC_WM_LOW < occ) ∧ (last - 1 + wait ≤ u.tkp.rawcnt)) ∧
    (let s : State := (u3 [(Reg.MAC_FC 3, 1 + 100 * 65536), (Reg.MAC_FC_WM 3, 65536+1)]).modPort 3 (fun q => {rxs 20 q with pausing := [(8, 1)], paused := [(1, 4), (2, 1000)]})
     let p : PortId := 3
     let prio : Fin 9 := 8
     let t : Nat := 500
     let u := s.at t
     let wm (f : Fld) : Nat := s.fld (Reg.MAC_FC_WM p) f * 1024
     let occ := (s.port p).occupancy prio
     let last := tabGet 0 (s.port p).pausing prio
     (u.flowOn p prio = true) ∧ (u.halfDuplex p = false) ∧ (last ≠ 0) ∧ (occ ≤ wm Reg.MAC_FC_WM_LOW)) ∧
    (let s : State := u3 []
     let p : PortId := 3
     (s.linkOn p = true) ∧ (s.portEn p = true)) ∧
    (let s : State := put [(Reg.MAC_PORT_STATUS 3, 1)]
     let p : PortId := 3
     (s.linkOn p = true) ∧ (s.portEn p = false)) ∧
    (let s : State := put [(Reg.MAC_PORT_STATUS 3, 0), (Reg.TWN_CFG, 1)]
     let p : PortId := 3
     (s.linkOn p = false)) ∧
    (let s : State := u3 []
     let lane : Fin 22 := 12
     let lanePort := if lane.val < 16 then lane.val / 4 else lane.val - 12
     (lane.val < 20) ∧ (s.portEn lanePort = true) ∧ (24 + lane.val ∈ s.laneSrcs lanePort)) ∧
    (let s : State := put [(Reg.MAC_PORT_STATUS 3, 0), (Reg.TWN_CFG, 1)]
     let lane : Fin 22 := 21
     (20 ≤ lane.val) ∧ (s.fld Reg.TWN_CFG Reg.TWN_CFG_EN = 1)) ∧
    (let s : State := put [(Reg.MAC_PORT_STATUS 3, 1)]
     let lane : Fin 22 := 21
     (20 ≤ lane.val) ∧ (s.fld Reg.TWN_CFG Reg.TWN_CFG_EN = 0)) :=
  by decide +kernel

end MacFlowAndLinks

namespace MacQueueing

def u3 : State := {((ticking State.reset).up 3) with hif := {State.reset.hif with mem := putBytes zeros [] 0x50 [1,2,3]}}
def prp : State := (((ticking State.reset).up 2).up 3).put [(Reg.MAC_PRP_CFG 1, 1 + 2000 * 16)]

theorem test_MacQueueing_hypotheses :
    (let s : State := u3.ready 7 4
     let q : Nat := 7
     let len : Nat := 100
     let tc : Nat := 7
     let flags : Nat := 0
     let p : PortId := 3
     let plain (s : State) (p : Nat) : Prop := s.portUp p = true ∧ s.qbvNow p = none ∧ (s.port p).tx = []
     (s.blocked q 4 = false) ∧ (tc ≤ 7) ∧ (flags = 0) ∧ (plain s p) ∧ (s.prpOn p = false) ∧ (max 64 len ≤ s.maxFrame p)) ∧
    (let s : State := u3.ready 7 4
     let q : Nat := 7
     let len : Nat := 20
     let tc : Nat := 7
     let flags : Nat := 1
     let p : PortId := 3
     let plain (s : State) (p : Nat) : Prop := s.portUp p = true ∧ s.qbvNow p = none ∧ (s.port p).tx = []
     (s.blocked q 4 = false) ∧ (tc ≤ 7) ∧ (flags = 1) ∧ (plain s p) ∧ (s.prpOn p = false) ∧ (max 64 len ≤ s.maxFrame p)) ∧
    (let s : State := State.reset.ready 7 4
     let q : Nat := 7
     let tc : Nat := 7
     let flags : Nat := 0
     let p : PortId := 3
     (s.blocked q 4 = false) ∧ (tc ≤ 7) ∧ (flags = 0) ∧ (s.portUp p = false) ∧ (s.prpOn p = false)) ∧
    (let s : State := u3.ready 7 4
     let q : Nat := 7
     let flags : Nat := 5
     (s.blocked q 4 = false) ∧ (flags % 2 = 1) ∧ (flags / 4 % 2 = 1)) ∧
    (let s : State := u3.ready 7 4
     let q : Nat := 7
     let flags : Nat := 2
     let launch : Nat := 2^63
     (s.blocked q 4 = false) ∧ (flags / 2 % 2 = 1) ∧ (gtRawOk launch = false)) ∧
    (let s : State := prp
     let t : Nat := 77
     let r : Fin 4 := 1
     let u := s.at t
     let e := 2 * r.val
     let life := s.fld (Reg.MAC_PRP_CFG r) Reg.MAC_PRP_CFG_LIFE * 1250000
     let due := (s.port e).supAt = 0 ∨ (s.port e).supAt - 1 + life ≤ u.tkp.rawcnt
     let plain (s : State) (p : Nat) : Prop := s.portUp p = true ∧ s.qbvNow p = none ∧ (s.port p).tx = []
     (plain u e) ∧ (plain u (e + 1)) ∧ (s.prpOn e = true) ∧ (life ≠ 0) ∧ (due)) ∧
    (let s : State := u3.ready 7 4
     let r : Fin 4 := 0
     let e := 2 * r.val
     let life := s.fld (Reg.MAC_PRP_CFG r) Reg.MAC_PRP_CFG_LIFE * 1250000
     (life = 0 ∨ s.prpOn e = false)) :=
  by decide +kernel

end MacQueueing

namespace MacReception

def bfr : List Byte := List.replicate 12 0xFF ++ [0x12, 0x34] ++ List.replicate 60 7
def ptpf : List Byte := List.replicate 12 0xFF ++ [0x88, 0xF7] ++ List.replicate 60 0
def pau : List Byte := [1, 0x80, 0xC2, 0, 0, 1] ++ List.replicate 6 9 ++ [0x88, 8, 0, 1, 0, 100] ++ List.replicate 50 0
def up3 : State := ((ticking State.reset).up 3).put [(Reg.MAC_FILT_FIX 3, 2^10), (Reg.MAC_FC 3, 16)]
def full : State := let s := ((ticking State.reset).up 8).put [(Reg.MAC_FILT_FIX 8, 2^10)]; { s with mac := { s.mac with port := tabSet PortState.reset s.mac.port 8 { PortState.reset with rx := List.replicate 66 ⟨0, 0, List.replicate 1000 0, zStamp, false⟩ } } }
def part : State := let s := ((ticking State.reset).up 7).put [(Reg.MAC_FILT_FIX 7, 2^10)]; { s with mac := { s.mac with port := tabSet PortState.reset s.mac.port 7 { PortState.reset with rx := List.replicate 490 ⟨0, 0, List.replicate 1000 0, zStamp, false⟩ } } }

theorem test_MacReception_hypotheses :
    (let s : State := State.reset
     let p : PortId := 3
     let k : Nat := 5
     let u := s.at k
     (u.portUp p = false)) ∧
    (let s : State := (ticking State.reset).up 3
     let p : PortId := 3
     let frame : List Byte := List.replicate 80 7
     let k : Nat := 5
     let u := s.at k
     let passes := u.filterPass p (beAt frame 0 6)
     (u.portUp p = true) ∧ (passes = false) ∧ (flowOp frame = none)) ∧
    (let s : State := up3
     let p : PortId := 3
     let frame : List Byte := bfr
     let fcsOk : Bool := false
     let k : Nat := 5
     let u := s.at k
     let passes := u.filterPass p (beAt frame 0 6)
     (u.portUp p = true) ∧ (passes = true) ∧ (fcsOk = false)) ∧
    (let s : State := up3
     let p : PortId := 3
     let frame : List Byte := bfr.take 40
     let fcsOk : Bool := true
     let k : Nat := 5
     let u := s.at k
     let n := frame.length + 4
     let passes := u.filterPass p (beAt frame 0 6)
     (u.portUp p = true) ∧ (passes = true) ∧ (fcsOk = true) ∧ (n < 64)) ∧
    (let s : State := up3
     let p : PortId := 3
     let frame : List Byte := List.replicate 2000 7
     let fcsOk : Bool := true
     let k : Nat := 5
     let u := s.at k
     let n := frame.length + 4
     let passes := u.filterPass p (beAt frame 0 6)
     (u.portUp p = true) ∧ (passes = true) ∧ (fcsOk = true) ∧ (64 ≤ n) ∧ (u.maxFrame p < n)) ∧
    (let s : State := up3
     let p : PortId := 3
     let frame : List Byte := pau
     let fcsOk : Bool := true
     let k : Nat := 5
     let u := s.at k
     let n := frame.length + 4
     (u.portUp p = true) ∧ (flowOp frame = some 1) ∧ (fcsOk = true) ∧ (64 ≤ n) ∧ (n ≤ u.maxFrame p) ∧ (u.fld (Reg.MAC_FC p) Reg.MAC_FC_RXHONOR = 1)) ∧
    (let s : State := up3
     let p : PortId := 3
     let frame : List Byte := ptpf
     let fcsOk : Bool := true
     let k : Nat := 5
     let u := s.at k
     let n := frame.length + 4
     let passes := u.filterPass p (beAt frame 0 6)
     let cls := u.classify p frame
     let open_ : Prop := (u.port p).held false + n ≤ (ingressSize p).1 - (ingressSize p).2
     let taken : Prop := u.portUp p = true ∧ passes = true ∧ flowOp frame = none ∧ fcsOk = true ∧ 64 ≤ n ∧ n ≤ u.maxFrame p
      ∧ badCsum cls frame = false ∧ u.prpOn p = false
     (taken) ∧ (cls < 4) ∧ (open_)) ∧
    (let s : State := part
     let p : PortId := 7
     let frame : List Byte := ptpf
     let fcsOk : Bool := true
     let k : Nat := 5
     let u := s.at k
     let n := frame.length + 4
     let passes := u.filterPass p (beAt frame 0 6)
     let cls := u.classify p frame
     let open_ : Prop := (u.port p).held false + n ≤ (ingressSize p).1 - (ingressSize p).2
     let kept : Prop := cls = 0 ∧ (u.port p).held true + n ≤ (ingressSize p).2
     let taken : Prop := u.portUp p = true ∧ passes = true ∧ flowOp frame = none ∧ fcsOk = true ∧ 64 ≤ n ∧ n ≤ u.maxFrame p
      ∧ badCsum cls frame = false ∧ u.prpOn p = false
     (taken) ∧ (cls < 4) ∧ (¬ open_) ∧ (kept)) ∧
    (let s : State := full
     let p : PortId := 8
     let frame : List Byte := ptpf
     let fcsOk : Bool := true
     let k : Nat := 5
     let u := s.at k
     let n := frame.length + 4
     let passes := u.filterPass p (beAt frame 0 6)
     let cls := u.classify p frame
     let open_ : Prop := (u.port p).held false + n ≤ (ingressSize p).1 - (ingressSize p).2
     let kept : Prop := cls = 0 ∧ (u.port p).held true + n ≤ (ingressSize p).2
     let taken : Prop := u.portUp p = true ∧ passes = true ∧ flowOp frame = none ∧ fcsOk = true ∧ 64 ≤ n ∧ n ≤ u.maxFrame p
      ∧ badCsum cls frame = false ∧ u.prpOn p = false
     (taken) ∧ (cls < 4) ∧ (¬ open_) ∧ (¬ kept)) ∧
    (let s : State := {up3 with hif := {up3.hif with bufs := [0x100, 0x200]}}
     let p : PortId := 3
     let frame : List Byte := bfr
     let fcsOk : Bool := true
     let k : Nat := 5
     let b : Nat := 0x100
     let rest : List Nat := [0x200]
     let u := s.at k
     let n := frame.length + 4
     let passes := u.filterPass p (beAt frame 0 6)
     let cls := u.classify p frame
     let taken : Prop := u.portUp p = true ∧ passes = true ∧ flowOp frame = none ∧ fcsOk = true ∧ 64 ≤ n ∧ n ≤ u.maxFrame p
      ∧ badCsum cls frame = false ∧ u.prpOn p = false
     (taken) ∧ (4 ≤ cls) ∧ (s.hif.bufs = b :: rest)) ∧
    (let s : State := up3
     let p : PortId := 3
     let frame : List Byte := bfr
     let fcsOk : Bool := true
     let k : Nat := 5
     let u := s.at k
     let n := frame.length + 4
     let passes := u.filterPass p (beAt frame 0 6)
     let cls := u.classify p frame
     let taken : Prop := u.portUp p = true ∧ passes = true ∧ flowOp frame = none ∧ fcsOk = true ∧ 64 ≤ n ∧ n ≤ u.maxFrame p
      ∧ badCsum cls frame = false ∧ u.prpOn p = false
     (taken) ∧ (4 ≤ cls) ∧ (s.hif.bufs = [])) :=
  by repeat' first | decide +kernel | apply And.intro

end MacReception

namespace OnionRecords

def bs (f : BoundState → BoundState) (l : List (Nat × Nat) := []) : State := let s := (((ticking State.reset).ring 1).put l); {s with bound := f s.bound}

theorem test_OnionRecords_hypotheses :
    (let s : State := bs (fun b => {b with inputs := [.src 5 6 1 8], bo := 9}) [(Reg.TKP_VC_STATUS 0, 2^30+3)]
     let k : Nat := 1268750000
     let u := s.at k
     let n := u.vcNow 0 / (10000000 * fuNs)
     let due : Prop := s.tbRuns = true ∧ s.bound.span ≠ some n
     (due)) ∧
    (let s : State := bs (fun b => {b with inputs := [.src 5 6 1 8], bo := 9}) [(Reg.TKP_VC_STATUS 0, 2^30+3)]
     let k : Nat := 1268750000
     let l0 : Nat := 5
     let l1 : Nat := 6
     let fl : Nat := 1
     let src : Nat := 8
     let u := s.at k
     let n := u.vcNow 0 / (10000000 * fuNs)
     let due : Prop := s.tbRuns = true ∧ s.bound.span ≠ some n
     (due) ∧ (s.bound.inputs = [.src l0 l1 fl src])) ∧
    (let s : State := bs (fun b => {b with inputs := [.buildOut 5 8], bo := 9}) [(Reg.TKP_VC_STATUS 0, 2^30+3)]
     let k : Nat := 1268750000
     let l0 : Nat := 5
     let src : Nat := 8
     let u := s.at k
     let n := u.vcNow 0 / (10000000 * fuNs)
     let due : Prop := s.tbRuns = true ∧ s.bound.span ≠ some n
     (due) ∧ (s.bound.inputs = [.buildOut l0 src])) ∧
    (let s : State := bs (fun b => {b with span := some 101}) [(Reg.TKP_VC_STATUS 0, 2^30+3)]
     let k : Nat := 1268750000
     let u := s.at k
     let n := u.vcNow 0 / (10000000 * fuNs)
     let due : Prop := s.tbRuns = true ∧ s.bound.span ≠ some n
     (¬ due)) ∧
    (let s : State := bs (fun b => {b with inputs := [.src 5 6 1 8], bo := 9}) [(Reg.TKP_VC_STATUS 0, 2^30+3)]
     let m : Master := 0
     let data : Nat := 0x11F
     let point : Nat := 31
     let may : Prop := MayPost s m Reg.ONION_LATCH
     (may) ∧ (data % 32 = point) ∧ (point < 19 ∨ point = 31) ∧ (data / 256 % 2 = 1)) ∧
    (let s : State := bs (fun b => {b with span := some 101}) [(Reg.TKP_VC_STATUS 0, 2^30+3)]
     let m : Master := 0
     let data : Nat := 0x012
     let may : Prop := MayPost s m Reg.ONION_LATCH
     (may) ∧ (data / 256 % 2 = 0)) ∧
    (let s : State := bs (fun b => {b with span := some 101}) [(Reg.TKP_VC_STATUS 0, 2^30+3)]
     let m : Master := 0
     let j : PointId := 3
     (MayPost s m (Reg.ONION_L4 j))) :=
  by decide +kernel

end OnionRecords

namespace PodLoads

def hdr0 : List Byte := natLe 4 0x314E4946 ++ natLe 2 1 ++ natLe 2 0 ++ natLe 4 (64+8+16+4) ++ natLe 4 2 ++ natLe 4 16 ++ natLe 4 1 ++ natLe 4 3 ++ [1, 0] ++ natLe 2 0x0B02 ++ natLe 4 77 ++ natLe 4 88 ++ List.replicate 20 0
def hdr : List Byte := hdr0 ++ natLe 4 (crc32c hdr0)
def bod : List Byte := (List.range 24).map (BitVec.ofNat 8 ·)
def image : List Byte := hdr ++ bod ++ natLe 4 (crc32c bod)
def rq (src : LoadSource) : LoadReq := ⟨9, src, 3, 1, 0, 0⟩
def ld (src : LoadSource) : State := let s := (put [(Reg.POD_STATUS 2, 1)]).modPod 2 (fun q => {q with load := some (rq src)}); {s with hif := {s.hif with mem := putBytes zeros [] 0x1000 image}}

theorem test_PodLoads_hypotheses :
    (let s : State := State.reset.ready 9 0x100
     let q : Nat := 9
     let p : PodId := 2
     let src : LoadSource := .rom
     let free : Prop := s.podSt p = 0 ∧ (src = .rom → p.val < 5 ∧ s.vcOthers p (residentCap p).2 = false)
     (Starts s q 0x100) ∧ (free)) ∧
    (let s : State := (put [(Reg.POD_STATUS 2, 2)]).ready 9 0x100
     let q : Nat := 9
     let p : PodId := 2
     let src : LoadSource := .rom
     let free : Prop := s.podSt p = 0 ∧ (src = .rom → p.val < 5 ∧ s.vcOthers p (residentCap p).2 = false)
     (Starts s q 0x100) ∧ (¬ free)) ∧
    (let s : State := ld .rom
     let p : PodId := 2
     let r : LoadReq := rq .rom
     let loading : Prop := (s.pod p).load = some r ∧ s.podSt p = 1
     let late : Prop := r.tick + 50000 * ticksPerUs < s.tkp.rawcnt
     (loading) ∧ (¬ late) ∧ (r.src = .rom) ∧ (p.val < 5)) ∧
    (let s : State := ld (.host 0x1000 image.length)
     let a : Nat := 0x1000
     let len : Nat := image.length
     let p : PodId := 2
     let r : LoadReq := rq (.host 0x1000 image.length)
     let h := s.loadBytes (.host a len) 0 64
     let n (off k : Nat) : Nat := leNat ((h.drop off).take k)
     let words := n 0x0C 4
     let data := n 0x10 4
     let body := s.loadBytes (.host a len) 64 (4 * words + data)
     let good : Prop := 64 ≤ len ∧ n 0 4 = 0x314E4946 ∧ n 4 2 = 1 ∧ crc32c (h.take 60) = n 60 4 ∧ hdrSizesOk h len = true
      ∧ n 0x1E 2 = 0x0B02 ∧ n 0x18 4 &&& r.cap = n 0x18 4 ∧ n 0x1C 1 &&& r.vc = n 0x1C 1 ∧ r.cap < 2 ^ 16
      ∧ (r.cap / 16 % 2 = 1 → p = 1) ∧ s.vcOthers p (r.vc % 256) = false
      ∧ leNat (s.loadBytes (.host a len) (64 + 4 * words + data) 4) = crc32c body ∧ s.verifySlot = false
     let loading : Prop := (s.pod p).load = some r ∧ s.podSt p = 1
     let late : Prop := r.tick + 50000 * ticksPerUs < s.tkp.rawcnt
     (loading) ∧ (¬ late) ∧ (r.src = .host a len) ∧ (good)) ∧
    (let s : State := ld (.host 0x1000 60)
     let a : Nat := 0x1000
     let len : Nat := 60
     let p : PodId := 2
     let r : LoadReq := rq (.host 0x1000 60)
     let h := s.loadBytes (.host a len) 0 64
     let n (off k : Nat) : Nat := leNat ((h.drop off).take k)
     let loading : Prop := (s.pod p).load = some r ∧ s.podSt p = 1
     (loading) ∧ (r.src = .host a len) ∧ (len < 64 ∨ n 0 4 ≠ 0x314E4946 ∨ n 4 2 ≠ 1)) ∧
    (let s : State := (ticking (ld .rom)).at 62500001
     let p : PodId := 2
     let r : LoadReq := rq .rom
     let loading : Prop := (s.pod p).load = some r ∧ s.podSt p = 1
     let late : Prop := r.tick + 50000 * ticksPerUs < s.tkp.rawcnt
     (loading) ∧ (late)) ∧
    (let s : State := ld (.host 0x1000 image.length)
     let p : PodId := 2
     let r : LoadReq := rq (.host 0x1000 image.length)
     let loading : Prop := (s.pod p).load = some r ∧ s.podSt p = 1
     (loading)) :=
  by decide +kernel

end PodLoads

namespace PodParametersAndMessages

def ent : MboxEntry := ⟨4, 9, 3, List.replicate 24 5, 0⟩
def rr (f : PodState → PodState) (res : Nat) (op : Nat) : State := ((put [(Reg.POD_STATUS 1, 2 + res)]).modPod 1 f).ready 9 op

theorem test_PodParametersAndMessages_hypotheses :
    (let s : State := rr id 64 0x104
     let q : Nat := 9
     let id : Nat := 0x101
     let val : Nat := 3600
     let p : PodId := 1
     let x := s.pod p
     let v := val % 2 ^ 64
     let room := x.param = none ∧ x.mbox.length < 32
     (Starts s q 0x104) ∧ (room) ∧ (s.runsResident p = true) ∧ (id / 256 = p) ∧ (s.paramCheck id v = 0)) ∧
    (let s : State := rr id 64 0x104
     let q : Nat := 9
     let id : Nat := 0x10B
     let val : Nat := 2^63
     let p : PodId := 1
     let x := s.pod p
     let v := val % 2 ^ 64
     let room := x.param = none ∧ x.mbox.length < 32
     (Starts s q 0x104) ∧ (room) ∧ (s.runsResident p = true) ∧ (id / 256 = p) ∧ (s.paramCheck id v ≠ 0)) ∧
    (let s : State := rr id 0 0x104
     let q : Nat := 9
     let p : PodId := 1
     let x := s.pod p
     let room := x.param = none ∧ x.mbox.length < 32
     (Starts s q 0x104) ∧ (room) ∧ (s.runsResident p = false)) ∧
    (let s : State := rr (fun q => {q with mbox := List.replicate 32 ent}) 0 0x104
     let q : Nat := 9
     let p : PodId := 1
     let x := s.pod p
     (Starts s q 0x104) ∧ (x.param = none) ∧ (32 ≤ x.mbox.length)) ∧
    (let s : State := rr (fun q => {q with param := some ⟨9, 0x10B, 77⟩}) 0 0x104
     let p : PodId := 1
     let r : ParamPend := ⟨9, 0x10B, 77⟩
     let x := s.pod p
     (x.param = some r)) ∧
    (let s : State := rr (fun q => {q with mbox := List.replicate 31 ent, alive := [(8, 255)]}) 0 0x105
     let q : Nat := 9
     let p : PodId := 1
     let payload : List Byte := List.replicate 24 8
     let x := s.pod p
     (Starts s q 0x105) ∧ (payload.length = 24) ∧ (x.mbox.length < 32)) ∧
    (let s : State := rr (fun q => {q with mbox := List.replicate 32 ent}) 0 0x105
     let q : Nat := 9
     let p : PodId := 1
     let payload : List Byte := List.replicate 24 8
     let x := s.pod p
     (Starts s q 0x105) ∧ (payload.length = 24) ∧ (32 ≤ x.mbox.length)) :=
  by decide +kernel

end PodParametersAndMessages

namespace PodRunsAndStops

def st0 (l : List (Nat × Nat)) (op : Nat) (f : PodState → PodState := id) : State := ((put l).modPod 2 (fun q => f {q with image := some img})).ready 9 op

theorem test_PodRunsAndStops_hypotheses :
    (let s : State := st0 [] 0x101
     let q : Nat := 9
     let p : PodId := 2
     let i : ImageInfo := img
     let x := s.pod p
     (Starts s q 0x101) ∧ (s.podSt p = 0) ∧ (x.image = some i)) ∧
    (let s : State := st0 [(Reg.POD_STATUS 2, 2)] 0x101
     let q : Nat := 9
     let p : PodId := 2
     let x := s.pod p
     (Starts s q 0x101) ∧ (s.podSt p ≠ 0 ∨ x.image = none)) ∧
    (let s : State := {st0 [(Reg.POD_STATUS 2, 2)] 0x102 (fun q => {q with acts := [{ zAct with kind := 2 }], wait := some ⟨.event 1 1, 5, 0⟩}) with tdc := {State.reset.tdc with chan := [(3, {ChanState.reset with owner := 3})]}}
     let q : Nat := 9
     let p : PodId := 2
     (Starts s q 0x102) ∧ (s.podSt p = 2 ∨ s.podSt p = 3)) ∧
    (let s : State := st0 [] 0x102
     let q : Nat := 9
     let p : PodId := 2
     (Starts s q 0x102) ∧ (s.podSt p ≠ 2) ∧ (s.podSt p ≠ 3)) ∧
    (let s : State := st0 [(Reg.POD_STATUS 2, 2)] 0x103
     let q : Nat := 9
     (Starts s q 0x103)) ∧
    (let s : State := ticking (runS 2 (fun q => {q with wdog := 5}))
     let p : PodId := 2
     let x := s.pod p
     (s.podRuns p = true) ∧ (x.wdog ≠ 0) ∧ (s.tbRuns = true ∨ s.wdogDue p = true)) ∧
    (let s : State := st0 [] 0x101
     let p : PodId := 2
     let x := s.pod p
     (s.podRuns p = false ∨ x.wdog = 0)) ∧
    (let s : State := runS 2 id |>.ready 9 0x106
     let q : Nat := 9
     (Starts s q 0x106)) :=
  by decide +kernel

end PodRunsAndStops

namespace PodWindow



theorem test_PodWindow_hypotheses :
    (let s : State := State.reset
     let m : Master := 0
     let p : PodId := 2
     let off : Nat := 0xFFF8
     let size : Nat := 8
     let a (dmem : Bool) : Nat := 0x40400000 + p.val * 0x40000 + (if dmem then 0x10000 else 0) + off
     let fits : Prop := (size = 4 ∨ size = 8) ∧ off % size = 0 ∧ off + size ≤ 0x10000
     (mayWrite m (a true) = true) ∧ (fits) ∧ (s.podSt p = 0)) ∧
    (let s : State := State.reset
     let m : Master := 0
     let p : PodId := 2
     let off : Nat := 0xFFF8
     let size : Nat := 8
     let a (dmem : Bool) : Nat := 0x40400000 + p.val * 0x40000 + (if dmem then 0x10000 else 0) + off
     let fits : Prop := (size = 4 ∨ size = 8) ∧ off % size = 0 ∧ off + size ≤ 0x10000
     (mayWrite m (a false) = true) ∧ (fits) ∧ (s.podSt p = 0)) ∧
    (let s : State := runS 2 id
     let m : Master := 0
     let p : PodId := 2
     let data : Nat := 0x1122334455667788
     let x := min 10000000 (data % 2 ^ 24)
     (MayWrite s m (Reg.POD_WDOG p)) ∧ (x ≠ 0 ∨ s.resident p = false)) ∧
    (let s : State := {put [(Reg.POD_STATUS 2, 2 + 64)] with free := 0}
     let m : Master := 0
     let p : PodId := 2
     let data : Nat := 0
     let x := min 10000000 (data % 2 ^ 24)
     (MayWrite s m (Reg.POD_WDOG p)) ∧ (x = 0) ∧ (s.resident p = true)) ∧
    (let s : State := runS 2 id
     let m : Master := 0
     let p : PodId := 2
     let off : Nat := 0xFFFC
     let size : Nat := 4
     let a (dmem : Bool) : Nat := 0x40400000 + p.val * 0x40000 + (if dmem then 0x10000 else 0) + off
     let fits : Prop := (size = 4 ∨ size = 8) ∧ off % size = 0 ∧ off + size ≤ 0x10000
     (mayWrite m (a true) = true) ∧ (fits) ∧ (s.podSt p ≠ 0)) ∧
    (let m : Master := 0
     let p : PodId := 2
     let off : Nat := 0xFFFD
     let size : Nat := 4
     let a (dmem : Bool) : Nat := 0x40400000 + p.val * 0x40000 + (if dmem then 0x10000 else 0) + off
     (mayWrite m (a true) = true) ∧ (size = 4 ∨ size = 8) ∧ (off % size ≠ 0)) ∧
    (let m : Master := 4
     let p : PodId := 2
     let off : Nat := 0xFFFD
     let a (dmem : Bool) : Nat := 0x40400000 + p.val * 0x40000 + (if dmem then 0x10000 else 0) + off
     (mayWrite m (a true) = false)) :=
  by decide +kernel

end PodWindow

namespace PowerAndStart

def up (l : List (Nat × Nat)) : State := let s := (((ticking State.reset).ring 1).ring 2).put ([(Reg.POD_STATUS 0, 2 + 2^Reg.POD_STATUS_RESIDENT.lo), (Reg.ENS_HOLD, 2^Reg.ENS_HOLD_FREEZE.lo), (Reg.PWR_BOOT, 0x400)] ++ l); {s with clk := {s.clk with starting := false}}
def rq : MramReq := ⟨0x50, .nums [1,2], [(33, 0x500, [5])]⟩
def env : BootEnv := ⟨true, true, true, true, true, true, true, 4, 4, 0x5, false, [], [3]⟩
def cold (f : ClkState → ClkState) (l : List (Nat × Nat) := []) : State := let s := put l; {s with clk := f s.clk}

theorem test_PowerAndStart_hypotheses :
    (let s : State := up []
     let rail : Fin 3 := 1
     let warned (t : State) : Prop := t.railWarned rail = true
     (s.clk.up = true) ∧ (¬ warned s)) ∧
    (let s : State := cold (fun c => {c with starting := false}) [(Reg.TKP_VC_OFFSET 3, 77)]
     let rail : Fin 3 := 0
     let warned (t : State) : Prop := t.railWarned rail = true
     (s.clk.up = false ∨ warned s)) ∧
    (let s : State := up [(Reg.PWR_STATUS, 2), (Reg.PWR_DIPCNT, 0xFF00)]
     let rail : Fin 3 := 1
     let warned (t : State) : Prop := t.railWarned rail = true
     (warned s)) ∧
    (let s : State := cold (fun c => {c with starting := false}) [(Reg.TKP_VC_OFFSET 3, 77)]
     let rail : Fin 3 := 0
     let warned (t : State) : Prop := t.railWarned rail = true
     (¬ warned s)) ∧
    (let temp : Int := -50
     (tempOut temp = true)) ∧
    (let temp : Int := 0
     (tempOut temp = false)) ∧
    (let s : State := let s := up [(Reg.PWR_STATUS, 8)]; {s with mram := {s.mram with queue := [rq]}, hif := {s.hif with accepted := [⟨33, 0x500, false, 0, 0, false⟩]}}
     let r : MramReq := rq
     let rest : List MramReq := []
     let x := (s.mramPair r.rid).inForce
     let writes : Prop := s.mramStarted = true ∧ s.mram.queue = r :: rest
     (writes) ∧ ((∀ y ∈ x, y.1 < 2 ^ 32))) ∧
    (let s : State := let s := up [(Reg.PWR_STATUS, 8)]; {s with mram := {s.mram with queue := [rq]}, hif := {s.hif with accepted := [⟨33, 0x500, false, 0, 0, false⟩]}}
     let r : MramReq := rq
     let rest : List MramReq := []
     let writes : Prop := s.mramStarted = true ∧ s.mram.queue = r :: rest
     (writes)) ∧
    (let s : State := cold (fun c => {c with starting := false}) [(Reg.TKP_VC_OFFSET 3, 77)]
     (s.mramStarted = false ∨ s.mram.queue = [])) ∧
    (let s : State := cold id
     let env : BootEnv := env
     let waits : Prop := s.clk.starting = true ∧ s.clk.tamper = false ∧ env.test = false
     let good : Prop := env.rom = true ∧ env.lo = true ∧ env.tbp = true ∧ env.mram = true ∧ env.rbg = true ∧ env.train = true
      ∧ 4 ≤ min 16 env.dram0 + min 16 env.dram1
     (waits) ∧ (good) ∧ (s.startKind ≠ 2) ∧ (s.vault ≠ 3)) ∧
    (let s : State := cold id
     let env : BootEnv := {env with rom := false}
     let waits : Prop := s.clk.starting = true ∧ s.clk.tamper = false ∧ env.test = false
     (waits) ∧ (env.rom = false)) ∧
    (let s : State := cold id
     let env : BootEnv := {env with lo := false}
     let waits : Prop := s.clk.starting = true ∧ s.clk.tamper = false ∧ env.test = false
     (waits) ∧ (env.rom = true) ∧ (s.startKind = 0) ∧ (env.lo = false)) ∧
    (let s : State := cold id
     let env : BootEnv := {env with tbp := false}
     let waits : Prop := s.clk.starting = true ∧ s.clk.tamper = false ∧ env.test = false
     (waits) ∧ (env.rom = true) ∧ (s.startKind ≠ 2) ∧ (env.lo = true) ∧ (env.tbp = false)) ∧
    (let s : State := cold id
     let env : BootEnv := {env with test := true}
     (s.clk.starting = true) ∧ (env.test = true)) ∧
    (let s : State := cold (fun c => {c with tamper := true})
     let env : BootEnv := {env with tbp := false}
     (s.clk.starting = true) ∧ (env.test = false) ∧ (s.clk.tamper = true)) ∧
    (let s : State := cold (fun c => {c with starting := false}) [(Reg.TKP_VC_OFFSET 3, 77)]
     (s.clk.starting = false)) ∧
    (let s : State := cold (fun c => {c with starting := false}) [(Reg.TKP_VC_OFFSET 3, 77)]
     let a : Nat := Reg.TKP_VC_OFFSET 3
     let m1 : Nat := 0xFF0
     let mask : Nat := 2^128 - 1
     let src : Nat := 71
     let once : Prop := s.upset1 = [] ∧ s.upset2 = [] ∧ triplicated a = some (mask, src) ∧ m1 &&& mask ≠ 0
     (once)) ∧
    (let s : State := cold (fun c => {c with starting := false}) [(Reg.TKP_VC_OFFSET 3, 77)]
     (s.upset1 = []) ∧ (s.upset2 = [])) :=
  by decide +kernel

end PowerAndStart

namespace PtpCommands

def rc (a : PtpArgs) : PtpCfg := (ptpResolve a).getD zCfg
def cM : PtpCfg := rc {}
def cU : PtpCfg := rc {mode := some 1}
def cS : PtpCfg := rc {role := some 1}
def cSU : PtpCfg := rc {role := some 1, mode := some 1}
def cP : PtpCfg := rc {role := some 1, profile := some 1}
def cA : PtpCfg := rc {auth := some 2, authSlot := some 5}
def cN : PtpCfg := rc {masterOnly := some 0}
def pt (i : Nat) (c : PtpCfg) (st : Nat) (f : PtpInst → PtpInst := id) (l : List (Nat × Nat) := []) : State :=
  (((ticking State.reset).up 0).put ([(Reg.PTP_INST_STAT i, st)] ++ l)).modInst i (fun x => f {x with cfg := some c})
def withG (g : List PtpGrant) (s : State) : State := {s with ptp := {s.ptp with grants := g}}
def gk : GrantKey := ⟨0, [1,2], 55, 2⟩
def gr : PtpGrant := ⟨2, gk, -3, 300, 0, 7, false, none⟩
def an : PtpAnnounce := ⟨37, 128, 128, 6, 0x21, 0x4E5D, 55, 0, 0x20⟩
def st0 : Stamp := ⟨1000, 5, [70000*800, 0,0,0,0,0,0,0], 255, false⟩
def it (cls : Nat) : RxItem := ⟨cls, 0, [1,2,3], st0, false⟩
def mg (type : Nat) (f : PtpMsg → PtpMsg := id) : PtpMsg := f ⟨type, 2, 1, 0, false, false, 0, 3, 55, 2, 9, 1, 10^9, 0, 0, none, [], none⟩
def rx (l : List RxItem) (s : State) : State := s.modPort 0 (fun p => {p with rx := l})
def fo : Foreign := ⟨55, 2, [1,2], an, 8, 1, some 4, [0, 0]⟩

theorem test_PtpCommands_hypotheses :
    (let s : State := (pt 2 cM 0).ready 7 0x300
     let q : Nat := 7
     let i : Nat := 9
     (Starts s q 0x0300) ∧ (8 ≤ i)) ∧
    (let s : State := (pt 2 cM 0).ready 7 0x301
     let q : Nat := 7
     let i : Nat := 9
     (Starts s q 0x0301) ∧ (8 ≤ i)) ∧
    (let s : State := (pt 2 cM 0).ready 7 0x300
     let q : Nat := 7
     let i : Nat := 2
     let args : PtpArgs := {domain := some 7, role := some 1}
     let c : PtpCfg := rc {domain := some 7, role := some 1}
     let st := s.instSt i
     let may (op : Nat) : Prop := Starts s q op ∧ i < 8
     (may 0x0300) ∧ (st = 0) ∧ (ptpResolve args = some c)) ∧
    (let s : State := (pt 2 cM 3).ready 7 0x300
     let q : Nat := 7
     let i : Nat := 2
     let args : PtpArgs := {domain := some 7}
     let st := s.instSt i
     let may (op : Nat) : Prop := Starts s q op ∧ i < 8
     (may 0x0300) ∧ (st ≠ 0 ∨ ptpResolve args = none)) ∧
    (let s : State := (pt 2 cM 0).ready 7 0x301
     let q : Nat := 7
     let i : Nat := 2
     let c : PtpCfg := cM
     let may (op : Nat) : Prop := Starts s q op ∧ i < 8
     let has : Prop := (s.inst i).cfg = some c
     let clash : Prop := ∃ j < 8, s.instSt j ≠ 0 ∧ ∃ d, (s.inst j).cfg = some d ∧ ptpConflict c d = true
     let full : Prop := syncStream c ≠ 0 ∧ s.rateFits c.port (syncStream c) = false
     let starts : Prop := may 0x0301 ∧ has ∧ ¬ clash ∧ ¬ full
     (starts) ∧ (s.instFault c = 0) ∧ (c.role = 0)) ∧
    (let s : State := (pt 2 cS 0).ready 7 0x301
     let q : Nat := 7
     let i : Nat := 2
     let c : PtpCfg := cS
     let may (op : Nat) : Prop := Starts s q op ∧ i < 8
     let has : Prop := (s.inst i).cfg = some c
     let clash : Prop := ∃ j < 8, s.instSt j ≠ 0 ∧ ∃ d, (s.inst j).cfg = some d ∧ ptpConflict c d = true
     let full : Prop := syncStream c ≠ 0 ∧ s.rateFits c.port (syncStream c) = false
     let starts : Prop := may 0x0301 ∧ has ∧ ¬ clash ∧ ¬ full
     (starts) ∧ (s.instFault c = 0) ∧ (c.role = 1) ∧ (c.mode = 0 ∨ (s.inst i).masters = [])) ∧
    (let s : State := (pt 2 {cM with port := 3} 0).ready 7 0x301
     let q : Nat := 7
     let i : Nat := 2
     let c : PtpCfg := {cM with port := 3}
     let may (op : Nat) : Prop := Starts s q op ∧ i < 8
     let has : Prop := (s.inst i).cfg = some c
     let clash : Prop := ∃ j < 8, s.instSt j ≠ 0 ∧ ∃ d, (s.inst j).cfg = some d ∧ ptpConflict c d = true
     let full : Prop := syncStream c ≠ 0 ∧ s.rateFits c.port (syncStream c) = false
     let starts : Prop := may 0x0301 ∧ has ∧ ¬ clash ∧ ¬ full
     (starts) ∧ (s.instFault c ≠ 0)) ∧
    (let s : State := (pt 2 cM 3).ready 7 0x301
     let q : Nat := 7
     let i : Nat := 2
     let c : PtpCfg := cM
     let may (op : Nat) : Prop := Starts s q op ∧ i < 8
     let has : Prop := (s.inst i).cfg = some c
     let clash : Prop := ∃ j < 8, s.instSt j ≠ 0 ∧ ∃ d, (s.inst j).cfg = some d ∧ ptpConflict c d = true
     let full : Prop := syncStream c ≠ 0 ∧ s.rateFits c.port (syncStream c) = false
     (may 0x0301) ∧ ((s.inst i).cfg = none ∨ (has ∧ (clash ∨ full)))) ∧
    (let s : State := withG [gr] ((pt 2 cM 3).ready 7 0x302)
     let q : Nat := 7
     let i : Nat := 2
     let c : PtpCfg := cM
     let may (op : Nat) : Prop := Starts s q op ∧ i < 8
     let has : Prop := (s.inst i).cfg = some c
     (may 0x0302) ∧ (has)) ∧
    (let s : State := (ticking State.reset).ready 7 0x302
     let q : Nat := 7
     let i : Nat := 2
     let may (op : Nat) : Prop := Starts s q op ∧ i < 8
     (may 0x0302) ∧ ((s.inst i).cfg = none)) ∧
    (let s : State := (pt 2 cSU 0).ready 7 0x303
     let q : Nat := 7
     let i : Nat := 2
     let c : PtpCfg := cSU
     let addrs : List (List Byte) := [[1],[2]]
     let st := s.instSt i
     let may (op : Nat) : Prop := Starts s q op ∧ i < 8
     let has : Prop := (s.inst i).cfg = some c
     (may 0x0303) ∧ (st = 0) ∧ (has) ∧ (c.role = 1) ∧ (addrs.length ≤ 8)) ∧
    (let s : State := (pt 2 cM 0).ready 7 0x303
     let q : Nat := 7
     let i : Nat := 2
     let c : PtpCfg := cM
     let addrs : List (List Byte) := [[1],[2]]
     let st := s.instSt i
     let may (op : Nat) : Prop := Starts s q op ∧ i < 8
     let has : Prop := (s.inst i).cfg = some c
     (may 0x0303) ∧ (st ≠ 0 ∨ (s.inst i).cfg = none ∨ (has ∧ (c.role ≠ 1 ∨ 8 < addrs.length)))) ∧
    (let s : State := withG [gr] ((pt 2 cU 3).ready 7 0x304)
     let q : Nat := 7
     let i : Nat := 2
     let c : PtpCfg := cU
     let key : GrantKey := gk
     let g : PtpGrant := gr
     let may (op : Nat) : Prop := Starts s q op ∧ i < 8
     let has : Prop := (s.inst i).cfg = some c
     (may 0x0304) ∧ (has) ∧ (s.grantOf i key = some g)) ∧
    (let s : State := withG [] ((pt 2 cU 3).ready 7 0x304)
     let q : Nat := 7
     let i : Nat := 2
     let key : GrantKey := gk
     let may (op : Nat) : Prop := Starts s q op ∧ i < 8
     (may 0x0304) ∧ (s.grantOf i key = none)) ∧
    (let s : State := (pt 2 cM 0).ready 7 0x305
     let q : Nat := 7
     (Starts s q 0x0305) ∧ ((∀ j < 8, s.instSt j = 0))) ∧
    (let s : State := (pt 2 cM 2).ready 7 0x305
     let q : Nat := 7
     (Starts s q 0x0305) ∧ ((∃ j < 8, s.instSt j ≠ 0))) ∧
    (let s : State := (pt 2 cM 2).ready 7 0x306
     let q : Nat := 7
     let i : Nat := 2
     let may (op : Nat) : Prop := Starts s q op ∧ i < 8
     (may 0x0306)) :=
  by repeat' first | decide +kernel | apply And.intro

end PtpCommands

namespace PtpMessages

def rc (a : PtpArgs) : PtpCfg := (ptpResolve a).getD zCfg
def cM : PtpCfg := rc {}
def cU : PtpCfg := rc {mode := some 1}
def cS : PtpCfg := rc {role := some 1}
def cSU : PtpCfg := rc {role := some 1, mode := some 1}
def cP : PtpCfg := rc {role := some 1, profile := some 1}
def cA : PtpCfg := rc {auth := some 2, authSlot := some 5}
def cN : PtpCfg := rc {masterOnly := some 0}
def pt (i : Nat) (c : PtpCfg) (st : Nat) (f : PtpInst → PtpInst := id) (l : List (Nat × Nat) := []) : State :=
  (((ticking State.reset).up 0).put ([(Reg.PTP_INST_STAT i, st)] ++ l)).modInst i (fun x => f {x with cfg := some c})
def withG (g : List PtpGrant) (s : State) : State := {s with ptp := {s.ptp with grants := g}}
def gk : GrantKey := ⟨0, [1,2], 55, 2⟩
def gr : PtpGrant := ⟨2, gk, -3, 300, 0, 7, false, none⟩
def an : PtpAnnounce := ⟨37, 128, 128, 6, 0x21, 0x4E5D, 55, 0, 0x20⟩
def st0 : Stamp := ⟨1000, 5, [70000*800, 0,0,0,0,0,0,0], 255, false⟩
def it (cls : Nat) : RxItem := ⟨cls, 0, [1,2,3], st0, false⟩
def mg (type : Nat) (f : PtpMsg → PtpMsg := id) : PtpMsg := f ⟨type, 2, 1, 0, false, false, 0, 3, 55, 2, 9, 1, 10^9, 0, 0, none, [], none⟩
def rx (l : List RxItem) (s : State) : State := s.modPort 0 (fun p => {p with rx := l})
def fo : Foreign := ⟨55, 2, [1,2], an, 8, 1, some 4, [0, 0]⟩

theorem test_PtpMessages_hypotheses :
    (let s : State := pt 2 cM 3 (fun x => {x with follow := [(mg 8, [], 77)]})
     let i : InstId := 2
     let k : Nat := 125000000
     let n : Int := 0
     let c : PtpCfg := cM
     let u := s.at k
     let now := u.instNow c
     let quiet : Prop := (∀ g ∈ s.ptp.grants, g.inst = i.val → now < g.time + g.dur * fuSec)
      ∧ ∀ f ∈ (s.inst i).foreign, now < f.times.headD 0 + c.annTimeout * logIval f.log
     let ready : Prop := (s.inst i).cfg = some c ∧ u.instFault c = 0 ∧ u.qbvNow c.port = none ∧ (s.port c.port).tx = [] ∧ quiet
     let live : Prop := ready ∧ c.auth = 0
     let master : Prop := live ∧ s.instSt i = 3
     (master) ∧ (c.mode ≠ 1) ∧ (u.ivalDue i 0 c c.logSync = some n)) ∧
    (let s : State := pt 2 cA 3
     let i : InstId := 2
     let k : Nat := 125000000
     let n : Int := 0
     let c : PtpCfg := cA
     let slot : Nat := 5
     let e : Nat := 4
     let u := s.at k
     let now := u.instNow c
     let quiet : Prop := (∀ g ∈ s.ptp.grants, g.inst = i.val → now < g.time + g.dur * fuSec)
      ∧ ∀ f ∈ (s.inst i).foreign, now < f.times.headD 0 + c.annTimeout * logIval f.log
     let ready : Prop := (s.inst i).cfg = some c ∧ u.instFault c = 0 ∧ u.qbvNow c.port = none ∧ (s.port c.port).tx = [] ∧ quiet
     (ready) ∧ (c.auth = 2) ∧ (s.instSt i = 3) ∧ (c.mode ≠ 1) ∧ (u.ivalDue i 0 c c.logSync = some n) ∧ (c.authSlot = some slot) ∧ (s.keyFor slot [ptpAuthUse] = .inl e)) ∧
    (let s : State := rx [it 1] (pt 2 cU 3)
     let i : InstId := 2
     let k : Nat := 125
     let c : PtpCfg := cU
     let u := s.at k
     let now := u.instNow c
     let quiet : Prop := (∀ g ∈ s.ptp.grants, g.inst = i.val → now < g.time + g.dur * fuSec)
      ∧ ∀ f ∈ (s.inst i).foreign, now < f.times.headD 0 + c.annTimeout * logIval f.log
     let ready : Prop := (s.inst i).cfg = some c ∧ u.instFault c = 0 ∧ u.qbvNow c.port = none ∧ (s.port c.port).tx = [] ∧ quiet
     let live : Prop := ready ∧ c.auth = 0
     let master : Prop := live ∧ s.instSt i = 3
     (master) ∧ (u.ivalDue i 0 c c.logSync = none ∨ c.mode = 1)) ∧
    (let s : State := pt 2 cM 3 (fun x => {x with follow := [(mg 8, [], 77)]})
     let i : InstId := 2
     let k : Nat := 125000000
     let n : Int := 0
     let c : PtpCfg := cM
     let u := s.at k
     let now := u.instNow c
     let quiet : Prop := (∀ g ∈ s.ptp.grants, g.inst = i.val → now < g.time + g.dur * fuSec)
      ∧ ∀ f ∈ (s.inst i).foreign, now < f.times.headD 0 + c.annTimeout * logIval f.log
     let ready : Prop := (s.inst i).cfg = some c ∧ u.instFault c = 0 ∧ u.qbvNow c.port = none ∧ (s.port c.port).tx = [] ∧ quiet
     let live : Prop := ready ∧ c.auth = 0
     let master : Prop := live ∧ s.instSt i = 3
     (master) ∧ (c.mode ≠ 1) ∧ (u.ivalDue i 11 c c.logAnnounce = some n)) ∧
    (let s : State := pt 2 cM 3 (fun x => {x with served := [(0, some 0), (11, some 0)]})
     let i : InstId := 2
     let k : Nat := 125000000
     let c : PtpCfg := cM
     let u := s.at k
     let now := u.instNow c
     let quiet : Prop := (∀ g ∈ s.ptp.grants, g.inst = i.val → now < g.time + g.dur * fuSec)
      ∧ ∀ f ∈ (s.inst i).foreign, now < f.times.headD 0 + c.annTimeout * logIval f.log
     let ready : Prop := (s.inst i).cfg = some c ∧ u.instFault c = 0 ∧ u.qbvNow c.port = none ∧ (s.port c.port).tx = [] ∧ quiet
     let live : Prop := ready ∧ c.auth = 0
     let master : Prop := live ∧ s.instSt i = 3
     (master) ∧ (u.ivalDue i 11 c c.logAnnounce = none)) ∧
    (let s : State := withG [gr] (pt 2 cU 3)
     let i : InstId := 2
     let k : Nat := 125000000
     let n : Int := 0
     let c : PtpCfg := cU
     let key : GrantKey := gk
     let g : PtpGrant := gr
     let u := s.at k
     let now := u.instNow c
     let quiet : Prop := (∀ g ∈ s.ptp.grants, g.inst = i.val → now < g.time + g.dur * fuSec)
      ∧ ∀ f ∈ (s.inst i).foreign, now < f.times.headD 0 + c.annTimeout * logIval f.log
     let ready : Prop := (s.inst i).cfg = some c ∧ u.instFault c = 0 ∧ u.qbvNow c.port = none ∧ (s.port c.port).tx = [] ∧ quiet
     let live : Prop := ready ∧ c.auth = 0
     let master : Prop := live ∧ s.instSt i = 3
     (master) ∧ (s.grantOf i key = some g) ∧ (key.type = 0 ∨ key.type = 11) ∧ (n = ivalNo (u.instNow c) g.log ((g.phi : Int) * 1000 * fuNs)) ∧ ((∀ d ∈ g.served, d < n))) ∧
    (let s : State := rx [it 1] (pt 2 cS 5 (fun x => {x with sel := some (55,2), foreign := [fo], exchanges := 15, sync := some ⟨4, some 3, some 5, 6⟩, dreq := some ⟨9, some 1000, none, 0⟩}))
     let i : InstId := 2
     let k : Nat := 125
     let c : PtpCfg := cS
     let key : GrantKey := ⟨0, [], 0, 0⟩
     let u := s.at k
     let now := u.instNow c
     let quiet : Prop := (∀ g ∈ s.ptp.grants, g.inst = i.val → now < g.time + g.dur * fuSec)
      ∧ ∀ f ∈ (s.inst i).foreign, now < f.times.headD 0 + c.annTimeout * logIval f.log
     let ready : Prop := (s.inst i).cfg = some c ∧ u.instFault c = 0 ∧ u.qbvNow c.port = none ∧ (s.port c.port).tx = [] ∧ quiet
     let live : Prop := ready ∧ c.auth = 0
     (live) ∧ (s.grantOf i key = none)) ∧
    (let s : State := pt 2 cS 5 (fun x => {x with sel := some (55, 2), foreign := [fo]})
     let i : InstId := 2
     let k : Nat := 125000000
     let n : Int := 0
     let c : PtpCfg := cS
     let f : Foreign := fo
     let u := s.at k
     let now := u.instNow c
     let quiet : Prop := (∀ g ∈ s.ptp.grants, g.inst = i.val → now < g.time + g.dur * fuSec)
      ∧ ∀ f ∈ (s.inst i).foreign, now < f.times.headD 0 + c.annTimeout * logIval f.log
     let ready : Prop := (s.inst i).cfg = some c ∧ u.instFault c = 0 ∧ u.qbvNow c.port = none ∧ (s.port c.port).tx = [] ∧ quiet
     let live : Prop := ready ∧ c.auth = 0
     (live) ∧ (5 ≤ s.instSt i) ∧ (c.role = 1) ∧ (c.profile ≠ 1) ∧ (s.selected i = some f) ∧ (u.ivalDue i 1 c c.logDelay = some n) ∧ (c.mode = 0 ∨ (s.inst i).asks.any (fun a => a.addr == f.addr && a.type == 9 && a.st == 1) = true)) ∧
    (let s : State := pt 2 cP 2
     let i : InstId := 2
     let k : Nat := 125000000
     let n : Int := 0
     let c : PtpCfg := cP
     let u := s.at k
     let now := u.instNow c
     let quiet : Prop := (∀ g ∈ s.ptp.grants, g.inst = i.val → now < g.time + g.dur * fuSec)
      ∧ ∀ f ∈ (s.inst i).foreign, now < f.times.headD 0 + c.annTimeout * logIval f.log
     let ready : Prop := (s.inst i).cfg = some c ∧ u.instFault c = 0 ∧ u.qbvNow c.port = none ∧ (s.port c.port).tx = [] ∧ quiet
     let live : Prop := ready ∧ c.auth = 0
     (live) ∧ (2 ≤ s.instSt i) ∧ (c.role = 1) ∧ (c.profile = 1) ∧ (u.ivalDue i 1 c c.logDelay = some n)) ∧
    (let s : State := rx [it 1] (pt 2 cU 4)
     let i : InstId := 2
     let k : Nat := 125
     let c : PtpCfg := cU
     let u := s.at k
     let now := u.instNow c
     let quiet : Prop := (∀ g ∈ s.ptp.grants, g.inst = i.val → now < g.time + g.dur * fuSec)
      ∧ ∀ f ∈ (s.inst i).foreign, now < f.times.headD 0 + c.annTimeout * logIval f.log
     let ready : Prop := (s.inst i).cfg = some c ∧ u.instFault c = 0 ∧ u.qbvNow c.port = none ∧ (s.port c.port).tx = [] ∧ quiet
     let live : Prop := ready ∧ c.auth = 0
     (live) ∧ (u.ivalDue i 1 c c.logDelay = none ∨ c.role = 0) ∧ (2 ≤ s.instSt i)) ∧
    (let s : State := pt 2 cM 3 (fun x => {x with follow := [(mg 8, [], 77)]})
     let i : InstId := 2
     let k : Nat := 125000000
     let c : PtpCfg := cM
     let o : PtpMsg := mg 8
     let a : List Byte := []
     let tick : Nat := 77
     let rest : List (PtpMsg × List Byte × Nat) := []
     let u := s.at k
     let now := u.instNow c
     let quiet : Prop := (∀ g ∈ s.ptp.grants, g.inst = i.val → now < g.time + g.dur * fuSec)
      ∧ ∀ f ∈ (s.inst i).foreign, now < f.times.headD 0 + c.annTimeout * logIval f.log
     let ready : Prop := (s.inst i).cfg = some c ∧ u.instFault c = 0 ∧ u.qbvNow c.port = none ∧ (s.port c.port).tx = [] ∧ quiet
     let live : Prop := ready ∧ c.auth = 0
     (live) ∧ (2 ≤ s.instSt i) ∧ ((s.inst i).follow = (o, a, tick) :: rest) ∧ (o.tlvs = [])) ∧
    (let s : State := rx [it 1] (pt 2 cS 5 (fun x => {x with sel := some (55,2), foreign := [fo], exchanges := 15, sync := some ⟨4, some 3, some 5, 6⟩, dreq := some ⟨9, some 1000, none, 0⟩}))
     let i : InstId := 2
     let k : Nat := 125
     let c : PtpCfg := cS
     let u := s.at k
     let now := u.instNow c
     let quiet : Prop := (∀ g ∈ s.ptp.grants, g.inst = i.val → now < g.time + g.dur * fuSec)
      ∧ ∀ f ∈ (s.inst i).foreign, now < f.times.headD 0 + c.annTimeout * logIval f.log
     let ready : Prop := (s.inst i).cfg = some c ∧ u.instFault c = 0 ∧ u.qbvNow c.port = none ∧ (s.port c.port).tx = [] ∧ quiet
     let live : Prop := ready ∧ c.auth = 0
     (live) ∧ (2 ≤ s.instSt i) ∧ ((s.inst i).follow = [])) ∧
    (let s : State := ticking State.reset
     let i : InstId := 2
     let no : Prop := (s.inst i).cfg = none ∨ s.instSt i = 0
     (no)) ∧
    (let s : State := rx [it 0] (pt 2 cM 3)
     let i : InstId := 2
     let k : Nat := 125
     let c : PtpCfg := cM
     let msg : PtpMsg := mg 1 (fun m => {m with major := 1})
     let r : RxItem := it 0
     let u := s.at k
     let now := u.instNow c
     let quiet : Prop := (∀ g ∈ s.ptp.grants, g.inst = i.val → now < g.time + g.dur * fuSec)
      ∧ ∀ f ∈ (s.inst i).foreign, now < f.times.headD 0 + c.annTimeout * logIval f.log
     let ready : Prop := (s.inst i).cfg = some c ∧ u.instFault c = 0 ∧ u.qbvNow c.port = none ∧ (s.port c.port).tx = [] ∧ quiet
     let live : Prop := ready ∧ c.auth = 0
     let cls := if msg.type < 4 then 0 else 1
     let got : Prop := live ∧ 2 ≤ s.instSt i ∧ (s.port c.port).rx.find? (fun r => r.cls == cls) = some r
     (got) ∧ (msg.major ≠ 2 ∨ 1 < msg.minor)) ∧
    (let s : State := rx [it 0] (pt 2 cM 3)
     let i : InstId := 2
     let k : Nat := 125
     let c : PtpCfg := cM
     let msg : PtpMsg := mg 1 (fun m => {m with domain := 1})
     let r : RxItem := it 0
     let u := s.at k
     let now := u.instNow c
     let quiet : Prop := (∀ g ∈ s.ptp.grants, g.inst = i.val → now < g.time + g.dur * fuSec)
      ∧ ∀ f ∈ (s.inst i).foreign, now < f.times.headD 0 + c.annTimeout * logIval f.log
     let ready : Prop := (s.inst i).cfg = some c ∧ u.instFault c = 0 ∧ u.qbvNow c.port = none ∧ (s.port c.port).tx = [] ∧ quiet
     let live : Prop := ready ∧ c.auth = 0
     let cls := if msg.type < 4 then 0 else 1
     let got : Prop := live ∧ 2 ≤ s.instSt i ∧ (s.port c.port).rx.find? (fun r => r.cls == cls) = some r
     (got) ∧ (msg.major = 2) ∧ (msg.minor ≤ 1) ∧ (msg.domain ≠ c.domain)) ∧
    (let s : State := rx [it 1] (pt 2 cM 3)
     let i : InstId := 2
     let k : Nat := 125
     let c : PtpCfg := cM
     let msg : PtpMsg := mg 13
     let r : RxItem := it 1
     let u := s.at k
     let now := u.instNow c
     let quiet : Prop := (∀ g ∈ s.ptp.grants, g.inst = i.val → now < g.time + g.dur * fuSec)
      ∧ ∀ f ∈ (s.inst i).foreign, now < f.times.headD 0 + c.annTimeout * logIval f.log
     let ready : Prop := (s.inst i).cfg = some c ∧ u.instFault c = 0 ∧ u.qbvNow c.port = none ∧ (s.port c.port).tx = [] ∧ quiet
     let live : Prop := ready ∧ c.auth = 0
     let cls := if msg.type < 4 then 0 else 1
     let got : Prop := live ∧ 2 ≤ s.instSt i ∧ (s.port c.port).rx.find? (fun r => r.cls == cls) = some r
     let mine : Prop := got ∧ msg.major = 2 ∧ msg.minor ≤ 1 ∧ msg.domain = c.domain
     (mine) ∧ (msg.type = 13)) ∧
    (let s : State := rx [it 1] (pt 2 cM 3)
     let i : InstId := 2
     let k : Nat := 125
     let c : PtpCfg := cM
     let msg : PtpMsg := mg 11 (fun m => {m with ann := some an, clock := State.reset.clockId})
     let ann : PtpAnnounce := an
     let r : RxItem := it 1
     let u := s.at k
     let now := u.instNow c
     let quiet : Prop := (∀ g ∈ s.ptp.grants, g.inst = i.val → now < g.time + g.dur * fuSec)
      ∧ ∀ f ∈ (s.inst i).foreign, now < f.times.headD 0 + c.annTimeout * logIval f.log
     let ready : Prop := (s.inst i).cfg = some c ∧ u.instFault c = 0 ∧ u.qbvNow c.port = none ∧ (s.port c.port).tx = [] ∧ quiet
     let live : Prop := ready ∧ c.auth = 0
     let cls := if msg.type < 4 then 0 else 1
     let got : Prop := live ∧ 2 ≤ s.instSt i ∧ (s.port c.port).rx.find? (fun r => r.cls == cls) = some r
     let mine : Prop := got ∧ msg.major = 2 ∧ msg.minor ≤ 1 ∧ msg.domain = c.domain
     (mine) ∧ (msg.type = 11) ∧ (msg.ann = some ann) ∧ (msg.clock = s.clockId)) ∧
    (let s : State := rx [it 1] (pt 2 cM 3)
     let i : InstId := 2
     let k : Nat := 125
     let c : PtpCfg := cM
     let msg : PtpMsg := mg 11 (fun m => {m with ann := some an})
     let ann : PtpAnnounce := an
     let r : RxItem := it 1
     let u := s.at k
     let now := u.instNow c
     let quiet : Prop := (∀ g ∈ s.ptp.grants, g.inst = i.val → now < g.time + g.dur * fuSec)
      ∧ ∀ f ∈ (s.inst i).foreign, now < f.times.headD 0 + c.annTimeout * logIval f.log
     let ready : Prop := (s.inst i).cfg = some c ∧ u.instFault c = 0 ∧ u.qbvNow c.port = none ∧ (s.port c.port).tx = [] ∧ quiet
     let live : Prop := ready ∧ c.auth = 0
     let cls := if msg.type < 4 then 0 else 1
     let got : Prop := live ∧ 2 ≤ s.instSt i ∧ (s.port c.port).rx.find? (fun r => r.cls == cls) = some r
     let mine : Prop := got ∧ msg.major = 2 ∧ msg.minor ≤ 1 ∧ msg.domain = c.domain
     (mine) ∧ (msg.type = 11) ∧ (msg.ann = some ann) ∧ (msg.clock ≠ s.clockId) ∧ (c.role = 0) ∧ (c.masterOnly = true)) ∧
    (let s : State := rx [it 0] (pt 2 cM 3)
     let i : InstId := 2
     let k : Nat := 125
     let c : PtpCfg := cM
     let msg : PtpMsg := mg 1
     let r : RxItem := it 0
     let u := s.at k
     let now := u.instNow c
     let quiet : Prop := (∀ g ∈ s.ptp.grants, g.inst = i.val → now < g.time + g.dur * fuSec)
      ∧ ∀ f ∈ (s.inst i).foreign, now < f.times.headD 0 + c.annTimeout * logIval f.log
     let ready : Prop := (s.inst i).cfg = some c ∧ u.instFault c = 0 ∧ u.qbvNow c.port = none ∧ (s.port c.port).tx = [] ∧ quiet
     let live : Prop := ready ∧ c.auth = 0
     let cls := if msg.type < 4 then 0 else 1
     let got : Prop := live ∧ 2 ≤ s.instSt i ∧ (s.port c.port).rx.find? (fun r => r.cls == cls) = some r
     let mine : Prop := got ∧ msg.major = 2 ∧ msg.minor ≤ 1 ∧ msg.domain = c.domain
     (mine) ∧ (msg.type = 1) ∧ (c.profile ≠ 1) ∧ (s.instSt i = 3) ∧ (c.mode = 0)) ∧
    (let s : State := rx [it 0] (pt 2 cS 5 (fun x => {x with sel := some (55,2), foreign := [fo]}))
     let i : InstId := 2
     let k : Nat := 125
     let c : PtpCfg := cS
     let msg : PtpMsg := mg 0
     let r : RxItem := it 0
     let u := s.at k
     let now := u.instNow c
     let quiet : Prop := (∀ g ∈ s.ptp.grants, g.inst = i.val → now < g.time + g.dur * fuSec)
      ∧ ∀ f ∈ (s.inst i).foreign, now < f.times.headD 0 + c.annTimeout * logIval f.log
     let ready : Prop := (s.inst i).cfg = some c ∧ u.instFault c = 0 ∧ u.qbvNow c.port = none ∧ (s.port c.port).tx = [] ∧ quiet
     let live : Prop := ready ∧ c.auth = 0
     let cls := if msg.type < 4 then 0 else 1
     let got : Prop := live ∧ 2 ≤ s.instSt i ∧ (s.port c.port).rx.find? (fun r => r.cls == cls) = some r
     let mine : Prop := got ∧ msg.major = 2 ∧ msg.minor ≤ 1 ∧ msg.domain = c.domain
     let slave : Prop := mine ∧ c.role = 1 ∧ 5 ≤ s.instSt i ∧ (s.inst i).sel = some (msg.clock, msg.port) ∧ msg.tlvs = []
     (slave) ∧ (msg.type = 0) ∧ (msg.twoStep = false) ∧ (c.profile ≠ 1) ∧ ((s.inst i).dreq = none)) ∧
    (let s : State := rx [it 1] (pt 2 cS 5 (fun x => {x with sel := some (55,2), foreign := [fo], sync := some ⟨9, none, some 5, 6⟩}))
     let i : InstId := 2
     let k : Nat := 125
     let c : PtpCfg := cS
     let msg : PtpMsg := mg 8
     let r : RxItem := it 1
     let cs : Int := 6
     let y : Option Gt := some 5
     let u := s.at k
     let now := u.instNow c
     let quiet : Prop := (∀ g ∈ s.ptp.grants, g.inst = i.val → now < g.time + g.dur * fuSec)
      ∧ ∀ f ∈ (s.inst i).foreign, now < f.times.headD 0 + c.annTimeout * logIval f.log
     let ready : Prop := (s.inst i).cfg = some c ∧ u.instFault c = 0 ∧ u.qbvNow c.port = none ∧ (s.port c.port).tx = [] ∧ quiet
     let live : Prop := ready ∧ c.auth = 0
     let cls := if msg.type < 4 then 0 else 1
     let got : Prop := live ∧ 2 ≤ s.instSt i ∧ (s.port c.port).rx.find? (fun r => r.cls == cls) = some r
     let mine : Prop := got ∧ msg.major = 2 ∧ msg.minor ≤ 1 ∧ msg.domain = c.domain
     let slave : Prop := mine ∧ c.role = 1 ∧ 5 ≤ s.instSt i ∧ (s.inst i).sel = some (msg.clock, msg.port) ∧ msg.tlvs = []
     (slave) ∧ (msg.type = 8) ∧ (c.profile ≠ 1) ∧ ((s.inst i).dreq = none) ∧ ((s.inst i).sync = some ⟨msg.seq, none, y, cs⟩)) ∧
    (let s : State := rx [it 1] (pt 2 cS 5 (fun x => {x with sel := some (55,2), foreign := [fo], exchanges := 15, sync := some ⟨4, some 3, some 5, 6⟩, dreq := some ⟨9, some 1000, none, 0⟩}))
     let i : InstId := 2
     let k : Nat := 125
     let c : PtpCfg := cS
     let msg : PtpMsg := mg 9 (fun m => {m with reqClock := State.reset.clockId, reqPort := 3})
     let r : RxItem := it 1
     let tick : Nat := 9
     let seq : Nat := 4
     let t1 : Gt := 3
     let t2 : Gt := 5
     let t3 : Gt := 1000
     let cs : Int := 6
     let u := s.at k
     let now := u.instNow c
     let quiet : Prop := (∀ g ∈ s.ptp.grants, g.inst = i.val → now < g.time + g.dur * fuSec)
      ∧ ∀ f ∈ (s.inst i).foreign, now < f.times.headD 0 + c.annTimeout * logIval f.log
     let ready : Prop := (s.inst i).cfg = some c ∧ u.instFault c = 0 ∧ u.qbvNow c.port = none ∧ (s.port c.port).tx = [] ∧ quiet
     let live : Prop := ready ∧ c.auth = 0
     let cls := if msg.type < 4 then 0 else 1
     let got : Prop := live ∧ 2 ≤ s.instSt i ∧ (s.port c.port).rx.find? (fun r => r.cls == cls) = some r
     let mine : Prop := got ∧ msg.major = 2 ∧ msg.minor ≤ 1 ∧ msg.domain = c.domain
     let slave : Prop := mine ∧ c.role = 1 ∧ 5 ≤ s.instSt i ∧ (s.inst i).sel = some (msg.clock, msg.port) ∧ msg.tlvs = []
     let done : Prop := slave ∧ c.profile ≠ 1 ∧ msg.type = 9 ∧ msg.reqClock = s.clockId ∧ msg.reqPort = s.portNo i ∧ msg.seq = tick
      ∧ (s.inst i).sync = some ⟨seq, some t1, some t2, cs⟩ ∧ (s.inst i).dreq = some ⟨tick, some t3, none, 0⟩
     (done)) ∧
    (let s : State := rx [it 1] (pt 2 cU 3)
     let i : InstId := 2
     let k : Nat := 125
     let c : PtpCfg := cU
     let msg : PtpMsg := mg 12 (fun m => {m with tlvs := [.request 0 1 5000]})
     let addr : List Byte := [1]
     let r : RxItem := it 1
     let type : Nat := 0
     let dur : Nat := 5000
     let log : Int := 1
     let u := s.at k
     let now := u.instNow c
     let quiet : Prop := (∀ g ∈ s.ptp.grants, g.inst = i.val → now < g.time + g.dur * fuSec)
      ∧ ∀ f ∈ (s.inst i).foreign, now < f.times.headD 0 + c.annTimeout * logIval f.log
     let ready : Prop := (s.inst i).cfg = some c ∧ u.instFault c = 0 ∧ u.qbvNow c.port = none ∧ (s.port c.port).tx = [] ∧ quiet
     let live : Prop := ready ∧ c.auth = 0
     let cls := if msg.type < 4 then 0 else 1
     let got : Prop := live ∧ 2 ≤ s.instSt i ∧ (s.port c.port).rx.find? (fun r => r.cls == cls) = some r
     let mine : Prop := got ∧ msg.major = 2 ∧ msg.minor ≤ 1 ∧ msg.domain = c.domain
     let ask : Prop := mine ∧ msg.type = 12 ∧ msg.tlvs = [.request type log dur] ∧ c.role = 0 ∧ c.mode = 1 ∧ (type = 0 ∨ type = 9 ∨ type = 11)
     let least := if type = 0 then c.logSync else if type = 11 then c.logAnnounce else c.logDelay
     let ck : GrantKey := ⟨type, addr, msg.clock, msg.port⟩
     let fits : Prop := grantRate type log = 0 ∨ s.rateFits c.port (grantRate type log) = true
     (ask) ∧ (s.instSt i = 3 ∨ s.instSt i = 4) ∧ (least ≤ log) ∧ (s.grantOf i ck = none) ∧ (fits) ∧ (s.ptp.grants.length < 1048576)) ∧
    (let s : State := rx [it 1] (pt 2 cU 4)
     let i : InstId := 2
     let k : Nat := 125
     let c : PtpCfg := cU
     let msg : PtpMsg := mg 12 (fun m => {m with tlvs := [.request 11 (-6) 5000]})
     let r : RxItem := it 1
     let type : Nat := 11
     let dur : Nat := 5000
     let log : Int := -6
     let u := s.at k
     let now := u.instNow c
     let quiet : Prop := (∀ g ∈ s.ptp.grants, g.inst = i.val → now < g.time + g.dur * fuSec)
      ∧ ∀ f ∈ (s.inst i).foreign, now < f.times.headD 0 + c.annTimeout * logIval f.log
     let ready : Prop := (s.inst i).cfg = some c ∧ u.instFault c = 0 ∧ u.qbvNow c.port = none ∧ (s.port c.port).tx = [] ∧ quiet
     let live : Prop := ready ∧ c.auth = 0
     let cls := if msg.type < 4 then 0 else 1
     let got : Prop := live ∧ 2 ≤ s.instSt i ∧ (s.port c.port).rx.find? (fun r => r.cls == cls) = some r
     let mine : Prop := got ∧ msg.major = 2 ∧ msg.minor ≤ 1 ∧ msg.domain = c.domain
     let ask : Prop := mine ∧ msg.type = 12 ∧ msg.tlvs = [.request type log dur] ∧ c.role = 0 ∧ c.mode = 1 ∧ (type = 0 ∨ type = 9 ∨ type = 11)
     let least := if type = 0 then c.logSync else if type = 11 then c.logAnnounce else c.logDelay
     (ask) ∧ (s.instSt i = 3 ∨ s.instSt i = 4) ∧ (log < least)) ∧
    (let s : State := rx [it 1] (pt 2 cU 2)
     let i : InstId := 2
     let k : Nat := 125
     let c : PtpCfg := cU
     let msg : PtpMsg := mg 12 (fun m => {m with tlvs := [.request 9 (-6) 5000]})
     let r : RxItem := it 1
     let type : Nat := 9
     let dur : Nat := 5000
     let log : Int := -6
     let u := s.at k
     let now := u.instNow c
     let quiet : Prop := (∀ g ∈ s.ptp.grants, g.inst = i.val → now < g.time + g.dur * fuSec)
      ∧ ∀ f ∈ (s.inst i).foreign, now < f.times.headD 0 + c.annTimeout * logIval f.log
     let ready : Prop := (s.inst i).cfg = some c ∧ u.instFault c = 0 ∧ u.qbvNow c.port = none ∧ (s.port c.port).tx = [] ∧ quiet
     let live : Prop := ready ∧ c.auth = 0
     let cls := if msg.type < 4 then 0 else 1
     let got : Prop := live ∧ 2 ≤ s.instSt i ∧ (s.port c.port).rx.find? (fun r => r.cls == cls) = some r
     let mine : Prop := got ∧ msg.major = 2 ∧ msg.minor ≤ 1 ∧ msg.domain = c.domain
     let ask : Prop := mine ∧ msg.type = 12 ∧ msg.tlvs = [.request type log dur] ∧ c.role = 0 ∧ c.mode = 1 ∧ (type = 0 ∨ type = 9 ∨ type = 11)
     (ask) ∧ (s.instSt i ≠ 3) ∧ (s.instSt i ≠ 4)) ∧
    (let s : State := withG [gr] (rx [it 1] (pt 2 cU 3))
     let i : InstId := 2
     let k : Nat := 125
     let c : PtpCfg := cU
     let msg : PtpMsg := mg 12 (fun m => {m with tlvs := [.cancel 0]})
     let r : RxItem := it 1
     let type : Nat := 0
     let u := s.at k
     let now := u.instNow c
     let quiet : Prop := (∀ g ∈ s.ptp.grants, g.inst = i.val → now < g.time + g.dur * fuSec)
      ∧ ∀ f ∈ (s.inst i).foreign, now < f.times.headD 0 + c.annTimeout * logIval f.log
     let ready : Prop := (s.inst i).cfg = some c ∧ u.instFault c = 0 ∧ u.qbvNow c.port = none ∧ (s.port c.port).tx = [] ∧ quiet
     let live : Prop := ready ∧ c.auth = 0
     let cls := if msg.type < 4 then 0 else 1
     let got : Prop := live ∧ 2 ≤ s.instSt i ∧ (s.port c.port).rx.find? (fun r => r.cls == cls) = some r
     let mine : Prop := got ∧ msg.major = 2 ∧ msg.minor ≤ 1 ∧ msg.domain = c.domain
     (mine) ∧ (msg.type = 12) ∧ (msg.tlvs = [.cancel type]) ∧ (c.role = 0)) ∧
    (let msg : PtpMsg := mg 9 (fun m => {m with reqClock := State.reset.clockId, reqPort := 3})
     (msg.type ≠ 12)) :=
  by repeat' first | decide +kernel | apply And.intro

end PtpMessages

namespace PtpTimeouts

def rc (a : PtpArgs) : PtpCfg := (ptpResolve a).getD zCfg
def cM : PtpCfg := rc {}
def cU : PtpCfg := rc {mode := some 1}
def cS : PtpCfg := rc {role := some 1}
def cSU : PtpCfg := rc {role := some 1, mode := some 1}
def cP : PtpCfg := rc {role := some 1, profile := some 1}
def cA : PtpCfg := rc {auth := some 2, authSlot := some 5}
def cN : PtpCfg := rc {masterOnly := some 0}
def pt (i : Nat) (c : PtpCfg) (st : Nat) (f : PtpInst → PtpInst := id) (l : List (Nat × Nat) := []) : State :=
  (((ticking State.reset).up 0).put ([(Reg.PTP_INST_STAT i, st)] ++ l)).modInst i (fun x => f {x with cfg := some c})
def withG (g : List PtpGrant) (s : State) : State := {s with ptp := {s.ptp with grants := g}}
def gk : GrantKey := ⟨0, [1,2], 55, 2⟩
def gr : PtpGrant := ⟨2, gk, -3, 300, 0, 7, false, none⟩
def an : PtpAnnounce := ⟨37, 128, 128, 6, 0x21, 0x4E5D, 55, 0, 0x20⟩
def st0 : Stamp := ⟨1000, 5, [70000*800, 0,0,0,0,0,0,0], 255, false⟩
def it (cls : Nat) : RxItem := ⟨cls, 0, [1,2,3], st0, false⟩
def mg (type : Nat) (f : PtpMsg → PtpMsg := id) : PtpMsg := f ⟨type, 2, 1, 0, false, false, 0, 3, 55, 2, 9, 1, 10^9, 0, 0, none, [], none⟩
def rx (l : List RxItem) (s : State) : State := s.modPort 0 (fun p => {p with rx := l})
def fo : Foreign := ⟨55, 2, [1,2], an, 8, 1, some 4, [0, 0]⟩
def ak (st : Nat) : SlaveGrant := ⟨[1,2], 9, st, 0, 300⟩

theorem test_PtpTimeouts_hypotheses :
    (let s : State := withG [{gr with dur := 0}] (pt 2 cU 3)
     let i : InstId := 2
     let k : Nat := 1250000000
     let c : PtpCfg := cU
     let key : GrantKey := gk
     let g : PtpGrant := {gr with dur := 0}
     let u := s.at k
     let now := u.instNow c
     let ends : Prop := g.time + g.dur * fuSec ≤ now
     ((s.inst i).cfg = some c) ∧ (s.grantOf i key = some g) ∧ (ends)) ∧
    (let s : State := withG [gr] (pt 2 cU 3)
     let i : InstId := 2
     let k : Nat := 1250000000
     let c : PtpCfg := cU
     let key : GrantKey := gk
     let g : PtpGrant := gr
     let u := s.at k
     let now := u.instNow c
     let ends : Prop := g.time + g.dur * fuSec ≤ now
     ((s.inst i).cfg = some c) ∧ (s.grantOf i key = some g) ∧ (¬ ends)) ∧
    (let s : State := pt 2 cN 2
     let i : InstId := 2
     let key : GrantKey := ⟨0, [], 0, 0⟩
     (s.grantOf i key = none)) ∧
    (let s : State := pt 2 cSU 6 (fun x => {x with asks := [{ak 1 with dur := 1}]})
     let i : InstId := 2
     let k : Nat := 1250000000
     let type : Nat := 9
     let c : PtpCfg := cSU
     let b : SlaveGrant := {ak 1 with dur := 1}
     let addr : List Byte := [1,2]
     let u := s.at k
     let live : Prop := (s.inst i).cfg = some c ∧ u.instFault c = 0 ∧ 2 ≤ s.instSt i
     let sends : Prop := u.qbvNow c.port = none ∧ (s.port c.port).tx = [] ∧ c.auth = 0
     let now := u.instNow c
     let quiet (now : Gt) : Prop := (∀ g ∈ s.ptp.grants, g.inst = i.val → now < g.time + g.dur * fuSec)
      ∧ ∀ f ∈ (s.inst i).foreign, now < f.times.headD 0 + c.annTimeout * logIval f.log
     let calm : Prop := live ∧ quiet now
     (calm) ∧ (sends) ∧ (s.askOf i addr type = some b) ∧ (b.st = 1) ∧ (b.at' + b.dur * fuSec / 2 ≤ now)) ∧
    (let s : State := pt 2 cSU 6 (fun x => {x with asks := [ak 1]})
     let i : InstId := 2
     let k : Nat := 1250000000
     let type : Nat := 9
     let c : PtpCfg := cSU
     let b : SlaveGrant := ak 1
     let addr : List Byte := [1,2]
     let u := s.at k
     let live : Prop := (s.inst i).cfg = some c ∧ u.instFault c = 0 ∧ 2 ≤ s.instSt i
     let now := u.instNow c
     let quiet (now : Gt) : Prop := (∀ g ∈ s.ptp.grants, g.inst = i.val → now < g.time + g.dur * fuSec)
      ∧ ∀ f ∈ (s.inst i).foreign, now < f.times.headD 0 + c.annTimeout * logIval f.log
     let calm : Prop := live ∧ quiet now
     (calm) ∧ (s.askOf i addr type = some b) ∧ (b.st ≠ 1 ∨ now < b.at' + b.dur * fuSec / 2)) ∧
    (let s : State := pt 2 cSU 6 (fun x => {x with asks := [ak 0]})
     let i : InstId := 2
     let k : Nat := 1250000000
     let type : Nat := 9
     let c : PtpCfg := cSU
     let b : SlaveGrant := ak 0
     let addr : List Byte := [1,2]
     let u := s.at k
     let live : Prop := (s.inst i).cfg = some c ∧ u.instFault c = 0 ∧ 2 ≤ s.instSt i
     let now := u.instNow c
     let quiet (now : Gt) : Prop := (∀ g ∈ s.ptp.grants, g.inst = i.val → now < g.time + g.dur * fuSec)
      ∧ ∀ f ∈ (s.inst i).foreign, now < f.times.headD 0 + c.annTimeout * logIval f.log
     let calm : Prop := live ∧ quiet now
     (calm) ∧ (s.askOf i addr type = some b) ∧ (b.st = 0) ∧ (b.at' + fuSec ≤ now)) ∧
    (let s : State := pt 2 cSU 6 (fun x => {x with asks := [{ak 1 with dur := 1}]})
     let i : InstId := 2
     let k : Nat := 1250000000
     let type : Nat := 9
     let c : PtpCfg := cSU
     let b : SlaveGrant := {ak 1 with dur := 1}
     let addr : List Byte := [1,2]
     let u := s.at k
     let live : Prop := (s.inst i).cfg = some c ∧ u.instFault c = 0 ∧ 2 ≤ s.instSt i
     let now := u.instNow c
     let quiet (now : Gt) : Prop := (∀ g ∈ s.ptp.grants, g.inst = i.val → now < g.time + g.dur * fuSec)
      ∧ ∀ f ∈ (s.inst i).foreign, now < f.times.headD 0 + c.annTimeout * logIval f.log
     let calm : Prop := live ∧ quiet now
     (calm) ∧ (s.askOf i addr type = some b) ∧ (b.st ≠ 0 ∨ now < b.at' + fuSec)) ∧
    (let s : State := pt 2 cSU 6 (fun x => {x with asks := [ak 2]})
     let i : InstId := 2
     let k : Nat := 12500000000
     let type : Nat := 9
     let c : PtpCfg := cSU
     let b : SlaveGrant := ak 2
     let addr : List Byte := [1,2]
     let u := s.at k
     let live : Prop := (s.inst i).cfg = some c ∧ u.instFault c = 0 ∧ 2 ≤ s.instSt i
     let sends : Prop := u.qbvNow c.port = none ∧ (s.port c.port).tx = [] ∧ c.auth = 0
     let now := u.instNow c
     let quiet (now : Gt) : Prop := (∀ g ∈ s.ptp.grants, g.inst = i.val → now < g.time + g.dur * fuSec)
      ∧ ∀ f ∈ (s.inst i).foreign, now < f.times.headD 0 + c.annTimeout * logIval f.log
     let calm : Prop := live ∧ quiet now
     (calm) ∧ (sends) ∧ (s.askOf i addr type = some b) ∧ (b.st = 2) ∧ (b.at' + 10 * fuSec ≤ now)) ∧
    (let s : State := pt 2 cSU 6 (fun x => {x with asks := [{ak 1 with dur := 1}]})
     let i : InstId := 2
     let k : Nat := 1250000000
     let type : Nat := 9
     let c : PtpCfg := cSU
     let b : SlaveGrant := {ak 1 with dur := 1}
     let addr : List Byte := [1,2]
     let u := s.at k
     let live : Prop := (s.inst i).cfg = some c ∧ u.instFault c = 0 ∧ 2 ≤ s.instSt i
     let now := u.instNow c
     let quiet (now : Gt) : Prop := (∀ g ∈ s.ptp.grants, g.inst = i.val → now < g.time + g.dur * fuSec)
      ∧ ∀ f ∈ (s.inst i).foreign, now < f.times.headD 0 + c.annTimeout * logIval f.log
     let calm : Prop := live ∧ quiet now
     (calm) ∧ (s.askOf i addr type = some b) ∧ (b.st ≠ 2 ∨ now < b.at' + 10 * fuSec)) ∧
    (let s : State := pt 2 cS 6 (fun x => {x with foreign := [fo], sel := some (55,2)})
     let i : InstId := 2
     let k : Nat := 12500000000
     let clock : Nat := 55
     let port : Nat := 2
     let c : PtpCfg := cS
     let f : Foreign := fo
     let u := s.at k
     let live : Prop := (s.inst i).cfg = some c ∧ u.instFault c = 0 ∧ 2 ≤ s.instSt i
     let now := u.instNow c
     let late : Prop := f.times.headD 0 + c.annTimeout * logIval f.log ≤ now
     let only : Prop := (s.inst i).foreign = [f] ∧ f.clock = clock ∧ f.port = port
     (live) ∧ (only) ∧ (late) ∧ (c.role = 1) ∧ (5 ≤ s.instSt i)) ∧
    (let s : State := pt 2 cN 4 (fun x => {x with foreign := [fo], sel := some (55,2)})
     let i : InstId := 2
     let k : Nat := 12500000000
     let clock : Nat := 55
     let port : Nat := 2
     let c : PtpCfg := cN
     let f : Foreign := fo
     let u := s.at k
     let live : Prop := (s.inst i).cfg = some c ∧ u.instFault c = 0 ∧ 2 ≤ s.instSt i
     let now := u.instNow c
     let late : Prop := f.times.headD 0 + c.annTimeout * logIval f.log ≤ now
     let only : Prop := (s.inst i).foreign = [f] ∧ f.clock = clock ∧ f.port = port
     (live) ∧ (only) ∧ (late) ∧ (c.role = 0) ∧ (c.masterOnly = false) ∧ (s.instSt i = 4)) ∧
    (let s : State := pt 2 cN 4 (fun x => {x with foreign := [fo], sel := some (55,2)})
     let i : InstId := 2
     let k : Nat := 1250000000
     let clock : Nat := 55
     let port : Nat := 2
     let c : PtpCfg := cN
     let f : Foreign := fo
     let u := s.at k
     let live : Prop := (s.inst i).cfg = some c ∧ u.instFault c = 0 ∧ 2 ≤ s.instSt i
     let now := u.instNow c
     let quiet (now : Gt) : Prop := (∀ g ∈ s.ptp.grants, g.inst = i.val → now < g.time + g.dur * fuSec)
      ∧ ∀ f ∈ (s.inst i).foreign, now < f.times.headD 0 + c.annTimeout * logIval f.log
     let calm : Prop := live ∧ quiet now
     let late : Prop := f.times.headD 0 + c.annTimeout * logIval f.log ≤ now
     let only : Prop := (s.inst i).foreign = [f] ∧ f.clock = clock ∧ f.port = port
     (calm) ∧ (only) ∧ (¬ late)) ∧
    (let s : State := pt 2 cN 2
     let i : InstId := 2
     let k : Nat := 12500000000
     let c : PtpCfg := cN
     let u := s.at k
     let live : Prop := (s.inst i).cfg = some c ∧ u.instFault c = 0 ∧ 2 ≤ s.instSt i
     let now := u.instNow c
     let quiet (now : Gt) : Prop := (∀ g ∈ s.ptp.grants, g.inst = i.val → now < g.time + g.dur * fuSec)
      ∧ ∀ f ∈ (s.inst i).foreign, now < f.times.headD 0 + c.annTimeout * logIval f.log
     let calm : Prop := live ∧ quiet now
     let waited : Prop := (s.inst i).listen + c.annTimeout * logIval c.logAnnounce ≤ now
     (calm) ∧ (c.role = 0) ∧ (s.instSt i = 2) ∧ (waited) ∧ ((s.inst i).foreign = [])) ∧
    (let s : State := pt 2 cN 2
     let i : InstId := 2
     let k : Nat := 1250000000
     let c : PtpCfg := cN
     let u := s.at k
     let live : Prop := (s.inst i).cfg = some c ∧ u.instFault c = 0 ∧ 2 ≤ s.instSt i
     let now := u.instNow c
     let quiet (now : Gt) : Prop := (∀ g ∈ s.ptp.grants, g.inst = i.val → now < g.time + g.dur * fuSec)
      ∧ ∀ f ∈ (s.inst i).foreign, now < f.times.headD 0 + c.annTimeout * logIval f.log
     let calm : Prop := live ∧ quiet now
     let waited : Prop := (s.inst i).listen + c.annTimeout * logIval c.logAnnounce ≤ now
     (calm) ∧ (c.role ≠ 0 ∨ s.instSt i ≠ 2 ∨ ¬ waited)) ∧
    (let s : State := (pt 2 cS 6 (fun x => {x with foreign := [fo], sel := some (55,2), offs := [(4, 2*10^12, 0), (1, 5000, 0)]})).at 6250000000
     let i : InstId := 2
     let c : PtpCfg := cS
     let sec : Int := 5
     let quiet (now : Gt) : Prop := (∀ g ∈ s.ptp.grants, g.inst = i.val → now < g.time + g.dur * fuSec)
      ∧ ∀ f ∈ (s.inst i).foreign, now < f.times.headD 0 + c.annTimeout * logIval f.log
     let fresh : Prop := c.role = 1 ∧ sec * fuSec ≤ s.instNow c ∧ ∀ d ∈ tabGet none (s.inst i).served 0x100, d < sec
     let second : Prop := (s.inst i).cfg = some c ∧ 2 ≤ s.instSt i ∧ s.instFault c = 0 ∧ quiet (s.instNow c) ∧ fresh
     let l := ((s.inst i).offs.filter (fun x => decide (x.1 = sec - 1))).map (·.2)
     (second) ∧ (s.instSt i = 6) ∧ (l ≠ [])) ∧
    (let s : State := pt 2 cS 6 (fun x => {x with foreign := [fo], sel := some (55,2)})
     let i : InstId := 2
     let c : PtpCfg := cS
     let sec : Int := 0
     let quiet (now : Gt) : Prop := (∀ g ∈ s.ptp.grants, g.inst = i.val → now < g.time + g.dur * fuSec)
      ∧ ∀ f ∈ (s.inst i).foreign, now < f.times.headD 0 + c.annTimeout * logIval f.log
     let fresh : Prop := c.role = 1 ∧ sec * fuSec ≤ s.instNow c ∧ ∀ d ∈ tabGet none (s.inst i).served 0x100, d < sec
     let second : Prop := (s.inst i).cfg = some c ∧ 2 ≤ s.instSt i ∧ s.instFault c = 0 ∧ quiet (s.instNow c) ∧ fresh
     let l := ((s.inst i).offs.filter (fun x => decide (x.1 = sec - 1))).map (·.2)
     (second) ∧ (s.instSt i ≠ 6 ∨ l = [])) ∧
    (let s : State := pt 2 {cS with port := 3} 1
     let i : InstId := 2
     let c : PtpCfg := {cS with port := 3}
     let sec : Int := 0
     let fresh : Prop := c.role = 1 ∧ sec * fuSec ≤ s.instNow c ∧ ∀ d ∈ tabGet none (s.inst i).served 0x100, d < sec
     ((s.inst i).cfg = some c) ∧ (s.instSt i = 1) ∧ (s.instFault c ≠ 0) ∧ (fresh)) ∧
    (let s : State := pt 2 cN 2
     let i : InstId := 2
     let c : PtpCfg := cN
     let sec : Int := 5
     let quiet (now : Gt) : Prop := (∀ g ∈ s.ptp.grants, g.inst = i.val → now < g.time + g.dur * fuSec)
      ∧ ∀ f ∈ (s.inst i).foreign, now < f.times.headD 0 + c.annTimeout * logIval f.log
     ((s.inst i).cfg = some c) ∧ (2 ≤ s.instSt i) ∧ (s.instFault c = 0) ∧ (quiet (s.instNow c)) ∧ (c.role = 0 ∨ s.instNow c < sec * fuSec)) :=
  by repeat' first | decide +kernel | apply And.intro

end PtpTimeouts

namespace PulsesAndFrames

def so (o : Nat) (l : List (Nat × Nat)) (f : OutPin → OutPin := id) : State := (ticking (put ([(Reg.TKP_VC_STATUS 0, 2^30 + 1)] ++ l))).modOut o f
def ac (i v : Nat) : TimedAction := ⟨4, true, 2, 0, 0, fuSec, 0, i, v, 9 * 2^62, 1000, .nothing, 77⟩
def sa (a : TimedAction) (o : Nat) (l : List (Nat × Nat) := []) (f : OutPin → OutPin := id): State := ((so o l f).modPod 2 (fun q => {q with acts := [a], reserved := 1}))

theorem test_PulsesAndFrames_hypotheses :
    (let s : State := sa (ac 3 50) 11 [(Reg.SYN_PPS_CTRL 3, 1)]
     let k : Fin 8 := 3
     let sec : Int := 0
     let c0 := s.vcSet 0
     let lim (x : Int) : Int := min 500000000000 (max (-500000000000) x)
     let cfg := s.ppsFor k (s.ppsEdge k sec)
     let al := s.alignOf (8 + k) cfg.align
     let edge := sec * fuSec + psToFu (lim cfg.offset : Int) + al.1
     let last := (s.outp (8 + k)).last
     let clear (e : Int) : Prop := ∀ x ∈ last, x.1 + x.2 + 100000 ≤ e
     (s.genReady k 0 edge = true) ∧ (clear (edgePs c0 edge))) ∧
    (let s : State := so 11 [(Reg.SYN_PPS_CTRL 3, 1), (Reg.SYN_PPS_OFFSET 3, 2^40 - 5)] (fun o => {o with last := some (999999999900, 50)})
     let k : Fin 8 := 3
     let sec : Int := 1
     let c0 := s.vcSet 0
     let lim (x : Int) : Int := min 500000000000 (max (-500000000000) x)
     let cfg := s.ppsFor k (s.ppsEdge k sec)
     let al := s.alignOf (8 + k) cfg.align
     let edge := sec * fuSec + psToFu (lim cfg.offset : Int) + al.1
     let last := (s.outp (8 + k)).last
     let clear (e : Int) : Prop := ∀ x ∈ last, x.1 + x.2 + 100000 ≤ e
     (s.genReady k 0 edge = true) ∧ (¬ clear (edgePs c0 edge))) ∧
    (let s : State := sa (ac 3 50) 11 [(Reg.SYN_PPS_CTRL 3, 5)]
     let k : Fin 8 := 3
     let sec : Int := 0
     let lim (x : Int) : Int := min 500000000000 (max (-500000000000) x)
     let cfg := s.ppsFor k (s.ppsEdge k sec)
     let al := s.alignOf (8 + k) cfg.align
     let edge := sec * fuSec + psToFu (lim cfg.offset : Int) + al.1
     (s.genReady k 0 edge = false)) ∧
    (let s : State := so 11 [(Reg.SYN_PPS_CTRL 3, 3), (Reg.SYN_PPS_START 3, 2^64)]
     let k : Fin 8 := 3
     let idx : Nat := 4
     let c0 := s.vcSet 0
     let lim (x : Int) : Int := min 500000000000 (max (-500000000000) x)
     let start := gtOfRaw (s.reg (Reg.SYN_PPS_START k))
     let span : Int := idx * s.patPer k
     let cfgP := s.ppsFor k (s.patEdge k idx)
     let alP := s.alignOf (8 + k) cfgP.align
     let edgeP := start + psToFu (lim cfgP.offset + span : Int) + alP.1
     let last := (s.outp (8 + k)).last
     let clear (e : Int) : Prop := ∀ x ∈ last, x.1 + x.2 + 100000 ≤ e
     let passed : Prop := ∃ en, (s.outp (8 + k)).enAt = some en ∧ start < en ∧ edgeP < en + fuSec / 1000
     (s.genReady k 1 edgeP = true) ∧ (¬ passed) ∧ (clear (edgePs c0 edgeP))) ∧
    (let s : State := so 11 [(Reg.SYN_PPS_CTRL 3, 3), (Reg.SYN_PPS_START 3, 2^64)] (fun o => {o with last := some (999999999900, 50)})
     let k : Fin 8 := 3
     let idx : Nat := 0
     let c0 := s.vcSet 0
     let lim (x : Int) : Int := min 500000000000 (max (-500000000000) x)
     let start := gtOfRaw (s.reg (Reg.SYN_PPS_START k))
     let span : Int := idx * s.patPer k
     let cfgP := s.ppsFor k (s.patEdge k idx)
     let alP := s.alignOf (8 + k) cfgP.align
     let edgeP := start + psToFu (lim cfgP.offset + span : Int) + alP.1
     let last := (s.outp (8 + k)).last
     let clear (e : Int) : Prop := ∀ x ∈ last, x.1 + x.2 + 100000 ≤ e
     let passed : Prop := ∃ en, (s.outp (8 + k)).enAt = some en ∧ start < en ∧ edgeP < en + fuSec / 1000
     (s.genReady k 1 edgeP = true) ∧ (¬ passed) ∧ (¬ clear (edgePs c0 edgeP))) ∧
    (let s : State := sa (ac 3 50) 11 [(Reg.SYN_PPS_CTRL 3, 5)]
     let k : Fin 8 := 3
     let idx : Nat := 0
     let lim (x : Int) : Int := min 500000000000 (max (-500000000000) x)
     let start := gtOfRaw (s.reg (Reg.SYN_PPS_START k))
     let span : Int := idx * s.patPer k
     let cfgP := s.ppsFor k (s.patEdge k idx)
     let alP := s.alignOf (8 + k) cfgP.align
     let edgeP := start + psToFu (lim cfgP.offset + span : Int) + alP.1
     let passed : Prop := ∃ en, (s.outp (8 + k)).enAt = some en ∧ start < en ∧ edgeP < en + fuSec / 1000
     (s.genReady k 1 edgeP = false ∨ passed)) ∧
    (let s : State := sa (ac 3 50) 11 [(Reg.SYN_PPS_CTRL 3, 5)]
     let p : PodId := 2
     let k : Fin 8 := 3
     let id : Nat := 4
     let a : TimedAction := ac 3 50
     let last := (s.outp (8 + k)).last
     let clear (e : Int) : Prop := ∀ x ∈ last, x.1 + x.2 + 100000 ≤ e
     let issued : Prop := s.tbStopped = false ∧ s.action p id 2 = some a ∧ s.actFirst p a = true ∧ a.index % 8 = k.val ∧ a.took = .nothing
     let action : Prop := s.outEn (8 + k) = true ∧ s.fld (Reg.SYN_PPS_CTRL k) Reg.SYN_PPS_CTRL_MODE = 2
     let live : Bool := (s.atAction a).outReady (8 + k) ((s.atAction a).vcNow 0)
     let eA := edgePs (s.vcSet a.vc) a.target
     (issued) ∧ (action) ∧ (live = true) ∧ (clear eA)) ∧
    (let s : State := sa (ac 3 50) 11 [(Reg.SYN_PPS_CTRL 3, 5)] (fun o => {o with forced := true})
     let p : PodId := 2
     let k : Fin 8 := 3
     let id : Nat := 4
     let a : TimedAction := ac 3 50
     let issued : Prop := s.tbStopped = false ∧ s.action p id 2 = some a ∧ s.actFirst p a = true ∧ a.index % 8 = k.val ∧ a.took = .nothing
     let action : Prop := s.outEn (8 + k) = true ∧ s.fld (Reg.SYN_PPS_CTRL k) Reg.SYN_PPS_CTRL_MODE = 2
     let live : Bool := (s.atAction a).outReady (8 + k) ((s.atAction a).vcNow 0)
     (issued) ∧ (action) ∧ (live = false)) ∧
    (let s : State := sa (ac 3 50) 11 [(Reg.SYN_PPS_CTRL 3, 5)] (fun o => {o with last := some (999999999900, 50)})
     let p : PodId := 2
     let k : Fin 8 := 3
     let id : Nat := 4
     let a : TimedAction := ac 3 50
     let last := (s.outp (8 + k)).last
     let clear (e : Int) : Prop := ∀ x ∈ last, x.1 + x.2 + 100000 ≤ e
     let issued : Prop := s.tbStopped = false ∧ s.action p id 2 = some a ∧ s.actFirst p a = true ∧ a.index % 8 = k.val ∧ a.took = .nothing
     let action : Prop := s.outEn (8 + k) = true ∧ s.fld (Reg.SYN_PPS_CTRL k) Reg.SYN_PPS_CTRL_MODE = 2
     let live : Bool := (s.atAction a).outReady (8 + k) ((s.atAction a).vcNow 0)
     let eA := edgePs (s.vcSet a.vc) a.target
     (issued) ∧ (action) ∧ (live = true) ∧ (¬ clear eA)) ∧
    (let s : State := sa (ac 3 50) 11 [(Reg.SYN_PPS_CTRL 3, 1)]
     let p : PodId := 2
     let k : Fin 8 := 3
     let id : Nat := 4
     let a : TimedAction := ac 3 50
     let issued : Prop := s.tbStopped = false ∧ s.action p id 2 = some a ∧ s.actFirst p a = true ∧ a.index % 8 = k.val ∧ a.took = .nothing
     let action : Prop := s.outEn (8 + k) = true ∧ s.fld (Reg.SYN_PPS_CTRL k) Reg.SYN_PPS_CTRL_MODE = 2
     (issued) ∧ (¬ action)) ∧
    (let s : State := so 17 [(Reg.SYN_IRIG_CTRL 1, 1)]
     let f : Fin 2 := 1
     let sec : Int := 5
     let c0 := s.vcSet 0
     (s.outReady (16 + f) (sec * fuSec) = true) ∧ (s.startFits (16 + f) (tickOf c0 (sec * fuSec)) = true)) ∧
    (let s : State := so 20 [(Reg.SYN_TOD_CTRL 2, 0x1011), (Reg.SYN_TOD_TALKER 2, 0x4750), (Reg.SYN_PPS_CTRL 1, 1), (Reg.TKP_VC_STATUS 0, 2^30+3)] (fun o => {o with ctl := 0x1011})
     let d : Fin 4 := 2
     let sec : Int := 5
     let c0 := s.vcSet 0
     let ctl := s.reg (Reg.SYN_TOD_CTRL d)
     let src := ctl / 2 ^ 12 % 8
     let paired : Prop := s.outEn (8 + src) = true ∧ s.fld (Reg.SYN_PPS_CTRL src) Reg.SYN_PPS_CTRL_MODE = 0
     let begins := s.todStart ctl ((s.todMsg d ctl sec).getD []).length sec
     let due : Prop := s.outReady (18 + d) begins = true ∧ s.startFits (18 + d) (tickOf c0 begins) = true
     (due) ∧ (paired) ∧ (ctl / 16 % 4 = 1) ∧ (s.firstDone 0 = true)) ∧
    (let s : State := so 20 [(Reg.SYN_TOD_CTRL 2, 0x1001), (Reg.SYN_TOD_TALKER 2, 0x4750), (Reg.SYN_PPS_CTRL 1, 1)] (fun o => {o with ctl := 0x1001})
     let d : Fin 4 := 2
     let sec : Int := 5
     let c0 := s.vcSet 0
     let ctl := s.reg (Reg.SYN_TOD_CTRL d)
     let src := ctl / 2 ^ 12 % 8
     let paired : Prop := s.outEn (8 + src) = true ∧ s.fld (Reg.SYN_PPS_CTRL src) Reg.SYN_PPS_CTRL_MODE = 0
     let begins := s.todStart ctl ((s.todMsg d ctl sec).getD []).length sec
     let due : Prop := s.outReady (18 + d) begins = true ∧ s.startFits (18 + d) (tickOf c0 begins) = true
     (due) ∧ (paired) ∧ (ctl / 16 % 4 = 0)) ∧
    (let s : State := so 20 [(Reg.SYN_TOD_CTRL 2, 0x1001), (Reg.SYN_TOD_TALKER 2, 0x4750), (Reg.SYN_PPS_CTRL 1, 0)] (fun o => {o with ctl := 0x1001})
     let d : Fin 4 := 2
     let sec : Int := 5
     let c0 := s.vcSet 0
     let ctl := s.reg (Reg.SYN_TOD_CTRL d)
     let src := ctl / 2 ^ 12 % 8
     let paired : Prop := s.outEn (8 + src) = true ∧ s.fld (Reg.SYN_PPS_CTRL src) Reg.SYN_PPS_CTRL_MODE = 0
     let begins := s.todStart ctl ((s.todMsg d ctl sec).getD []).length sec
     let due : Prop := s.outReady (18 + d) begins = true ∧ s.startFits (18 + d) (tickOf c0 begins) = true
     (due) ∧ (¬ paired)) ∧
    (let s : State := sa (ac 3 50) 11 [(Reg.SYN_PPS_CTRL 3, 5)]
     let d : Fin 4 := 0
     let sec : Int := 0
     let c0 := s.vcSet 0
     let ctl := s.reg (Reg.SYN_TOD_CTRL d)
     let begins := s.todStart ctl ((s.todMsg d ctl sec).getD []).length sec
     let due : Prop := s.outReady (18 + d) begins = true ∧ s.startFits (18 + d) (tickOf c0 begins) = true
     (¬ due)) :=
  by repeat' first | decide +kernel | apply And.intro

end PulsesAndFrames

namespace ReferenceQualification

def rr (g : Gt) (fl : Nat) (ch : Nat) : MeasRec := ⟨g, 5, 77, 0, ch, 0, 0, fl⟩
def q (l : List MeasRec) (f : RefTrack → RefTrack := id) (l' : List (Nat × Nat) := []) : State :=
  let s := ticking (put ([(Reg.POD_STATUS 1, 2 + 2^Reg.POD_STATUS_RESIDENT.lo), (Reg.REF_STATE 8, 2 + 8 * 256), (Reg.REF_STATE 2, 2 + 9 * 256)] ++ l'))
  let s := {s with tdc := {s.tdc with qPod1 := l}}
  (s.modTrack 8 f).modTrack 2 f
def ex (t : RefTrack) : RefTrack := {t with expect := some 1000, hist := [(4, 900), (5, 5)]}
def zda (sec : Int) : List Byte := nmeaZda [71, 80] (utcOf (State.reset).leapTable sec)

theorem test_ReferenceQualification_hypotheses :
    (let s : State := let s := q [] (fun t => {ex t with lastPulse := some 4}) [(Reg.REF_TOD_CFG 0, 0x111)]; {s with ref := {s.ref with todCfg := [(0, 0x111)], todLast := [(0, some 999999999)]}}
     (s.tdc.qPod1 = [] ∨ s.runsResident 1 = false)) ∧
    (let s : State := let s := q [] (fun t => {ex t with lastPulse := some 4}) [(Reg.REF_TOD_CFG 0, 0x111)]; {s with ref := {s.ref with todCfg := [(0, 0x111)], todLast := [(0, some 999999999)]}}
     let k : Nat := 5625000000
     let u := s.at k
     (s.runsResident 1 = true) ∧ (s.tbRuns = true) ∧ (s.ref.evalAt ≠ some u.vc0Sec)) ∧
    (let s : State := let s := q []; {s with ref := {s.ref with evalAt := some 4}}
     let k : Nat := 5000000000
     let u := s.at k
     (s.runsResident 1 = false ∨ s.tbRuns = false ∨ s.ref.evalAt = some u.vc0Sec)) ∧
    (let s : State := let s := q [] (fun t => {ex t with lastPulse := some 4}) [(Reg.REF_TOD_CFG 0, 0x111)]; {s with ref := {s.ref with todCfg := [(0, 0x111)], todLast := [(0, some 999999999)]}}
     let k : Nat := 5625000000
     let u := s.at k
     let stalls : Prop := s.ref.hbTick + 3750000000 ≤ u.tkp.rawcnt ∧ s.fld Reg.REF_ISL_STATUS Reg.REF_ISL_STATUS_STALL = 0
     (stalls)) ∧
    (let s : State := q [rr 5 0 3] ex
     let k : Nat := 500
     let u := s.at k
     let stalls : Prop := s.ref.hbTick + 3750000000 ≤ u.tkp.rawcnt ∧ s.fld Reg.REF_ISL_STATUS Reg.REF_ISL_STATUS_STALL = 0
     (¬ stalls)) ∧
    (let s : State := let s := q [] (fun t => {ex t with lastPulse := some 4}) [(Reg.REF_TOD_CFG 0, 0x111)]; {s with ref := {s.ref with todCfg := [(0, 0x111)], todLast := [(0, some 999999999)]}}
     let n : Fin 4 := 0
     let cfg := s.todCfg n
     let on : Prop := cfg % 2 = 1
     (on)) ∧
    (let s : State := let s := q [] ex [(Reg.REF_TOD_CFG 0, 0x11)]; {s with ref := {s.ref with todCfg := [(0, 0x11)], todLast := [(0, some 999999999)]}}
     let k : Nat := 5625000000
     let n : Fin 4 := 0
     let msg : List Byte := zda 1000000000
     let tai : Int := 1000000000
     let u := s.at k
     let cfg := s.todCfg n
     let on : Prop := cfg % 2 = 1
     let inSlot : Prop := readTod s.leapTable (cfg / 16 % 4) msg = .label tai ∧ u.todSlot n = true
     let follows : Prop := ∀ l ∈ tabGet none s.ref.todLast n, tai = l + 1
     (on) ∧ (inSlot) ∧ (follows) ∧ (cfg / 256 % 2 = 0)) ∧
    (let s : State := let s := q [] (fun t => {ex t with lastPulse := some 4}) [(Reg.REF_TOD_CFG 0, 0x111)]; {s with ref := {s.ref with todCfg := [(0, 0x111)], todLast := [(0, some 999999999)]}}
     let k : Nat := 5625000000
     let n : Fin 4 := 0
     let msg : List Byte := zda 1000000000
     let tai : Int := 1000000000
     let u := s.at k
     let cfg := s.todCfg n
     let on : Prop := cfg % 2 = 1
     let before := (u.todPulse n).1
     let inSlot : Prop := readTod s.leapTable (cfg / 16 % 4) msg = .label tai ∧ u.todSlot n = true
     let follows : Prop := ∀ l ∈ tabGet none s.ref.todLast n, tai = l + 1
     (on) ∧ (inSlot) ∧ (follows) ∧ (cfg / 256 % 2 = 1) ∧ ((s.track (8 + n)).lastPulse = some before)) ∧
    (let s : State := let s := q [] (fun t => {ex t with lastPulse := some 3}) [(Reg.REF_TOD_CFG 0, 0x111)]; {s with ref := {s.ref with todCfg := [(0, 0x111)], todLast := [(0, some 999999999)]}}
     let k : Nat := 5625000000
     let n : Fin 4 := 0
     let msg : List Byte := zda 1000000000
     let tai : Int := 1000000000
     let u := s.at k
     let cfg := s.todCfg n
     let on : Prop := cfg % 2 = 1
     let before := (u.todPulse n).1
     let inSlot : Prop := readTod s.leapTable (cfg / 16 % 4) msg = .label tai ∧ u.todSlot n = true
     let follows : Prop := ∀ l ∈ tabGet none s.ref.todLast n, tai = l + 1
     (on) ∧ (inSlot) ∧ (follows) ∧ (cfg / 256 % 2 = 1) ∧ ((s.track (8 + n)).lastPulse ≠ some before)) ∧
    (let s : State := let s := q [] ex [(Reg.REF_TOD_CFG 0, 0x11)]; {s with ref := {s.ref with todCfg := [(0, 0x11)], todLast := [(0, some 999999998)]}}
     let k : Nat := 5625000000
     let n : Fin 4 := 0
     let msg : List Byte := zda 1000000000
     let tai : Int := 1000000000
     let u := s.at k
     let cfg := s.todCfg n
     let on : Prop := cfg % 2 = 1
     let inSlot : Prop := readTod s.leapTable (cfg / 16 % 4) msg = .label tai ∧ u.todSlot n = true
     let follows : Prop := ∀ l ∈ tabGet none s.ref.todLast n, tai = l + 1
     (on) ∧ (inSlot) ∧ (¬ follows)) ∧
    (let s : State := q [rr 5 0 3] ex
     let n : Fin 4 := 0
     let cfg := s.todCfg n
     let on : Prop := cfg % 2 = 1
     (¬ on)) ∧
    (let s : State := q [rr 5 0 3] ex
     let r : MeasRec := rr 5 0 3
     let rest : List MeasRec := []
     (s.runsResident 1 = true) ∧ (s.tdc.qPod1 = r :: rest) ∧ (s.refOfChan r.chan = none)) ∧
    (let s : State := q [rr 5 1 8, rr 5 0 7] ex
     let m : RefId := 8
     let r : MeasRec := rr 5 1 8
     let rest : List MeasRec := [rr 5 0 7]
     let of_ : Prop := s.refOfChan r.chan = some (m.val, false)
     let void : Prop := r.flags % 2 = 1 ∨ r.flags / 64 % 2 = 1
     (s.runsResident 1 = true) ∧ (s.tdc.qPod1 = r :: rest) ∧ (of_) ∧ (void)) ∧
    (let s : State := q [rr (5 * fuSec + 5) 0 8, rr 5 0 7] ex
     let m : RefId := 8
     let r : MeasRec := rr (5 * fuSec + 5) 0 8
     let rest : List MeasRec := [rr 5 0 7]
     let of_ : Prop := s.refOfChan r.chan = some (m.val, false)
     let void : Prop := r.flags % 2 = 1 ∨ r.flags / 64 % 2 = 1
     let tr := s.track m
     let sec := (r.gt + fuSec / 2) / fuSec
     let x := fuToPs (r.gt - sec * fuSec)
     let near := tr.accepts r.gt x ((s.param 0x107 : Int) * 1000000000)
     (s.runsResident 1 = true) ∧ (s.tdc.qPod1 = r :: rest) ∧ (of_) ∧ (¬ void) ∧ (8 ≤ m.val) ∧ (near = true)) ∧
    (let s : State := q [rr (5 * fuSec + fuSec / 3) 0 8, rr 5 0 7] ex
     let m : RefId := 8
     let r : MeasRec := rr (5 * fuSec + fuSec / 3) 0 8
     let rest : List MeasRec := [rr 5 0 7]
     let of_ : Prop := s.refOfChan r.chan = some (m.val, false)
     let void : Prop := r.flags % 2 = 1 ∨ r.flags / 64 % 2 = 1
     let tr := s.track m
     let sec := (r.gt + fuSec / 2) / fuSec
     let x := fuToPs (r.gt - sec * fuSec)
     let near := tr.accepts r.gt x ((s.param 0x107 : Int) * 1000000000)
     (s.runsResident 1 = true) ∧ (s.tdc.qPod1 = r :: rest) ∧ (of_) ∧ (¬ void) ∧ (8 ≤ m.val) ∧ (near = false)) ∧
    (let s : State := q [rr (5 * fuSec + fuSec / 3) 0 9, rr 5 0 7] ex
     let m : RefId := 2
     let r : MeasRec := rr (5 * fuSec + fuSec / 3) 0 9
     let rest : List MeasRec := [rr 5 0 7]
     let of_ : Prop := s.refOfChan r.chan = some (m.val, false)
     let void : Prop := r.flags % 2 = 1 ∨ r.flags / 64 % 2 = 1
     (s.runsResident 1 = true) ∧ (s.tdc.qPod1 = r :: rest) ∧ (of_) ∧ (¬ void) ∧ (m.val < 8)) :=
  by repeat' first | decide +kernel | apply And.intro

end ReferenceQualification

namespace ResetTriggers

def kk (n : Nat) : List Byte := List.replicate n 7
def big (l : List (Nat × Nat)) (pg : Bool := false) : State :=
  let s := (((((ticking State.reset).ready 33 0x600).keyed 5 5 2 (kk 32)).ring 1).ring 2).put ([(Reg.TKP_VC_OFFSET 3, 77), (Reg.HIF_LINK, 5), (Reg.FLT_PEND 3, 2^9), (Reg.TDC_CH_CTRL 4, 1), (Reg.KEY_TAMP_CFG 2, 17), (Reg.MAC_PORT_CFG 2, 1), (Reg.CLK_STATUS, 2 + 0x18), (Reg.PWR_STATUS, 9)] ++ l)
  { s with tkp := {s.tkp with rawcnt := 5000}, dram := [(dramBase, 7)], flash := s.flash, clk := {s.clk with up := true, starting := false, pgFell := pg}, flt := {s.flt with cond := [53, 82, 95]}, mram := {s.mram with queue := [⟨1, .nums [1], []⟩], pairs := [(1, ⟨some (0, .nums [1]), none⟩)]}, pods := [(2, {PodState.reset with pc := 7})]}

theorem test_ResetTriggers_hypotheses :
    (let s : State := big [(Reg.KEY_STATUS, 3)] true
     (s.clk.pgFell = true)) ∧
    (let s : State := big []
     (s.clk.pgFell = false)) ∧
    (let m : Master := 0
     let data : Nat := 0x57520001
     let keyed : Prop := m.val ≤ 1 ∧ data / 65536 % 65536 = 0x5752
     (keyed) ∧ (data % 2 = 1)) ∧
    (let m : Master := 1
     let data : Nat := 0x57520000
     let keyed : Prop := m.val ≤ 1 ∧ data / 65536 % 65536 = 0x5752
     (keyed) ∧ (data % 2 = 0)) ∧
    (let m : Master := 11
     let data : Nat := 0x57520001
     let keyed : Prop := m.val ≤ 1 ∧ data / 65536 % 65536 = 0x5752
     (¬ keyed)) ∧
    (let s : State := big []
     (s.clk.up = true)) ∧
    (let s : State := State.reset
     (s.clk.up = false)) :=
  by decide +kernel

end ResetTriggers

namespace SynCommands

def sy (l : List (Nat × Nat)) (f : Synth → Synth := id) : State := (ticking (put l)).modSynth 2 f

theorem test_SynCommands_hypotheses :
    (let s : State := sy [(Reg.SYN_CTRL 2, 0x300100)]
     let m : Master := 0
     let n : SynId := 2
     let a := Reg.SYN_CTRL n
     let on : Prop := MayPost s m a ∧ s.fld a Reg.SYN_CTRL_EN = 1
     (on)) ∧
    (let s : State := sy [(Reg.SYN_CTRL 2, 0x300000), (Reg.SYN_FREQ 2, 0x8000000000001)]
     let m : Master := 0
     let n : SynId := 2
     let a := Reg.SYN_CTRL n
     let off : Prop := MayPost s m a ∧ s.fld a Reg.SYN_CTRL_EN = 0
     (off)) ∧
    (let s : State := sy [(Reg.SYN_CTRL 2, 0x300100)]
     let m : Master := 0
     let n : SynId := 2
     let a := Reg.SYN_CTRL n
     (MayPost s m a)) ∧
    (let s : State := sy [(Reg.SYN_CTRL 2, 0x300000), (Reg.SYN_FREQ 2, 0x8000000000001)]
     let m : Master := 0
     let n : SynId := 2
     let data : Nat := 0x100
     let a := Reg.SYN_CTRL n
     let off : Prop := MayPost s m a ∧ s.fld a Reg.SYN_CTRL_EN = 0
     (off) ∧ (data % 16 = 0) ∧ (data / 2 ^ 8 % 2 = 1)) ∧
    (let s : State := sy [(Reg.SYN_CTRL 2, 0x300100)]
     let m : Master := 0
     let n : SynId := 2
     let data : Nat := 0
     let a := Reg.SYN_CTRL n
     let on : Prop := MayPost s m a ∧ s.fld a Reg.SYN_CTRL_EN = 1
     (on) ∧ (data % 16 = 0) ∧ (data / 2 ^ 8 % 2 = 0)) ∧
    (let s : State := sy [(Reg.SYN_CTRL 2, 0x300100), (Reg.SYN_ISL_STATUS, 1)]
     let m : Master := 0
     let n : SynId := 2
     let a := Reg.SYN_CTRL n
     (MayWrite s m a) ∧ (s.islBusy a = true)) :=
  by decide +kernel

end SynCommands

namespace SynOperationsTakeEffect

def sy (l : List (Nat × Nat)) (op idx : Nat) (f : Synth → Synth := id) : State := (ticking (put ([(Reg.SYN_CTRL 2, 0x300100), (Reg.SYN_ISL_STATUS, 1)] ++ l))).modSynth 2 (fun y => f {y with op := some ⟨op, idx, 100⟩})
def bmv : Nat := 2^81 + 2^72 * 30 + 2^64 * 77 + 8 * 2^48 + 9

theorem test_SynOperationsTakeEffect_hypotheses :
    (let s : State := sy [(Reg.SYN_FREQ 2, 0x8000000000001)] 1 3
     let n : SynId := 2
     let h : SynOp := ⟨1, 3, 100⟩
     let k : Fin 16 := 3
     let y := s.synth n
     let f := s.reg (Reg.SYN_FREQ n)
     let due (op : Nat) : Prop := y.op = some h ∧ h.op = op ∧ h.idx = k ∧ s.tbStopped = false ∧ s.synatWaits n (h.tick + 1250) = false
      ∧ s.fld (Reg.SYN_CTRL n) Reg.SYN_CTRL_EN = 1
     (due 1) ∧ (ratioOk f = true) ∧ (s.synSt n ≠ 6)) ∧
    (let s : State := sy [(Reg.SYN_FREQ 2, 0x4000000000001), (Reg.SYN_STATUS 2, 3)] 1 3
     let n : SynId := 2
     let h : SynOp := ⟨1, 3, 100⟩
     let k : Fin 16 := 3
     let y := s.synth n
     let f := s.reg (Reg.SYN_FREQ n)
     let due (op : Nat) : Prop := y.op = some h ∧ h.op = op ∧ h.idx = k ∧ s.tbStopped = false ∧ s.synatWaits n (h.tick + 1250) = false
      ∧ s.fld (Reg.SYN_CTRL n) Reg.SYN_CTRL_EN = 1
     (due 1) ∧ (ratioOk f = false)) ∧
    (let s : State := sy [(Reg.SYN_BM 2 3, bmv)] 2 3
     let n : SynId := 2
     let h : SynOp := ⟨2, 3, 100⟩
     let k : Fin 16 := 3
     let y := s.synth n
     let due (op : Nat) : Prop := y.op = some h ∧ h.op = op ∧ h.idx = k ∧ s.tbStopped = false ∧ s.synatWaits n (h.tick + 1250) = false
      ∧ s.fld (Reg.SYN_CTRL n) Reg.SYN_CTRL_EN = 1
     (due 2) ∧ (s.bmValid n k = true) ∧ (s.synSt n ≠ 6)) ∧
    (let s : State := sy [(Reg.SYN_FREQ 2, 0x8000000000001), (Reg.SYN_STATUS 2, 6)] 1 3
     let n : SynId := 2
     let h : SynOp := ⟨1, 3, 100⟩
     let k : Fin 16 := 3
     let y := s.synth n
     let f := s.reg (Reg.SYN_FREQ n)
     let due (op : Nat) : Prop := y.op = some h ∧ h.op = op ∧ h.idx = k ∧ s.tbStopped = false ∧ s.synatWaits n (h.tick + 1250) = false
      ∧ s.fld (Reg.SYN_CTRL n) Reg.SYN_CTRL_EN = 1
     (due 1) ∧ (ratioOk f = true) ∧ (s.synSt n = 6)) ∧
    (let s : State := sy [(Reg.SYN_BM 2 3, bmv), (Reg.SYN_STATUS 2, 6)] 2 3
     let n : SynId := 2
     let h : SynOp := ⟨2, 3, 100⟩
     let k : Fin 16 := 3
     let y := s.synth n
     let due (op : Nat) : Prop := y.op = some h ∧ h.op = op ∧ h.idx = k ∧ s.tbStopped = false ∧ s.synatWaits n (h.tick + 1250) = false
      ∧ s.fld (Reg.SYN_CTRL n) Reg.SYN_CTRL_EN = 1
     (due 2) ∧ (s.bmValid n k = true) ∧ (s.synSt n = 6)) ∧
    (let s : State := sy [(Reg.SYN_BM 2 3, 0)] 2 3
     let n : SynId := 2
     let h : SynOp := ⟨2, 3, 100⟩
     let k : Fin 16 := 3
     let y := s.synth n
     let due (op : Nat) : Prop := y.op = some h ∧ h.op = op ∧ h.idx = k ∧ s.tbStopped = false ∧ s.synatWaits n (h.tick + 1250) = false
      ∧ s.fld (Reg.SYN_CTRL n) Reg.SYN_CTRL_EN = 1
     (due 2) ∧ (s.bmValid n k = false)) ∧
    (let s : State := sy [(Reg.SYN_STATUS 2, 0x1F0003)] 3 3 (fun y => {y with ratio := 12345678901})
     let n : SynId := 2
     let h : SynOp := ⟨3, 3, 100⟩
     let k : Fin 16 := 3
     let y := s.synth n
     let due (op : Nat) : Prop := y.op = some h ∧ h.op = op ∧ h.idx = k ∧ s.tbStopped = false ∧ s.synatWaits n (h.tick + 1250) = false
      ∧ s.fld (Reg.SYN_CTRL n) Reg.SYN_CTRL_EN = 1
     (due 3) ∧ (s.synSt n = 3)) ∧
    (let s : State := sy [(Reg.SYN_STATUS 2, 0x1F0002)] 3 3 (fun y => {y with ratio := 12345678901})
     let n : SynId := 2
     let h : SynOp := ⟨3, 3, 100⟩
     let k : Fin 16 := 3
     let y := s.synth n
     let due (op : Nat) : Prop := y.op = some h ∧ h.op = op ∧ h.idx = k ∧ s.tbStopped = false ∧ s.synatWaits n (h.tick + 1250) = false
      ∧ s.fld (Reg.SYN_CTRL n) Reg.SYN_CTRL_EN = 1
     (due 3) ∧ (s.synSt n ≠ 3)) ∧
    (let s : State := sy [(Reg.SYN_BM 2 3, bmv)] 4 3 (fun y => {y with ratio := 12345678901})
     let n : SynId := 2
     let h : SynOp := ⟨4, 3, 100⟩
     let k : Fin 16 := 3
     let y := s.synth n
     let due (op : Nat) : Prop := y.op = some h ∧ h.op = op ∧ h.idx = k ∧ s.tbStopped = false ∧ s.synatWaits n (h.tick + 1250) = false
      ∧ s.fld (Reg.SYN_CTRL n) Reg.SYN_CTRL_EN = 1
     (due 4)) ∧
    (let s : State := sy [(Reg.SYN_STATUS 2, 0x1F0003)] 5 3 (fun y => {y with ratio := 12345678901})
     let n : SynId := 2
     let h : SynOp := ⟨5, 3, 100⟩
     let k : Fin 16 := 3
     let y := s.synth n
     let due (op : Nat) : Prop := y.op = some h ∧ h.op = op ∧ h.idx = k ∧ s.tbStopped = false ∧ s.synatWaits n (h.tick + 1250) = false
      ∧ s.fld (Reg.SYN_CTRL n) Reg.SYN_CTRL_EN = 1
     (due 5) ∧ (s.synSt n ≠ 6)) ∧
    (let s : State := sy [(Reg.SYN_STATUS 2, 0x1F0003), (Reg.CLK_STATUS, 0x5 * 2^Reg.CLK_STATUS_TBP.lo)] 5 3
     let n : SynId := 2
     let h : SynOp := ⟨5, 3, 100⟩
     let y := s.synth n
     (y.op = none ∨ s.tbStopped = true ∨ (y.op = some h ∧ s.synatWaits n (h.tick + 1250) = true))) :=
  by repeat' first | decide +kernel | apply And.intro

end SynOperationsTakeEffect

namespace SynOutputs

def ac (kind op i v : Nat) : TimedAction := ⟨4, true, kind, 1, 3, 4000000 * 2^32, op, i, v, 9 * 2^62, 1000, .nothing, 77⟩
def sa (a : TimedAction) (l : List (Nat × Nat) := []) : State := ticking ((put ([(Reg.SYN_CTRL 2, 0x100)] ++ l)).modPod 2 (fun q => {q with acts := [a], reserved := 1}))
def sr (f : OutPin → OutPin) (l : List (Nat × Nat)) : State := ((ticking (put ([(Reg.SYN_OUT_CTRL 5, 0x1), (Reg.SYN_STATUS 2, 3)] ++ l))).modSynth 2 (fun y => {y with ratio := 8*2^48})).modOut 5 f

theorem test_SynOutputs_hypotheses :
    (let s : State := sa (ac 4 0 2 (8*2^48+5))
     let m : Master := 0
     let o : Fin 22 := 0
     let r := outCtrlReg o
     (MayPost s m r) ∧ ((o.val < 8 ∨ 16 ≤ o.val) ∨ s.outEn o = false)) ∧
    (let s : State := put [(Reg.SYN_PPS_CTRL 3, 3)]
     let m : Master := 0
     let o : Fin 22 := 11
     let data : Nat := 0x5
     let r := outCtrlReg o
     let mode := data / 2 % 4
     (MayPost s m r) ∧ (8 ≤ o.val) ∧ (o.val < 16) ∧ (s.outEn o = true) ∧ (mode ≠ 3) ∧ (mode ≠ s.reg r / 2 % 4)) ∧
    (let s : State := sa (ac 4 0 2 (8*2^48+5))
     let m : Master := 0
     let j : Fin 8 := 0
     (MayPost s m (Reg.SYN_OUT_CTRL j))) ∧
    (let s : State := sr (fun o => {o with realign := some (fuSec / 3)}) [(Reg.SYN_OUT_DIV 5, 10)]
     let j : Fin 8 := 5
     let sec : Int := 1
     let ev : Gt := fuSec / 3
     let x := s.alignOf j (s.fld (Reg.SYN_OUT_CTRL j) Reg.SYN_OUT_CTRL_ALIGN)
     let at_ := sec * fuSec + x.1
     let inst : Prop := (s.outp j).realign = some ev ∧ ev + fuSec / 1000 ≤ at_ ∧ at_ < ev + fuSec / 1000 + fuSec
     let ready : Prop := s.outLive j = true ∧ s.synSt (j / 2) = 3 ∧ s.fld (Reg.SYN_OUT_STATUS j) Reg.SYN_OUT_STATUS_ALIGN_NA = 0
     (inst) ∧ (ready)) ∧
    (let s : State := sr (fun o => {o with realign := some (fuSec / 3)}) [(Reg.SYN_OUT_DIV 5, 10)]
     let j : Fin 8 := 5
     let sec : Int := 2
     let ev : Gt := fuSec / 3
     let x := s.alignOf j (s.fld (Reg.SYN_OUT_CTRL j) Reg.SYN_OUT_CTRL_ALIGN)
     let at_ := sec * fuSec + x.1
     let inst : Prop := (s.outp j).realign = some ev ∧ ev + fuSec / 1000 ≤ at_ ∧ at_ < ev + fuSec / 1000 + fuSec
     (¬ inst) ∧ ((s.outp j).realign = some ev)) ∧
    (let s : State := sa (ac 4 0 2 (8*2^48+5))
     let p : PodId := 2
     let n : SynId := 2
     let id : Nat := 4
     let a : TimedAction := ac 4 0 2 (8*2^48+5)
     let tgt := a.index / 16 % 8
     let k := a.index % 8
     let issued (op : Nat) : Prop := s.tbStopped = false ∧ s.action p id 4 = some a ∧ s.actFirst p a = true ∧ a.op = op ∧ a.took = .nothing
     (issued 0) ∧ (tgt = 0) ∧ (k = n.val) ∧ (s.fld (Reg.SYN_CTRL n) Reg.SYN_CTRL_EN = 1) ∧ (ratioOk (a.val % 2 ^ 52) = true) ∧ (s.synSt n ≠ 6)) ∧
    (let s : State := sa (ac 4 2 2 (8*2^48+5))
     let p : PodId := 2
     let n : SynId := 2
     let id : Nat := 4
     let a : TimedAction := ac 4 2 2 (8*2^48+5)
     let tgt := a.index / 16 % 8
     let k := a.index % 8
     let issued (op : Nat) : Prop := s.tbStopped = false ∧ s.action p id 4 = some a ∧ s.actFirst p a = true ∧ a.op = op ∧ a.took = .nothing
     (issued 2) ∧ (tgt = 0) ∧ (k = n.val) ∧ (s.fld (Reg.SYN_CTRL n) Reg.SYN_CTRL_EN = 1) ∧ (s.synSt n ≠ 6)) ∧
    (let s : State := sa (ac 4 1 5 (8*2^48+5))
     let p : PodId := 2
     let id : Nat := 4
     let a : TimedAction := ac 4 1 5 (8*2^48+5)
     let tgt := a.index / 16 % 8
     let k := a.index % 8
     let issued (op : Nat) : Prop := s.tbStopped = false ∧ s.action p id 4 = some a ∧ s.actFirst p a = true ∧ a.op = op ∧ a.took = .nothing
     (issued 0 ∨ issued 1 ∨ issued 2 ∨ issued 3) ∧ (tgt ≠ 0 ∨ 4 ≤ k)) ∧
    (let s : State := sa (ac 4 4 0x15 0)
     let p : PodId := 2
     let o : Fin 22 := 5
     let id : Nat := 4
     let a : TimedAction := ac 4 4 0x15 0
     let tgt := a.index / 16 % 8
     let k := a.index % 8
     let issued (op : Nat) : Prop := s.tbStopped = false ∧ s.action p id 4 = some a ∧ s.actFirst p a = true ∧ a.op = op ∧ a.took = .nothing
     (issued 4) ∧ (synatOut tgt k = some o.val)) ∧
    (let s : State := sa (ac 4 5 0x15 0)
     let p : PodId := 2
     let o : Fin 22 := 5
     let id : Nat := 4
     let a : TimedAction := ac 4 5 0x15 0
     let tgt := a.index / 16 % 8
     let k := a.index % 8
     let issued (op : Nat) : Prop := s.tbStopped = false ∧ s.action p id 4 = some a ∧ s.actFirst p a = true ∧ a.op = op ∧ a.took = .nothing
     (issued 5) ∧ (synatOut tgt k = some o.val) ∧ (o.val < 8)) ∧
    (let s : State := sa (ac 4 4 0x35 0)
     let p : PodId := 2
     let id : Nat := 4
     let a : TimedAction := ac 4 4 0x35 0
     let tgt := a.index / 16 % 8
     let k := a.index % 8
     let issued (op : Nat) : Prop := s.tbStopped = false ∧ s.action p id 4 = some a ∧ s.actFirst p a = true ∧ a.op = op ∧ a.took = .nothing
     (issued 4 ∨ issued 5) ∧ (synatOut tgt k = none)) :=
  by repeat' first | decide +kernel | apply And.intro

end SynOutputs

namespace SynStates

def sy (st : Nat) (l : List (Nat × Nat)) (f : Synth → Synth := id) : State := (ticking (put ([(Reg.SYN_CTRL 2, 0x100), (Reg.SYN_STATUS 2, st + 0x440000), (Reg.SYN_OUT_CTRL 5, 0x2001)] ++ l))).modSynth 2 (fun y => f {y with ratePend := some 9, since := 77})

theorem test_SynStates_hypotheses :
    (let s : State := sy 4 []
     let n : SynId := 2
     let r : Int := 9
     let y := s.synth n
     (y.ratePend = some r)) ∧
    (let s : State := sy 1 [(Reg.SYN_CTRL 2, 0x10100)]
     let n : SynId := 2
     let err : Nat := 100
     let k : Nat := 6327
     let u := s.at k
     let y := s.synth n
     let st := s.synSt n
     let near : Prop := s.tbStopped = false ∧ err ≤ 100 ∧ y.since + 6250 ≤ u.tkp.rawcnt
     let within (us : Nat) : Prop := u.tkp.rawcnt ≤ y.since + us * 1250
     (near) ∧ (st = 1) ∧ (within 4000)) ∧
    (let s : State := sy 4 []
     let n : SynId := 2
     let err : Nat := 0
     let k : Nat := 50000077
     let u := s.at k
     let y := s.synth n
     let st := s.synSt n
     let near : Prop := s.tbStopped = false ∧ err ≤ 100 ∧ y.since + 6250 ≤ u.tkp.rawcnt
     let within (us : Nat) : Prop := u.tkp.rawcnt ≤ y.since + us * 1250
     (near) ∧ ((st = 2 ∧ within 25) ∨ st = 4)) ∧
    (let s : State := sy 2 []
     let n : SynId := 2
     let err : Nat := 100
     let k : Nat := 31328
     let u := s.at k
     let y := s.synth n
     let st := s.synSt n
     let near : Prop := s.tbStopped = false ∧ err ≤ 100 ∧ y.since + 6250 ≤ u.tkp.rawcnt
     let within (us : Nat) : Prop := u.tkp.rawcnt ≤ y.since + us * 1250
     (¬ near ∨ (st ≠ 1 ∧ st ≠ 2 ∧ st ≠ 4) ∨ (st = 1 ∧ ¬ within 4000) ∨ (st = 2 ∧ ¬ within 25))) ∧
    (let s : State := sy 3 []
     let n : SynId := 2
     let err : Nat := 1001
     let st := s.synSt n
     (st = 3) ∧ (1000 < err)) ∧
    (let s : State := sy 4 []
     let n : SynId := 2
     let err : Nat := 0
     let st := s.synSt n
     (st ≠ 3 ∨ err ≤ 1000)) ∧
    (let s : State := sy 1 [(Reg.SYN_CTRL 2, 0x10100)]
     let n : SynId := 2
     let st := s.synSt n
     (s.tbStopped = false) ∧ (st = 1)) ∧
    (let s : State := sy 5 []
     let n : SynId := 2
     let st := s.synSt n
     (s.tbStopped = false) ∧ (st = 5)) ∧
    (let s : State := sy 2 []
     let n : SynId := 2
     let st := s.synSt n
     (s.tbStopped = false) ∧ (st = 2)) ∧
    (let s : State := sy 3 []
     let n : SynId := 2
     let st := s.synSt n
     (s.tbStopped = false) ∧ (st = 3)) :=
  by decide +kernel

end SynStates

namespace TdcArming

def ac : TimedAction := ⟨4, true, 3, 1, 3, 4000000 * 2^32, 0, 7, 0, 0, 0, .nothing, 77⟩
def cs (ctl : Nat) (l : List (Nat × Nat) := []) (f : ChanState → ChanState := id) : State :=
  let s := ticking ((put ([(Reg.TDC_CH_CTRL 7, ctl), (Reg.TDC_ISL_STATUS, 4)] ++ l)).modPod 2 (fun q => {q with acts := [ac], reserved := 1}))
  s.modChan 7 f

theorem test_TdcArming_hypotheses :
    (let s : State := cs 1
     let p : PodId := 2
     let c : ChanId := 7
     let id : Nat := 4
     let a : TimedAction := ac
     let n := s.actTick a
     let issued : Prop := s.tbStopped = false ∧ s.action p id 3 = some a ∧ s.actFirst p a = true ∧ a.index = c ∧ a.took = .nothing
     (issued) ∧ (s.armable c = true) ∧ (s.armBlocked c n = false)) ∧
    (let s : State := cs 1 [] (fun c => {c with arm := some (5, 8)})
     let p : PodId := 2
     let c : ChanId := 7
     let id : Nat := 4
     let a : TimedAction := ac
     let n := s.actTick a
     let issued : Prop := s.tbStopped = false ∧ s.action p id 3 = some a ∧ s.actFirst p a = true ∧ a.index = c ∧ a.took = .nothing
     (issued) ∧ (s.armable c = true) ∧ (s.armBlocked c n = true)) ∧
    (let s : State := cs 0
     let p : PodId := 2
     let c : ChanId := 7
     let id : Nat := 4
     let a : TimedAction := ac
     let issued : Prop := s.tbStopped = false ∧ s.action p id 3 = some a ∧ s.actFirst p a = true ∧ a.index = c ∧ a.took = .nothing
     (issued) ∧ (s.armable c = false)) ∧
    (let s : State := cs 0x501 [(Reg.TDC_CH_APER 7, 1)]
     let c : ChanId := 7
     let k : Nat := 5000000
     let u := s.at k
     let now := u.tkp.rawcnt
     let per := min 1000000 (s.reg (Reg.TDC_CH_APER c))
     let ctl (f : Fld) : Nat := s.fld (Reg.TDC_CH_CTRL c) f
     let ticks : Prop := s.armable c = true ∧ ctl Reg.TDC_CH_CTRL_ARMSRC = 5 ∧ per ≠ 0
      ∧ periodicTick (s.vcSet (s.chanVc c)) now ((per : Int) * (1000 * fuNs)) = true
     (ticks) ∧ (s.armBlocked c now = false)) ∧
    (let s : State := cs 0x501 [(Reg.TDC_CH_APER 7, 1), (Reg.TDC_CH_LOST 7, 4294901760 + 65535)] (fun c => {c with arm := some (5, 8)})
     let c : ChanId := 7
     let k : Nat := 5000000
     let u := s.at k
     let now := u.tkp.rawcnt
     let per := min 1000000 (s.reg (Reg.TDC_CH_APER c))
     let ctl (f : Fld) : Nat := s.fld (Reg.TDC_CH_CTRL c) f
     let ticks : Prop := s.armable c = true ∧ ctl Reg.TDC_CH_CTRL_ARMSRC = 5 ∧ per ≠ 0
      ∧ periodicTick (s.vcSet (s.chanVc c)) now ((per : Int) * (1000 * fuNs)) = true
     (ticks) ∧ (s.armBlocked c now = true)) ∧
    (let s : State := cs 0x301 []
     let c : ChanId := 7
     let g : Fin 4 := 2
     let k : Nat := 5000000
     let u := s.at k
     let ch := s.chan c
     let ctl (f : Fld) : Nat := s.fld (Reg.TDC_CH_CTRL c) f
     let gated : Prop := u.tbRuns = true ∧ s.chanEn c = true ∧ ctl Reg.TDC_CH_CTRL_MODE = 0 ∧ ctl Reg.TDC_CH_CTRL_ARMSRC = g.val + 1
     (gated) ∧ (s.chanWin c = false) ∧ (ch.window = none) ∧ (ch.busy = false) ∧ (s.chanPeriods c = false)) ∧
    (let s : State := cs 0x301 [(Reg.TDC_ISL_STATUS, 0)]
     let c : ChanId := 7
     let g : Fin 4 := 2
     let k : Nat := 5000000
     let u := s.at k
     let ch := s.chan c
     let ctl (f : Fld) : Nat := s.fld (Reg.TDC_CH_CTRL c) f
     let gated : Prop := u.tbRuns = true ∧ s.chanEn c = true ∧ ctl Reg.TDC_CH_CTRL_MODE = 0 ∧ ctl Reg.TDC_CH_CTRL_ARMSRC = g.val + 1
     (gated) ∧ (s.chanWin c = false) ∧ (ch.window = none) ∧ (ch.busy = false) ∧ (s.chanPeriods c = true)) ∧
    (let s : State := cs 0x321 [] (fun c => {c with calGate := true, calib := some 5002500})
     let c : ChanId := 7
     let n1 : Nat := 1003
     let n2 : Nat := 1980
     let at_ : Nat := 5002500
     let ch := s.chan c
     let d : Int := (n2 : Int) - n1
     let valid : Prop := 900 ≤ n1 ∧ n1 ≤ 1100 ∧ 900 ≤ d ∧ d ≤ 1100
     (s.chanEn c = true) ∧ (ch.calGate = true) ∧ (ch.calib = some at_) ∧ (valid)) ∧
    (let s : State := cs 0x301 [(Reg.TDC_ISL_STATUS, 0)] (fun c => {c with arm := some (5, 8)})
     let c : ChanId := 7
     let g : Fin 4 := 2
     let k : Nat := 5000000
     let u := s.at k
     let ch := s.chan c
     let ctl (f : Fld) : Nat := s.fld (Reg.TDC_CH_CTRL c) f
     let gated : Prop := u.tbRuns = true ∧ s.chanEn c = true ∧ ctl Reg.TDC_CH_CTRL_MODE = 0 ∧ ctl Reg.TDC_CH_CTRL_ARMSRC = g.val + 1
     (gated) ∧ (s.chanWin c = false) ∧ (ch.window = none) ∧ (ch.busy = true)) ∧
    (let s : State := cs 0x301 [(Reg.TDC_CH_STATUS 7, 2^Reg.TDC_CH_STATUS_FELL_BACK.lo)] (fun c => {c with gateLost := true, gateRet := 1, gateAt := 4999000})
     let c : ChanId := 7
     let g : Fin 4 := 2
     let k : Nat := 5000000
     let u := s.at k
     let ch := s.chan c
     let ctl (f : Fld) : Nat := s.fld (Reg.TDC_CH_CTRL c) f
     let gated : Prop := u.tbRuns = true ∧ s.chanEn c = true ∧ ctl Reg.TDC_CH_CTRL_MODE = 0 ∧ ctl Reg.TDC_CH_CTRL_ARMSRC = g.val + 1
     let loses : Prop := ch.gateLost = true ∧ s.chanWin c = true ∧ ch.gateRet < 2
     (gated) ∧ (loses)) ∧
    (let s : State := cs 0x301 [(Reg.TDC_CH_STATUS 7, 2^Reg.TDC_CH_STATUS_FELL_BACK.lo)] (fun c => {c with gateLost := true, gateRet := 2, gateAt := 4999000})
     let c : ChanId := 7
     let g : Fin 4 := 2
     let k : Nat := 5000000
     let u := s.at k
     let now := u.tkp.rawcnt
     let ch := s.chan c
     let ctl (f : Fld) : Nat := s.fld (Reg.TDC_CH_CTRL c) f
     let gated : Prop := u.tbRuns = true ∧ s.chanEn c = true ∧ ctl Reg.TDC_CH_CTRL_MODE = 0 ∧ ctl Reg.TDC_CH_CTRL_ARMSRC = g.val + 1
     (gated) ∧ (ch.gateLost = true) ∧ (2 ≤ ch.gateRet) ∧ (now - ch.gateAt < ch.gtoTicks)) ∧
    (let s : State := cs 1
     let c : ChanId := 7
     let g : Fin 4 := 1
     let k : Nat := 5000000
     let u := s.at k
     let ctl (f : Fld) : Nat := s.fld (Reg.TDC_CH_CTRL c) f
     (u.tbRuns = true) ∧ (s.chanEn c = false ∨ ctl Reg.TDC_CH_CTRL_ARMSRC ≠ g.val + 1)) ∧
    (let s : State := cs 0x521 []
     let c : ChanId := 7
     let n1 : Nat := 1003
     let n2 : Nat := 1980
     let ch := s.chan c
     let d : Int := (n2 : Int) - n1
     let valid : Prop := 900 ≤ n1 ∧ n1 ≤ 1100 ∧ 900 ≤ d ∧ d ≤ 1100
     (s.chanEn c = true) ∧ (ch.calGate = false) ∧ (s.chanPeriods c = true) ∧ (ch.busy = false) ∧ (ch.window = none) ∧ (valid)) ∧
    (let s : State := cs 0x41 [] (fun c => {c with arm := some (5, 7000000)})
     let c : ChanId := 7
     let k : Nat := 5000000
     let open_ : Nat := 5
     let close : Nat := 7000000
     let falling : Bool := true
     let src : Fin 48 := 0
     let u := s.at k
     let ch := s.chan c
     let ctl (f : Fld) : Nat := s.fld (Reg.TDC_CH_CTRL c) f
     let comes : Prop := u.tbRuns = true ∧ u.edgeDue src k falling = true
     let edge : Prop := comes ∧ s.fld (Reg.TDC_CH_SRC c) Reg.TDC_CH_SRC_SRC = src.val ∧ s.chanEn c = true
      ∧ ctl Reg.TDC_CH_CTRL_EDGE = bit falling
     (edge) ∧ (s.chanWin c = false) ∧ (ch.arm = some (open_, close)) ∧ (open_ + 1 < k) ∧ (k ≤ close) ∧ (ch.stops = [])) ∧
    (let s : State := cs 0x11 [] (fun c => {c with window := some ⟨5, 8, none, false, none⟩})
     let c : ChanId := 7
     let k : Nat := 5000000
     let falling : Bool := false
     let w : WinOpen := ⟨5, 8, none, false, none⟩
     let src : Fin 48 := 0
     let u := s.at k
     let ch := s.chan c
     let ctl (f : Fld) : Nat := s.fld (Reg.TDC_CH_CTRL c) f
     let comes : Prop := u.tbRuns = true ∧ u.edgeDue src k falling = true
     let edge : Prop := comes ∧ s.fld (Reg.TDC_CH_SRC c) Reg.TDC_CH_SRC_SRC = src.val ∧ s.chanEn c = true
      ∧ ctl Reg.TDC_CH_CTRL_EDGE = bit falling
     (edge) ∧ (s.chanWin c = true) ∧ (ch.window = some w) ∧ (w.closed = none)) ∧
    (let s : State := cs 1
     let c : ChanId := 7
     let falling : Bool := false
     let src : Fin 48 := 0
     let ch := s.chan c
     let ctl (f : Fld) : Nat := s.fld (Reg.TDC_CH_CTRL c) f
     (s.fld (Reg.TDC_CH_SRC c) Reg.TDC_CH_SRC_SRC ≠ src.val ∨ s.chanEn c = false ∨ ctl Reg.TDC_CH_CTRL_EDGE ≠ bit falling ∨ (s.chanWin c = false ∧ ch.arm = none) ∨ (s.chanWin c = true ∧ ch.window = none))) ∧
    (let s : State := cs 0x41 [(Reg.TDC_CH_SRC 7, 45)] (fun c => {c with arm := some (5, 7000000)})
     let k : Nat := 5000000
     let falling : Bool := true
     let src : Fin 48 := 45
     let u := s.at k
     (u.edgeDue src k falling = false)) ∧
    (let s : State := cs 0x41 [] (fun c => {c with arm := some (5, 7000000)})
     let c : ChanId := 7
     let open_ : Nat := 5
     let close : Nat := 7000000
     let ch := s.chan c
     (ch.arm = some (open_, close)) ∧ (s.tbRuns = true) ∧ (ch.fifo.length < 16)) :=
  by repeat' first | decide +kernel | apply And.intro

end TdcArming

namespace TdcCalibrationAndControl

def cs (ctl : Nat) (l : List (Nat × Nat) := []) (f : ChanState → ChanState := id) : State :=
  let s := ticking ((put ([(Reg.TDC_CH_CTRL 7, ctl), (Reg.TDC_ISL_STATUS, 4), (Reg.TDC_CH_DELAY 7, 1234)] ++ l)))
  let s := {s with tkp := {s.tkp with rawcnt := 4999999}}
  s.modChan 7 f

theorem test_TdcCalibrationAndControl_hypotheses :
    (let s : State := cs 1
     let c : ChanId := 7
     let n1 : Nat := 900
     let ch := s.chan c
     let a := Reg.TDC_CH_CTRL c
     let idle : Prop := s.fld a Reg.TDC_CH_CTRL_CALMODE = 0 ∧ ch.stops = [] ∧ ch.calib = none ∧ s.tbRuns = true
      ∧ s.fld Reg.TDC_ISL_STATUS Reg.TDC_ISL_STATUS_DLL_LOCK = 1
     (idle) ∧ (900 ≤ n1) ∧ (n1 ≤ 1100)) ∧
    (let s : State := let s := cs 0; {s with tdc := {s.tdc with skewChans := 128, skewRun := true}}
     let c : ChanId := 7
     let n1 : Nat := 899
     let ch := s.chan c
     let a := Reg.TDC_CH_CTRL c
     let idle : Prop := s.fld a Reg.TDC_CH_CTRL_CALMODE = 0 ∧ ch.stops = [] ∧ ch.calib = none ∧ s.tbRuns = true
      ∧ s.fld Reg.TDC_ISL_STATUS Reg.TDC_ISL_STATUS_DLL_LOCK = 1
     (idle) ∧ (n1 < 900 ∨ 1100 < n1)) ∧
    (let s : State := cs 1
     let c : ChanId := 7
     (s.chanPeriods c = false) ∧ (s.tbRuns = true)) ∧
    (let s : State := let s := cs 0; {s with tdc := {s.tdc with skewChans := 128, skewRun := true}}
     let m : Master := 0
     (MayPost s m Reg.TDC_GCTRL)) ∧
    (let s : State := let s := cs 0; {s with tdc := {s.tdc with skewChans := 128, skewRun := true}}
     let c : ChanId := 7
     let meas : List Int := List.replicate 200 (-5) ++ List.replicate 56 20
     let mean : Rat := ((meas.sum : Int) : Rat) / 256
     let square : Rat := (meas.map (fun (x : Int) => ((x : Rat) - mean) * ((x : Rat) - mean))).sum / 256
     let skews : Prop := s.tdc.skewChans / 2 ^ c.val % 2 = 1 ∧ s.chanEn c = false ∧ meas.length = 256
     (skews) ∧ (square ≤ 1000000)) ∧
    (let s : State := let s := cs 0; {s with tdc := {s.tdc with skewChans := 128, skewRun := true}}
     let c : ChanId := 7
     let meas : List Int := List.replicate 128 5000 ++ List.replicate 128 (-5000)
     let mean : Rat := ((meas.sum : Int) : Rat) / 256
     let square : Rat := (meas.map (fun (x : Int) => ((x : Rat) - mean) * ((x : Rat) - mean))).sum / 256
     let skews : Prop := s.tdc.skewChans / 2 ^ c.val % 2 = 1 ∧ s.chanEn c = false ∧ meas.length = 256
     (skews) ∧ (1000000 < square)) ∧
    (let s : State := cs 1
     let c : ChanId := 7
     (s.chanEn c = true)) ∧
    (let s : State := cs 0
     let m : Master := 0
     let c : ChanId := 7
     let ch := s.chan c
     let a := Reg.TDC_CH_CTRL c
     let may : Prop := MayPost s m a ∧ ch.owner = 0
     (may) ∧ (s.chanEn c = false) ∧ (s.tdc.skewRun = false)) ∧
    (let s : State := cs 0x21 [] (fun c => {c with arm := some (5, 8)})
     let m : Master := 0
     let c : ChanId := 7
     let data : Nat := 0x50050
     let ch := s.chan c
     let a := Reg.TDC_CH_CTRL c
     let may : Prop := MayPost s m a ∧ ch.owner = 0
     (may) ∧ (s.chanEn c = true) ∧ (data % 2 = 0)) ∧
    (let s : State := let s := cs 0; {s with tdc := {s.tdc with skewChans := 128, skewRun := true}}
     let m : Master := 0
     let c : ChanId := 7
     let data : Nat := 0x50053
     let ch := s.chan c
     let a := Reg.TDC_CH_CTRL c
     let may : Prop := MayPost s m a ∧ ch.owner = 0
     (may) ∧ (s.chanEn c = true ∨ s.tdc.skewRun = true) ∧ (data % 2 = 1)) ∧
    (let s : State := cs 0 [] (fun c => {c with owner := 3})
     let m : Master := 0
     let c : ChanId := 7
     let ch := s.chan c
     let a := Reg.TDC_CH_CTRL c
     (MayPost s m a) ∧ (ch.owner ≠ 0)) :=
  by decide +kernel

end TdcCalibrationAndControl

namespace TdcRecords

def cs (ctl : Nat) (l : List (Nat × Nat) := []) (f : ChanState → ChanState := id) : State :=
  let s := ticking ((put ([(Reg.TDC_CH_CTRL 7, ctl), (Reg.TDC_ISL_STATUS, 4), (Reg.TDC_CH_DELAY 7, 1234)] ++ l)))
  let s := {s with tkp := {s.tkp with rawcnt := 4999999}}
  s.modChan 7 f
def x : StopCap := ⟨5000000, false, true, false, none⟩
def xw : StopCap := ⟨5000000, false, true, true, none⟩
def xa : StopCap := ⟨5000000, false, true, false, some (4999999, 5004999)⟩
def w : WinOpen := ⟨3999990 * 2^32, 1000000, none, false, none⟩
def rr : MeasRec := ⟨4000000 * 2^32, 0, 4999999, 4, 7, 0, 3, 0⟩

theorem test_TdcRecords_hypotheses :
    (let s : State := cs 1 [] (fun c => {c with stops := [x], n1off := 7})
     let c : ChanId := 7
     let n : Nat := 950
     let x : StopCap := x
     let xs : List StopCap := []
     let ch := s.chan c
     let pos (off : Int) (d : Rat) : Rat := (x.tick : Rat) - (1 + ((n : Int) - (1000 + off) : Int) / d)
     let tickAt (off : Int) (d : Rat) : Nat := (pos off d).floor.toNat
     let stop : Prop := ch.stops = x :: xs ∧ x.win = false ∧ ch.fifo.length < 16
     let past (off : Int) (d : Rat) : Prop := ∀ y ∈ x.arm, y.1 < tickAt off d
     (stop) ∧ (s.chanPeriods c = false) ∧ (past ch.n1off 1000)) ∧
    (let s : State := cs 0x60001 [(Reg.TDC_ISL_STATUS, 0)] (fun c => {c with stops := [x], n1off := 7, calMade := true, doff := -3})
     let c : ChanId := 7
     let n : Nat := 950
     let x : StopCap := x
     let xs : List StopCap := []
     let ch := s.chan c
     let pos (off : Int) (d : Rat) : Rat := (x.tick : Rat) - (1 + ((n : Int) - (1000 + off) : Int) / d)
     let tickAt (off : Int) (d : Rat) : Nat := (pos off d).floor.toNat
     let stop : Prop := ch.stops = x :: xs ∧ x.win = false ∧ ch.fifo.length < 16
     let past (off : Int) (d : Rat) : Prop := ∀ y ∈ x.arm, y.1 < tickAt off d
     (stop) ∧ (s.chanPeriods c = true) ∧ (ch.calMade = true) ∧ (past ch.n1off (1000 + ch.doff))) ∧
    (let s : State := cs 0x60001 [(Reg.TDC_ISL_STATUS, 0)] (fun c => {c with stops := [x, x], n1off := 7})
     let c : ChanId := 7
     let n : Nat := 950
     let n1 : Nat := 1003
     let n2 : Nat := 1980
     let x : StopCap := x
     let xs : List StopCap := [x]
     let ch := s.chan c
     let d : Int := n2 - n1
     let valid : Prop := 900 ≤ n1 ∧ n1 ≤ 1100 ∧ 900 ≤ d ∧ d ≤ 1100
     let pos (off : Int) (d : Rat) : Rat := (x.tick : Rat) - (1 + ((n : Int) - (1000 + off) : Int) / d)
     let tickAt (off : Int) (d : Rat) : Nat := (pos off d).floor.toNat
     let stop : Prop := ch.stops = x :: xs ∧ x.win = false ∧ ch.fifo.length < 16
     let past (off : Int) (d : Rat) : Prop := ∀ y ∈ x.arm, y.1 < tickAt off d
     (stop) ∧ (s.chanPeriods c = true) ∧ (ch.calMade = false) ∧ (valid) ∧ (past (n1 - 1000) d)) ∧
    (let s : State := cs 0x60001 [(Reg.TDC_ISL_STATUS, 0)] (fun c => {c with stops := [x], n1off := 7})
     let c : ChanId := 7
     let n1 : Nat := 803
     let n2 : Nat := 1980
     let x : StopCap := x
     let xs : List StopCap := []
     let ch := s.chan c
     let d : Int := n2 - n1
     let valid : Prop := 900 ≤ n1 ∧ n1 ≤ 1100 ∧ 900 ≤ d ∧ d ≤ 1100
     (ch.stops = x :: xs) ∧ (s.chanPeriods c = true) ∧ (ch.calMade = false) ∧ (¬ valid)) ∧
    (let s : State := cs 0x1 [] (fun c => {c with stops := [xa]})
     let c : ChanId := 7
     let n : Nat := 950
     let x : StopCap := xa
     let xs : List StopCap := []
     let arm : Nat × Nat := (4999999, 5004999)
     let ch := s.chan c
     let pos (off : Int) (d : Rat) : Rat := (x.tick : Rat) - (1 + ((n : Int) - (1000 + off) : Int) / d)
     let tickAt (off : Int) (d : Rat) : Nat := (pos off d).floor.toNat
     let stop : Prop := ch.stops = x :: xs ∧ x.win = false ∧ ch.fifo.length < 16
     (stop) ∧ (s.chanPeriods c = false) ∧ (x.arm = some arm) ∧ (tickAt ch.n1off 1000 ≤ arm.1) ∧ (s.chanEn c = true) ∧ (s.chanWin c = false)) ∧
    (let s : State := cs 0x11 [] (fun c => {c with stops := [xw], window := some w})
     let c : ChanId := 7
     let n : Nat := 950
     let x : StopCap := xw
     let xs : List StopCap := []
     let w : WinOpen := w
     let ch := s.chan c
     let pos (off : Int) (d : Rat) : Rat := (x.tick : Rat) - (1 + ((n : Int) - (1000 + off) : Int) / d)
     let tickAt (off : Int) (d : Rat) : Nat := (pos off d).floor.toNat
     let gtAt (off : Int) (d : Rat) : Gt := (vcExact (s.vcSetAt (s.chanVc c) (tickAt off d)) (pos off d) - s.chanCorr c).floor
     let inWindow : Prop := ch.stops = x :: xs ∧ x.win = true ∧ ch.window = some w ∧ w.closed = none ∧ s.chanPeriods c = false
     let inside : Prop := w.start ≤ gtAt ch.n1off 1000 ∧ gtAt ch.n1off 1000 < w.start + (w.len : Int) * fuNs
     (inWindow) ∧ (inside) ∧ (w.first = none)) ∧
    (let s : State := cs 0x11 [] (fun c => {c with stops := [xw], window := some {w with first := some rr}})
     let c : ChanId := 7
     let n : Nat := 950
     let x : StopCap := xw
     let xs : List StopCap := []
     let w : WinOpen := {w with first := some rr}
     let r : MeasRec := rr
     let ch := s.chan c
     let pos (off : Int) (d : Rat) : Rat := (x.tick : Rat) - (1 + ((n : Int) - (1000 + off) : Int) / d)
     let tickAt (off : Int) (d : Rat) : Nat := (pos off d).floor.toNat
     let gtAt (off : Int) (d : Rat) : Gt := (vcExact (s.vcSetAt (s.chanVc c) (tickAt off d)) (pos off d) - s.chanCorr c).floor
     let inWindow : Prop := ch.stops = x :: xs ∧ x.win = true ∧ ch.window = some w ∧ w.closed = none ∧ s.chanPeriods c = false
     let inside : Prop := w.start ≤ gtAt ch.n1off 1000 ∧ gtAt ch.n1off 1000 < w.start + (w.len : Int) * fuNs
     (inWindow) ∧ (inside) ∧ (w.first = some r)) ∧
    (let s : State := cs 0x11 [] (fun c => {c with stops := [xw], window := some {w with start := 5000000 * 2^32}})
     let c : ChanId := 7
     let n : Nat := 950
     let x : StopCap := xw
     let xs : List StopCap := []
     let w : WinOpen := {w with start := 5000000 * 2^32}
     let ch := s.chan c
     let pos (off : Int) (d : Rat) : Rat := (x.tick : Rat) - (1 + ((n : Int) - (1000 + off) : Int) / d)
     let tickAt (off : Int) (d : Rat) : Nat := (pos off d).floor.toNat
     let gtAt (off : Int) (d : Rat) : Gt := (vcExact (s.vcSetAt (s.chanVc c) (tickAt off d)) (pos off d) - s.chanCorr c).floor
     let inWindow : Prop := ch.stops = x :: xs ∧ x.win = true ∧ ch.window = some w ∧ w.closed = none ∧ s.chanPeriods c = false
     let inside : Prop := w.start ≤ gtAt ch.n1off 1000 ∧ gtAt ch.n1off 1000 < w.start + (w.len : Int) * fuNs
     (inWindow) ∧ (¬ inside)) ∧
    (let s : State := let s := cs 0x301 [] (fun c => {c with fifo := [rr], owner := 4}); {s with tdc := {s.tdc with served := 5}}
     let c : ChanId := 7
     let ch := s.chan c
     (ch.stops = [])) ∧
    (let s : State := cs 0x11 [(Reg.TDC_CH_WLEN 7, 500), (Reg.TDC_CH_WPER 7, 500), (Reg.TDC_CH_WSTART 7, 5000000 * 2^32)] (fun c => {c with winIdx := 3})
     let c : ChanId := 7
     let ch := s.chan c
     (s.chanEn c = true) ∧ (s.chanWin c = true) ∧ (ch.window = none) ∧ (ch.winIdx = 0 ∨ s.winPer c ≠ 0) ∧ (s.tbRuns = true)) ∧
    (let s : State := cs 0x11 [] (fun c => {c with window := some {w with first := some rr, double := true}})
     let c : ChanId := 7
     let w : WinOpen := {w with first := some rr, double := true}
     let r : MeasRec := rr
     let ch := s.chan c
     let room : Prop := ch.fifo.length < 16
     let shuts : Prop := ch.window = some w ∧ w.closed = none ∧ s.tbRuns = true
     (shuts) ∧ (ch.stops = []) ∧ (w.first = some r) ∧ (room)) ∧
    (let s : State := cs 0x11 [] (fun c => {c with window := some w})
     let c : ChanId := 7
     let w : WinOpen := w
     let ch := s.chan c
     let room : Prop := ch.fifo.length < 16
     let shuts : Prop := ch.window = some w ∧ w.closed = none ∧ s.tbRuns = true
     (shuts) ∧ (ch.stops = []) ∧ (w.first = none) ∧ (room)) ∧
    (let s : State := cs 0x11 [] (fun c => {c with stops := [xw], window := some {w with first := some rr}})
     let c : ChanId := 7
     let w : WinOpen := {w with first := some rr}
     let ch := s.chan c
     let shuts : Prop := ch.window = some w ∧ w.closed = none ∧ s.tbRuns = true
     (shuts) ∧ (ch.stops ≠ [])) ∧
    (let s : State := cs 0x10301 [(Reg.TDC_CH_WLEN 7, 500)] (fun c => {c with gateTick := 5})
     let c : ChanId := 7
     let src := s.fld (Reg.TDC_CH_CTRL c) Reg.TDC_CH_CTRL_ARMSRC
     let lost : Prop := s.chanEn c = true ∧ s.chanWin c = false ∧ 1 ≤ src ∧ src ≤ 4 ∧ s.tbRuns = true
     let fb : Prop := s.fld (Reg.TDC_CH_CTRL c) Reg.TDC_CH_CTRL_FALLBACK = 1 ∧ s.reg (Reg.TDC_CH_WLEN c) ≠ 0
     (lost) ∧ (fb)) ∧
    (let s : State := let s := cs 0x301 [] (fun c => {c with fifo := [rr], owner := 4}); {s with tdc := {s.tdc with served := 5}}
     let c : ChanId := 7
     let ch := s.chan c
     let room : Prop := ch.fifo.length < 16
     let src := s.fld (Reg.TDC_CH_CTRL c) Reg.TDC_CH_CTRL_ARMSRC
     let lost : Prop := s.chanEn c = true ∧ s.chanWin c = false ∧ 1 ≤ src ∧ src ≤ 4 ∧ s.tbRuns = true
     let fb : Prop := s.fld (Reg.TDC_CH_CTRL c) Reg.TDC_CH_CTRL_FALLBACK = 1 ∧ s.reg (Reg.TDC_CH_WLEN c) ≠ 0
     (lost) ∧ (¬ fb) ∧ (room)) ∧
    (let s : State := let s := cs 0x301 [] (fun c => {c with fifo := [rr], owner := 4}); {s with tdc := {s.tdc with served := 5}}
     let c : ChanId := 7
     let k : Nat := 1
     let r : MeasRec := rr
     let rs : List MeasRec := []
     let ch := s.chan c
     (ch.fifo = r :: rs) ∧ (k < 32) ∧ ((s.tdc.served + 1 + k) % 32 = c.val) ∧ ((∀ j < k, (s.chan ((s.tdc.served + 1 + j) % 32)).fifo = []))) ∧
    (let s : State := let s := cs 0x301 [] (fun c => {c with fifo := [rr], owner := 4}); {s with tdc := {s.tdc with served := 5}}
     let c : ChanId := 8
     (s.nextServed ≠ some c.val)) :=
  by repeat' first | decide +kernel | apply And.intro

end TdcRecords

namespace TimeService

def v4 (d : Byte) : List Byte := mapped [10, 0, 0, d]
def ufr (pl : List Byte) (sp : Nat := 777) : List Byte := udpFrame ([2,0,0,0,0,1] ++ [2,0,0,0,0,9]) 64 0 (v4 9) (v4 1) sp 123 pl
def hdr : List Byte := [0x23, 0, 5] ++ List.replicate 37 0 ++ [1,2,3,4,5,6,7,8]
def ext (type n : Nat) (b : List Byte := []) : List Byte := natBe 2 type ++ natBe 2 n ++ padTo (n - 4) b
def ck (slot gen : Nat) : List Byte := natLe 2 (0x1000 + slot) ++ natLe 2 gen ++ List.replicate 100 0
def st1 : Stamp := ⟨1000, 5, [70000*800, 0,0,0,0,0,0,0], 255, false⟩
def itm (cls : Nat) (pl : List Byte) : RxItem := ⟨cls, 0, ufr pl, st1, false⟩
def nst (l : List RxItem) (r : List (Nat × Nat) := []) (f : NseState → NseState := id) : State :=
  let s := (((ticking State.reset).up 3).put ([(Reg.NSE_CFG, 1), (Reg.PLC_LEDGER_CAP, 100), (Reg.NSE_ADMIT, 20)] ++ r)).modPort 3 (fun p => {p with rx := l}); {s with nse := f s.nse}
def ntpOk := itm 3 hdr
def uidf := ext 0x104 36 [9,9]
def ntsOk (ckf : List Byte := ext 0x204 108 (ck 5 7)) := itm 2 (hdr ++ uidf ++ ckf ++ ext 0x404 48)
def ud (x : RxItem) : Udp := (udpOf x.bytes (ethOf x.bytes)).getD zUdp
def sealed (e : Nat) (s : State) : State := { s with mram := { s.mram with pairs := tabSet ⟨none, none⟩ s.mram.pairs (ridSeal 5) ⟨some (0, .nums [7, e]), none⟩ } }
def ckd (s : State) : State := (s.keyed 5 1 2 (List.replicate 32 1)).put [(Reg.NSE_CKEY 0, 2^31 + 5)]
def lr : LedgerRec := { LedgerRec.reset with kind := 1, idgen := 3 }
def kk : List Byte := List.replicate 32 7
def mtq (s : State) (op : Nat := 0x400) : State := s.ready 7 op

theorem test_TimeService_hypotheses :
    (let s : State := sealed 1000 (mtq (ckd (nst [] [] (fun n => {n with ledger := [(4, lr)], cache := [(4, some lr)], seals := [(5, some (7, 100))]}))))
     let p : PortId := 0
     ((s.port p).rx.find? (fun r => r.cls == 3) = none)) ∧
    (let s : State := sealed 1000 (mtq (ckd (nst [] [] (fun n => {n with ledger := [(4, lr)], cache := [(4, some lr)], seals := [(5, some (7, 100))]}))))
     let p : PortId := 0
     ((s.port p).rx.find? (fun r => r.cls == 2) = none)) ∧
    (let s : State := nst [ntpOk] [(Reg.NSE_CFG, 0)]
     let p : PortId := 3
     let x : RxItem := ntpOk
     let front (cls : Nat) : Prop := (s.port p).rx.find? (fun r => r.cls == cls) = some x
     let off : Prop := s.halfDuplex p = true ∨ s.fld Reg.NSE_CFG Reg.NSE_CFG_EN = 0
     (front 3) ∧ (off)) ∧
    (let s : State := nst [ntsOk] [(Reg.NSE_CFG, 0)]
     let p : PortId := 3
     let x : RxItem := ntsOk
     let front (cls : Nat) : Prop := (s.port p).rx.find? (fun r => r.cls == cls) = some x
     let off : Prop := s.halfDuplex p = true ∨ s.fld Reg.NSE_CFG Reg.NSE_CFG_EN = 0
     (front 2) ∧ (off)) ∧
    (let s : State := let x := itm 3 (hdr ++ [1]); nst [x]
     let p : PortId := 3
     let x : RxItem := itm 3 (hdr ++ [1])
     let d : Udp := ud (itm 3 (hdr ++ [1]))
     let front (cls : Nat) : Prop := (s.port p).rx.find? (fun r => r.cls == cls) = some x
     let off : Prop := s.halfDuplex p = true ∨ s.fld Reg.NSE_CFG Reg.NSE_CFG_EN = 0
     let b := sliceAt x.bytes d.off d.len
     (front 3) ∧ (¬ off) ∧ (udpOf x.bytes (ethOf x.bytes) = some d) ∧ (legacyMac b = false) ∧ ((ntpFields b).2 = false)) ∧
    (let s : State := nst [ntpOk]
     let p : PortId := 3
     let w : NseLoad := ⟨0, 0, 20001⟩
     let k : Nat := 5
     let x : RxItem := ntpOk
     let d : Udp := ud ntpOk
     let u := s.at k
     let front (cls : Nat) : Prop := (s.port p).rx.find? (fun r => r.cls == cls) = some x
     let off : Prop := s.halfDuplex p = true ∨ s.fld Reg.NSE_CFG Reg.NSE_CFG_EN = 0
     let b := sliceAt x.bytes d.off d.len
     let sheds (cls : Nat) : Prop := u.nseSheds p cls w x b = true
     let sound : Prop := ¬ off ∧ udpOf x.bytes (ethOf x.bytes) = some d ∧ legacyMac b = false ∧ (ntpFields b).2 = true
     (front 3) ∧ (sound) ∧ (sheds 3) ∧ (s.fld Reg.NSE_ADMIT Reg.NSE_ADMIT_KOD_EN = 0)) ∧
    (let s : State := nst [ntpOk] [(Reg.NSE_ADMIT, 20 + 2^Reg.NSE_ADMIT_KOD_EN.lo)]
     let p : PortId := 3
     let w : NseLoad := ⟨0, 0, 20001⟩
     let k : Nat := 5
     let x : RxItem := ntpOk
     let d : Udp := ud ntpOk
     let u := s.at k
     let front (cls : Nat) : Prop := (s.port p).rx.find? (fun r => r.cls == cls) = some x
     let off : Prop := s.halfDuplex p = true ∨ s.fld Reg.NSE_CFG Reg.NSE_CFG_EN = 0
     let b := sliceAt x.bytes d.off d.len
     let sheds (cls : Nat) : Prop := u.nseSheds p cls w x b = true
     let sound : Prop := ¬ off ∧ udpOf x.bytes (ethOf x.bytes) = some d ∧ legacyMac b = false ∧ (ntpFields b).2 = true
     let open_ (len : Nat) : Prop := u.portUp p = true ∧ u.qbvNow p = none ∧ (s.port p).tx = [] ∧ u.prpOn p = false ∧ s.twinService p = false
      ∧ (ethOf x.bytes).off + 52 + len ≤ u.maxFrame p
     (front 3) ∧ (sound) ∧ (sheds 3) ∧ (s.fld Reg.NSE_ADMIT Reg.NSE_ADMIT_KOD_EN = 1) ∧ (u.ntpIdent d.src = none) ∧ (tabGet 0 s.nse.kods (Config.kodHash (2 ^ 32 + beNat d.src) % 65536) = 0) ∧ (open_ 76)) ∧
    (let s : State := nst [ntsOk]
     let p : PortId := 3
     let w : NseLoad := ⟨0, 0, 20001⟩
     let k : Nat := 5
     let x : RxItem := ntsOk
     let d : Udp := ud ntsOk
     let u := s.at k
     let front (cls : Nat) : Prop := (s.port p).rx.find? (fun r => r.cls == cls) = some x
     let off : Prop := s.halfDuplex p = true ∨ s.fld Reg.NSE_CFG Reg.NSE_CFG_EN = 0
     let b := sliceAt x.bytes d.off d.len
     let sheds (cls : Nat) : Prop := u.nseSheds p cls w x b = true
     let sound : Prop := ¬ off ∧ udpOf x.bytes (ethOf x.bytes) = some d ∧ legacyMac b = false ∧ (ntpFields b).2 = true
     (front 2) ∧ (sound) ∧ (sheds 2)) ∧
    (let s : State := nst [ntpOk]
     let p : PortId := 3
     let w : NseLoad := ⟨0, 0, 100⟩
     let k : Nat := 5
     let x : RxItem := ntpOk
     let d : Udp := ud ntpOk
     let u := s.at k
     let front (cls : Nat) : Prop := (s.port p).rx.find? (fun r => r.cls == cls) = some x
     let off : Prop := s.halfDuplex p = true ∨ s.fld Reg.NSE_CFG Reg.NSE_CFG_EN = 0
     let b := sliceAt x.bytes d.off d.len
     let sheds (cls : Nat) : Prop := u.nseSheds p cls w x b = true
     let sound : Prop := ¬ off ∧ udpOf x.bytes (ethOf x.bytes) = some d ∧ legacyMac b = false ∧ (ntpFields b).2 = true
     let open_ (len : Nat) : Prop := u.portUp p = true ∧ u.qbvNow p = none ∧ (s.port p).tx = [] ∧ u.prpOn p = false ∧ s.twinService p = false
      ∧ (ethOf x.bytes).off + 52 + len ≤ u.maxFrame p
     (front 3) ∧ (sound) ∧ (¬ sheds 3) ∧ (open_ 76)) ∧
    (let s : State := let x := itm 2 (hdr ++ uidf ++ uidf); nst [x]
     let p : PortId := 3
     let w : NseLoad := ⟨0, 0, 0⟩
     let k : Nat := 5
     let n : Nat := 0
     let x : RxItem := itm 2 (hdr ++ uidf ++ uidf)
     let d : Udp := ud (itm 2 (hdr ++ uidf ++ uidf))
     let u := s.at k
     let front (cls : Nat) : Prop := (s.port p).rx.find? (fun r => r.cls == cls) = some x
     let off : Prop := s.halfDuplex p = true ∨ s.fld Reg.NSE_CFG Reg.NSE_CFG_EN = 0
     let b := sliceAt x.bytes d.off d.len
     let sheds (cls : Nat) : Prop := u.nseSheds p cls w x b = true
     let sound : Prop := ¬ off ∧ udpOf x.bytes (ethOf x.bytes) = some d ∧ legacyMac b = false ∧ (ntpFields b).2 = true
     let nts : Prop := front 2 ∧ sound ∧ ¬ sheds 2
     (nts) ∧ (u.ntsSteps b = .drop 3 n)) ∧
    (let s : State := nst [ntsOk]
     let p : PortId := 3
     let w : NseLoad := ⟨0, 0, 0⟩
     let k : Nat := 5
     let n : Nat := 0
     let e : Nat := 5
     let x : RxItem := ntsOk
     let d : Udp := ud ntsOk
     let uid : List Byte := uidf
     let u := s.at k
     let front (cls : Nat) : Prop := (s.port p).rx.find? (fun r => r.cls == cls) = some x
     let off : Prop := s.halfDuplex p = true ∨ s.fld Reg.NSE_CFG Reg.NSE_CFG_EN = 0
     let b := sliceAt x.bytes d.off d.len
     let sheds (cls : Nat) : Prop := u.nseSheds p cls w x b = true
     let sound : Prop := ¬ off ∧ udpOf x.bytes (ethOf x.bytes) = some d ∧ legacyMac b = false ∧ (ntpFields b).2 = true
     let open_ (len : Nat) : Prop := u.portUp p = true ∧ u.qbvNow p = none ∧ (s.port p).tx = [] ∧ u.prpOn p = false ∧ s.twinService p = false
      ∧ (ethOf x.bytes).off + 52 + len ≤ u.maxFrame p
     let nts : Prop := front 2 ∧ sound ∧ ¬ sheds 2
     (nts) ∧ (u.ntsSteps b = .nak e uid n none) ∧ (e ≤ 8) ∧ (open_ (replyLen (.nak uid)))) ∧
    (let s : State := nst [] [] (fun n => {n with updq := [(4, lr)]})
     let id : Nat := 4
     let rec_ : LedgerRec := lr
     let rest : List (Nat × LedgerRec) := []
     (s.nse.updq = (id, rec_) :: rest) ∧ (s.dramUp = true) ∧ (s.tel.shortAt ≠ some s.tkp.rawcnt)) ∧
    (let s : State := sealed 1000 (mtq (ckd (nst [] [] (fun n => {n with ledger := [(4, lr)], cache := [(4, some lr)], seals := [(5, some (7, 100))]}))))
     (s.nse.updq = [] ∨ s.dramUp = false ∨ s.tel.shortAt = some s.tkp.rawcnt)) ∧
    (let s : State := mtq (nst [])
     let q : Nat := 7
     let alg : Nat := 16
     let count : Nat := 0
     let a : Accepted := ⟨7, 0x400, false, 0x1000, 4096, false⟩
     let room (m : Nat) : Prop := s.hif.accepted.find? (fun a => a.hseq = q) = some a ∧ m ≤ a.resLen ∧ a.resErr = false
     let mint : Prop := Starts s q 0x0400 ∧ room (6 + min 8 count * (40 + 2 * algLen alg))
     (mint) ∧ (alg ≠ 15) ∧ (alg ≠ 17)) ∧
    (let s : State := mtq (nst [])
     let q : Nat := 7
     let alg : Nat := 15
     let count : Nat := 0
     let a : Accepted := ⟨7, 0x400, false, 0x1000, 4096, false⟩
     let c2s : List Byte := kk
     let s2c : List Byte := []
     let room (m : Nat) : Prop := s.hif.accepted.find? (fun a => a.hseq = q) = some a ∧ m ≤ a.resLen ∧ a.resErr = false
     let mint : Prop := Starts s q 0x0400 ∧ room (6 + min 8 count * (40 + 2 * algLen alg))
     (mint) ∧ (alg = 15 ∨ alg = 17) ∧ (c2s.length ≠ algLen alg ∨ s2c.length ≠ algLen alg)) ∧
    (let s : State := mtq (nst [])
     let q : Nat := 7
     let alg : Nat := 15
     let count : Nat := 9
     let a : Accepted := ⟨7, 0x400, false, 0x1000, 4096, false⟩
     let c2s : List Byte := kk
     let s2c : List Byte := kk
     let room (m : Nat) : Prop := s.hif.accepted.find? (fun a => a.hseq = q) = some a ∧ m ≤ a.resLen ∧ a.resErr = false
     let mint : Prop := Starts s q 0x0400 ∧ room (6 + min 8 count * (40 + 2 * algLen alg))
     (mint) ∧ (alg = 15 ∨ alg = 17) ∧ (c2s.length = algLen alg) ∧ (s2c.length = algLen alg) ∧ (count = 0 ∨ 8 < count)) ∧
    (let s : State := mtq (nst [])
     let q : Nat := 7
     let alg : Nat := 15
     let ident : Nat := 4
     let count : Nat := 8
     let a : Accepted := ⟨7, 0x400, false, 0x1000, 4096, false⟩
     let c2s : List Byte := kk
     let s2c : List Byte := kk
     let room (m : Nat) : Prop := s.hif.accepted.find? (fun a => a.hseq = q) = some a ∧ m ≤ a.resLen ∧ a.resErr = false
     let mint : Prop := Starts s q 0x0400 ∧ room (6 + min 8 count * (40 + 2 * algLen alg))
     let sane : Prop := (alg = 15 ∨ alg = 17) ∧ c2s.length = algLen alg ∧ s2c.length = algLen alg ∧ 1 ≤ count ∧ count ≤ 8
     let known : Prop := ident < s.ledgerCap ∧ (s.ledgerNow ident).kind = 1
     (mint) ∧ (sane) ∧ (ident ≠ 0xFFFFFFFF) ∧ (¬ known)) ∧
    (let s : State := mtq (nst [] [] (fun n => {n with ledger := [(4, lr)]}))
     let q : Nat := 7
     let alg : Nat := 15
     let ident : Nat := 4
     let count : Nat := 8
     let a : Accepted := ⟨7, 0x400, false, 0x1000, 4096, false⟩
     let c2s : List Byte := kk
     let s2c : List Byte := kk
     let room (m : Nat) : Prop := s.hif.accepted.find? (fun a => a.hseq = q) = some a ∧ m ≤ a.resLen ∧ a.resErr = false
     let mint : Prop := Starts s q 0x0400 ∧ room (6 + min 8 count * (40 + 2 * algLen alg))
     let sane : Prop := (alg = 15 ∨ alg = 17) ∧ c2s.length = algLen alg ∧ s2c.length = algLen alg ∧ 1 ≤ count ∧ count ≤ 8
     let known : Prop := ident < s.ledgerCap ∧ (s.ledgerNow ident).kind = 1
     (mint) ∧ (sane) ∧ (known) ∧ (ident ≠ 0xFFFFFFFF) ∧ (s.sealSlot = none)) ∧
    (let s : State := mtq (ckd (nst [] [] (fun n => {n with ledger := [(4, lr)]})))
     let q : Nat := 7
     let slot : Nat := 5
     let alg : Nat := 15
     let ident : Nat := 4
     let count : Nat := 8
     let a : Accepted := ⟨7, 0x400, false, 0x1000, 4096, false⟩
     let c2s : List Byte := kk
     let s2c : List Byte := kk
     let room (m : Nat) : Prop := s.hif.accepted.find? (fun a => a.hseq = q) = some a ∧ m ≤ a.resLen ∧ a.resErr = false
     let mint : Prop := Starts s q 0x0400 ∧ room (6 + min 8 count * (40 + 2 * algLen alg))
     let sane : Prop := (alg = 15 ∨ alg = 17) ∧ c2s.length = algLen alg ∧ s2c.length = algLen alg ∧ 1 ≤ count ∧ count ≤ 8
     let known : Prop := ident < s.ledgerCap ∧ (s.ledgerNow ident).kind = 1
     (mint) ∧ (sane) ∧ (known) ∧ (ident ≠ 0xFFFFFFFF) ∧ (s.sealSlot = some slot) ∧ (s.sealReady slot count = false)) ∧
    (let s : State := sealed 1000 (mtq (ckd (nst [] [] (fun n => {n with ledger := [(4, lr)], cache := [(4, some lr)], seals := [(5, some (7, 100))]}))))
     let q : Nat := 7
     let slot : Nat := 5
     let alg : Nat := 15
     let ident : Nat := 4
     let count : Nat := 8
     let a : Accepted := ⟨7, 0x400, false, 0x1000, 4096, false⟩
     let c2s : List Byte := kk
     let s2c : List Byte := kk
     let rec_ : LedgerRec := lr
     let room (m : Nat) : Prop := s.hif.accepted.find? (fun a => a.hseq = q) = some a ∧ m ≤ a.resLen ∧ a.resErr = false
     let mint : Prop := Starts s q 0x0400 ∧ room (6 + min 8 count * (40 + 2 * algLen alg))
     let sane : Prop := (alg = 15 ∨ alg = 17) ∧ c2s.length = algLen alg ∧ s2c.length = algLen alg ∧ 1 ≤ count ∧ count ≤ 8
     let known : Prop := ident < s.ledgerCap ∧ (s.ledgerNow ident).kind = 1
     (mint) ∧ (sane) ∧ (known) ∧ (ident ≠ 0xFFFFFFFF) ∧ (s.sealSlot = some slot) ∧ (s.sealReady slot count = true) ∧ (s.cached ident = some rec_)) ∧
    (let s : State := (ckd (nst [])).ready 7 0x401
     let q : Nat := 7
     let slot : Nat := 5
     let key : List Byte := List.replicate 32 1
     (Starts s q 0x0401) ∧ (s.keyFor slot [cookieUse] = .inr key)) ∧
    (let s : State := (ckd (nst [])).ready 7 0x401
     let q : Nat := 7
     let slot : Nat := 6
     let e : Nat := 1
     (Starts s q 0x0401) ∧ (s.keyFor slot [cookieUse] = .inl e)) ∧
    (let s : State := (nst [] [(Reg.NSE_CKEY 0, 2^31+5), (Reg.NSE_CKEY 1, 2^31+6), (Reg.NSE_CKEY 3, 2^31+7)]).ready 7 0x402
     let q : Nat := 7
     let slot : Nat := 6
     let id : Nat := 5
     let ks : List Nat := [6, 7]
     (Starts s q 0x0402) ∧ (s.ckeys = id :: ks) ∧ (slot ∈ ks) ∧ (slot ≠ id)) ∧
    (let s : State := (nst [] [(Reg.NSE_CKEY 0, 2^31+5), (Reg.NSE_CKEY 1, 2^31+6), (Reg.NSE_CKEY 3, 2^31+7)]).ready 7 0x402
     let q : Nat := 7
     let slot : Nat := 5
     let ks : List Nat := [6, 7]
     (Starts s q 0x0402) ∧ (s.ckeys = slot :: ks)) ∧
    (let s : State := (nst [] [(Reg.NSE_CKEY 0, 2^31+5), (Reg.NSE_CKEY 1, 2^31+6), (Reg.NSE_CKEY 3, 2^31+7)]).ready 7 0x402
     let q : Nat := 7
     let slot : Nat := 9
     (Starts s q 0x0402) ∧ (slot ∉ s.ckeys)) ∧
    (let s : State := (nst [] [] (fun n => {n with ledger := [(4, lr)]})).ready 7 0x403
     let q : Nat := 7
     let ident : Nat := 4
     let a : Accepted := ⟨7, 0x403, false, 0x1000, 4096, false⟩
     let room (m : Nat) : Prop := s.hif.accepted.find? (fun a => a.hseq = q) = some a ∧ m ≤ a.resLen ∧ a.resErr = false
     let entry := s.ledgerNow ident
     let held : Prop := ident < s.ledgerCap ∧ entry.kind ≠ 0
     (Starts s q 0x0403) ∧ (room 256) ∧ (held)) ∧
    (let s : State := (nst [] [] (fun n => {n with ledger := [(4, lr)]})).ready 7 0x403
     let q : Nat := 7
     let ident : Nat := 5
     let a : Accepted := ⟨7, 0x403, false, 0x1000, 4096, false⟩
     let room (m : Nat) : Prop := s.hif.accepted.find? (fun a => a.hseq = q) = some a ∧ m ≤ a.resLen ∧ a.resErr = false
     let entry := s.ledgerNow ident
     let held : Prop := ident < s.ledgerCap ∧ entry.kind ≠ 0
     (Starts s q 0x0403) ∧ (room 256) ∧ (¬ held)) ∧
    (let s : State := (nst [] [] (fun n => {n with ledger := [(4, lr)]})).ready 7 0x404
     let q : Nat := 7
     let ident : Nat := 4
     let entry := s.ledgerNow ident
     let held : Prop := ident < s.ledgerCap ∧ entry.kind ≠ 0
     (Starts s q 0x0404) ∧ (held)) ∧
    (let s : State := (nst [] [] (fun n => {n with ledger := [(4, lr)]})).ready 7 0x404
     let q : Nat := 7
     let ident : Nat := 100
     let entry := s.ledgerNow ident
     let held : Prop := ident < s.ledgerCap ∧ entry.kind ≠ 0
     (Starts s q 0x0404) ∧ (¬ held)) ∧
    (let s : State := nst [] [(Reg.NSE_CKEY 0, 2^31+5), (Reg.POD_STATUS 4, 2 + 2^Reg.POD_STATUS_RESIDENT.lo)] (fun n => {n with ckeyAt := some 3})
     let k : Nat := 2^80
     let id : Nat := 5
     let ks : List Nat := []
     let at_ : Nat := 3
     let u := s.at k
     (s.ckeys = id :: ks) ∧ (s.nse.ckeyAt = some at_) ∧ (s.runsResident 4 = true) ∧ (s.nse.ckeyDue = false) ∧ (at_ + s.paramN 0x401 * 1250000 ≤ u.tkp.rawcnt)) ∧
    (let s : State := sealed 1000 (mtq (ckd (nst [] [] (fun n => {n with ledger := [(4, lr)], cache := [(4, some lr)], seals := [(5, some (7, 100))]}))))
     (s.ckeys = [] ∨ s.nse.ckeyAt = none ∨ s.nse.ckeyDue = true)) ∧
    (let s : State := nst [] [] (fun n => {n with shed := 5, secAt := some 0, received := 6})
     let k : Nat := 5
     let u := s.at k
     (s.nse.secAt = some u.vc0Sec)) ∧
    (let s : State := sealed 1000 (mtq (ckd (nst [] [] (fun n => {n with ledger := [(4, lr)], cache := [(4, some lr)], seals := [(5, some (7, 100))]}))))
     let k : Nat := 0
     let u := s.at k
     (s.nse.secAt ≠ some u.vc0Sec)) :=
  by repeat' first | decide +kernel | apply And.intro

/-! The clauses of TimeService on a cookie that opens rest on what the AEADs answer, which Config leaves free: given that this cookie
opens to a content, the steps of R303 end as the authenticator does, and every other hypothesis of those clauses is met. -/

def cookieKey : List Byte := List.replicate 32 1
def cookieNonce : List Byte := List.replicate 12 0
def cookieReq : RxItem := itm 2 (hdr ++ uidf ++ ext 0x204 108 (ck 5 7) ++ ext 0x404 48 (natBe 2 16 ++ natBe 2 16))
def cookieSt (e : Nat) : State := sealed e (ckd (nst [cookieReq] [] (fun n => { n with seals := [(5, some (7, 100))] })))
def authBody : List Byte := natBe 2 16 ++ natBe 2 16 ++ List.replicate 40 0
def payload : List Byte := sliceAt cookieReq.bytes (ud cookieReq).off (ud cookieReq).len

theorem cookie_opens (s : State) (pt : List Byte) (h5 : s.keyFor 5 [cookieUse] = .inr cookieKey) (h6 : s.ckeys = [5])
    (h7 : s.keyGen 5 = 7) (h12 : s.ledgerCap = 100)
    (h : Config.gcmOpen cookieKey cookieNonce ((ck 5 7).take 16) ((ck 5 7).drop 16) = some pt) (ha : beAt pt 3 1 = 15)
    (hi : leNat (pt.take 3) < 100) :
    s.ntsSteps payload = ntsAuth payload (ntpFields payload).1 ⟨0x404, 192, 48⟩ 108 (blocks 72 + 1) 5 uidf pt := by
  have h1 : (ntpFields payload).1.filter (fun e => e.type == 0x0104) = [⟨0x104, 48, 36⟩] := by decide +kernel
  have h2 : (ntpFields payload).1.filter (fun e => e.type == 0x0204) = [⟨0x204, 84, 108⟩] := by decide +kernel
  have h3 : (ntpFields payload).1.getLast? = some ⟨0x404, 192, 48⟩ := by decide +kernel
  have h4 : leNat ((fieldBody payload ⟨0x204, 84, 108⟩).take 2) = 0x1005 := by decide +kernel
  have h8 : fieldBody payload ⟨0x204, 84, 108⟩ = ck 5 7 := by decide +kernel
  have h9 : sliceAt (ck 5 7) 4 12 = cookieNonce := by decide +kernel
  have h10 : leNat (sliceAt (ck 5 7) 2 2) = 7 := by decide +kernel
  have h11 : fieldBytes payload ⟨0x104, 48, 36⟩ = uidf := by decide +kernel
  unfold State.ntsSteps
  simp only [h1, h2, h3, h4]
  norm_num
  simp only [h5, h6, h7, h8, h9, h10, h11, h12]
  norm_num
  simp [h, ha, hi]

/-- What the authenticator's field holds: its ciphertext is 16 bytes long, and no placeholder follows. -/
theorem cookie_auth (pt : List Byte) (r : Option (List Byte)) (ha : beAt pt 3 1 = 15)
    (hr : Config.sivOpen (sliceAt pt 8 32) (payload.take 192) (List.replicate 16 0) (List.replicate 16 0) = r) :
    ntsAuth payload (ntpFields payload).1 ⟨0x404, 192, 48⟩ 108 (blocks 72 + 1) 5 uidf pt
      = r.elim (.drop 4 21) (fun _ => .serve 0 21 (.nts uidf 5 15 (leNat (pt.take 3)) (leNat (sliceAt pt 4 2)) (sliceAt pt 8 32)
          (sliceAt pt 40 32) 1 0 0 0)) := by
  have h1 : (ntpFields payload).1.filter (fun e => e.type == 0x0304) = [] := by decide +kernel
  have h2 : fieldBody payload ⟨0x404, 192, 48⟩ = authBody := by decide +kernel
  have h3 : beAt (authBody) 0 2 = 16 := by decide +kernel
  have h4 : beAt (authBody) 2 2 = 16 := by decide +kernel
  have h5 : sliceAt (authBody) 4 16 = List.replicate 16 0 := by decide +kernel
  have h6 : sliceAt (authBody) 20 16 = List.replicate 16 0 := by decide +kernel
  have h7 : (authBody).length = 44 := by decide +kernel
  have h8 : algLen 15 = 32 := by decide
  unfold ntsAuth
  simp only [h1, h2, h3, h4, h7, ha, h8]
  norm_num
  simp only [h5, h6]
  rw [hr]
  cases r <;> simp [blocks]

theorem test_TimeService_authenticator_fails (pt : List Byte)
    (h : Config.gcmOpen cookieKey cookieNonce ((ck 5 7).take 16) ((ck 5 7).drop 16) = some pt) (ha : beAt pt 3 1 = 15)
    (hi : leNat (pt.take 3) < 100)
    (hr : Config.sivOpen (sliceAt pt 8 32) (payload.take 192) (List.replicate 16 0) (List.replicate 16 0) = none) :
    ((cookieSt 0).at 5).ntsSteps payload = .drop 4 21 := by
  rw [cookie_opens _ pt (by decide +kernel) (by decide +kernel) (by decide +kernel) (by decide +kernel) h ha hi, cookie_auth pt none ha hr]; rfl

theorem test_TimeService_served (pt x : List Byte)
    (h : Config.gcmOpen cookieKey cookieNonce ((ck 5 7).take 16) ((ck 5 7).drop 16) = some pt) (ha : beAt pt 3 1 = 15)
    (hi : leNat (pt.take 3) < 100)
    (hr : Config.sivOpen (sliceAt pt 8 32) (payload.take 192) (List.replicate 16 0) (List.replicate 16 0) = some x) :
    let k : NseKind := .nts uidf 5 15 (leNat (pt.take 3)) (leNat (sliceAt pt 4 2)) (sliceAt pt 8 32) (sliceAt pt 40 32) 1 0 0 0
    ((cookieSt 0).at 5).ntsSteps payload = .serve 0 21 k ∧ (cookieSt 0).sealReady ((cookieSt 0).freshSlot 5) 1 = false
      ∧ ((cookieSt 1000).at 5).ntsSteps payload = .serve 0 21 k ∧ (cookieSt 1000).sealReady ((cookieSt 1000).freshSlot 5) 1 = true := by
  refine ⟨?_, ?_, ?_, ?_⟩
  · rw [cookie_opens _ pt (by decide +kernel) (by decide +kernel) (by decide +kernel) (by decide +kernel) h ha hi, cookie_auth pt (some x) ha hr]; rfl
  · decide +kernel
  · rw [cookie_opens _ pt (by decide +kernel) (by decide +kernel) (by decide +kernel) (by decide +kernel) h ha hi, cookie_auth pt (some x) ha hr]; rfl
  · decide +kernel

/-- The other hypotheses of those clauses. -/
theorem test_TimeService_request :
    (let s : State := cookieSt 0
     let u := s.at 5
     let x := cookieReq
     (s.port 3).rx.find? (fun r => r.cls == 2) = some x ∧ s.halfDuplex 3 = false ∧ s.fld Reg.NSE_CFG Reg.NSE_CFG_EN ≠ 0
      ∧ udpOf x.bytes (ethOf x.bytes) = some (ud x) ∧ legacyMac payload = false ∧ (ntpFields payload).2 = true
      ∧ u.portUp 3 = true ∧ u.qbvNow 3 = none ∧ (s.port 3).tx = [] ∧ u.prpOn 3 = false ∧ s.twinService 3 = false
      ∧ (ethOf x.bytes).off + 52 + replyLen (.nts uidf 5 15 0 0 [] [] 1 0 0 0) ≤ u.maxFrame 3) := by decide +kernel

end TimeService

namespace TkpHostOperations



theorem test_TkpHostOperations_hypotheses :
    (let s : State := State.reset
     let m : Master := 0
     let v : VcId := 3
     let a := Reg.TKP_VC_CTRL v
     let mode := s.fld (Reg.TKP_VC_STATUS v) Reg.TKP_VC_STATUS_MODE
     let may : Prop := MayPost s m a ∧ s.vcOwned v = false
     let free : Prop := may ∧ mode = 0 ∧ s.firstDone v = false ∧ gtRawOk (s.reg (Reg.TKP_VC_SOFF v)) = true
     (free)) ∧
    (let s : State := put [(Reg.TKP_VC_STATUS 3, 1), (Reg.TKP_STEP_PERMIT, 8)]
     let m : Master := 11
     let v : VcId := 3
     let a := Reg.TKP_VC_CTRL v
     let mode := s.fld (Reg.TKP_VC_STATUS v) Reg.TKP_VC_STATUS_MODE
     let may : Prop := MayPost s m a ∧ s.vcOwned v = false
     let permitted : Prop := may ∧ mode = 0 ∧ s.firstDone v = true ∧ s.permit v = true ∧ gtRawOk (s.reg (Reg.TKP_VC_SOFF v)) = true
     (permitted)) ∧
    (let s : State := put [(Reg.TKP_VC_STATUS 3, 1)]
     let m : Master := 11
     let v : VcId := 3
     let a := Reg.TKP_VC_CTRL v
     let mode := s.fld (Reg.TKP_VC_STATUS v) Reg.TKP_VC_STATUS_MODE
     let may : Prop := MayPost s m a ∧ s.vcOwned v = false
     let barred : Prop := may ∧ mode = 0 ∧ s.firstDone v = true ∧ s.permit v = false ∧ gtRawOk (s.reg (Reg.TKP_VC_SOFF v)) = true
     (barred)) ∧
    (let s : State := put [(Reg.TKP_VC_STATUS 3, 1), (Reg.TKP_STEP_PERMIT, 8)]
     let m : Master := 11
     let v : VcId := 3
     let a := Reg.TKP_VC_CTRL v
     let mode := s.fld (Reg.TKP_VC_STATUS v) Reg.TKP_VC_STATUS_MODE
     let may : Prop := MayPost s m a ∧ s.vcOwned v = false
     (may) ∧ (mode = 0)) ∧
    (let s : State := put [(Reg.TKP_VC_STATUS 3, 1), (Reg.TKP_STEP_PERMIT, 8)]
     let m : Master := 11
     let v : VcId := 3
     let a := Reg.TKP_VC_CTRL v
     let mode := s.fld (Reg.TKP_VC_STATUS v) Reg.TKP_VC_STATUS_MODE
     let may : Prop := MayPost s m a ∧ s.vcOwned v = false
     (may) ∧ (mode = 0) ∧ (2 ≤ v.val)) ∧
    (let s : State := State.reset
     let m : Master := 11
     let v : VcId := 1
     let a := Reg.TKP_VC_CTRL v
     let may : Prop := MayPost s m a ∧ s.vcOwned v = false
     (may) ∧ (v.val < 2)) ∧
    (let s : State := put [(Reg.TKP_VC_STATUS 3, 3)]
     let m : Master := 11
     let v : VcId := 3
     let a := Reg.TKP_VC_CTRL v
     let mode := s.fld (Reg.TKP_VC_STATUS v) Reg.TKP_VC_STATUS_MODE
     let may : Prop := MayPost s m a ∧ s.vcOwned v = false
     (may) ∧ (mode = 1)) ∧
    (let s : State := put [(Reg.POD_VCOWN 2, 8)]
     let m : Master := 11
     let v : VcId := 3
     let a := Reg.TKP_VC_CTRL v
     (MayPost s m a) ∧ (s.vcOwned v = true)) ∧
    (let s : State := put [(Reg.TKP_VC_STATUS 3, 3)]
     let m : Master := 11
     let v : VcId := 3
     let a := Reg.TKP_VC_CTRL v
     (MayPost s m a)) ∧
    (let s : State := put [(Reg.TKP_ISL_STATUS, 1)]
     let m : Master := 11
     let v : VcId := 3
     let a := Reg.TKP_VC_CTRL v
     (MayWrite s m a) ∧ (s.islBusy a = true)) ∧
    (let m : Master := 10
     let v : VcId := 3
     let a := Reg.TKP_VC_CTRL v
     (mayWrite m a = false)) :=
  by decide +kernel

end TkpHostOperations

namespace TkpLatchesAndPermits



theorem test_TkpLatchesAndPermits_hypotheses :
    (let s : State := State.reset
     let m : Master := 0
     let data : Nat := 256 + 8
     let a := Reg.TKP_LATCH_CTRL
     (MayPost s m a) ∧ (data / 256 % 2 = 1)) ∧
    (let m : Master := 1
     (m.val ≤ 1)) ∧
    (let m : Master := 5
     (1 < m.val)) ∧
    (let s : State := put [(Reg.TKP_STEP_PERMIT, 8)]
     let v : VcId := 3
     (s.permit v = true)) ∧
    (let s : State := ticking State.reset
     let v : VcId := 3
     (s.permit v = false)) :=
  by decide +kernel

end TkpLatchesAndPermits

namespace TkpOperationsTakeEffect

def ho (op : Nat) (st : Bool := false) : HostOp := ⟨3, op, 5000000, .free, st⟩
def sh (op : Nat) (l : List (Nat × Nat)) (st : Bool := false) : State := let s := ticking (put ([(Reg.TKP_VC_SOFF 3, 5*2^64+77*2^32+3), (Reg.TKP_VC_SRATE 3, 2^64-1000), (Reg.TKP_VC_SINC 3, 0x0801000000), (Reg.TKP_VC_STATUS 3, 1)] ++ l)); {s with tkp := {s.tkp with hostOp := some (ho op st)}}

theorem test_TkpOperationsTakeEffect_hypotheses :
    (let s : State := sh 1 []
     let h : HostOp := ho 1
     let v : VcId := 3
     let n := h.tick + 1250
     let u := s.at n
     let c := s.vcSet v
     let soff := gtOfRaw (s.reg (Reg.TKP_VC_SOFF v))
     let ranged (c : VcSet) (g : Gt) : Prop := gtInRange g = true ∧ gtInRange (rebaseTo c g n).off = true
     let goes : Prop := s.tkp.hostOp = some h ∧ h.vc = v ∧ (s.tbStopped = true ∨ s.actWaits v n = false)
     let counts : Prop := goes ∧ h.stopped = false ∧ (s.tbStopped = false ∨ n ≤ s.tkp.rawcnt)
     let due (op : Nat) : Prop := counts ∧ h.op = op ∧ u.tooSoon v n = false
     (due 1) ∧ (ranged c soff)) ∧
    (let s : State := sh 2 []
     let h : HostOp := ho 2
     let v : VcId := 3
     let n := h.tick + 1250
     let u := s.at n
     let c := s.vcSet v
     let old := vcRead c n 1
     let soff := gtOfRaw (s.reg (Reg.TKP_VC_SOFF v))
     let ranged (c : VcSet) (g : Gt) : Prop := gtInRange g = true ∧ gtInRange (rebaseTo c g n).off = true
     let goes : Prop := s.tkp.hostOp = some h ∧ h.vc = v ∧ (s.tbStopped = true ∨ s.actWaits v n = false)
     let counts : Prop := goes ∧ h.stopped = false ∧ (s.tbStopped = false ∨ n ≤ s.tkp.rawcnt)
     let due (op : Nat) : Prop := counts ∧ h.op = op ∧ u.tooSoon v n = false
     (due 2) ∧ (ranged c (old + soff))) ∧
    (let s : State := sh 3 []
     let h : HostOp := ho 3
     let v : VcId := 3
     let n := h.tick + 1250
     let u := s.at n
     let c := s.vcSet v
     let old := vcRead c n 1
     let rate := max (-(2 ^ 54)) (min (2 ^ 54) (toSigned 64 (s.reg (Reg.TKP_VC_SRATE v))))
     let ranged (c : VcSet) (g : Gt) : Prop := gtInRange g = true ∧ gtInRange (rebaseTo c g n).off = true
     let goes : Prop := s.tkp.hostOp = some h ∧ h.vc = v ∧ (s.tbStopped = true ∨ s.actWaits v n = false)
     let counts : Prop := goes ∧ h.stopped = false ∧ (s.tbStopped = false ∨ n ≤ s.tkp.rawcnt)
     let due (op : Nat) : Prop := counts ∧ h.op = op ∧ u.tooSoon v n = false
     (due 3) ∧ (c.legacy = false) ∧ (ranged { c with rate := rate } old)) ∧
    (let s : State := sh 4 []
     let h : HostOp := ho 4
     let v : VcId := 3
     let n := h.tick + 1250
     let u := s.at n
     let c := s.vcSet v
     let soff := gtOfRaw (s.reg (Reg.TKP_VC_SOFF v))
     let rate := max (-(2 ^ 54)) (min (2 ^ 54) (toSigned 64 (s.reg (Reg.TKP_VC_SRATE v))))
     let ranged (c : VcSet) (g : Gt) : Prop := gtInRange g = true ∧ gtInRange (rebaseTo c g n).off = true
     let goes : Prop := s.tkp.hostOp = some h ∧ h.vc = v ∧ (s.tbStopped = true ∨ s.actWaits v n = false)
     let counts : Prop := goes ∧ h.stopped = false ∧ (s.tbStopped = false ∨ n ≤ s.tkp.rawcnt)
     let due (op : Nat) : Prop := counts ∧ h.op = op ∧ u.tooSoon v n = false
     (due 4) ∧ (c.legacy = false) ∧ (ranged { c with rate := rate } soff)) ∧
    (let s : State := sh 5 [(Reg.TKP_VC_STATUS 3, 3)]
     let h : HostOp := ho 5
     let v : VcId := 3
     let n := h.tick + 1250
     let u := s.at n
     let c := s.vcSet v
     let old := vcRead c n 1
     let inc := max 0x0700000000 (min 0x08FFFFFFFF (s.reg (Reg.TKP_VC_SINC v)))
     let ranged (c : VcSet) (g : Gt) : Prop := gtInRange g = true ∧ gtInRange (rebaseTo c g n).off = true
     let goes : Prop := s.tkp.hostOp = some h ∧ h.vc = v ∧ (s.tbStopped = true ∨ s.actWaits v n = false)
     let counts : Prop := goes ∧ h.stopped = false ∧ (s.tbStopped = false ∨ n ≤ s.tkp.rawcnt)
     let due (op : Nat) : Prop := counts ∧ h.op = op ∧ u.tooSoon v n = false
     (due 5) ∧ (c.legacy = true) ∧ (ranged { c with inc := inc } old)) ∧
    (let s : State := let s := sh 1 [(Reg.TKP_VC_EFF 3, 5000000)]; {s with tkp := {s.tkp with changed := [(3, 5000000)]}}
     let h : HostOp := ho 1
     let v : VcId := 3
     let n := h.tick + 1250
     let u := s.at n
     let goes : Prop := s.tkp.hostOp = some h ∧ h.vc = v ∧ (s.tbStopped = true ∨ s.actWaits v n = false)
     let counts : Prop := goes ∧ h.stopped = false ∧ (s.tbStopped = false ∨ n ≤ s.tkp.rawcnt)
     (counts) ∧ (u.tooSoon v n = true)) ∧
    (let s : State := sh 1 [] true
     let h : HostOp := ho 1 true
     let v : VcId := 3
     let n := h.tick + 1250
     let goes : Prop := s.tkp.hostOp = some h ∧ h.vc = v ∧ (s.tbStopped = true ∨ s.actWaits v n = false)
     (goes) ∧ (h.stopped = true ∨ (s.tbStopped = true ∧ s.tkp.rawcnt < n))) ∧
    (let s : State := let s := sh 1 []; s.modPod 2 (fun q => {q with acts := [⟨4, true, 1, 3, 3, 0, 0, 0, 0, 0, 0, .nothing, 77⟩], reserved := 1})
     let h : HostOp := ho 1
     let n := h.tick + 1250
     (s.tkp.hostOp = some h) ∧ (s.tbStopped = false) ∧ (s.actWaits h.vc n = true)) :=
  by repeat' first | decide +kernel | apply And.intro

end TkpOperationsTakeEffect

namespace TkpTimedActions

def ac (kind op : Nat) (arr : Bool) : TimedAction := ⟨4, arr, kind, 1, 3, 4000000 * 2^32, op, 0, 0, 9 * 2^62, 1000, .nothing, 77⟩
def sa (a : TimedAction) (l : List (Nat × Nat) := []) : State := ticking ((put l).modPod 2 (fun q => {q with acts := [a], reserved := 1}))

theorem test_TkpTimedActions_hypotheses :
    (let s : State := sa (ac 0 0 false)
     let p : PodId := 2
     let id : Nat := 4
     let k : Nat := 5
     let a : TimedAction := ac 0 0 false
     let q := s.pod p
     (q.acts.find? (fun b => decide (b.id = id) && !b.arrived) = some a) ∧ ((s.at k).vcNow a.vc < a.target)) ∧
    (let s : State := sa (ac 0 0 false)
     let p : PodId := 2
     let id : Nat := 4
     let k : Nat := 5000000
     let a : TimedAction := ac 0 0 false
     let q := s.pod p
     (q.acts.find? (fun b => decide (b.id = id) && !b.arrived) = some a) ∧ (a.target ≤ (s.at k).vcNow a.vc)) ∧
    (let s : State := sa (ac 0 0 true)
     let p : PodId := 2
     let id : Nat := 4
     let a : TimedAction := ac 0 0 true
     let v : VcId := 3
     let u := s.atAction a
     let n := s.actTick a
     let c := s.vcSet v
     let old := vcRead c n 1
     let rate := max (-(2 ^ 54)) (min (2 ^ 54) a.rate)
     let ranged (c : VcSet) (g : Gt) : Prop := gtInRange g = true ∧ gtInRange (rebaseTo c g n).off = true
     let due (kind op : Nat) : Prop := s.tbStopped = false ∧ s.action p id kind = some a ∧ s.actFirst p a = true ∧ a.vcChg = v ∧ a.op = op ∧ c.legacy = false
     (due 0 0) ∧ (u.tooSoon v n = false) ∧ (ranged { c with rate := rate } old)) ∧
    (let s : State := sa (ac 1 0 true)
     let p : PodId := 2
     let id : Nat := 4
     let a : TimedAction := ac 1 0 true
     let v : VcId := 3
     let u := s.atAction a
     let n := s.actTick a
     let c := s.vcSet v
     let ranged (c : VcSet) (g : Gt) : Prop := gtInRange g = true ∧ gtInRange (rebaseTo c g n).off = true
     let due (kind op : Nat) : Prop := s.tbStopped = false ∧ s.action p id kind = some a ∧ s.actFirst p a = true ∧ a.vcChg = v ∧ a.op = op ∧ c.legacy = false
     (due 1 0) ∧ (u.tooSoon v n = false) ∧ (ranged c a.gt)) ∧
    (let s : State := sa (ac 1 1 true)
     let p : PodId := 2
     let id : Nat := 4
     let a : TimedAction := ac 1 1 true
     let v : VcId := 3
     let u := s.atAction a
     let n := s.actTick a
     let c := s.vcSet v
     let old := vcRead c n 1
     let ranged (c : VcSet) (g : Gt) : Prop := gtInRange g = true ∧ gtInRange (rebaseTo c g n).off = true
     let due (kind op : Nat) : Prop := s.tbStopped = false ∧ s.action p id kind = some a ∧ s.actFirst p a = true ∧ a.vcChg = v ∧ a.op = op ∧ c.legacy = false
     (due 1 1) ∧ (u.tooSoon v n = false) ∧ (ranged c (old + a.gt))) ∧
    (let s : State := sa (ac 0 1 true)
     let p : PodId := 2
     let id : Nat := 4
     let a : TimedAction := ac 0 1 true
     let v : VcId := 3
     let c := s.vcSet v
     let due (kind op : Nat) : Prop := s.tbStopped = false ∧ s.action p id kind = some a ∧ s.actFirst p a = true ∧ a.vcChg = v ∧ a.op = op ∧ c.legacy = false
     (due 0 1)) ∧
    (let s : State := let s := sa (ac 0 0 true) []; {s with tkp := {s.tkp with changed := [(3, 4999990)]}}
     let p : PodId := 2
     let id : Nat := 4
     let a : TimedAction := ac 0 0 true
     let v : VcId := 3
     let u := s.atAction a
     let n := s.actTick a
     let c := s.vcSet v
     let due (kind op : Nat) : Prop := s.tbStopped = false ∧ s.action p id kind = some a ∧ s.actFirst p a = true ∧ a.vcChg = v ∧ a.op = op ∧ c.legacy = false
     (due 0 0) ∧ (u.tooSoon v n = true)) ∧
    (let s : State := (sa (ac 0 0 true)).modPod 2 (fun q => {q with acts := [ac 0 0 true, {ac 0 0 true with id := 3}], reserved := 2})
     let p : PodId := 2
     let id : Nat := 4
     let a : TimedAction := ac 0 0 true
     (s.action p id 0 = some a) ∧ (s.actFirst p a = false)) ∧
    (let s : State := sa (ac 0 0 false)
     let p : PodId := 2
     let id : Nat := 4
     (s.tbStopped = true ∨ s.action p id 0 = none)) :=
  by decide +kernel

end TkpTimedActions

namespace TwinLink

def kk (n : Nat) : List Byte := List.replicate n 7
def sa : PeerSays := ⟨1, 2, false, 2, true⟩
def wsT (n : Nat) (s : State) : State := { s with mram := { s.mram with pairs := tabSet ⟨none, none⟩ s.mram.pairs ridTwin ⟨some (0, .nums [n]), none⟩ } }
def tw (f : TwnState → TwnState) (l : List (Nat × Nat) := []) (key : Bool := true) : State :=
  let s := (ticking State.reset).ready 33 0x600
  let s := if key then s.keyed 5 5 2 (kk 32) else s
  let s := s.put ([(Reg.TWN_CFG, 1 + 50 * 2^Reg.TWN_CFG_HB_TIMEOUT.lo), (Reg.TWN_LINK_SLOT, 5)] ++ l)
  wsT 7 {s with twn := f s.twn}
def st (n auth lp hp : Nat) : List (Nat × Nat) := [(Reg.TWN_STATUS, n * 2^Reg.TWN_STATUS_STATE.lo + auth * 2^Reg.TWN_STATUS_AUTH.lo + lp * 2^Reg.TWN_STATUS_LINKPATH.lo + hp * 2^Reg.TWN_STATUS_HBPATH.lo)]

theorem test_TwinLink_hypotheses :
    (let s : State := tw (fun t => {t with starts := 8, frames := 2^63-1})
     let k : Nat := 500
     let n : Nat := 7
     let u := s.at k
     let now := u.tkp.rawcnt
     let link : Prop := s.inTwin = true ∧ s.linkKey = true
     let ready : Prop := link ∧ s.twn.starts = n + 1 ∧ s.mramNums ridTwin [0] = [n]
     let paced (i period : Nat) : Prop := tabGet 0 s.twn.sent i = 0 ∨ tabGet 0 s.twn.sent i + period ≤ now + 1
     (ready) ∧ (paced 0 1250000)) ∧
    (let s : State := tw (fun t => {t with starts := 8, frames := 2^63-1})
     let k : Nat := 500
     let n : Nat := 7
     let u := s.at k
     let link : Prop := s.inTwin = true ∧ s.linkKey = true
     let ready : Prop := link ∧ s.twn.starts = n + 1 ∧ s.mramNums ridTwin [0] = [n]
     let span := u.vcNow 0 / (fuSec / 100)
     (ready) ∧ (s.twn.boundSpan ≠ some span)) ∧
    (let s : State := tw (fun t => {t with boundSpan := some 0})
     let k : Nat := 500
     let u := s.at k
     let span := u.vcNow 0 / (fuSec / 100)
     (s.twn.boundSpan = some span)) ∧
    (let s : State := tw (fun t => {t with sent := tabSet 0 (tabSet 0 (tabSet 0 t.sent 0 400) 2 400) 3 400})
     let k : Nat := 500
     let u := s.at k
     let now := u.tkp.rawcnt
     let paced (i period : Nat) : Prop := tabGet 0 s.twn.sent i = 0 ∨ tabGet 0 s.twn.sent i + period ≤ now + 1
     (¬ paced 0 1250000)) ∧
    (let s : State := tw (fun t => {t with sent := tabSet 0 (tabSet 0 (tabSet 0 t.sent 0 400) 2 400) 3 400})
     let k : Nat := 500
     let u := s.at k
     let now := u.tkp.rawcnt
     let paced (i period : Nat) : Prop := tabGet 0 s.twn.sent i = 0 ∨ tabGet 0 s.twn.sent i + period ≤ now + 1
     (¬ paced 2 1250000000)) ∧
    (let s : State := tw (fun t => {t with sent := tabSet 0 (tabSet 0 (tabSet 0 t.sent 0 400) 2 400) 3 400})
     let k : Nat := 500
     let u := s.at k
     let now := u.tkp.rawcnt
     let paced (i period : Nat) : Prop := tabGet 0 s.twn.sent i = 0 ∨ tabGet 0 s.twn.sent i + period ≤ now + 1
     (¬ paced 3 1250000)) ∧
    (let s : State := tw (fun t => {t with starts := 8, frames := 2^63-1})
     let k : Nat := 500
     let n : Nat := 7
     let u := s.at k
     let now := u.tkp.rawcnt
     let link : Prop := s.inTwin = true ∧ s.linkKey = true
     let ready : Prop := link ∧ s.twn.starts = n + 1 ∧ s.mramNums ridTwin [0] = [n]
     let paced (i period : Nat) : Prop := tabGet 0 s.twn.sent i = 0 ∨ tabGet 0 s.twn.sent i + period ≤ now + 1
     (ready) ∧ (paced 2 1250000000)) ∧
    (let s : State := tw (fun t => {t with rxLast := some (3, 5)}) (st 3 1 0 0)
     let k : Nat := 500
     let u := s.at k
     let now := u.tkp.rawcnt
     let link : Prop := s.inTwin = true ∧ s.linkKey = true
     let paced (i period : Nat) : Prop := tabGet 0 s.twn.sent i = 0 ∨ tabGet 0 s.twn.sent i + period ≤ now + 1
     (link) ∧ (paced 0 1250000) ∧ (s.twn.starts = 0)) ∧
    (let s : State := tw id [] false
     let link : Prop := s.inTwin = true ∧ s.linkKey = true
     (¬ link)) ∧
    (let s : State := tw (fun t => {t with starts := 8, frames := 2^63-1})
     let link : Prop := s.inTwin = true ∧ s.linkKey = true
     (link)) ∧
    (let s : State := tw (fun t => {t with rxLast := some (3, 5)}) (st 3 1 0 0)
     let f : TwinFrame := ⟨1, 3, 5, .bound [1,2,3,4,5,6,7]⟩
     let link : Prop := s.inTwin = true ∧ s.linkKey = true
     (link) ∧ (s.staleFrame f = true)) ∧
    (let s : State := tw (fun t => {t with starts := 8, frames := 2^63-1})
     let f : TwinFrame := ⟨1, 3, 5, .heartbeat sa 77 true⟩
     let x : PeerSays := sa
     let sec : Int := 77
     let fd : Bool := true
     let link : Prop := s.inTwin = true ∧ s.linkKey = true
     let fresh : Prop := link ∧ s.staleFrame f = false
     (fresh) ∧ (f.msg = .heartbeat x sec fd)) ∧
    (let s : State := tw id
     let f : TwinFrame := ⟨1, 3, 5, .bound [1,2,3,4,5,6,7]⟩
     let o : List Byte := [1,2,3,4,5,6,7]
     let link : Prop := s.inTwin = true ∧ s.linkKey = true
     let fresh : Prop := link ∧ s.staleFrame f = false
     (fresh) ∧ (f.msg = .bound o)) ∧
    (let s : State := tw (fun t => {t with rxLast := some (3, 5)}) (st 3 1 0 0)
     let f : TwinFrame := ⟨1, 3, 6, .check 5 [none, some (3, 4)] []⟩
     let clock : Nat := 5
     let ckey : List (Option (Nat × Nat)) := [none, some (3, 4)]
     let auth : List (Option Nat) := []
     let link : Prop := s.inTwin = true ∧ s.linkKey = true
     let fresh : Prop := link ∧ s.staleFrame f = false
     (fresh) ∧ (f.msg = .check clock ckey auth)) ∧
    (let s : State := tw (fun t => {t with starts := 8, frames := 2^63-1})
     let k : Nat := 500
     let u := s.at k
     let now := u.tkp.rawcnt
     let paced (i period : Nat) : Prop := tabGet 0 s.twn.sent i = 0 ∨ tabGet 0 s.twn.sent i + period ≤ now + 1
     (s.inTwin = true) ∧ (paced 3 1250000)) ∧
    (let s : State := tw id [(Reg.TWN_CFG, 0)]
     (s.inTwin = false)) ∧
    (let s : State := tw (fun t => {t with starts := 8, frames := 2^63-1})
     let a : Nat := 5
     let word : Nat := hbWord sa 5
     let x : PeerSays := sa
     (s.inTwin = true) ∧ (word = hbWord x a) ∧ (x.side < 2) ∧ (x.auth < 4) ∧ (x.ts < 8) ∧ (a < 256) ∧ (s.twn.hbAlive ≠ some a)) ∧
    (let s : State := tw (fun t => {t with rxLast := some (3, 5)}) (st 3 1 0 0)
     let word : Nat := 0
     (s.twn.hbAlive = some (getBits (word % 2 ^ 32) 8 8) ∨ getBits (word % 2 ^ 32) 24 8 ≠ 0xA5)) ∧
    (let s : State := tw (fun t => {t with linkAt := some 5}) (st 2 1 1 0)
     let k : Nat := 500000000
     let a : Nat := 5
     let u := s.at k
     let now := u.tkp.rawcnt
     let st (g : Fld) : Nat := s.fld Reg.TWN_STATUS g
     let old : Prop := st Reg.TWN_STATUS_LINKPATH = 1 ∧ s.twn.linkAt = some a ∧ a + s.hbTicks ≤ now
     (old)) ∧
    (let s : State := tw id (st 2 1 1 0) false
     (s.linkPath = true) ∧ (s.linkKey = false)) ∧
    (let s : State := tw (fun t => {t with hbAt := some 5}) (st 2 1 0 1)
     let k : Nat := 500000000
     let b : Nat := 5
     let u := s.at k
     let now := u.tkp.rawcnt
     let st (g : Fld) : Nat := s.fld Reg.TWN_STATUS g
     let oldHb : Prop := st Reg.TWN_STATUS_HBPATH = 1 ∧ s.twn.hbAt = some b ∧ b + s.hbTicks ≤ now
     (oldHb)) ∧
    (let s : State := tw (fun t => {t with hbAt := some 5, linkAt := some 9}) (st 2 1 1 1)
     let k : Nat := 500
     let u := s.at k
     let now := u.tkp.rawcnt
     let heard : Prop := (∀ y ∈ s.twn.linkAt, now < y + s.hbTicks) ∧ (∀ y ∈ s.twn.hbAt, now < y + s.hbTicks)
      ∧ s.twn.linkAt ≠ none ∧ s.twn.hbAt ≠ none ∧ (s.linkPath = true → s.linkKey = true)
     (heard)) ∧
    (let s : State := tw (fun t => {t with bothFrom := some 5}) (st 3 0 1 1)
     let k : Nat := 1250000005
     let b : Nat := 5
     let u := s.at k
     let now := u.tkp.rawcnt
     let repair : Prop := s.twn.bothFrom = some b ∧ s.twinState = 3 ∧ b + 1250000000 ≤ now
     (repair)) ∧
    (let s : State := tw (fun t => {t with starts := 8, frames := 2^63-1})
     let k : Nat := 500
     let u := s.at k
     let now := u.tkp.rawcnt
     (¬ (∃ y, s.twn.bothFrom = some y ∧ s.twinState = 3 ∧ y + 1250000000 ≤ now))) ∧
    (let s : State := tw (fun t => {t with claim := true}) (st 2 1 1 1)
     let n : Nat := 50000
     let claims : Prop := s.twn.claim = true ∧ s.twn.pull = false ∧ s.mayClaim = true ∧ 25000 * (1 + s.twinSide) ≤ n
     (claims)) ∧
    (let s : State := tw (fun t => {t with starts := 8, frames := 2^63-1})
     let n : Nat := 7
     let claims : Prop := s.twn.claim = true ∧ s.twn.pull = false ∧ s.mayClaim = true ∧ 25000 * (1 + s.twinSide) ≤ n
     (¬ claims)) ∧
    (let s : State := tw (fun t => {t with pull := true}) (st 3 3 1 1)
     let k : Nat := 1250002000
     let u := s.at k
     let ms := (u.vcNow 0 - (1500 + 500000 * (s.twinSide : Int)) * fuNs) / (fuSec / 1000)
     let window : Prop := (u.vcNow 0 - (1500 + 500000 * (s.twinSide : Int)) * fuNs) % (fuSec / 1000) ≤ 500 * fuNs ∧ s.twn.lockMs ≠ some ms
     (window) ∧ (s.twn.pull = true)) ∧
    (let s : State := tw id (st 3 3 1 1)
     let k : Nat := 1250002000
     let u := s.at k
     let ms := (u.vcNow 0 - (1500 + 500000 * (s.twinSide : Int)) * fuNs) / (fuSec / 1000)
     let window : Prop := (u.vcNow 0 - (1500 + 500000 * (s.twinSide : Int)) * fuNs) % (fuSec / 1000) ≤ 500 * fuNs ∧ s.twn.lockMs ≠ some ms
     (window) ∧ (s.twn.pull = false)) ∧
    (let s : State := tw (fun t => {t with starts := 8, frames := 2^63-1})
     let k : Nat := 500
     let u := s.at k
     let ms := (u.vcNow 0 - (1500 + 500000 * (s.twinSide : Int)) * fuNs) / (fuSec / 1000)
     let window : Prop := (u.vcNow 0 - (1500 + 500000 * (s.twinSide : Int)) * fuNs) % (fuSec / 1000) ≤ 500 * fuNs ∧ s.twn.lockMs ≠ some ms
     (¬ window)) ∧
    (let s : State := tw (fun t => {t with pull := true, link := some sa, starts := 8}) ((st 2 1 1 1))
     let q : Nat := 33
     let may : Prop := Starts s q 0x0600
     let fit : Prop := s.twinState = 2 ∧ ∃ y, s.peerSays = some y ∧ peerFit y = true
     (may) ∧ (s.holder = true) ∧ (fit)) ∧
    (let s : State := tw (fun t => {t with handover := some (33, 5)}) ((st 2 2 1 1))
     let q : Nat := 33
     let may : Prop := Starts s q 0x0600
     let fit : Prop := s.twinState = 2 ∧ ∃ y, s.peerSays = some y ∧ peerFit y = true
     (may) ∧ (s.holder = false ∨ ¬ fit)) ∧
    (let s : State := tw (fun t => {t with handover := some (33, 5)}) ((st 2 2 1 1))
     let q : Nat := 33
     let k : Nat := 1250000005
     let b : Nat := 5
     let u := s.at k
     let now := u.tkp.rawcnt
     let out : Prop := s.twn.handover = some (q, b) ∧ b + 1250000000 ≤ now
     (out)) ∧
    (let s : State := tw (fun t => {t with starts := 8, frames := 2^63-1})
     (s.twn.handover = none)) ∧
    (let s : State := let s := tw id (st 2 2 1 1); {s with ens := {s.ens with yieldTo := some 5}}
     let k : Nat := 1250000005
     let b : Nat := 5
     let u := s.at k
     let now := u.tkp.rawcnt
     (s.ens.yieldTo = some b) ∧ (b ≤ now)) ∧
    (let s : State := tw (fun t => {t with starts := 8, frames := 2^63-1})
     (s.ens.yieldTo = none)) :=
  by repeat' first | decide +kernel | apply And.intro

end TwinLink

/-! ### The block -/

/-- StepRunsTheFront and EveryStepKeepsTheQueue: a queue of one well-formed command, and the empty queue of reset. -/
theorem test_block_hypotheses :
    (let s : State := { State.reset with pending := [.nop 2] }
     s.pending = [.nop 2] ∧ QueueOk s) ∧ (State.reset.pending = [] ∧ QueueOk State.reset) :=
  ⟨by decide +kernel, by decide +kernel⟩

/-- FinDecodeEncode: an instruction that has a word. -/
theorem test_FinDecodeEncode_hypotheses : encodeFin (.addi 0 5 3 (-12)) = some 0x0528FFF4 := by decide +kernel

/-- No word of the table spells a command, so the state stands. -/
theorem test_withFetchWord : State.reset.withFetchWord 32 0x0528FFF4 = State.reset := rfl

/-! ### Ill-formed commands, one for each check of WellFormed -/

theorem test_bits_refused : ¬ WellFormed (.podStart (2 ^ 32) 0) ∧ WellFormed (.podStart (2 ^ 32 - 1) 0) := by decide +kernel

theorem test_signed_refused : ¬ WellFormed (.gnPps (2 ^ 63)) ∧ WellFormed (.gnPps (2 ^ 63 - 1)) := by decide +kernel

theorem test_signed_below_refused : ¬ WellFormed (.gnPps (-(2 ^ 63) - 1)) ∧ WellFormed (.gnPps (-(2 ^ 63))) := by decide +kernel

theorem test_atMost_refused : ¬ WellFormed (.spiTransaction (List.replicate 33 0) 0) ∧ WellFormed (.spiTransaction (List.replicate 32 0) 0) := by
  decide +kernel

theorem test_access_refused :
    ¬ WellFormed (.registerWrite 0 0x40010000 0 0) ∧ ¬ WellFormed (.registerWrite 0 0x40010000 129 0)
      ∧ WellFormed (.registerWrite 0 0x40010000 4 0xFFFFFFFF) := by decide +kernel

theorem test_access_data_refused : ¬ WellFormed (.registerWrite 0 0x40010000 1 256) := by decide +kernel

theorem test_queue_refused : ¬ QueueOk { State.reset with pending := [.nop 0, .podStart (2 ^ 32) 0] } := by decide +kernel

/-! ### Words of FIN, written from the formats of R359 and the tables of R363 to R368 -/

/-- ADD g1, g2, g3: format R, OP 0x01. -/
theorem test_word_add : decodeFin 2 0b00000001_00001_00010_00011_000000000 = some (.add 2 1 2 3) := by decide +kernel

/-- ADDI g5, g3, −12: the example of R360. -/
theorem test_word_addi : decodeFin 2 0x0528FFF4 = some (.addi 2 5 3 (-12)) := by decide +kernel

/-- MULQ g5, g6, g7 with FN[5:0] = 32: OP 0x0D. -/
theorem test_word_mulq : decodeFin 2 0b00001101_00101_00110_00111_000100000 = some (.mulq 2 5 6 7 32) := by decide +kernel

/-- MOVI g4, −1: format U with IMM19, OP 0x1D. -/
theorem test_word_movi : decodeFin 2 0b00011101_00100_1111111111111111111 = some (.movi 2 4 (-1)) := by decide +kernel

/-- CATI g4, 0xBEEF: format U, OP 0x1E. -/
theorem test_word_cati : decodeFin 2 0b00011110_00100_000_1011111011101111 = some (.cati 2 4 0xBEEF) := by decide +kernel

/-- B NE, −3: format J, OP 0x33, COND 0x2. -/
theorem test_word_b : decodeFin 2 0b00110011_0010_11111111111111111101 = some (.b 2 2 (-3)) := by decide +kernel

/-- LDD g1, g2, 8: format I, OP 0x46. -/
theorem test_word_ldd : decodeFin 2 0b01000110_00001_00010_00000000001000 = some (.ldd 2 1 2 8) := by decide +kernel

/-- CAS g9, g10, g11: format R, OP 0x4D. -/
theorem test_word_cas : decodeFin 2 0b01001101_01001_01010_01011_000000000 = some (.cas 2 9 10 11) := by decide +kernel

/-- TADD t1, t2, t3: format T, OP 0x50. -/
theorem test_word_tadd : decodeFin 2 0b01010000_001_010_011_00000_00000_00000 = some (.tadd 2 1 2 3) := by decide +kernel

/-- POPC g7: format R with rd only, OP 0x75. -/
theorem test_word_popc : decodeFin 2 0b01110101_00111_00000_00000_000000000 = some (.popc 2 7) := by decide +kernel

/-- R360: an unused field that is not 0, COND 0xF and an OP of no instruction are undefined. -/
theorem test_words_undefined :
    decodeFin 2 0b00000001_00001_00010_00011_000000001 = none ∧ decodeFin 2 0x33F00000 = none ∧ decodeFin 2 0 = none := by
  decide +kernel

/-! ### Single steps -/

/-- What a command leaves, or that it leaves nothing. -/
def leaves (i : Instr) (s : State) (P : State → Bool) : Bool :=
  match exec i s with
  | .next t => P t
  | _ => false

/-- −1 + 1 is 0 with a carry out and no overflow; g0 stays 0 (R32, R362, R363). -/
theorem test_add_wraps :
    (let s := runS 2 (regsG [(3, 0xFFFFFFFFFFFFFFFF), (4, 1)])
     leaves (.add 2 5 3 4) s (fun t => (t.pod 2).rg 5 = 0 ∧ (t.pod 2).z ∧ (t.pod 2).c ∧ !(t.pod 2).v ∧ (t.pod 2).pc = 1)
       && leaves (.add 2 0 4 4) s (fun t => (t.pod 2).rg 0 = 0)) = true := by decide +kernel

/-- DIV of −2^63 by −1 gives −2^63 and V := 1; by 0 it gives 0 and V := 1 (R363). -/
theorem test_div_corners :
    (let s := runS 2 (regsG [(3, 0x8000000000000000), (4, 0xFFFFFFFFFFFFFFFF)])
     leaves (.div 2 5 3 4) s (fun t => (t.pod 2).rg 5 = 0x8000000000000000 ∧ (t.pod 2).v)
       && leaves (.div 2 5 3 6) s (fun t => (t.pod 2).rg 5 = 0 ∧ (t.pod 2).v)
       && leaves (.rem 2 5 3 6) s (fun t => (t.pod 2).rg 5 = 0x8000000000000000 ∧ (t.pod 2).v)) = true := by decide +kernel

/-- MULQ rounds ties toward +∞: 3 × 1 ÷ 2 is 2, −3 × 1 ÷ 2 is −1 (R363). -/
theorem test_mulq_ties :
    (let s := runS 2 (regsG [(3, 3), (4, 1), (6, 0xFFFFFFFFFFFFFFFD)])
     leaves (.mulq 2 5 3 4 1) s (fun t => (t.pod 2).rg 5 = 2)
       && leaves (.mulq 2 5 6 4 1) s (fun t => (t.pod 2).rg 5 = 0xFFFFFFFFFFFFFFFF)) = true := by decide +kernel

/-- A shift by 65 shifts by 1 (R363). -/
theorem test_shift_mod_64 :
    (let s := runS 2 (regsG [(3, 0x8000000000000001), (4, 65)])
     leaves (.shl 2 5 3 4) s (fun t => (t.pod 2).rg 5 = 2)
       && leaves (.sar 2 5 3 4) s (fun t => (t.pod 2).rg 5 = 0xC000000000000000)) = true := by decide +kernel

/-- A misaligned load faults the Pod with ALIGN and writes nothing (R361, R366). -/
theorem test_ldd_misaligned :
    (let s := runS 2 (regsG [(3, 4), (5, 77)])
     leaves (.ldd 2 5 3 0) s (fun t => t.podSt 2 = 3 ∧ t.fld (Reg.POD_STATUS 2) Reg.POD_STATUS_FCAUSE = 3 ∧ (t.pod 2).rg 5 = 77)) = true := by
  decide +kernel

/-- A commons write of a Pod into the mailbox region faults with BUS (R366). -/
theorem test_stc_mailbox :
    (let s := runS 2 (regsG [(3, 8), (5, 77)])
     leaves (.stc 2 5 3 0) s (fun t => t.podSt 2 = 3 ∧ t.fld (Reg.POD_STATUS 2) Reg.POD_STATUS_FCAUSE = 6)) = true := by decide +kernel

/-- A tick moves RAWCNT by 1 while the timebase counts, and by nothing while it does not. -/
theorem test_tick :
    (match step (ticking State.reset), step State.reset with
     | .next t, .next u => decide (t.tkp.rawcnt = 1 ∧ u.tkp.rawcnt = 0)
     | _, _ => false) = true := by decide +kernel

/-! ### Checks, times and frames -/

/-- The check values that the catalogues of CRCs give for the digits 1 to 9. -/
theorem test_crc_check_values :
    crc32c (text "123456789") = 0xE3069283 ∧ crc16 (text "123456789") = 0x29B1 ∧ crc8 (text "123456789") = 0xF4 := by decide +kernel

/-- A GTIME of 1 s and 1.5 ns, and one of −0.5 s: SECONDS is the floor (R57, R58). -/
theorem test_gtime_parts :
    gtSec (fuSec + fuNs * 3 / 2) = 1 ∧ gtNs (fuSec + fuNs * 3 / 2) = 1 ∧ gtSec (-fuSec / 2) = -1 ∧ gtNs (-fuSec / 2) = 500000000 := by
  decide +kernel

/-- A register table and a memory stay canonical: writing what an unlisted key reads as removes the pair. -/
theorem test_canonical :
    tabSet 0 (tabSet 0 ([] : Tab Nat) 7 5) 7 0 = [] ∧ putBytes zeros (putBytes zeros [] 9 [1, 2]) 9 [0, 0] = []
      ∧ Memory.wf zeros (putBytes zeros [] 9 [1, 0, 2]) = true := by decide +kernel

end Sys2Proof.Tests
end

/-! ### The integer instructions: what the flag computations of R363 give -/

namespace Sys2Proof.Proofs.FinAlu

open Sys2Proof Sys2Proof.Machine Sys2Proof.Laws

/-- A word names an integer exactly where the integer lies among the signed words. -/
theorem toInt_ofInt_ne_iff_beyond (x : Int) : decide ((BitVec.ofInt 64 x).toInt ≠ x) = beyond x := by
  have lo := BitVec.le_toInt (BitVec.ofInt 64 x)
  have hi := BitVec.toInt_lt (x := BitVec.ofInt 64 x)
  have fits : -2 ^ 63 ≤ x → x < 2 ^ 63 → (BitVec.ofInt 64 x).toInt = x := BitVec.toInt_ofInt_eq_self (w := 64) (by decide)
  unfold beyond
  rw [decide_eq_decide]
  constructor
  · intro hne
    by_contra hin
    exact hne (fits (by omega) (by omega))
  · intro hout heq
    rw [heq] at lo hi
    omega

/-- The flags of a sum with a carry (R362). -/
theorem addFlags_carry (a b : Word) (ci : Bool) : addFlags a b ci =
    (a + b + BitVec.ofNat 64 (carryIn ci), decide (2 ^ 64 ≤ a.toNat + b.toNat + carryIn ci),
      beyond (a.toInt + b.toInt + carryIn ci)) := by
  have sum : BitVec.ofNat 64 (a.toNat + b.toNat + carryIn ci) = a + b + BitVec.ofNat 64 (carryIn ci) := by
    simp [BitVec.ofNat_add]
  have sumInt : a + b + BitVec.ofNat 64 (carryIn ci) = BitVec.ofInt 64 (a.toInt + b.toInt + carryIn ci) := by
    simp [BitVec.ofInt_add]
  unfold addFlags
  dsimp only
  rw [sum, ← toInt_ofInt_ne_iff_beyond, sumInt]

/-- The flags of a difference with a borrow (R362). -/
theorem subFlags_borrow (a b : Word) (bi : Bool) : subFlags a b bi =
    (a - b - BitVec.ofNat 64 (carryIn bi), decide (a.toNat < b.toNat + carryIn bi),
      beyond (a.toInt - b.toInt - carryIn bi)) := by
  have diff : BitVec.ofInt 64 ((a.toNat : Int) - b.toNat - carryIn bi) = a - b - BitVec.ofNat 64 (carryIn bi) := by
    simp [sub_eq_add_neg, BitVec.ofInt_add, BitVec.ofInt_neg]
  have diffInt : a - b - BitVec.ofNat 64 (carryIn bi) = BitVec.ofInt 64 (a.toInt - b.toInt - carryIn bi) := by
    simp [sub_eq_add_neg, BitVec.ofInt_add, BitVec.ofInt_neg]
  unfold subFlags
  dsimp only
  rw [diff, ← toInt_ofInt_ne_iff_beyond, diffInt]

/-- The quotient exceeds the signed words for −2^63 by −1 alone. -/
theorem tdiv_eq_iff_overflow {a b : Word} (hb : b ≠ 0) :
    a.toInt.tdiv b.toInt = 2 ^ 63 ↔ a.toInt = -(2 ^ 63) ∧ b.toInt = -1 := by
  constructor
  · intro hq
    by_contra hne
    have regular : a ≠ BitVec.intMin 64 ∨ b ≠ -1#64 := by
      by_contra hcorner
      push Not at hcorner
      obtain ⟨rfl, rfl⟩ := hcorner
      exact hne (by decide)
    have quot := BitVec.toInt_sdiv_of_ne_or_ne a b regular
    have hi := BitVec.toInt_lt (x := a.sdiv b)
    omega
  · rintro ⟨ha, hb⟩
    rw [ha, hb]
    rfl

/-- DIV gives the signed quotient; V tells of a zero divisor and of −2^63 by −1 (R363). -/
theorem divS_eq (a b : Word) : divS a b = (a.sdiv b, decide (b = 0 ∨ (a.toInt = -(2 ^ 63) ∧ b.toInt = -1))) := by
  unfold divS
  by_cases hb : b = 0
  · simp [hb]
  · have quot : BitVec.ofInt 64 (a.toInt.tdiv b.toInt) = a.sdiv b :=
      BitVec.eq_of_toInt_eq (by rw [BitVec.toInt_ofInt, BitVec.toInt_sdiv])
    rw [if_neg hb, quot]
    simp only [tdiv_eq_iff_overflow hb, hb, false_or]

/-- REM gives the signed remainder, and the dividend where the divisor is zero (R363). -/
theorem remS_eq (a b : Word) : remS a b = (a.srem b, decide (b = 0)) := by
  unfold remS
  by_cases hb : b = 0
  · simp [hb]
  · have rem : BitVec.ofInt 64 (a.toInt.tmod b.toInt) = a.srem b := by
      rw [← BitVec.toInt_srem, BitVec.ofInt_toInt]
    rw [if_neg hb, rem, decide_eq_false hb]

/-- DIVU gives the unsigned quotient, and 0 where the divisor is zero (R363). -/
theorem divU_eq (a b : Word) : divU a b = (a / b, decide (b = 0)) := by
  unfold divU
  by_cases hb : b = 0
  · simp [hb]
  · rw [if_neg hb, decide_eq_false hb]

/-- REMU gives the unsigned remainder, and the dividend where the divisor is zero (R363). -/
theorem remU_eq (a b : Word) : remU a b = (a % b, decide (b = 0)) := by
  unfold remU
  by_cases hb : b = 0
  · simp [hb]
  · rw [if_neg hb, decide_eq_false hb]

/-- MUL gives the low half, and V where the signed product does not fit (R363). -/
theorem mulLow_eq (a b : Word) : mulLow a b = (a * b, beyond (a.toInt * b.toInt)) := by
  unfold mulLow
  rw [saturate_eq]

/-- The signed overflow of a sum is that the sum of the signed values is no signed word. -/
theorem beyond_add (a b : Word) : beyond (a.toInt + b.toInt) = a.saddOverflow b := by
  rw [BitVec.saddOverflow, ← Bool.decide_or]
  exact decide_eq_decide.mpr or_comm

/-- The signed overflow of a difference is that the difference of the signed values is no signed word. -/
theorem beyond_sub (a b : Word) : beyond (a.toInt - b.toInt) = a.ssubOverflow b := by
  rw [BitVec.ssubOverflow, ← Bool.decide_or]
  exact decide_eq_decide.mpr or_comm

/-- The leading zeros of a word are known by the two powers of 2 that its value lies between. -/
theorem leadingZeros_eq {a : Word} {lz : Nat} (hle : lz ≤ 64) (hlt : a.toNat < 2 ^ (64 - lz))
    (hge : lz = 64 ∨ 2 ^ (63 - lz) ≤ a.toNat) : leadingZeros a = lz := by
  unfold leadingZeros
  have pos := Nat.two_pow_pos (63 - lz)
  by_cases ha : a = 0
  · have zero : a.toNat = 0 := by simp [ha]
    rw [if_pos ha]
    omega
  · have ne0 : a.toNat ≠ 0 := fun e => ha (BitVec.eq_of_toNat_eq e)
    have hlz : lz ≠ 64 := by
      rintro rfl
      exact ne0 (by simpa using hlt)
    have top : Nat.log2 a.toNat = 63 - lz :=
      (Nat.log2_eq_iff ne0).mpr ⟨hge.resolve_left hlz, by rwa [show 63 - lz + 1 = 64 - lz by omega]⟩
    rw [if_neg ha, top]
    omega

/-! ### What an instruction of each form answers -/

section

variable {s : State} {p : PodId} (hx : Executes s p) (rd : GReg)

include hx

/-- A result with its carry and overflow. -/
theorem wrote_aluPut (f : PodState → Word × Bool × Bool) {r : Word} {c v : Bool} (hf : f (s.pod p) = (r, c, v)) :
    ∃ t, finPod p (aluPut rd f) s = .next t ∧ WroteZN s t p rd r c v :=
  wrote hx _ rd r _ _ c v (by rw [aluPut, hf]; rfl)

/-- A result with V, and C cleared. -/
theorem wrote_aluZNV (f : PodState → Word × Bool) {r : Word} {v : Bool} (hf : f (s.pod p) = (r, v)) :
    ∃ t, finPod p (aluZNV rd f) s = .next t ∧ WroteZN s t p rd r false v :=
  wrote_aluPut hx rd (fun q => ((f q).1, false, (f q).2)) (by rw [hf])

/-- A result, and C and V cleared. -/
theorem wrote_aluZN (f : PodState → Word) :
    ∃ t, finPod p (aluZN rd f) s = .next t ∧ WroteZN s t p rd (f (s.pod p)) false false :=
  wrote_aluPut hx rd (fun q => (f q, false, false)) rfl

/-- CLZ writes the count of leading zeros and changes Z alone. -/
theorem yields_clz (ra : GReg) {lz : Nat} (hlz : leadingZeros ((s.pod p).rg ra) = lz) :
    Yields (.clz p rd ra) s (fun t =>
      Wrote s t p rd (BitVec.ofNat 64 lz) (decide (lz = 0)) (s.pod p).n (s.pod p).c (s.pod p).v) := by
  refine wrote hx _ rd _ _ _ _ _ ?_
  rw [hlz, wg_flags]
  rfl

end

/-- Settles O5: each instruction is of one of the forms above, and the lemmas on the flag computations name its result. -/
theorem finIntegerTable : Obligations.FinIntegerTable := by
  unfold Obligations.FinIntegerTable
  intro s p rd ra rb imm k h n lz hx
  exact ⟨
    -- ADD, SUB, ADC, SBC, ADDI
    wrote_aluPut hx rd _ (addFlags_false _ _),
    wrote_aluPut hx rd _ (subFlags_false _ _),
    wrote_aluPut hx rd _ (addFlags_carry _ _ _),
    wrote_aluPut hx rd _ (subFlags_borrow _ _ _),
    wrote_aluPut hx rd _ (addFlags_false _ _),
    -- MUL, MULH, MULHU
    wrote_aluZNV hx rd _ (mulLow_eq _ _),
    wrote_aluZN hx rd _,
    wrote_aluZN hx rd _,
    -- DIV, DIVU, REM, REMU
    wrote_aluZNV hx rd _ (divS_eq _ _),
    wrote_aluZNV hx rd _ (divU_eq _ _),
    wrote_aluZNV hx rd _ (remS_eq _ _),
    wrote_aluZNV hx rd _ (remU_eq _ _),
    -- MULQ, ADDS, SUBS
    wrote_aluZNV hx rd _ (saturate_eq _),
    wrote_aluZNV hx rd _ ((saturate_eq _).trans (by rw [beyond_add])),
    wrote_aluZNV hx rd _ ((saturate_eq _).trans (by rw [beyond_sub])),
    -- SHL, SHR, SAR, SHLI, SHRI, SARI
    wrote_aluZN hx rd _,
    wrote_aluZN hx rd _,
    wrote_aluZN hx rd _,
    wrote_aluZN hx rd _,
    wrote_aluZN hx rd _,
    wrote_aluZN hx rd _,
    -- CLZ
    fun hle hlt hge => yields_clz hx rd ra (leadingZeros_eq hle hlt hge),
    -- AND, OR, XOR, ANDI, ORI, XORI
    wrote_aluZN hx rd _,
    wrote_aluZN hx rd _,
    wrote_aluZN hx rd _,
    wrote_aluZN hx rd _,
    wrote_aluZN hx rd _,
    wrote_aluZN hx rd _,
    -- MOVI, CATI
    wroteOnly hx _ rd _ rfl,
    wroteOnly hx _ rd _ rfl⟩

end Sys2Proof.Proofs.FinAlu

/-! ### The compares and the branches of R365 -/

namespace Sys2Proof.Proofs.FinBranch

open Sys2Proof Sys2Proof.Machine Sys2Proof.Laws

/-- The condition that the model computes is the condition of R365. -/
theorem cond_iff_condHolds (q : PodState) (c : Fin 15) : q.cond c = true ↔ CondHolds q c := by
  fin_cases c <;> simp [PodState.cond, CondHolds]

/-- What B (`link` false) and BL (`link` true) do to the state. -/
def jump (p : PodId) (c : Fin 15) (off : BitVec 20) (link : Bool) (s : State) : State :=
  if (s.pod p).cond c then s.branch p ((s.pod p).pc + off.toInt) link else s.modPod p PodState.advance

theorem exec_b (p : PodId) (c : Fin 15) (off : BitVec 20) (s : State) :
    exec (.b p c off) s = fin p (jump p c off false) s := rfl

theorem exec_bl (p : PodId) (c : Fin 15) (off : BitVec 20) (s : State) :
    exec (.bl p c off) s = fin p (jump p c off true) s := rfl

theorem exec_br (p : PodId) (ra : GReg) (link : Bool) (s : State) :
    exec (.br p ra link) s = fin p (fun s => s.branch p ((s.pod p).rg ra).toNat link) s := rfl

theorem jump_of_condHolds {s : State} {p : PodId} {c : Fin 15} (hc : CondHolds (s.pod p) c) (off : BitVec 20) (link : Bool) :
    jump p c off link s = s.branch p ((s.pod p).pc + off.toInt) link :=
  if_pos ((cond_iff_condHolds _ c).mpr hc)

theorem jump_of_not_condHolds {s : State} {p : PodId} {c : Fin 15} (hc : ¬ CondHolds (s.pod p) c) (off : BitVec 20)
    (link : Bool) : jump p c off link s = s.modPod p PodState.advance :=
  if_neg (mt (cond_iff_condHolds _ c).mp hc)

section

variable {s : State} {p : PodId} (hx : Executes s p)

include hx

/-- An instruction that sets the flags from a result and writes no register. -/
theorem flagged_resFlags (f : PodState → PodState) {r : Word} {c v : Bool} (hf : f (s.pod p) = (s.pod p).resFlags r c v) :
    ∃ t, finPod p f s = .next t ∧ Flagged s t p (decide (r = 0)) r.msb c v := by
  refine ⟨_, finPod_eq hx f, onlyPod_modPod _ _ _, ?_⟩
  rw [State.modPod_pod_self, hf]
  rfl

/-- A comparison sets the flags of the difference. -/
theorem flagged_subFlags (f : PodState → PodState) {a b : Word}
    (hf : f (s.pod p) = (s.pod p).resFlags (subFlags a b false).1 (subFlags a b false).2.1 (subFlags a b false).2.2) :
    ∃ t, finPod p f s = .next t ∧
      Flagged s t p (decide (a = b)) (a - b).msb (a.usubOverflow b) (a.ssubOverflow b) := by
  rw [subFlags_false] at hf
  rw [← decide_eq_decide.mpr (sub_eq_zero (a := a) (b := b))]
  exact flagged_resFlags hx f hf

/-- An instruction that changes its own Pod alone, its program counter included. -/
theorem yields_modPod {i : Instr} {f : State → State} (hi : exec i s = fin p f s) {g : PodState → PodState}
    (hf : f s = s.modPod p g) : Yields i s (fun t => OnlyPod s t p ∧ t.pod p = g (s.pod p)) := by
  refine ⟨_, hi.trans (fin_eq' hx (by rw [hf]; rfl)), ?_⟩
  rw [hf]
  exact ⟨onlyPod_modPod s p g, State.modPod_pod_self s p g⟩

/-- A taken branch to a target below IMEM_WORDS. -/
theorem yields_branch {i : Instr} {f : State → State} (hi : exec i s = fin p f s) {target : Int} {link : Bool}
    (hf : f s = s.branch p target link) (h0 : 0 ≤ target) (h1 : target < s.imemWords p) :
    Yields i s (fun t => OnlyPod s t p ∧
      t.pod p = { (if link then (s.pod p).wg 31 (BitVec.ofNat 64 ((s.pod p).pc + 1)) else s.pod p) with pc := target.toNat }) :=
  yields_modPod hx hi (hf.trans (if_pos ⟨h0, h1⟩))

/-- A taken branch to any other target faults with BOUNDS. -/
theorem faulted_branch {i : Instr} {f : State → State} (hi : exec i s = fin p f s) {target : Int} {link : Bool}
    (hf : f s = s.branch p target link) (hout : target < 0 ∨ (s.imemWords p : Int) ≤ target) :
    Yields i s (fun t => Faulted s t p 4) := by
  have hout' : ¬ (0 ≤ target ∧ target < s.imemWords p) := by omega
  unfold Yields
  rw [hi]
  exact fin_faults hx f (by decide) (hf.trans (if_neg hout'))

end

/-- Settles O7: a compare sets the flags of a difference or of AND, and a branch is `State.branch` where its condition holds. -/
theorem finCompareBranchTable : Obligations.FinCompareBranchTable := by
  unfold Obligations.FinCompareBranchTable
  intro s p ra rb imm c off link hx
  refine ⟨flagged_subFlags hx _ rfl, flagged_subFlags hx _ rfl, flagged_resFlags hx _ rfl, ?taken, ?passed, ?beyond, ?br, ?brBeyond⟩
  case taken =>
    intro hc h0 h1
    exact ⟨yields_branch hx (exec_b p c off s) (jump_of_condHolds hc off false) h0 h1,
      yields_branch hx (exec_bl p c off s) (jump_of_condHolds hc off true) h0 h1⟩
  case passed =>
    intro hc
    exact ⟨yields_modPod hx (exec_b p c off s) (jump_of_not_condHolds hc off false),
      yields_modPod hx (exec_bl p c off s) (jump_of_not_condHolds hc off true)⟩
  case beyond =>
    intro hc hout
    exact ⟨faulted_branch hx (exec_b p c off s) (jump_of_condHolds hc off false) hout,
      faulted_branch hx (exec_bl p c off s) (jump_of_condHolds hc off true) hout⟩
  case br =>
    intro hlt
    exact yields_branch hx (exec_br p ra link s) rfl (Int.natCast_nonneg _) (Int.ofNat_lt.mpr hlt)
  case brBeyond =>
    intro hge
    exact faulted_branch hx (exec_br p ra link s) rfl (Or.inr (Int.ofNat_le.mpr hge))

end Sys2Proof.Proofs.FinBranch
